-- ==== Sys2Proof/Word.lean ====
section
/-!
DEFINITION. The word types of the block and their plainest arithmetic.
Register words, message words and structure words are 32 bits (R7); a line is 64 octets, a 512-bit
string whose octet k is bits [8k+7:8k] (R35); cryptographic values are octet strings (R7).
-/

namespace Sys2Proof

/-- A register, message or structure word (R7). -/
abbrev W32 := BitVec 32

/-- A 64-bit counter or half of a structure. -/
abbrev W64 := BitVec 64

/-- One octet. -/
abbrev Byte := BitVec 8

/-- One 64-byte line; octet `k` is bits `[8k+7:8k]` (R35). -/
abbrev Line := BitVec 512

/-- A 128-bit block, bit 127 first on the wire (R7). -/
abbrev Block := BitVec 128

/-- A big-endian octet string (R7), or a run of memory octets in address order. -/
abbrev Octets := List Byte

/-- A master identity stamped by the fabric. -/
abbrev Mid := BitVec 8

/-- A lane number, 0 to 63 (R128). -/
abbrev LaneId := BitVec 6

/-- A context number, 0 to 16,383 (R132). -/
abbrev CtxId := BitVec 14

/-- A line address, address bits [35:6] (R35). -/
abbrev LineAddr := BitVec 30

/-- A transaction tag on a custody channel (R37). -/
abbrev Tag := BitVec 10

end Sys2Proof
end

