-- ==== Sys2Proof/Syntax.lean ====
section
/-!
DEFINITION. The commands the block takes, one constructor for each row of the opcode table, and the types of their operands.
An operand is what a port carries (Ports and Handshakes) or what the surroundings answer within the step (R28).
-/

namespace Sys2Proof

/-- The memory controller's answer to one line access of the block (R40, R67). -/
inductive MemReply where
  /-- a read answered with this line, or a write stored -/
  | data (l : Line)
  /-- answered with `COn_RSP_ERR` -/
  | err
  /-- no answer within the port's timeout -/
  | silent
deriving DecidableEq, Repr

/-- An answer of the memory controller in the present step that differs from returning what it stores. -/
structure MemAns where
  /-- line address [35:6] -/
  addr : LineAddr
  /-- true for an answer to a write -/
  write : Bool
  reply : MemReply
deriving DecidableEq, Repr

/-- The deviating answers of the memory controller in one step; every other access is served as stored (R28). -/
abbrev Bus := List MemAns

/-- One beat of a `CUST_IN` request bundle as captured (R35). -/
structure CustBeat where
  beat : BitVec 2
  op : BitVec 2
  addr : LineAddr
  len : BitVec 2
  mid : Mid
  ctx : CtxId
  tag : Tag
  data : Line
  mask : BitVec 64
deriving DecidableEq, Repr, Inhabited

/-- One beat of a `CUST_OUT` response bundle (R40). -/
structure MemBeat where
  tag : Tag
  beat : BitVec 2
  write : Bool
  err : Bool
  data : Line
deriving DecidableEq, Repr, Inhabited

/-- The two relay ports: RELAY_UP faces upstream, RELAY_DN downstream (R50). -/
inductive Dir where
  | up
  | dn
deriving DecidableEq, Repr, Inhabited

/-- A bundle on which the block is the receiver and that a partner withdrew or changed before ACK (R66, R68). -/
inductive Withdrawn where
  /-- a custody request beat as captured -/
  | custIn (ch : Fin 4) (b : CustBeat)
  /-- a memory response beat -/
  | custOut (ch : Fin 4)
  /-- a register access -/
  | ctl (mid : Mid) (write : Bool)
  /-- a relay receive beat -/
  | relayRx (d : Dir)
  | masterEvent
  | budgetCap
deriving DecidableEq, Repr

/-- A bundle that the block sends (R30). -/
inductive SentBundle where
  | custResponse (ch : Fin 4)
  | custRequest (ch : Fin 4)
  | otp
  | relayTx (d : Dir)
deriving DecidableEq, Repr

/-- A bundle that the block receives (R30); CTL carries the MID of the access. -/
inductive RecvBundle where
  | custIn (ch : Fin 4) (mid : Mid)
  | custOut (ch : Fin 4)
  | ctl (mid : Mid)
  | relayRx (d : Dir)
  | masterEvent
  | budgetCap
deriving DecidableEq, Repr

/-- One beat of a relay bundle (R50): its 16 octets, whether it is the first or the last of a frame, and `*_BYTES`. -/
structure RelayBeat where
  data : Octets
  sof : Bool
  eof : Bool
  bytes : BitVec 4
deriving DecidableEq, Repr, Inhabited

/-- A burst, frame or message that stands open (R67, R93). -/
inductive OpenBurst where
  | custIn (ch : Fin 4)
  | custOut (ch : Fin 4)
  /-- an open frame: its beats so far, and the paces that had elapsed outside fault restarts at the last of them (R463) -/
  | relayRx (d : Dir) (beats : List RelayBeat) (last : Nat)
  | message (c : Fin 128)
deriving DecidableEq, Repr

/-- Why a relay receive frame is discarded (R68). -/
inductive FrameFault where
  /-- no SOF, shorter than 2 beats, BYTES off the last beat, no EOF there, an unknown TYPE, or beats that do not match LENGTH -/
  | badField
  /-- longer than 258 beats -/
  | burstExcess
  /-- a new frame starts before the open one is complete -/
  | burstShort
deriving DecidableEq, Repr

/-- A relay frame: a 16-octet header, a payload and a 16-octet tag (R50). -/
structure Frame where
  header : Octets
  payload : Octets
  tag : Octets
deriving DecidableEq, Repr, Inhabited

/-- The OTP macro's answer to one operation: it answers, it sets `OTP_FAIL`, or it does not answer in time (R46, R68). -/
inductive OtpAnswer where
  | ok
  | fail
  | silent
deriving DecidableEq, Repr

/-- A CORE_DEBUG access (R444). -/
inductive DebugOp where
  | halt
  | step
  | read (addr : W32)
  | resume
deriving DecidableEq, Repr

/-- A word of an SRAM or of the vault as it is read: 128 bits with their 16 check bits (R176, R298). -/
structure SramWord where
  data : Block
  check : BitVec 16
deriving DecidableEq, Repr, Inhabited

/-- How a flash operation ended: whether it succeeded, and whether NVM_DQS made its transitions in the reads of it (R45). -/
structure FlashEnd where
  ok : Bool
  dqs : Bool
deriving DecidableEq, Repr, Inhabited

/-- What the surroundings and the fuses give a cold start. -/
structure StartEnv where
  /-- the flash's SFDP reports 8D-8D-8D, 8-8-8 and 1-4-4 support, its highest rate in MHz in each of them and in 1-1-1, a 4 KiB erase
  type, and erase-suspend (R44, R368, R387) -/
  flash8d : Bool
  flash888 : Bool
  flash144 : Bool
  mhz8d : BitVec 8
  mhz888 : BitVec 8
  mhz144 : BitVec 8
  mhz111 : BitVec 8
  erase4k : Bool
  eraseSuspend : Bool
  /-- NVM_DQS makes no transition in 8D-8D-8D mode (R45) -/
  dqsAbsent : Bool
  /-- OTP words whose READ is not answered in time (R68) -/
  otpSilent : List (BitVec 10)
  /-- spare rows in use per SRAM, from the repair fuses (R487) -/
  spares : List (BitVec 4)
  /-- vault words that read otherwise than as written, by their logical place (R299) -/
  vaultReads : List (Fin 64 × SramWord)
deriving DecidableEq, Repr, Inhabited

/-- A register file of the block whose words the check code protects (R134, R215, R460). -/
inductive RegFile where
  | tileTable
  | handleTable
  | laneKeys
  | tierOne
  | milepost
  | microinstructions
  | laneTags
deriving DecidableEq, Repr

/-- A fault that begins a fault restart or that a restart meets: an SRAM word that does not decode, a triplicated word with no two copies in
agreement (R460, R470), or one with a single copy that disagrees (R86). SRAMs are numbered as `FAULT_LAST.SRAM`; `word` says what the word
holds there: in the firmware's SRAM 0 for a code word; in the metadata cache the place of its line in the cache, and after the lines the
place of a re-key record; in the context table the context; in the mailbox queues 16 * channel + 4 * slot + part, the slots in the order
running, waiting, unread responses, message being composed, part 0 with word 0 of the message; among the digest slots the slot; elsewhere
nothing. `read` is the word as read. Groups are numbered as `VOTE_STATUS.GROUPS`. -/
inductive Upset where
  | sramWord (sram : Fin 9) (word : Nat) (read : SramWord)
  | vote (group : Fin 6)
  | copyWrong (group : Fin 6)
deriving DecidableEq, Repr

/-- A finding of the internal scrub (R478): an SRAM word that is not as written, with what was read; a register-file word that is corrected
or undecodable; or one disagreeing copy of a triplicated word (R86). A register-file index is the handle, lane, milepost or context; of the
tile table the place of a read entry, or 512 + q for the write entry of page index q. -/
inductive SramFinding where
  | sramWord (sram : Fin 9) (word : Nat) (read : SramWord)
  | regFile (f : RegFile) (index : Nat) (correctable : Bool)
  | copyWrong (group : Fin 6)
deriving DecidableEq, Repr

/-- The commands of the block, one constructor for each row of the opcode table. -/
inductive Instr where
  /-- PORST_N_ASSERT (R59). PORST_N falls; the block drives its outputs to reset values and clears volatile state. -/
  | porstNAssert
  /-- COLD_START (R381). PORST_N rises and the block runs cold start: life-cycle vote, directory, firmware, route card, custody enable, gates. -/
  | coldStart (env : StartEnv) (bus : Bus)
  /-- POWER_FAILURE (R472). VDD_CORE or VDD_SRAM fails while PORST_N is high and all unsaved state is lost. -/
  | powerFailure
  /-- PACE_TICK (R107). One pace elapses and the elapsed-pace count increments. -/
  | paceTick (bus : Bus)
  /-- SENSOR_SAMPLE (R112). VDD_CORE and junction temperature are measured every 64 paces and supply or temperature steps are recognised. -/
  | sensorSample (mv : BitVec 10) (tj : BitVec 9)
  /-- CALIBRATION_PERIOD (R109). 67,108,864 paces after the last accepted calibration a calibration is triggered. -/
  | calibrationPeriod
  /-- CALIBRATION_COUNT_START (R108). Counting of oscillator periods starts at a rising TEMPO edge. -/
  | calibrationCountStart
  /-- CALIBRATION_COUNT_END (R108). Counting stops at the W-th edge and the new trim is computed, accepted or discarded. -/
  | calibrationCountEnd (count : BitVec 32)
  /-- CALIBRATION_ABANDONED (R110). No TEMPO edge arrives within 2,048 paces and the calibration is abandoned. -/
  | calibrationAbandoned
  /-- CUST_IN_REQUEST (R151). Beat 0 of a custody request is captured, checked and either answered, queued for tokens or issued. -/
  | custInRequest (ch : Fin 4) (b : CustBeat)
  /-- CUST_IN_WRITE_BEAT (R36). A continuation beat of an open write arrives and, at the last beat, the write is checked and committed. -/
  | custInWriteBeat (ch : Fin 4) (b : CustBeat)
  /-- CUST_IN_RESPONSE_ACK (R38). The fabric acknowledges a response beat and the tag is freed at the last beat. -/
  | custInResponseAck (ch : Fin 4)
  /-- CUST_OUT_REQUEST_ACK (R39). The memory controller acknowledges an egress request. -/
  | custOutRequestAck (ch : Fin 4)
  /-- CUST_OUT_RESPONSE (R40). A memory response beat arrives and the pending custody read or write is completed with its verdict. -/
  | custOutResponse (ch : Fin 4) (r : MemBeat) (bus : Bus)
  /-- REQ_WITHDRAWN (R66). A partner's REQ falls before ACK rises; the block completes ACK and gives the port's defined answer. -/
  | reqWithdrawn (bundle : Withdrawn) (changed : Bool)
  /-- EARLY_ACK (R66). A partner's ACK rises without REQ or falls early and the edge is ignored. -/
  | earlyAck (bundle : SentBundle)
  /-- REQ_STUCK (R66). A partner's REQ stays high 4,096 paces after ACK and the bundle is held. -/
  | reqStuck (bundle : RecvBundle)
  /-- ACK_TIMEOUT (R68). A partner fails to raise ACK within the port timeout and the port's answer is applied. -/
  | ackTimeout (bundle : SentBundle)
  /-- BURST_TIMEOUT (R68). The next beat of an open burst, frame or message does not arrive in time and it is discarded. -/
  | burstTimeout (burst : OpenBurst)
  /-- NO_RESPONSE (R68). An acknowledged egress request has no response within 16,384 paces; the custody request is answered FAILED and the tag retired. -/
  | noResponse (ch : Fin 4) (tag : Tag)
  /-- KEY_DERIVATION (R282). A context key derivation after a key cache miss completes and the waiting request proceeds. -/
  | keyDerivation
  /-- MAP_WALK (R145). A map line fetch under CTX 0 completes and is verified, cached or reported as a map fault. -/
  | mapWalk (bus : Bus)
  /-- METADATA_FETCH (R184). Fetched counter blocks, nodes and seal lines are verified top down and cached or failed. -/
  | metadataFetch (bus : Bus)
  /-- METADATA_WRITEBACK (R186). A dirty metadata item is written back with a new seal under its parent's incremented minor. -/
  | metadataWriteback (bus : Bus)
  /-- REKEY_LINE (R180). The background engine rewrites one pending line of a re-key or reseal record under the new major word. -/
  | rekeyLine (bus : Bus)
  /-- TILE_DELAY_EXPIRE (R217). DELAY paces after an entry's last line its completion reads start. -/
  | tileDelayExpire (bus : Bus)
  /-- TILE_COMPLETION_READ (R217). A tile completion read returns and its term is added to the read entry. -/
  | tileCompletionRead (bus : Bus)
  /-- EPOCH_ADVANCE (R137). 64 paces after a release the context epoch advances or waits at DEPTH 15. -/
  | epochAdvance (bus : Bus)
  /-- EXCEPTION_TAKE (R16). The firmware controller takes an exception record from the queue and runs its follow-up work. -/
  | exceptionTake (bus : Bus)
  /-- SWEEP_PASS_START (R222). A sweep pass begins when SWEEP_PENDING is non-zero and no pass runs. -/
  | sweepPassStart (bus : Bus)
  /-- SWEEP_MAP_LINE (R222). The sweep reads one custody map line and marks its sweepable entries. -/
  | sweepMapLine (bus : Bus)
  /-- SWEEP_PAGE (R224). The sweep finishes one page: fill, counter block reset, entry FREE, counts decremented. -/
  | sweepPage (bus : Bus)
  /-- SCRUB_PAGE (R481). The external scrub reads and decodes one page, writing back corrected lines. -/
  | scrubPage (bus : Bus)
  /-- SRAM_SCRUB_PASS (R478). The internal scrub reads every SRAM and register-file word through its decoder. -/
  | sramScrubPass (found : List SramFinding) (bus : Bus)
  /-- FAULT_RESTART (R462). An uncorrectable SRAM word stops ACK, writes back metadata, rebuilds tables and resumes ACK. -/
  | faultRestart (u : Upset) (more : List Upset) (hold : BitVec 11) (bus : Bus)
  /-- FIRMWARE_RESUME (R471). The firmware's measurement is rechecked or reloaded after a fault restart and mailbox service resumes. -/
  | firmwareResume (intact : Bool)
  /-- JOURNAL_RECORD (R483). A counter journal record is written at the interval. -/
  | journalRecord
  /-- VAULT_SHARE_REFRESH (R298). The vault redraws MASK and rewrites both bedrock shares. -/
  | vaultShareRefresh
  /-- NVM_OPERATION_DONE (R387). A flash program, erase or read completes and the next queued flash user proceeds. -/
  | nvmOperationDone (how : FlashEnd) (bus : Bus)
  /-- DIRECTORY_CHANGE (R370). A directory rewrite of both copies completes. -/
  | directoryChange (ok : Bool) (bus : Bus)
  /-- KEY_STORE_COMMIT (R288). A new key store image is committed by the vault STORE_GEN word. -/
  | keyStoreCommit (bus : Bus)
  /-- OTP_ACK (R46). The OTP macro completes a READ or PROGRAM and raises OTP_ACK. -/
  | otpAck (fail : Bool) (bus : Bus)
  /-- BUDGET_CAP (R52). Integrator logic delivers a new budget cap value. -/
  | budgetCap (cap : BitVec 8)
  /-- RESET_ASSERTED (R75). A master reset is reported; ownership, claims and channels of that MID are acted on. -/
  | resetAsserted (mid : Mid)
  /-- RESET_RELEASED (R53). A master's reset release is recorded. -/
  | resetReleased (mid : Mid)
  /-- UPDATE_STROBE_IN (R56). A strobe arrives on the pin and is taken, held pending or ignored as an echo. -/
  | updateStrobeIn (bus : Bus)
  /-- STROBE_APPLIED (R88). Every engine has switched to the applied shadow groups and GEN_APPLIED catches up. -/
  | strobeApplied
  /-- TAMPER_IN (R450). An armed tamper input is recognised and the tamper response runs. -/
  | tamperIn (n : Fin 8)
  /-- ZEROIZE_ALL (R296). ZEROIZE_ALL is recognised and the whole vault and on-chip keys are zeroed: the input's rise (R47). -/
  | zeroizeAll
  /-- SUPPLY_GLITCH (R449). The completion-delay monitor detects a supply glitch as a tamper source. -/
  | supplyGlitch
  /-- VAULT_UNDERVOLTAGE (R449). VDD_VAULT below 1.5 V for 1 µs is recognised as a tamper source. -/
  | vaultUndervoltage
  /-- TAMPERED_RESTART (R451). After a running tamper response the block warm-restarts into tampered mode. -/
  | tamperedRestart (bus : Bus)
  /-- TAP_INSTRUCTION (R58). A TAP instruction is loaded and replaced by BYPASS if not permitted. -/
  | tapInstruction (ir : BitVec 8)
  /-- LC_ACCESS (R444). Update-DR with GO on LC_ACCESS requests a life-cycle transition. -/
  | lcAccess (dr : BitVec 144)
  /-- OTP_ACCESS_READ (R446). A TAP OTP_ACCESS read of one OTP word. -/
  | otpAccessRead (addr : BitVec 10) (ans : OtpAnswer)
  /-- OTP_ACCESS_PROGRAM (R446). A TAP OTP_ACCESS program of one permitted OTP word. -/
  | otpAccessProgram (addr : BitVec 10) (data : W32) (ans : OtpAnswer)
  /-- CORE_DEBUG (R444). A CORE_DEBUG access halts, steps or reads the firmware controller. -/
  | coreDebug (op : DebugOp)
  /-- SCAN (R444). Loading SCAN stops the controller and custody path until PORST_N. -/
  | scan
  /-- MEM_TEST (R445). Loading MEM_TEST starts the SRAM march test and stops custody service. -/
  | memTest
  /-- MEM_TEST_COMPLETE (R445). The SRAM march test ends and its result register is set. -/
  | memTestComplete
  /-- REGISTER_WRITE (R80). A CTL write to a register without its own row is judged by rights and applied to the field or shadow. Without
  data the access is the read of such a register. -/
  | registerWrite (mid : Mid) (off : BitVec 14) (data : Option W32)
  /-- PACE_COUNT_LO (R107). A read of PACE_COUNT_LO latches PACE_COUNT_HI for the reader. -/
  | paceCountLo (mid : Mid)
  /-- MP_VALUE (R366). A read of word 0 of MP_VALUE latches the other words and MP_COUNT. -/
  | mpValue (mid : Mid) (j : Fin 32)
  /-- CTX_RECORD0 (R160). A read of CTX_RECORD0 latches the other record words. -/
  | ctxRecord0 (mid : Mid)
  /-- MSG_IN (R93). A push of one word into a channel's message; the last push posts the request. -/
  | msgIn (mid : Mid) (c : Fin 128) (data : W32)
  /-- MSG_OUT (R92). A pop of the next response word; the last pop frees the slot. -/
  | msgOut (mid : Mid) (c : Fin 128)
  /-- DB_CLEAR (R101). A write clears latched doorbell bits of a channel. -/
  | dbClear (mid : Mid) (c : Fin 128) (data : W32)
  /-- FLUSH (R92). CH_CONTROL FLUSH discards the message being composed and clears DISCARDING, OVERRUN and NOTICE_LOST. -/
  | flush (mid : Mid) (c : Fin 128)
  /-- RELEASE (R90). CH_CONTROL RELEASE releases an idle unpinned direct channel. -/
  | release (mid : Mid) (c : Fin 128)
  /-- DROP_RESPONSES (R92). CH_CONTROL DROP_RESPONSES discards every unread response. -/
  | dropResponses (mid : Mid) (c : Fin 128)
  /-- STROBE (R88). Writing UPDATE.STROBE takes a strobe that applies differing shadow groups. -/
  | strobe (mid : Mid) (bus : Bus)
  /-- SNAPSHOT_TAKE (R89). Writing SNAPSHOT.TAKE copies captured counters into HOLDING. -/
  | snapshotTake (mid : Mid)
  /-- CALIBRATE (R109). The owner writes PACE_CONTROL.CALIBRATE to trigger a calibration. -/
  | calibrate (mid : Mid)
  /-- SEQ_CLEAR (R85). A write of the current SEQ to an SC register clears its event fields. -/
  | seqClear (mid : Mid) (off : BitVec 14) (seq : BitVec 8)
  /-- PAIRED_WRITE_ARM (R84). The first half of a paired write is armed for the writing MID. -/
  | pairedWriteArm (mid : Mid) (off : BitVec 14) (data : W32)
  /-- PAIRED_WRITE_EXPIRE (R84). An armed paired-write half expires after 64 paces and is logged. -/
  | pairedWriteExpire (mid : Mid)
  /-- CLAIM (R72). A candidate claims right of way in the window or in OPEN. -/
  | claim (mid : Mid) (data : W32)
  /-- NAME (R74). The owner names a successor, replaces one or cancels a handover. -/
  | name (mid : Mid) (data : W32)
  /-- CONFIRM (R74). The named successor takes right of way. -/
  | confirm (mid : Mid) (data : W32)
  /-- RESIGN (R74). The owner vacates right of way and a new window opens. -/
  | resign (mid : Mid) (data : W32)
  /-- ELECTION_WINDOW_CLOSE (R72). REMAINING reaches 0 and the best claim wins or the phase becomes OPEN. -/
  | electionWindowClose
  /-- HANDOVER_EXPIRE (R74). The handover timer reaches 0 without CONFIRM and PHASE returns to OWNED. -/
  | handoverExpire
  /-- ACCT_CLEAR_LANE (R127). The complement half of ACCT_CLEAR clears one lane's counters. -/
  | acctClearLane (mid : Mid) (data : W32)
  /-- ACCT_CLEAR_ALL (R127). The complement half of ACCT_CLEAR with ALL clears every lane and block total. -/
  | acctClearAll (mid : Mid) (data : W32)
  /-- UNKNOWN_OPCODE (R96). A posted request with an undefined opcode answers BAD_OPCODE. -/
  | unknownOpcode
  /-- PING (R98). Echoes the payload. -/
  | ping
  /-- BLOCK_INFO (R98). Returns IDENT, versions, OWNER and the request's word 1. -/
  | blockInfo
  /-- JOB_STATUS (R98). Returns a ticketed job's status and result and frees a finished ticket. -/
  | jobStatus
  /-- JOB_CANCEL (R98). Ends a ticketed job ABORTED at its next commit point. -/
  | jobCancel (bus : Bus)
  /-- NOTICE_FETCH (R98). Returns and removes the oldest notice of the channel. -/
  | noticeFetch
  /-- CTX_OPEN (R206). Opens a FREE context in an OPEN lane with permits and quota. -/
  | ctxOpen (bus : Bus)
  /-- CTX_RELEASE (R136). Closes the context's epoch and cuts off its traffic within 64 paces. -/
  | ctxRelease (bus : Bus)
  /-- PAGE_CLAIM (R209). Claims a range of FREE pages for a context and initialises them to LIVE. -/
  | pageClaim (bus : Bus)
  /-- PAGE_SEAL (R212). Seals LIVE SEALED pages with their tile tag and makes them FROZEN. -/
  | pageSeal (bus : Bus)
  /-- PAGE_FREEZE (R213). Makes LIVE pages FROZEN with writes disabled. -/
  | pageFreeze (bus : Bus)
  /-- PAGE_RENEW (R213). Starts the next generation of LIVE STREAM pages. -/
  | pageRenew (bus : Bus)
  /-- PAGE_RELEASE (R213). Moves held pages to SWEEPING. -/
  | pageRelease (bus : Bus)
  /-- CTX_QUERY (R214). Returns a context record and its tile entry counts. -/
  | ctxQuery (bus : Bus)
  /-- VERDICT_FENCE (R220). Completes every pending read entry of a context and reports TAINT. -/
  | verdictFence (bus : Bus)
  /-- PAGE_QUERY (R214). Returns one map entry and whether it is stale. -/
  | pageQuery (bus : Bus)
  /-- LANE_OPEN (R208). Moves a CLOSED lane to OPEN. -/
  | laneOpen
  /-- LANE_DRAIN (R208). Moves an OPEN lane to DRAINING as a ticketed job ending at DRAINED. -/
  | laneDrain
  /-- LANE_RESUME (R208). Returns a DRAINING or DRAINED lane to OPEN. -/
  | laneResume
  /-- LANE_RELEASE (R208). Moves a lane to RELEASING, releases its contexts and bumps its generation. -/
  | laneRelease (bus : Bus)
  /-- MODEL_LOAD (R247). Checks, sizes, claims, inflates, seals and records a model package as a ticketed job. -/
  | modelLoad (bus : Bus)
  /-- LOADER_TILE_WAIT_EXPIRE (R247). The loader's 65,536-pace wait for tile write entries ends in TILE_FULL. -/
  | loaderTileWaitExpire (bus : Bus)
  /-- MODEL_QUERY (R254). Returns a model handle's measurement and placement. -/
  | modelQuery (bus : Bus)
  /-- MODEL_SIGNER_SET (R240). Writes or clears a lane's model signer record in flash. -/
  | modelSignerSet (bus : Bus)
  /-- RECEIPT_OPEN (R256). Opens a receipt for a job with its slot table and fold key. -/
  | receiptOpen (bus : Bus)
  /-- RECEIPT_CLOSE (R260). Closes a receipt: ROI, integrity, fold, output digests and tile fence. -/
  | receiptClose (bus : Bus)
  /-- RECEIPT_ABANDON (R259). Abandons an OPEN receipt with every slot CORRUPT. -/
  | receiptAbandon (bus : Bus)
  /-- RECEIPT_REFOLD (R264). Recomputes the fold of one region. -/
  | receiptRefold (bus : Bus)
  /-- RECEIPT_VERDICTS_FINAL (R259). A PENDING receipt's tile verdicts are all final and it moves to ENTERING. -/
  | receiptVerdictsFinal (bus : Bus)
  /-- RECEIPT_ENTER (R268). A receipt in ENTERING is appended to the lane's filling sheet once room exists. -/
  | receiptEnter (bus : Bus)
  /-- SHEET_FLUSH (R269). Closes the lane's filling sheet for signing. -/
  | sheetFlush (bus : Bus)
  /-- SHEET_COPY (R254). Copies a signed sheet image to a descriptor. -/
  | sheetCopy (bus : Bus)
  /-- SHEET_COLLECT (R271). Frees the slot of a signed sheet. -/
  | sheetCollect (bus : Bus)
  /-- SHEET_STATUS (R272). Returns the lane's sheet slots. -/
  | sheetStatus (bus : Bus)
  /-- RECEIPT_FETCH (R272). Returns 48 bytes of a signed sheet image. -/
  | receiptFetch (bus : Bus)
  /-- SHEET_AGE_EXPIRE (R269). A filling sheet reaches 1,048,576 paces since its first entry and passes to SIGNING. -/
  | sheetAgeExpire (bus : Bus)
  /-- SHEET_SIGNED (R269). Both sheet signatures verify and the sheet becomes SIGNED, raising SHEET. -/
  | sheetSigned (bus : Bus)
  /-- SHEET_SIGN_RETRY (R269). 65,536 paces after three failed attempts sheet signing is tried again. -/
  | sheetSignRetry (bus : Bus)
  /-- KEY_HANDLE_OPEN (R285). Opens a handle to a key of tiers 2 to 4 or a public key. -/
  | keyHandleOpen (bus : Bus)
  /-- KEY_HANDLE_CLOSE (R285). Frees a handle entry. -/
  | keyHandleClose
  /-- KEY_INFO (R305). Returns a handle's kind, state, lane, type and generation. -/
  | keyInfo
  /-- KEY_PUBLIC (R305). Writes a handle's public key to a descriptor. -/
  | keyPublic (bus : Bus)
  /-- KEY_DESTROY (R295). Empties a stored key slot or all of a lane's slots by store rewrite. -/
  | keyDestroy (bus : Bus)
  /-- KEY_UPDATE (R292). Checks and applies a signed key update message. -/
  | keyUpdate (bus : Bus)
  /-- CERT_INSTALL (R280). Replaces one identity certificate in flash. -/
  | certInstall (bus : Bus)
  /-- VAULT_SLEEP (R301). Saves the sleep image and the tree root for orderly sleep. -/
  | vaultSleep (bus : Bus)
  /-- MONO_READ (R305). Returns a monotonic counter value. -/
  | monoRead
  /-- MONO_INCREMENT (R300). Increments a monotonic counter and commits it to the vault. -/
  | monoIncrement
  /-- REENROLL (R303). Re-enrolls a LOST vault with a new bedrock and writes the enrollment request. -/
  | reenroll (bus : Bus)
  /-- RNS_ECDSA_SIGN (R316). Queues an ECDSA signing job. -/
  | rnsEcdsaSign (bus : Bus)
  /-- RNS_ECDSA_VERIFY (R316). Queues an ECDSA verification job. -/
  | rnsEcdsaVerify (bus : Bus)
  /-- RNS_ECDH (R316). Queues an ECDH job. -/
  | rnsEcdh (bus : Bus)
  /-- RNS_MLDSA_SIGN (R316). Queues an ML-DSA signing job. -/
  | rnsMldsaSign (bus : Bus)
  /-- RNS_MLDSA_VERIFY (R316). Queues an ML-DSA verification job. -/
  | rnsMldsaVerify (bus : Bus)
  /-- RNS_MLKEM_KEYGEN (R316). Queues an ML-KEM key generation job. -/
  | rnsMlkemKeygen (bus : Bus)
  /-- RNS_MLKEM_ENCAPS (R316). Queues an ML-KEM encapsulation job. -/
  | rnsMlkemEncaps (bus : Bus)
  /-- RNS_MLKEM_DECAPS (R316). Queues an ML-KEM decapsulation job. -/
  | rnsMlkemDecaps (bus : Bus)
  /-- RNS_INFO (R316). Returns the engine's program set, status and lane queue count. -/
  | rnsInfo
  /-- RNS_LANE_ABORT (R334). Aborts every engine job of a lane. -/
  | rnsLaneAbort (bus : Bus)
  /-- RNS_BANK_GRANT (R329). A free bank is given to the highest-priority waiting job, which starts loading or restoring. -/
  | rnsBankGrant (bus : Bus)
  /-- RNS_LOAD_DONE (R319). A job's operands are in its bank and VALIDATING begins. -/
  | rnsLoadDone (bank : Fin 2) (bus : Bus)
  /-- RNS_VALIDATION_END (R320). After 3 paces of validation the job runs or is cleared with its failure status. -/
  | rnsValidationEnd (bank : Fin 2)
  /-- RNS_BLOCK_BOUNDARY (R312). A microprogram block ends; lanes may pass and pre-emption, aborts or permits take effect. -/
  | rnsBlockBoundary (bank : Fin 2)
  /-- RNS_RUN_DONE (R319). The microprogram reaches its result and CHECKING begins. -/
  | rnsRunDone (bank : Fin 2) (bus : Bus)
  /-- RNS_CHECK_DONE (R322). The self-check passes and WRITING begins, or fails and the bank is cleared. -/
  | rnsCheckDone (bank : Fin 2) (agrees : Bool)
  /-- RNS_WRITE_DONE (R323). The last result line is written and CLEARING begins. -/
  | rnsWriteDone (bank : Fin 2) (bus : Bus)
  /-- RNS_CLEAR_DONE (R325). The bank is zeroed, the job ends and its ticket doorbell rises. -/
  | rnsClearDone (bank : Fin 2) (bus : Bus)
  /-- RNS_SPILL_DONE (R331). A job's save to the spill area completes and its bank is free. -/
  | rnsSpillDone (bank : Fin 2) (bus : Bus)
  /-- RNS_RESTORE_DONE (R331). A spilled job's restore completes and its handle is rechecked. -/
  | rnsRestoreDone (bank : Fin 2) (bus : Bus)
  /-- RNS_LEASE_EXPIRE (R333). A semaphore holder's 256-pace lease ends and it may be spilled. -/
  | rnsLeaseExpire (bank : Fin 2)
  /-- DIGEST_OPEN (R353). Opens a digest slot with algorithm, declared length and optional route. -/
  | digestOpen (bus : Bus)
  /-- DIGEST_FEED (R345). Feeds one descriptor into a slot by block DMA. -/
  | digestFeed (bus : Bus)
  /-- DIGEST_READ (R355). Returns part of a completed slot's result. -/
  | digestRead (bus : Bus)
  /-- DIGEST_CLOSE (R354). Frees a slot and zeroes its state. -/
  | digestClose
  /-- DIGEST_QUERY (R352). Returns a slot's algorithm, state, FED and P. -/
  | digestQuery
  /-- DIGEST_CHUNK_END (R349). A core finishes a chunk and passes to the next ready slot or the coupling. -/
  | digestChunkEnd (core : Fin 2) (bus : Bus)
  /-- DIGEST_SLOT_EXPIRE (R348). An idle OPEN slot times out and becomes EXPIRED. -/
  | digestSlotExpire (slot : Fin 64)
  /-- MP_READ (R352). Returns a milepost's value, COUNT and BROKEN bit. -/
  | mpRead (bus : Bus)
  /-- MILEPOST_EXTEND (R359). The milepost unit performs one queued extend M := SHA-384(M || d). -/
  | milepostExtend
  /-- UPDATE_STAGE (R389). Stages an update bundle from memory into the staging ring. -/
  | updateStage (bus : Bus)
  /-- UPDATE_ACTIVATE (R391). Writes the staged bundle into the trial pair and begins a warm restart. -/
  | updateActivate (bus : Bus)
  /-- WARM_RESTART (R392). The controller restarts into the trial or confirmed pair while custody continues. -/
  | warmRestart (bus : Bus)
  /-- UPDATE_CONFIRM (R395). Raises the anti-rollback counters and confirms the trial pair. -/
  | updateConfirm (bus : Bus)
  /-- UPDATE_REVERT (R396). Warm-restarts into the confirmed pair as a fall-back. -/
  | updateRevert (bus : Bus)
  /-- UPDATE_DISCARD (R396). Discards the staged or receiving bundle. -/
  | updateDiscard (bus : Bus)
  /-- STAGE_ABORTED (R390). A receiving bundle stalls for 16,777,216 paces and staging ends. -/
  | stageAborted
  /-- NVM_WINDOW_READ (R386). Copies part of a released gate image body into custody memory. -/
  | nvmWindowRead (bus : Bus)
  /-- WAYBILL_GET (R407). Signs and writes a DEVICE waybill. -/
  | waybillGet (bus : Bus)
  /-- SEGMENT_WAYBILL_GET (R424). Starts a segment attestation job. -/
  | segmentWaybillGet (bus : Bus)
  /-- REMOTE_WAYBILL_GET (R425). Requests a remote device's waybill over the relay. -/
  | remoteWaybillGet (bus : Bus)
  /-- CERT_READ (R430). Returns an identity certificate. -/
  | certRead (bus : Bus)
  /-- RELAY_BUNDLE_SEND (R422). Sends a bundle downstream from the head device. -/
  | relayBundleSend (bus : Bus)
  /-- RELAY_KEY_SEND (R422). Sends a key update message to a device of the segment. -/
  | relayKeySend (bus : Bus)
  /-- PEER_OPEN (R427). Opens a peering between a local context and a remote one. -/
  | peerOpen (bus : Bus)
  /-- PEER_SEND (R428). Sends a sealed message on a peering. -/
  | peerSend (bus : Bus)
  /-- PEER_CLOSE (R429). Closes a peering. -/
  | peerClose (bus : Bus)
  /-- RELAY_LINK_RESET (R430). Takes a relay link down and brings it up again. -/
  | relayLinkReset
  /-- LINK_RISE (R417). A port's link level rises while enabled and bring-up starts. -/
  | linkRise (d : Dir)
  /-- LINK_FALL (R420). A port's link level falls; queued frames are discarded and jobs end RELAY_DOWN. -/
  | linkFall (d : Dir)
  /-- RELAY_TX_ACK (R50). The relay PHY acknowledges a transmit beat. -/
  | relayTxAck (d : Dir)
  /-- HELLO (R418). A HELLO frame is received and reassembled; the complete object is checked. -/
  | hello (d : Dir) (beats : List RelayBeat) (bus : Bus)
  /-- KEM (R417). The neighbour's KEM ciphertext is received and session keys are derived. -/
  | kem (d : Dir) (beats : List RelayBeat) (bus : Bus)
  /-- FINISHED (R417). The neighbour's FINISHED is checked and the link becomes UP. -/
  | finished (d : Dir) (beats : List RelayBeat) (bus : Bus)
  /-- CREDIT (R413). A CREDIT frame returns transmit credits. -/
  | credit (d : Dir) (beats : List RelayBeat) (bus : Bus)
  /-- REKEY (R420). A REKEY frame starts a new key exchange on the live link. -/
  | rekey (d : Dir) (beats : List RelayBeat) (bus : Bus)
  /-- BUNDLE (R422). A BUNDLE frame is staged and forwarded downstream. -/
  | bundle (d : Dir) (beats : List RelayBeat) (bus : Bus)
  /-- WAYBILL_REQ (R423). A waybill request is consumed and a DEVICE waybill signed, or forwarded. -/
  | waybillReq (d : Dir) (beats : List RelayBeat) (bus : Bus)
  /-- WAYBILL (R423). A WAYBILL object returns to its requester or is forwarded. -/
  | waybill (d : Dir) (beats : List RelayBeat) (bus : Bus)
  /-- SEGMENT_REQ (R424). A segment request from upstream starts a segment job. -/
  | segmentReq (d : Dir) (beats : List RelayBeat) (bus : Bus)
  /-- SEGMENT_ANSWER (R424). A segment answer from downstream is checked and the segment waybill signed. -/
  | segmentAnswer (d : Dir) (beats : List RelayBeat) (bus : Bus)
  /-- KEY_MSG (R422). A key update message is applied at its destination or forwarded. -/
  | keyMsg (d : Dir) (beats : List RelayBeat) (bus : Bus)
  /-- KEY_RESULT (R422). A key update result returns to the sender's job. -/
  | keyResult (d : Dir) (beats : List RelayBeat) (bus : Bus)
  /-- PEER_OPEN_FRAME (R427). A PEER_OPEN frame is checked and the peering may become UP. -/
  | peerOpenFrame (d : Dir) (beats : List RelayBeat) (bus : Bus)
  /-- PEER_MSG (R428). A peer message is opened and delivered to the receiving ring. -/
  | peerMsg (d : Dir) (beats : List RelayBeat) (bus : Bus)
  /-- PEER_ACK (R428). A peer acknowledgement ends the sender's PEER_SEND. -/
  | peerAck (d : Dir) (beats : List RelayBeat) (bus : Bus)
  /-- PEER_CLOSE_FRAME (R429). A PEER_CLOSE frame marks the peering CLOSED. -/
  | peerCloseFrame (d : Dir) (beats : List RelayBeat) (bus : Bus)
  /-- HELLO_RETRY_EXPIRE (R417). The retry delay after a refused bring-up ends and bring-up restarts. -/
  | helloRetryExpire (d : Dir)
  /-- LINK_REKEY_DUE (R420). The session age limit is reached and REKEY is sent. -/
  | linkRekeyDue (d : Dir)
  /-- CREDIT_DUE (R413). 16 paces after a release a CREDIT frame is sent. -/
  | creditDue (d : Dir)
  /-- CREDIT_TIMEOUT (R413). Credits stay spent 65,536 paces without CREDIT and the direction is treated as down. -/
  | creditTimeout (d : Dir)
  /-- REMOTE_WAIT_EXPIRE (R430). A remote answer fails to arrive in time and the job ends REMOTE_TIMEOUT or the segment list ends NO_ANSWER. -/
  | remoteWaitExpire (bus : Bus)
  /-- LC_TRANSITION (R438). Runs a life-cycle transition through OTP intent, token, effect and state programming. -/
  | lcTransition (bus : Bus)
  /-- DEBUG_INSTALL (R448). Checks and stores a debug certificate in the debug sectors. -/
  | debugInstall (bus : Bus)
  /-- DEBUG_REMOVE (R448). Erases the debug sectors. -/
  | debugRemove (bus : Bus)
  /-- TAMPER_LOG_READ (R457). Returns one tamper log entry. -/
  | tamperLogRead
  /-- SNAPSHOT_VISIBLE (R89). The copy into the HOLDING back buffer completes, the snapshot becomes visible, SNAP_SEQ increments and a held TAKE starts a new copy. -/
  | snapshotVisible
  /-- COUPLING_PHASE_END (R350). An RNS job's sampling or hashing phase on the Keccak core ends, the coupling semaphore is released and the displaced digest slot resumes after a 1-pace switch. -/
  | couplingPhaseEnd
  /-- VDD_VAULT_RISE (R449). VDD_VAULT first rises, and the vault domain's ARM copy reads 0xFF and its GATE_HOLD copy reads 0 until they are loaded from OTP. -/
  | vddVaultRise
  /-- TAMPER_IN_FALL (R449). A recognised tamper input returns low, which ends its episode and clears it from TAMPER_SOURCES, so that a later rise is recognised again. Input 8 is
  ZEROIZE_ALL, as R449 numbers the sources. -/
  | tamperInFall (n : Fin 9)
  /-- RELAY_FRAME_DISCARD (R68). A relay receive frame that is malformed is discarded and logged: its TYPE is unknown, it lacks SOF, it is shorter than 2 or longer than 258 beats, or its beats do not match LENGTH. -/
  | relayFrameDiscard (d : Dir) (beats : List RelayBeat)
  /-- ME_KIND_RESERVED (R68). A MASTER_EVENT handshake carries a reserved ME_KIND; the block completes ACK, records no event and logs BAD_FIELD with the captured MID. -/
  | meKindReserved (mid : Mid)
deriving DecidableEq, Repr

end Sys2Proof
end

