-- ==== Sys2Proof/Decode.lean ====
section
/-!
DEFINITION. Words that spell a command. The opcode table gives no row of this block any bits: commands arrive at ports.
-/

namespace Sys2Proof

/-- The command that a word of `nbits` bits spells: none, because no row of the table gives bits. -/
def decodeTableWord (_nbits _w : Nat) : Option Instr := none

end Sys2Proof
end

