-- ==== Sys2Proof/Config.lean ====
section
/-!
DEFINITION. What an implementation fixes and what the spec leaves open. Every constant here has no body: nothing in Lean can
evaluate it, and a claim that mentions one holds whatever its value is.
-/

namespace Sys2Proof

/-- The n-th value drawn from the on-chip random source (log 4). -/
opaque Config.random : Nat → BitVec 512

/-- The n-th value that the spec leaves open (log 4). -/
opaque Config.freeValue : Nat → BitVec 64

/-- The set of the metadata cache that a line address hashes to, modulo 384 (R191 states no hash; log 11). -/
opaque Config.metaSet : Nat → Nat

/-- The standing draw in mW as a function of VDD_CORE in mV and junction temperature (R115 states no formula; log 12). -/
opaque Config.standingDraw : BitVec 10 → BitVec 9 → Nat

/-- The manufacturer identity of IDCODE, a synthesis parameter of the integrator (R57; log 13). -/
opaque Config.manufacturer : BitVec 11

/-- The digest of the RAW token that the boot ROM holds (R436 gives no value; log 16). -/
opaque Config.rawDigest : BitVec 128

/-- The digest of Miryar's firmware signer that the boot ROM holds (R371 gives no value; log 17). -/
opaque Config.fwSigner : BitVec 384

end Sys2Proof
end

