-- ==== Sys2Proof/Machine/Bits.lean ====
section
/-!
DEFINITION. Bit-field, octet-string and table helpers that every unit of the block uses.
Words are little-endian in memory, cryptographic strings big-endian (R7).
-/

namespace Sys2Proof.Machine

open Sys2Proof

/-- Bits `[lo+len-1:lo]` of a word, as a number. -/
def bits {w : Nat} (x : BitVec w) (lo len : Nat) : Nat := (x.toNat >>> lo) % 2 ^ len

/-- Bit `i` of a word. -/
def bit {w : Nat} (x : BitVec w) (i : Nat) : Bool := x.getLsbD i

/-- The word whose bits `[lo+len-1:lo]` are `v` and whose other bits are 0. -/
def field (w lo len v : Nat) : BitVec w := BitVec.ofNat w ((v % 2 ^ len) <<< lo)

/-- The flag as a bit at place `i` of a word. -/
def flag (w i : Nat) (b : Bool) : BitVec w := if b then BitVec.ofNat w (2 ^ i) else 0

/-- `n` octets of a number, least significant first. -/
def leOctets : Nat → Nat → Octets
  | 0, _ => []
  | n + 1, v => BitVec.ofNat 8 v :: leOctets n (v / 256)

/-- `n` octets of a number, most significant first. -/
def beOctets (n v : Nat) : Octets := (leOctets n v).reverse

/-- The number that octets spell, least significant first. -/
def ofLe : Octets → Nat
  | [] => 0
  | b :: t => b.toNat + 256 * ofLe t

/-- The number that octets spell, most significant first. -/
def ofBe (l : Octets) : Nat := l.foldl (fun a b => a * 256 + b.toNat) 0

/-- Octets of a word, little-endian (R7). -/
def octetsOfWord (w : W32) : Octets := leOctets 4 w.toNat

/-- Octets of words in order, each little-endian (R7). -/
def octetsOfWords (ws : List W32) : Octets := ws.flatMap octetsOfWord

/-- `n` words read from octets, little-endian; octets that are not there read 0. -/
def wordsOfOctets : Nat → Octets → List W32
  | 0, _ => []
  | n + 1, l => BitVec.ofNat 32 (ofLe (l.take 4)) :: wordsOfOctets n (l.drop 4)

/-- Word `i` of an octet string, little-endian (R7). -/
def wordAt (l : Octets) (off : Nat) : W32 := BitVec.ofNat 32 (ofLe ((l.drop off).take 4))

/-- The octets `[off, off+n)` of a string. -/
def slice (l : Octets) (off n : Nat) : Octets := (l.drop off).take n

/-- A string cut or filled with zeros to `n` octets. -/
def padTo (n : Nat) (l : Octets) : Octets := (l ++ List.replicate (n - l.length) 0).take n

/-- The octets of a line in address order. -/
def octetsOfLine (l : Line) : Octets := leOctets 64 l.toNat

/-- The line whose octets are these (octets that are not there are 0). -/
def lineOfOctets (o : Octets) : Line := BitVec.ofNat 512 (ofLe (o.take 64))

/-- The 128-bit block that 16 octets spell, first octet highest (R7). -/
def blockOfOctets (o : Octets) : Block := BitVec.ofNat 128 (ofBe (padTo 16 o))

/-- The octets of a 128-bit block. -/
def octetsOfBlock (b : Block) : Octets := beOctets 16 b.toNat

/-- Ciphertext or plaintext block `j` of a line: octets 16j to 16j+15 (R169). -/
def lineBlock (l : Line) (j : Nat) : Block := blockOfOctets (slice (octetsOfLine l) (16 * j) 16)

/-- The line made of four blocks. -/
def lineOfBlocks (bs : List Block) : Line := lineOfOctets (bs.flatMap octetsOfBlock)

/-- Octet-wise exclusive or, to the shorter of the two. -/
def xorOctets (a b : Octets) : Octets := List.zipWith (· ^^^ ·) a b

/-- Strings cut into pieces of `n` octets, by fuel. -/
def chunksAux (n : Nat) : Nat → Octets → List Octets
  | 0, _ => []
  | f + 1, l => if l.isEmpty then [] else l.take n :: chunksAux n f (l.drop n)

/-- A string cut into pieces of `n` octets, the last one perhaps shorter. -/
def chunks (n : Nat) (l : Octets) : List Octets := chunksAux n (l.length) l

/-- The octets of an ASCII string. -/
def ascii (s : String) : Octets := s.toList.map (fun c => BitVec.ofNat 8 c.toNat)

/-- A number saturated at `m`. -/
def sat (m v : Nat) : Nat := if v ≤ m then v else m

/-- Round-up division. -/
def ceilDiv (a b : Nat) : Nat := (a + b - 1) / b

/-- Round-to-nearest division, halves up. -/
def roundDiv (a b : Nat) : Nat := (2 * a + b) / (2 * b)

/-- Sparse table: (key, value) pairs with keys strictly rising and no value equal to the default. -/
abbrev Table (α : Type) := List (Nat × α)

/-- The value at a key; a key not listed reads as the default `d`. -/
def tget {α : Type} (d : α) : Table α → Nat → α
  | [], _ => d
  | (j, v) :: t, k => if j = k then v else tget d t k

/-- The canonical form of a table: keys strictly rising, no entry equal to the default. -/
def tableWf {α : Type} [DecidableEq α] (d : α) (t : Table α) : Bool :=
  decide (List.Pairwise (fun a b => a.1 < b.1) t) && t.all (fun e => decide (e.2 ≠ d))

/-- The entry listed at a key. -/
def tfind {α : Type} : Table α → Nat → Option α
  | [], _ => none
  | (j, v) :: t, k => if j = k then some v else tfind t k

/-- The table with an entry put at a key, keys rising. -/
def tput {α : Type} : Table α → Nat → α → Table α
  | [], k, v => [(k, v)]
  | (j, w) :: t, k, v =>
    if k < j then (k, v) :: (j, w) :: t
    else if k = j then (k, v) :: t
    else (j, w) :: tput t k v

/-- The table without the entry at a key. -/
def tdel {α : Type} (t : Table α) (k : Nat) : Table α := t.filter (fun e => decide (e.1 ≠ k))

/-- The table with one value written, in canonical form: writing the default removes the entry. -/
def tset {α : Type} [DecidableEq α] (d : α) (t : Table α) (k : Nat) (v : α) : Table α := if v = d then tdel t k else tput t k v

/-- A list with the value at a place written; places that are not there yet hold `d`. -/
def setAt {α : Type} (d : α) (l : List α) (i : Nat) (v : α) : List α :=
  if i < l.length then l.set i v else l ++ List.replicate (i - l.length) d ++ [v]

/-- Keys strictly rising. -/
def tableRising {α : Type} (t : Table α) : Bool := decide (List.Pairwise (fun a b => a.1 < b.1) t)

/-- Keys of the listed entries for which a test holds, in rising order. -/
def tkeys {α : Type} (t : Table α) (p : Nat → α → Bool) : List Nat :=
  (t.filter (fun e => p e.1 e.2)).map Prod.fst

/-- How many listed entries pass a test. -/
def tcount {α : Type} (t : Table α) (p : Nat → α → Bool) : Nat :=
  (t.filter (fun e => p e.1 e.2)).length

/-- The first number below `n` that passes a test. -/
def firstBelow (n : Nat) (p : Nat → Bool) : Option Nat := (List.range n).find? p

end Sys2Proof.Machine
end

