-- ==== Sys2Proof/Machine/Cipher.lean ====
section
/-!
DEFINITION. The symmetric cryptography the spec names, as plain functions: AES-256 (FIPS 197), the field and
hash of SP 800-38D, AES-256-CMAC and the SP 800-108 counter-mode KDF, AES-256-GCM (R167 to R171).
-/

namespace Sys2Proof.Machine

open Sys2Proof

/-! AES-256. A state is 16 octets in wire order. -/

/-- Multiplication by x in the AES field. -/
def aesXtime (a : Nat) : Nat :=
  let d := 2 * a
  (if d ≥ 256 then d ^^^ 0x11b else d)

/-- Multiplication in the AES field, by the bits of the second factor. -/
def aesMul : Nat → Nat → Nat → Nat
  | 0, _, _ => 0
  | f + 1, a, b => (if b % 2 = 1 then a else 0) ^^^ aesMul f (aesXtime a) (b / 2)

/-- Inverse in the AES field: the 254th power. -/
def aesInv (a : Nat) : Nat :=
  let m := aesMul 8
  let a2 := m a a
  let a3 := m a2 a
  let a6 := m a3 a3
  let a12 := m a6 a6
  let a15 := m a12 a3
  let a30 := m a15 a15
  let a60 := m a30 a30
  let a120 := m a60 a60
  let a126 := m a120 a6
  let a127 := m a126 a
  m a127 a127

/-- Rotate an octet left. -/
def rotl8 (a n : Nat) : Nat := ((a <<< n) ||| (a >>> (8 - n))) % 256

/-- The S-box computed from its definition. -/
def sboxOf (a : Nat) : Nat :=
  let b := aesInv a
  b ^^^ rotl8 b 1 ^^^ rotl8 b 2 ^^^ rotl8 b 3 ^^^ rotl8 b 4 ^^^ 0x63

/-- The S-box as a table packed in one number, entry `a` in bits [8a+7:8a]. -/
def sboxTable : Nat := (List.range 256).foldr (fun a acc => acc * 256 + sboxOf a) 0

/-- The S-box. -/
def sbox (b : Byte) : Byte := BitVec.ofNat 8 (sboxTable >>> (8 * b.toNat))

/-- Next round constant. -/
def rconNext (r : Byte) : Byte := BitVec.ofNat 8 (aesXtime r.toNat)

/-- Key expansion: the words so far (newest first), the next word index, the round constant. -/
def aesExpandAux : Nat → List Octets → Nat → Byte → List Octets
  | 0, acc, _, _ => acc
  | f + 1, acc, i, rc =>
    let prev := acc.headD []
    let back := (acc.drop 7).headD []
    let t := if i % 8 = 0 then
        (match (prev.drop 1 ++ prev.take 1).map sbox with
         | a :: r => (a ^^^ rc) :: r
         | [] => [])
      else if i % 8 = 4 then prev.map sbox else prev
    aesExpandAux f (xorOctets back t :: acc) (i + 1) (if i % 8 = 0 then rconNext rc else rc)

/-- The 15 round keys of AES-256, 16 octets each. -/
def aesExpand (key : Octets) : List Octets :=
  let w := aesExpandAux 52 ((chunks 4 (padTo 32 key)).reverse) 8 1
  chunks 16 (w.reverse.flatten)

/-- ShiftRows on 16 octets in wire (column) order. -/
def shiftRows (s : Octets) : Octets :=
  (List.range 16).map (fun i => s.getD ((i + 4 * (i % 4)) % 16) 0)

/-- One MixColumns column. -/
def mixColumn (c : Octets) : Octets :=
  let x (i : Nat) : Nat := (c.getD (i % 4) 0).toNat
  (List.range 4).map (fun i =>
    BitVec.ofNat 8 (aesXtime (x i) ^^^ (aesXtime (x (i + 1)) ^^^ x (i + 1)) ^^^ x (i + 2) ^^^ x (i + 3)))

/-- The rounds of AES after the first key addition. -/
def aesRounds : List Octets → Octets → Octets
  | [], s => s
  | [k], s => xorOctets (shiftRows (s.map sbox)) k
  | k :: ks, s => aesRounds ks (xorOctets ((chunks 4 (shiftRows (s.map sbox))).flatMap mixColumn) k)

/-- AES-256 under expanded round keys. -/
def aesWith (rks : List Octets) (b : Octets) : Octets :=
  match rks with
  | [] => b
  | k :: ks => aesRounds ks (xorOctets b k)

/-- AES-256 of one block under a 32-octet key. -/
def aes256 (key : Octets) (b : Block) : Block := blockOfOctets (aesWith (aesExpand key) (octetsOfBlock b))

/-! GF(2^128) with the conventions of SP 800-38D: bit 127 of a block is the first bit. -/

/-- One step of the multiplication: halve towards the last bit with reduction. -/
def gfShift (v : Nat) : Nat := if v % 2 = 1 then (v / 2) ^^^ (0xe1 <<< 120) else v / 2

/-- Multiplication, over the bits of `x` from the first (highest) one. -/
def gfMulAux : Nat → Nat → Nat → Nat → Nat
  | 0, _, _, z => z
  | i + 1, x, v, z => gfMulAux i x (gfShift v) (if (x >>> i) % 2 = 1 then z ^^^ v else z)

/-- Multiplication in GF(2^128) under SP 800-38D. -/
def gfMul (x y : Block) : Block := BitVec.ofNat 128 (gfMulAux 128 x.toNat y.toNat 0)

/-- GHASH_H over blocks: each block is added and the sum multiplied by H (R170). -/
def ghash (h : Block) (xs : List Block) : Block := xs.foldl (fun y x => gfMul (y ^^^ x) h) 0

/-- A power of H. -/
def gfPow (h : Block) : Nat → Block
  | 0 => BitVec.ofNat 128 (1 <<< 127)
  | n + 1 => gfMul (gfPow h n) h

/-! CMAC, KDF, CTR and GCM over AES-256. -/

/-- Doubling for the CMAC subkeys. -/
def cmacDouble (b : Block) : Block := if b.getLsbD 127 then (b <<< 1) ^^^ 0x87 else b <<< 1

/-- AES-256-CMAC (SP 800-38B) of an octet string. -/
def cmac (key msg : Octets) : Octets :=
  let rks := aesExpand key
  let e (b : Block) : Block := blockOfOctets (aesWith rks (octetsOfBlock b))
  let k1 := cmacDouble (e 0)
  let k2 := cmacDouble k1
  let cs := chunks 16 msg
  let init := cs.dropLast
  let last := cs.getLastD []
  let lb := if last.length = 16 then blockOfOctets last ^^^ k1
            else blockOfOctets (last ++ [0x80]) ^^^ k2
  let x := init.foldl (fun x c => e (x ^^^ blockOfOctets c)) 0
  octetsOfBlock (e (x ^^^ lb))

/-- SP 800-108 counter-mode KDF with AES-256-CMAC: [i]_32 || Label || 0x00 || Context || [L]_32. -/
def kdfBlocks (key label context : Octets) (bitsOut : Nat) : Nat → Nat → Octets
  | 0, _ => []
  | n + 1, i =>
    cmac key (beOctets 4 i ++ label ++ [0] ++ context ++ beOctets 4 bitsOut)
      ++ kdfBlocks key label context bitsOut n (i + 1)

/-- `n` octets derived from a key. -/
def kdf (key label context : Octets) (n : Nat) : Octets :=
  (kdfBlocks key label context (8 * n) (ceilDiv n 16) 1).take n

/-- Counter-mode keystream of `n` blocks from a 128-bit counter block, incrementing the low 32 bits. -/
def ctrStream (rks : List Octets) : Nat → Block → Octets
  | 0, _ => []
  | n + 1, c =>
    aesWith rks (octetsOfBlock c)
      ++ ctrStream rks n ((c &&& ~~~(0xFFFFFFFF : Block)) ||| ((c + 1) &&& (0xFFFFFFFF : Block)))

/-- A GCM or CTR initial counter block from a 96-bit nonce and a 32-bit count. -/
def ctrBlock (nonce : Octets) (n : Nat) : Block := blockOfOctets (padTo 12 nonce ++ beOctets 4 n)

/-- Counter-mode encryption or decryption of a string. -/
def aesCtr (key : Octets) (c : Block) (data : Octets) : Octets :=
  xorOctets data (ctrStream (aesExpand key) (ceilDiv data.length 16) c)

/-- The GHASH input of GCM: padded AAD, padded ciphertext, the two bit lengths. -/
def gcmBlocks (aad ct : Octets) : List Block :=
  (chunks 16 aad).map blockOfOctets ++ (chunks 16 ct).map blockOfOctets
    ++ [blockOfOctets (beOctets 8 (8 * aad.length) ++ beOctets 8 (8 * ct.length))]

/-- The 16-octet GCM tag of a ciphertext. -/
def gcmTag (key nonce aad ct : Octets) : Octets :=
  let rks := aesExpand key
  let h := blockOfOctets (aesWith rks (octetsOfBlock 0))
  octetsOfBlock (ghash h (gcmBlocks aad ct) ^^^ blockOfOctets (aesWith rks (octetsOfBlock (ctrBlock nonce 1))))

/-- AES-256-GCM encryption with a 96-bit nonce: ciphertext and tag. -/
def gcmSeal (key nonce aad pt : Octets) : Octets × Octets :=
  let ct := aesCtr key (ctrBlock nonce 2) pt
  (ct, gcmTag key nonce aad ct)

/-- AES-256-GCM decryption: the plaintext, or nothing where the tag does not match. -/
def gcmOpen (key nonce aad ct tag : Octets) : Option Octets :=
  if gcmTag key nonce aad ct = tag then some (aesCtr key (ctrBlock nonce 2) ct) else none

end Sys2Proof.Machine
end

