-- ==== Sys2Proof/Machine/LineCode.lean ====
section
/-!
DEFINITION. The protected line as pure functions: the check code (R173 to R176), the counter-block layout (R164, R165),
the AES input block (R167, R168), line encryption (R169), MAC48 (R170), tile terms and tags (R171), folds (R172).
-/

namespace Sys2Proof.Machine

open Sys2Proof

/-! ### The check code -/

/-- Multiplication by α in GF(2^12), α a root of x^12 + x^6 + x^4 + x + 1 (R173). -/
def alphaTimes (a : Nat) : Nat := let d := 2 * a; if d ≥ 4096 then d ^^^ 0x1053 else d

/-- Multiplication in GF(2^12), by the bits of the second factor. -/
def gf12Mul : Nat → Nat → Nat → Nat
  | 0, _, _ => 0
  | f + 1, a, b => (if b % 2 = 1 then a else 0) ^^^ gf12Mul f (alphaTimes a) (b / 2)

/-- α^i. -/
def alphaPow : Nat → Nat
  | 0 => 1
  | n + 1 => alphaTimes (alphaPow n)

/-- γ = α^273 (R173). -/
def gammaElt : Nat := alphaPow 273

/-- The symbol of a nibble: b0 + b1 γ + b2 γ² + b3 γ³ (R173). -/
def symbolOf (n : Nat) : Nat :=
  let g2 := gf12Mul 12 gammaElt gammaElt
  let g3 := gf12Mul 12 g2 gammaElt
  (if n % 2 = 1 then 1 else 0) ^^^ (if n / 2 % 2 = 1 then gammaElt else 0)
    ^^^ (if n / 4 % 2 = 1 then g2 else 0) ^^^ (if n / 8 % 2 = 1 then g3 else 0)

/-- The sixteen symbols packed in one number, 12 bits each. -/
def symbolTable : Nat := (List.range 16).foldr (fun n acc => acc * 4096 + symbolOf n) 0

/-- The symbol of a nibble, from the table. -/
def symbol (n : Nat) : Nat := (symbolTable >>> (12 * (n % 16))) % 4096

/-- Nibbles of a number, position 0 first. -/
def nibbles : Nat → Nat → List Nat
  | 0, _ => []
  | n + 1, v => v % 16 :: nibbles n (v / 16)

/-- The symbols of a 64-octet item alone: positions 0 to 127. -/
def dataSymbols (l : Line) : List Nat := nibbles 128 l.toNat

/-- The symbols of an item with its MAC48: positions 0 to 139. -/
def sealedSymbols (l : Line) (mac : BitVec 48) : List Nat := dataSymbols l ++ nibbles 12 mac.toNat

/-- S12 = Σ α^i e_i, coordinates in {1, α, …, α^11} (R173). -/
def s12 (syms : List Nat) : BitVec 12 :=
  BitVec.ofNat 12 (syms.foldr (fun e acc => alphaTimes acc ^^^ symbol e) 0)

/-- P4 = Σ e_i, coordinates in the γ basis (R173). -/
def p4 (syms : List Nat) : BitVec 4 := BitVec.ofNat 4 (syms.foldl (fun a e => a ^^^ e) 0)

/-- The outcome of the decoder of R174. -/
inductive Decoded where
  /-- no error -/
  | clean
  /-- an error in a check nibble of S12 or in P4 -/
  | checkSymbol
  /-- an error of this value in this symbol -/
  | symbolAt (i v : Nat)
  /-- uncorrectable -/
  | uncorrectable
deriving DecidableEq, Repr

/-- Whether S' is non-zero in exactly one of its three nibbles. -/
def oneNibble (s : BitVec 12) : Bool :=
  ((nibbles 3 s.toNat).filter (fun n => decide (n ≠ 0))).length = 1

/-- The position i ≤ n with α^i · v = s, if there is one. -/
def symbolPosition (s v : Nat) : Nat → Nat → Nat → Option Nat
  | 0, _, _ => none
  | f + 1, i, x => if x = s then some i else symbolPosition s v f (i + 1) (alphaTimes x)

/-- The decoder of R174 over the symbols as read; `n` is the highest position. -/
def decodeCheck (syms : List Nat) (st : BitVec 12) (pt : BitVec 4) : Decoded :=
  let s' := st ^^^ s12 syms
  let p' := pt ^^^ p4 syms
  if s' = 0 ∧ p' = 0 then .clean
  else if p' = 0 then (if oneNibble s' then .checkSymbol else .uncorrectable)
  else if s' = 0 then .checkSymbol
  else
    match symbolPosition s'.toNat p'.toNat syms.length 0 (symbol p'.toNat) with
    | some i => .symbolAt i p'.toNat
    | none => .uncorrectable

/-- A line with symbol i changed by v (positions of the MAC48 leave the line as it is). -/
def fixLine (l : Line) (i v : Nat) : Line := if i < 128 then l ^^^ BitVec.ofNat 512 (v <<< (4 * i)) else l

/-- A MAC48 with symbol i changed by v. -/
def fixMac (m : BitVec 48) (i v : Nat) : BitVec 48 :=
  if 128 ≤ i then m ^^^ BitVec.ofNat 48 (v <<< (4 * (i - 128))) else m

/-! ### Seals (R166) -/

/-- A 64-bit seal: MAC48 [63:16], S12 [15:4], P4 [3:0], computed over what is stored. -/
def makeSeal (item : Line) (mac : BitVec 48) : W64 :=
  let sy := sealedSymbols item mac
  BitVec.ofNat 64 (mac.toNat * 65536 + (s12 sy).toNat * 16 + (p4 sy).toNat)

/-- A SEALED line's 16-bit check: S12 [15:4], P4 [3:0] over the data symbols only. -/
def makeCheck (item : Line) : BitVec 16 :=
  let sy := dataSymbols item
  BitVec.ofNat 16 ((s12 sy).toNat * 16 + (p4 sy).toNat)

/-- The symbols of a 128-bit word: positions 0 to 31 (R176). -/
def wordSymbols (b : Block) : List Nat := nibbles 32 b.toNat

/-- The 16 check bits of a 128-bit word: S12 [15:4], P4 [3:0] (R176). -/
def makeWordCheck (b : Block) : BitVec 16 :=
  let sy := wordSymbols b
  BitVec.ofNat 16 ((s12 sy).toNat * 16 + (p4 sy).toNat)

/-- A 128-bit word decoded (R174, R176): the word and whether a symbol was corrected; nothing where it is uncorrectable. -/
def decodeWord (w : SramWord) : Option (Block × Bool) :=
  match decodeCheck (wordSymbols w.data) (BitVec.ofNat 12 (bits w.check 4 12)) (BitVec.ofNat 4 (bits w.check 0 4)) with
  | .clean => some (w.data, false)
  | .checkSymbol => some (w.data, true)
  | .symbolAt i v => some (w.data ^^^ BitVec.ofNat 128 (v <<< (4 * i)), true)
  | .uncorrectable => none

/-- MAC48 of a seal. -/
def sealMac (w : W64) : BitVec 48 := BitVec.ofNat 48 (w.toNat / 65536)

/-- An item and its seal after decoding: the corrected item and MAC48, and whether a symbol was corrected. -/
structure Corrected where
  item : Line
  mac : BitVec 48
  fixed : Bool
deriving DecidableEq, Repr

/-- Decode an item against its 64-bit seal (R174); nothing where it is uncorrectable. -/
def decodeSeal (item : Line) (w : W64) : Option Corrected :=
  let mac := sealMac w
  match decodeCheck (sealedSymbols item mac) (BitVec.ofNat 12 (bits w 4 12)) (BitVec.ofNat 4 (bits w 0 4)) with
  | .clean => some { item := item, mac := mac, fixed := false }
  | .checkSymbol => some { item := item, mac := mac, fixed := true }
  | .symbolAt i v => some { item := fixLine item i v, mac := fixMac mac i v, fixed := true }
  | .uncorrectable => none

/-- Decode a SEALED line against its 16-bit check; the corrected line and whether a symbol was corrected. -/
def decodeSealedLine (item : Line) (c : BitVec 16) : Option (Line × Bool) :=
  match decodeCheck (dataSymbols item) (BitVec.ofNat 12 (bits c 4 12)) (BitVec.ofNat 4 (bits c 0 4)) with
  | .clean => some (item, false)
  | .checkSymbol => some (item, true)
  | .symbolAt i v => some (fixLine item i v, true)
  | .uncorrectable => none

/-! ### Counter blocks and tree nodes (R164, R165, R183): a 64-octet item, read as a big-endian 512-bit string -/

/-- The big-endian number of an item. -/
def itemNat (l : Line) : Nat := ofBe (octetsOfLine l)

/-- The item of a big-endian number. -/
def itemOf (n : Nat) : Line := lineOfOctets (beOctets 64 n)

/-- A field `[lo+len-1:lo]` of an item replaced. -/
def setItem (l : Line) (lo len v : Nat) : Line :=
  let n := itemNat l
  let old := (n >>> lo) % 2 ^ len
  itemOf (n - (old <<< lo) + ((v % 2 ^ len) <<< lo))

/-- The major word: octets 0 to 7. -/
def majorOf (l : Line) : Nat := itemNat l >>> 448
/-- The item with another major word. -/
def withMajor (l : Line) (v : Nat) : Line := setItem l 448 64 v
/-- Minor counter k: bits [447-7k : 441-7k] (R165). -/
def minorOf (l : Line) (k : Nat) : Nat := (itemNat l >>> (441 - 7 * k)) % 128
/-- The item with minor counter k set. -/
def withMinor (l : Line) (k v : Nat) : Line := setItem l (441 - 7 * k) 7 v
/-- The fill mask or fill bitmap: octets 8 to 15 (R165). -/
def fillOf (l : Line) : Nat := (itemNat l >>> 384) % 2 ^ 64
/-- Whether line k's fill bit is set. -/
def fillBit (l : Line) (k : Nat) : Bool := (fillOf l).testBit k
/-- The item with fill bit k set. -/
def withFill (l : Line) (k : Nat) : Line := setItem l 384 64 (fillOf l ||| (1 <<< k))
/-- The tile tag: octets 16 to 23 (R165). -/
def tileTagOf (l : Line) : Nat := (itemNat l >>> 320) % 2 ^ 64
/-- The item with a tile tag. -/
def withTileTag (l : Line) (t : Nat) : Line := setItem l 320 64 t
/-- An item with this major word and nothing else: what a claim or a renewal leaves (R164, R165). -/
def freshItem (major : Nat) : Line := itemOf ((major % 2 ^ 64) <<< 448)
/-- The mask of children whose minor is not 0 (R180, R186). -/
def liveMask (l : Line) : Nat :=
  (List.range 64).foldl (fun a k => if minorOf l k = 0 then a else a ||| (1 <<< k)) 0

/-! ### Encryption and MACs -/

/-- Domain tags of the AES input block (R167). -/
def tagData : Nat := 0x01
/-- Line MAC pad and tree seal pad. -/
def tagPad : Nat := 0x02
/-- Tile tag pad. -/
def tagTile : Nat := 0x03
/-- Stream keystream. -/
def tagStream : Nat := 0x04
/-- Fold pad. -/
def tagFold : Nat := 0x05

/-- The AES input block of R167. -/
def inputBlock (tag major minor addr idx : Nat) : Block :=
  BitVec.ofNat 128 ((tag % 64) <<< 122 ||| (major % 2 ^ 64) <<< 58 ||| (minor % 128) <<< 51
    ||| (addr % 2 ^ 30) <<< 21 ||| idx % 4)

/-- A context's keys: a 256-bit encryption key and a 128-bit hash key (R282). -/
structure CtxKey where
  enc : BitVec 256
  hash : Block
deriving DecidableEq, Repr, Inhabited

/-- AES of an input block under a context's encryption key. -/
def ctxAes (k : CtxKey) (b : Block) : Block := aes256 (beOctets 32 k.enc.toNat) b

/-- The keystream of a line: blocks 0 to 3 (R169). -/
def keystream (k : CtxKey) (tag major minor addr : Nat) : Line :=
  let rks := aesExpand (beOctets 32 k.enc.toNat)
  lineOfOctets ((List.range 4).flatMap
    (fun j => aesWith rks (octetsOfBlock (inputBlock tag major minor addr j))))

/-- The four blocks of a line. -/
def lineBlocks (l : Line) : List Block := (List.range 4).map (lineBlock l)

/-- MAC48: bits [127:80] of GHASH over the item and the length 512, XOR the pad (R170). -/
def mac48 (k : CtxKey) (item : Line) (major minor addr : Nat) : BitVec 48 :=
  let g := ghash k.hash (lineBlocks item ++ [512])
  BitVec.ofNat 48 ((g ^^^ ctxAes k (inputBlock tagPad major minor addr 0)).toNat >>> 80)

/-- A line's contribution to its tile's sum: the terms C_b · H^(257-b) (R171). -/
def tileTerm (k : CtxKey) (line : Nat) (ct : Line) : Block :=
  (List.range 4).foldl (fun a j => a ^^^ gfMul (lineBlock ct j) (gfPow k.hash (257 - (4 * line + j)))) 0

/-- The tile tag from the sum of all terms: the length block, then the pad (R171). -/
def tileTag (k : CtxKey) (sum : Block) (major minor addr : Nat) : Nat :=
  let g := sum ^^^ gfMul 32768 k.hash
  (g ^^^ ctxAes k (inputBlock tagTile major minor addr 0)).toNat >>> 64

/-- One block of a fold: the seal as stored and the line address (R172). -/
def foldBlock (sl : Nat) (addr : Nat) : Block :=
  BitVec.ofNat 128 ((sl % 2 ^ 64) <<< 64 ||| (addr % 2 ^ 30) <<< 34)

/-- The fold of a region under a fold key (R172). -/
def foldTag (f : Block) (k : CtxKey) (xs : List Block) (serial slot addr : Nat) : Block :=
  ghash f (xs ++ [BitVec.ofNat 128 xs.length]) ^^^ ctxAes k (inputBlock tagFold serial slot addr 0)

end Sys2Proof.Machine
end

