-- ==== Sys2Proof/Machine/State.lean ====
section
/-!
DEFINITION. Everything the spec gives the block, as plain data, unit by unit; the state after reset; the reasons a step can stop.
A structure's default field values are the unit's reset values, so that `{}` is a unit as reset leaves it.
-/

namespace Sys2Proof.Machine

open Sys2Proof

/-! ### Ports, pins and the violation log -/

/-- Power, reset and level pins (R45, R48, R49, R56, R59 to R61). -/
structure Pins where
  /-- PORST_N as last driven -/
  porstN : Bool := false
  /-- VDD_CORE and VDD_SRAM present -/
  vddCore : Bool := true
  /-- VDD_VAULT present -/
  vddVault : Bool := true
  /-- `GATE[15:0]` -/
  gates : BitVec 16 := 0
  /-- pace at which the last UPDATE_STROBE_OUT pulse began -/
  strobeOutAt : Option Nat := none
  /-- TAMPER_OUT -/
  tamperOut : Bool := false
  /-- NVM_RESET_N -/
  nvmResetN : Bool := false
  /-- CTL_RDATA of the last access -/
  ctlRdata : W32 := 0
  /-- NVM_CS_N and NVM_SCK -/
  nvmCsN : Bool := true
  nvmSck : Bool := false
  /-- NVM_DQ as the block drives it, and TDO: none is high impedance -/
  nvmDq : Option (BitVec 8) := none
  tdo : Option Bool := none
deriving DecidableEq, Repr

/-- One entry of `VIOLATION_LOG` (R63); REPEAT 0 is an entry never written. -/
structure VEntry where
  port : BitVec 8 := 0
  kind : BitVec 8 := 0
  mid : Mid := 0
  midv : Bool := false
  rep : BitVec 7 := 0
  pace : W32 := 0
deriving DecidableEq, Repr

/-- The violation log and `VIOLATION_STATUS` (R63, R64). -/
structure VLog where
  entries : Table VEntry := []
  seq : BitVec 8 := 0
  head : BitVec 5 := 0
  wrapped : Bool := false
  total : BitVec 16 := 0
  /-- ports whose REQ has stayed high after ACK (REQ_STUCK), logged and not yet seen to fall -/
  stuck : List (BitVec 8) := []
deriving DecidableEq, Repr

/-! ### Right of way, registers and mailboxes -/

/-- `OWNER.PHASE` (R78). -/
inductive Phase where
  | start
  | window
  | owned
  | opened
  | handover
  | noCandidate
deriving DecidableEq, Repr, Inhabited

/-- Right of way (R69 to R78). -/
structure Own where
  mid : Mid := 0
  phase : Phase := .start
  successor : Mid := 0
  gen : BitVec 8 := 0
  remaining : BitVec 14 := 0
  /-- claims of the open window -/
  claims : List Mid := []
  /-- masters whose reset is asserted -/
  inReset : List Mid := []
  /-- candidates with their ranks, from the route card -/
  cands : List (Mid × Nat) := []
deriving DecidableEq, Repr

/-- An armed half of a paired write (R84). -/
structure Armed where
  off : Nat
  value : W32
  at_ : Nat
deriving DecidableEq, Repr

/-- One holding set of a latching read (R489). -/
structure Latch where
  reg : Nat
  mid : Mid
  words : List W32
deriving DecidableEq, Repr

/-- Registers that hold a written or card value, their shadows, the strobe, snapshots (R87 to R89, R489). -/
structure Cfg where
  /-- active values of the shadowed registers that differ from their "else" value, by offset -/
  active : Table W32 := []
  /-- shadow values, likewise -/
  shadow : Table W32 := []
  /-- RW registers that are not shadowed, likewise -/
  plain : Table W32 := []
  /-- registers fixed by the route card, likewise -/
  fixed : Table W32 := []
  genTaken : BitVec 8 := 0
  genApplied : BitVec 8 := 0
  /-- a strobe is held pending (R55) -/
  strobeHeld : Bool := false
  /-- groups refused -/
  refused : BitVec 8 := 0
  snapSeq : BitVec 8 := 0
  /-- a TAKE is held -/
  takeHeld : Bool := false
  /-- the back buffer of a copy that runs -/
  backBuffer : Option (Table W64) := none
  /-- HOLDING, by offset of the low word -/
  holding : Table W64 := []
  /-- latched words, most recent first -/
  latches : List Latch := []
  /-- armed paired-write halves, by MID -/
  armed : Table Armed := []
  /-- `CUST_LAYOUT_STATUS` -/
  layoutSeq : BitVec 8 := 0
  layoutRefused : Bool := false
  layoutReason : BitVec 8 := 0
deriving DecidableEq, Repr

/-- A posted request: its words 0 and 1 (stamped), its payload, and the pace of its post (R93, R95). -/
structure Req where
  w0 : W32
  w1 : W32
  payload : List W32
  at_ : Nat
  /-- a context that it names was released before it started (R221) -/
  stale : Bool := false
  /-- right of way has changed since it was stamped as the owner's (R76) -/
  lostOwner : Bool := false
deriving DecidableEq, Repr

/-- A ticketed job (R98); no status while it runs. -/
structure Ticket where
  op : BitVec 12
  seq : BitVec 8
  stamp : W32
  status : Option (BitVec 8)
  result : List W32
  /-- JOB_CANCEL waits for its next commit point -/
  cancel : Bool
deriving DecidableEq, Repr

/-- Who is answered when a job ends: a ticket of a channel, or the request running on a channel. -/
inductive Caller where
  | ticket (ch t : Nat)
  | running (ch : Nat)
deriving DecidableEq, Repr

/-- The page commands (R200). -/
inductive PageOp where
  | claim
  | seal
  | freeze
  | renew
  | release
deriving DecidableEq, Repr

/-- A page command in progress (R201 to R205). -/
structure PageJob where
  op : PageOp
  /-- the request's SEQ -/
  seq : BitVec 8
  caller : Caller
  /-- word 2: CTX and flags -/
  word : W32
  page : Nat
  n : Nat
  /-- pages from the first that were locked; those from `done` on are locked still (R203) -/
  locked : Nat
  /-- every page has passed its checks (R202) -/
  checked : Bool
  done : Nat
  /-- pages that became POISONED (R210) -/
  bad : List Nat
  /-- the context's SEAL_GROUP at the check -/
  group : Nat
  /-- the page at hand is changed: the first custody request that its new entry applies to; the older ones must drain (R204) -/
  fence : Option Nat
  /-- lines of the page at hand that took tokens (R210, R230) -/
  paid : Nat
deriving DecidableEq, Repr

/-- One mailbox channel (R90 to R101). -/
structure Channel where
  sender : Mid := 0
  watcher : Mid := 0
  lane : LaneId := 0
  bound : Bool := false
  pinned : Bool := false
  /-- the MID that holds an unpinned direct channel -/
  holder : Option Mid := none
  /-- lane stamped at the last post on a direct channel; inner none where the MID was unbound -/
  lastLane : Option (Option LaneId) := none
  /-- words of the message being composed -/
  compose : List W32 := []
  lastPush : Nat := 0
  discarding : Bool := false
  overrun : Bool := false
  noticeLost : Bool := false
  waiting : List Req := []
  running : Option Req := none
  /-- unread responses; of the oldest, the words not yet popped -/
  responses : List (List W32) := []
  notices : List (List W32) := []
  tickets : Table Ticket := []
  /-- latched doorbell bits -/
  latched : W32 := 0
  mask : W32 := 0
deriving DecidableEq, Repr

/-! ### Paces and power -/

/-- The pace generator, calibration and the sensors (R107 to R113). -/
structure Pace where
  /-- elapsed-pace count -/
  now : Nat := 0
  /-- paces of it spent in fault restarts (R463) -/
  held : Nat := 0
  periods : BitVec 12 := 0x400
  /-- PERIODS to take at the next pace boundary -/
  newPeriods : Option (BitVec 12) := none
  rawPace : BitVec 16 := 0
  calAt : W32 := 0
  calCount : BitVec 16 := 0
  seq : BitVec 8 := 0
  calibrated : Bool := false
  stepPending : Bool := false
  discarded : Bool := false
  tempoAbsent : Bool := false
  /-- a calibration runs -/
  running : Bool := false
  /-- its counting has started -/
  counting : Bool := false
  /-- pace of its trigger, or of the start of counting -/
  calSince : Nat := 0
  /-- a trigger is held -/
  calHeld : Bool := false
  /-- pace of the last accepted calibration, with VDD_CORE and junction temperature then -/
  lastCal : Option (Nat × BitVec 10 × BitVec 9) := none
  vddMv : BitVec 10 := 0
  tj : BitVec 9 := 0
  lastSample : Nat := 0
deriving DecidableEq, Repr

/-- The power arbiter (R114 to R122). -/
structure Power where
  cap : BitVec 8 := 0x96
  effective : BitVec 10 := 600
  granted : BitVec 10 := 18
  standing : BitVec 10 := 0
  custody : BitVec 10 := 0
  pool : BitVec 10 := 0
  /-- energy carried as credit (R119), in units of 10^-14 J x 2^-20: custody, RNS engine, digest engine, relay, controller, background
  engine; below 0 it is owed by lines that one step moved ahead of it -/
  credits : List Int := [0, 0, 0, 0, 0, 0]
  seq : BitVec 8 := 0
  capLowered : Bool := false
  throttled : Bool := false
  floorShort : Bool := false
deriving DecidableEq, Repr

/-! ### Lanes, contexts, custody -/

/-- Lane states (R130). -/
inductive LaneState where
  | closed
  | opened
  | draining
  | drained
  | releasing
deriving DecidableEq, Repr, Inhabited

/-- A lane (R128 to R131, R159, R230, R235). -/
structure Lane where
  state : LaneState := .closed
  gen : W32 := 0
  held : BitVec 25 := 0
  /-- `LANE_REG_CFG` as in force since the last pace boundary (R232) -/
  reg : W32 := 0
  /-- TOKENS -/
  tokens : Int := 0
  /-- tokens owed for lines of the block's own DMA that one step moved ahead of them (R230) -/
  owed : Nat := 0
  regSeq : BitVec 8 := 0
  throttled : Bool := false
  hol : Bool := false
  /-- an increment of the generation waits for its key store rewrite (R295) -/
  rewriteDue : Bool := false
  /-- the job that ends when the lane reaches DRAINED or CLOSED (R208) -/
  job : Option Caller := none
deriving DecidableEq, Repr

/-- Context states (R133). -/
inductive CtxState where
  | free
  | active
  | releasing
  | retired
deriving DecidableEq, Repr, Inhabited

/-- A context record (R133), with what the block keeps beside it while it closes. -/
structure Ctx where
  lane : LaneId := 0
  epoch : BitVec 24 := 0
  state : CtxState := .free
  taint : Bool := false
  permits : BitVec 4 := 0
  quota : BitVec 24 := 0
  held : BitVec 24 := 0
  sealGroup : BitVec 6 := 0
  sealFull : Bool := false
  model : BitVec 12 := 0
  depth : BitVec 4 := 0
  keyGen : BitVec 8 := 0
  /-- pace of the close of the current epoch -/
  closedAt : Option Nat := none
  /-- channel whose CTX_RELEASE waits for the 64 paces (R207) -/
  releaseOn : Option Nat := none
  /-- 0, or one more than the passes ended since the first pass that began at DEPTH 15 without DEPTH falling (R480) -/
  stuckPasses : Nat := 0
  /-- a faulted ledger line holds DEPTH at 15 until this many passes have ended (R227), or a rebuilt record waits (R465) -/
  ledgerHold : Option Nat := none
  /-- the record was rebuilt by a fault restart (R465) -/
  rebuilt : Bool := false
  /-- its lane has reached CLOSED while the rebuilt record waits for its pass (R135) -/
  laneClosed : Bool := false
deriving DecidableEq, Repr

/-- Custody classes (R142). -/
inductive CustClass where
  | openC
  | sealedC
  | versionedC
  | streamC
deriving DecidableEq, Repr, Inhabited

/-- Page states of a map entry (R142). -/
inductive PageState where
  | free
  | claimed
  | live
  | frozen
  | sweeping
  | poisoned
  | lost
  | reserved
deriving DecidableEq, Repr, Inhabited

/-- Verdicts (R38). -/
inductive Verdict where
  | clean
  | deferred
  | stale
  | failed
deriving DecidableEq, Repr, Inhabited

/-- One beat waiting on a `CUST_IN` response bundle (R38). -/
structure RspBeat where
  tag : Tag
  beat : Nat
  write : Bool
  verdict : Verdict
  data : Line
  mid : Mid
  lane : LaneId
  /-- the last beat of its answer -/
  last : Bool
  /-- the answer belongs to an accepted request of the lane -/
  counted : Bool
  /-- named and owning context of the request it answers -/
  ctx : Nat
  owner : Nat
deriving DecidableEq, Repr

/-- An open write on a `CUST_IN` channel (R36). -/
structure OpenWrite where
  first : CustBeat
  lines : List (Line × BitVec 64)
  /-- pace of its last beat -/
  lastBeat : Nat
  /-- its tag was outstanding: it is answered FAILED after the earlier request (R68) -/
  reuse : Bool
deriving DecidableEq, Repr

/-- Where an accepted request stands. -/
inductive Stage where
  /-- waits for the map line of its page -/
  | walk
  /-- waits for metadata -/
  | fetch
  /-- waits for a read entry of the tile table -/
  | tile
  /-- waits for regulator tokens -/
  | tokens
  /-- waits for its turn: an earlier access to one of its lines, or power -/
  | hold
  /-- waits for a re-key record -/
  | rekey
  /-- waits for its context key -/
  | key
  /-- its reads, or the reads of a masked write, are with the memory controller -/
  | reading
  /-- its writes are with the memory controller -/
  | writing
  /-- its results are known; an earlier answer to the same master and line goes first -/
  | answering
deriving DecidableEq, Repr

/-- What a line of a request came to. -/
inductive LineRes where
  /-- not yet known -/
  | waiting
  /-- the data, with a verdict -/
  | got (v : Verdict) (d : Line)
deriving DecidableEq, Repr

/-- The counters and seal a line was issued under. -/
structure LineKeys where
  major : Nat
  minor : Nat
  sl : W64
  check : BitVec 16
deriving DecidableEq, Repr, Inhabited

/-- Items of the counter tree (R163, R183). -/
inductive TreeItem where
  /-- counter block of page index q -/
  | ctr (q : Nat)
  /-- node n of a level -/
  | node (level n : Nat)
  | root
deriving DecidableEq, Repr, Inhabited

/-- Why a line is not returned. -/
inductive BadLine where
  /-- a counter block or node failed verification -/
  | item (t : TreeItem)
  /-- the memory controller answered with an error -/
  | err
  /-- the memory controller did not answer -/
  | silent
  | mac
  | uncorrectable
deriving DecidableEq, Repr

/-- What a line stands under: unwritten, or its counters with its seal or check (R168, R180). -/
inductive LineMeta where
  | plain
  | unwritten
  | keys (k : LineKeys)
  | bad (b : BadLine)
deriving DecidableEq, Repr

/-- An accepted custody request (R151, R152). -/
structure CustReq where
  /-- arrival order over all channels -/
  seq : Nat
  ch : Fin 4
  op : BitVec 2
  addr : Nat
  n : Nat
  mid : Mid
  lane : LaneId
  ctx : Nat
  epoch : Nat
  /-- owning context and its epoch, from the map entry -/
  owner : Nat
  ownerEpoch : Nat
  entry : W32
  tag : Tag
  lines : List (Line × BitVec 64)
  stage : Stage
  keys : List LineKeys
  res : List LineRes
  /-- an egress fault met it: the KIND of its record -/
  fault : Option (BitVec 8)
  /-- the read entries of the tile table that its SEALED lines enter, line by line -/
  tiles : List Nat
  /-- what its lines stood under when its STREAM page was renewed before it was issued (R213) -/
  under : Option (List LineMeta)
  /-- it passed checks 1 to 5, so it counts as its lane's (R151, R159) -/
  counted : Bool
deriving DecidableEq, Repr

/-- A request on a `CUST_OUT` channel (R39, R40). -/
structure EgReq where
  tag : Nat
  write : Bool
  addr : Nat
  data : Line
  /-- `COn_ACK` has risen -/
  acked : Bool
  /-- pace of the rise of REQ, then of ACK -/
  since : Nat
  /-- the custody request and the first of its lines here -/
  req : Nat
  line : Nat
  /-- lines: a write stores one; a read fetches a run of lines of one request (COn_LEN plus 1) -/
  n : Nat
  /-- beats of a read's answer that have arrived, and the pace of the last -/
  got : Nat
  beatAt : Nat
  /-- a later store to the line stands -/
  superseded : Bool
deriving DecidableEq, Repr

/-- A retired egress tag, whose late answer may still store a line (R68, R507). -/
structure Retired where
  tag : Nat
  write : Bool
  addr : Nat
  data : Line
  /-- beats of its late answer still to come -/
  left : Nat
  /-- a later store to the line stands: its late answer stores nothing -/
  superseded : Bool
deriving DecidableEq, Repr

/-- One `CUST_IN` channel. -/
structure InChannel where
  openWrite : Option OpenWrite := none
  rsp : List RspBeat := []
  /-- pace at which the present response beat's REQ rose -/
  rspSince : Nat := 0
  /-- ACK_TIMEOUT logged in this episode -/
  rspLate : Bool := false
  /-- request beats whose ACK is withheld, and those behind them, in order (R37, R231) -/
  held : List CustBeat := []
  /-- HOL is recorded for the first of them -/
  holMarked : Bool := false
deriving DecidableEq, Repr

/-- One `CUST_OUT` channel. -/
structure OutChannel where
  reqs : List EgReq := []
  retired : List Retired := []
  /-- stalled by an ACK_TIMEOUT -/
  stalled : Bool := false
deriving DecidableEq, Repr

/-- The custody path. -/
structure Cust where
  enabled : Bool := false
  /-- stopped by SCAN or MEM_TEST (R444, R445) -/
  stopped : Bool := false
  ins : List InChannel := [{}, {}, {}, {}]
  outs : List OutChannel := [{}, {}, {}, {}]
  reqs : List CustReq := []
  nextSeq : Nat := 0
  /-- the lane whose turn is next (R229) -/
  turn : Nat := 0
deriving DecidableEq, Repr

/-- A cached map line with its order of use (R145). -/
structure MapLine where
  words : List W32
  used : Nat
deriving DecidableEq, Repr

/-- The custody map cache: lines by map line index. -/
structure MapCache where
  lines : Table MapLine := []
  clock : Nat := 0
deriving DecidableEq, Repr

/-- Way groups of the metadata cache (R192). -/
inductive WayGroup where
  | sealedG
  | versionedG
  | streamG
  | treeG
deriving DecidableEq, Repr, Inhabited

/-- A line of the metadata cache (R191). -/
structure MetaLine where
  group : WayGroup
  /-- the tree item it holds, or none for a seal or check line -/
  item : Option TreeItem
  data : Line
  dirty : Bool
  /-- order in which it became dirty, and order of last use -/
  dirtyAt : Nat
  used : Nat
deriving DecidableEq, Repr

/-- A re-key or reseal record (R180, R186). -/
structure Rekey where
  item : TreeItem
  old : Line
  pending : Nat
  /-- the context that holds the page; CTX 0 for a reseal -/
  ctx : Nat
deriving DecidableEq, Repr

/-- Metadata, the counter tree and its root (R187 to R199). -/
structure Meta where
  lines : Table MetaLine := []
  clock : Nat := 0
  root : Line := 0
  rekeys : List Rekey := []
  seq : BitVec 8 := 0
  restored : Bool := false
  rootFixed : Bool := false
  newTree : Bool := false
  /-- failing nodes with the pace of their last report (R188) -/
  failing : List (TreeItem × Nat) := []
  /-- page indices whose counter block failed while its record was held: they become POISONED at once (R181) -/
  broken : List Nat := []
  /-- items whose last contents are lost, their pages not yet made LOST (R193) -/
  lost : List TreeItem := []
  /-- lost nodes: every fetch of one fails until a new tree (R468) -/
  dead : List TreeItem := []
deriving DecidableEq, Repr

/-- A write entry of the tile table (R215). -/
structure TileWrite where
  ctx : Nat
  epoch : Nat
  sum : Block
  mask : BitVec 64
deriving DecidableEq, Repr

/-- A read entry of the tile table (R215 to R220). -/
structure TileRead where
  order : Nat
  page : Nat
  holder : Nat
  holderEpoch : Nat
  reader : Nat
  readerEpoch : Nat
  sum : Block
  mask : BitVec 64
  /-- lines issued to memory and not yet added -/
  flying : BitVec 64
  lastAt : Nat
  /-- its completion reads have started -/
  completing : Bool
deriving DecidableEq, Repr

/-- A fence that waits for read entries (R220). -/
structure Fence where
  ctx : Nat
  epoch : Nat
  entries : List Nat
  count : Nat
  caller : Caller
deriving DecidableEq, Repr

/-- The tile table (R215). -/
structure Tiles where
  writes : Table TileWrite := []
  reads : List TileRead := []
  nextOrder : Nat := 0
  fences : List Fence := []
deriving DecidableEq, Repr

/-- A release whose pages a pass is bound to finish (R228). -/
structure SweepDone where
  ch : Nat
  op : BitVec 12
  seq : BitVec 8
  subject : W32
  /-- the pass that finishes it, counted from PORST_N -/
  pass : Nat
deriving DecidableEq, Repr

/-- The sweep, the scrubs and the journal (R222 to R235, R478 to R484). -/
structure Bg where
  sweepActive : Bool := false
  cursor : BitVec 25 := 0
  /-- passes ended and passes begun since PORST_N -/
  passes : Nat := 0
  begun : Nat := 0
  seq : BitVec 8 := 0
  faults : Bool := false
  pendingPages : BitVec 25 := 0
  /-- pages of the current map line that are marked and not yet finished -/
  marked : List Nat := []
  /-- map lines that faulted in this pass and in the last one, and lines reported -/
  lineFaults : List Nat := []
  lastFaults : List Nat := []
  reportedFaults : List Nat := []
  completions : List SweepDone := []
  scrubCursor : BitVec 25 := 0
  scrubPass : BitVec 16 := 0
  sramScrubAt : Nat := 0
  journalSeq : W32 := 0
  restartsTotal : W32 := 0
  lostTotal : W32 := 0
  uncorrTotal : W32 := 0
  repairsTotal : W32 := 0
  /-- place of the next record in the ring, and pace of the last one -/
  journalSlot : Nat := 0
  journalAt : Nat := 0
  /-- a record waits (after a fault restart) -/
  journalDue : Bool := false
deriving DecidableEq, Repr

/-- An exception record (R476). -/
structure Exc where
  w0 : W32
  w1 : W32
  w2 : W32
  w3 : W32
deriving DecidableEq, Repr, Inhabited

/-- Health of one SRAM (R484). -/
structure SramHealth where
  corrected : BitVec 16 := 0
  spares : BitVec 4 := 0
  uncorrectable : BitVec 8 := 0
deriving DecidableEq, Repr

/-- Fault state (R460 to R484). -/
structure Flt where
  seq : BitVec 8 := 0
  restart : Bool := false
  storm : Bool := false
  overflow : Bool := false
  spareUsed : Bool := false
  restarts : BitVec 16 := 0
  lastSram : BitVec 4 := 0
  lastHold : BitVec 11 := 0
  reloaded : Bool := false
  lostPages : BitVec 12 := 0
  lastPace : W32 := 0
  queue : List Exc := []
  log : Table Exc := []
  logHead : BitVec 4 := 0
  excOverflow : BitVec 16 := 0
  health : Table SramHealth := []
  voteSeq : BitVec 8 := 0
  voteGroups : BitVec 6 := 0
  /-- pace at which the last fault restart ended -/
  endedAt : Option Nat := none
  /-- the firmware waits for FIRMWARE_RESUME; a code word was lost (R471) -/
  resumeDue : Bool := false
  codeLost : Bool := false
  /-- words by SRAM corrected at consecutive passes, and words undecodable at restarts (R475): (SRAM, word, count) -/
  correctedRuns : List (Nat × Nat × Nat) := []
  undecodable : List (Nat × Nat × Nat) := []
deriving DecidableEq, Repr

/-! ### Keys and the vault -/

/-- Where the tier-1 keys come from (R276, R451). -/
inductive RootSource where
  | none
  | bedrock
  | testRoot
  | tamperRoot
deriving DecidableEq, Repr, Inhabited

/-- An entry of the key cache with its tags (R282). -/
structure CacheKey where
  epoch : BitVec 24
  keyGen : BitVec 8
  laneGen : W32
  key : CtxKey
  used : Nat
deriving DecidableEq, Repr

/-- An entry of the handle table (R284, R285). -/
structure Handle where
  /-- KIND 1 REALM to 7 IDENTITY -/
  kind : Nat
  lane : Nat
  /-- CTX, SLOT, key selector or TYPE -/
  name : W32
  typ : Nat
  label : Octets
  laneGen : W32
  epoch : BitVec 24
  keyGen : BitVec 8
  version : W32
  /-- a fault restart lost the entry, or its key was destroyed: it is STALE whatever the generations -/
  stale : Bool
  /-- opened by the owner: it counts against lane 0 -/
  owners : Bool
deriving DecidableEq, Repr

/-- The working key register while it is held (R286): by an RNS job, by its identity. -/
structure Wkr where
  job : Nat
  handle : W32
  typ : Nat
  material : Octets
  since : Nat
deriving DecidableEq, Repr

/-- A slot of the key store (R287). -/
structure StoreSlot where
  valid : Bool := false
  lane : Nat := 0
  typ : Nat := 0
  version : W32 := 0
  material : Octets := []
deriving DecidableEq, Repr

/-- Who a key update message is answered to: a job, or a device of the relay by its address (R422). -/
inductive KumCaller where
  | job (w : Caller)
  | relay (src : Nat)
deriving DecidableEq, Repr

/-- A key update message whose effect stands in the vault and whose counter is still to be written (R293). -/
structure KumDue where
  kind : Nat
  digest : BitVec 384
  who : KumCaller
deriving DecidableEq, Repr

/-- Why the key store is rewritten (R288, R293, R295). -/
inductive Rewrite where
  /-- INSTALL or REMOVE of a key update message, with its counter -/
  | update (slot : Nat) (to_ : StoreSlot) (kind : Nat) (digest : BitVec 384) (who : KumCaller)
  /-- a stored key destroyed -/
  | destroySlot (slot : Nat) (caller : Caller)
  /-- a lane's stored keys destroyed on command -/
  | destroyLane (lane : Nat) (caller : Caller)
  /-- a lane's stored keys destroyed by its release -/
  | laneReleased (lane : Nat)
deriving DecidableEq, Repr

/-- A running REENROLL: its request's words, its input region, its caller (R303). -/
structure Enroll where
  words : List W32
  input : Octets
  caller : Caller
deriving DecidableEq, Repr

/-- The key road (R276 to R288, R307). -/
structure Keys where
  root : RootSource := .none
  custodyRoot : BitVec 256 := 0
  relayRoot : BitVec 256 := 0
  sealingRoot : BitVec 256 := 0
  identitySeed : BitVec 384 := 0
  realmKey : BitVec 256 := 0
  /-- the lane key register file -/
  laneKeys : Table (BitVec 256) := []
  cache : Table CacheKey := []
  clock : Nat := 0
  /-- contexts whose derivation is in flight or queued, in capture order -/
  inFlight : List Nat := []
  handles : Table Handle := []
  /-- USE of each entry -/
  uses : Table (BitVec 16) := []
  wkr : Option Wkr := none
  store : Table StoreSlot := []
  /-- whether the inactive store region is erased; which region is active -/
  inactiveErased : Bool := true
  activeRegion : Bool := false
  rewrites : List Rewrite := []
  seq : BitVec 8 := 0
  vaultFixed : Bool := false
  updateApplied : Bool := false
  updateRefused : Bool := false
  destroyed : Bool := false
  storeLost : Bool := false
  lastRefusal : BitVec 8 := 0
  /-- state of the vault as read at cold start: 0 PROVISIONED, 1 LOST, 2 BLANK -/
  vaultState : Nat := 0
  tamperRoot : Bool := false
  sleepReady : Bool := false
  /-- an orderly sleep is complete: the block changes no memory and serves nothing until PORST_N (R301) -/
  asleep : Bool := false
  enrolling : Option Enroll := none
  /-- an orderly sleep has stopped the block and is not yet past its step 5 (R301) -/
  sleeping : Option Caller := none
  kumDue : Option KumDue := none
deriving DecidableEq, Repr

/-- The vault's logical words (R297); it is kept on VDD_VAULT. -/
structure Vault where
  bedrockMasked : BitVec 256 := 0
  mask : BitVec 256 := 0
  rootA : Line := 0
  rootB : Line := 0
  rootC : Line := 0
  /-- the three copies of CONTROL -/
  controlA : W32 := 0
  controlB : W32 := 0
  controlC : W32 := 0
  check : Block := 0
  authority : BitVec 384 := 0
  realmId : W32 := 0
  realmEpoch : W32 := 0
  kumCount : W32 := 0
  storeGen : W32 := 0
  nextRealmId : W32 := 0
  nextRealmEpoch : W32 := 0
  startCount : W32 := 0
  tamperCount : W32 := 0
  sleepCount : W32 := 0
  logHead : BitVec 4 := 0
  mono : Table W64 := []
  monoBroken : List Nat := []
  laneGens : Table W32 := []
  tlog : Table (BitVec 128) := []
  /-- entries of the tamper log that read uncorrectable and have not been written since -/
  tlogBroken : List Nat := []
  /-- pace of the last refresh of the shares -/
  refreshedAt : Nat := 0
deriving DecidableEq, Repr

/-! ### OTP, life cycle, debug and tamper -/

/-- Whose OTP programs wait (R303, R395, R438). -/
inductive OtpUser where
  | transition
  | confirm
  | reenroll
deriving DecidableEq, Repr

/-- One OTP program: the bits to set in a word. -/
structure OtpOp where
  user : OtpUser
  word : Nat
  bits : W32
deriving DecidableEq, Repr

/-- The OTP macro's words as programmed, and the programs that wait at its port, the first in progress (R46, R440). -/
structure Otp where
  words : Table W32 := []
  queue : List OtpOp := []
  /-- pace at which the first one's REQ rose -/
  since : Nat := 0
deriving DecidableEq, Repr

/-- A life-cycle transition that runs (R438). -/
structure Transition where
  target : BitVec 8
  token : Nat
  slot : Nat
  step : Nat
  /-- the 56-octet input of personalisation -/
  input : Octets
  /-- none for a request through LC_ACCESS -/
  caller : Option Caller
deriving DecidableEq, Repr

/-- Life cycle and debug (R434 to R448, R459). -/
structure Lc where
  /-- the state as read at start -/
  state : BitVec 8 := 0
  pending : Bool := false
  fromCompact : Bool := false
  completed : Bool := false
  target : BitVec 8 := 0
  job : Option Transition := none
  /-- custody answers as R27 and mailboxes answer RESTARTING until PORST_N (R439, R444, R445, R452) -/
  stopped : Bool := false
  /-- firmware controller halted by CORE_DEBUG -/
  halted : Bool := false
  inForce : Bool := false
  stored : Bool := false
  installed : Bool := false
  rights : BitVec 4 := 0
  /-- digest of the certificate in force -/
  certDigest : BitVec 384 := 0
  /-- the TAP instruction -/
  ir : BitVec 8 := 0x01
  /-- what the selected data register captures next: OTP_ACCESS and CORE_DEBUG reads -/
  tapData : W32 := 0
  memTesting : Bool := false
  /-- the result of MEM_TEST: a PASS bit and a count for each SRAM -/
  memTest : W64 := 0
deriving DecidableEq, Repr

/-- Tamper logic (R449 to R459); ARM and GATE_HOLD are the vault domain's copies. -/
structure Tamper where
  seq : BitVec 8 := 0
  event : Bool := false
  mode : Bool := false
  cause : BitVec 2 := 0
  /-- levels of `TAMPER_IN` and of ZEROIZE_ALL -/
  inputs : BitVec 8 := 0
  zeroize : Bool := false
  glitch : Bool := false
  vaultUv : Bool := false
  temp : Bool := false
  /-- temperature readings out of range in a row -/
  tempRun : Nat := 0
  arm : BitVec 8 := 0xFF
  gateHold : Bool := false
  sensors : Bool := false
  /-- a tampered restart is due -/
  restartDue : Bool := false

deriving DecidableEq, Repr

/-! ### Start, flash and update -/

/-- The directory as the block works on it (R369). -/
structure Directory where
  seq : W32 := 0
  /-- 0 SETTLED, 1 PREPARED, 2 TRIAL -/
  update : Nat := 0
  pair : Bool := false
  trialBoots : Nat := 0
  lastFallback : Bool := false
  /-- offset and size of firmware slots 0 and 1, then of card slots 0 and 1 -/
  slots : List (Nat × Nat) := []
  /-- 0 EMPTY, 1 RECEIVING, 2 STAGED -/
  stage : Nat := 0
  stageTest : Bool := false
  stageStart : Nat := 0
  stageLength : Nat := 0
  keyStart : W32 := 0
  keyN : W32 := 0
  bundleSeq : W32 := 0
  bundleMeas : BitVec 384 := 0
  ringNext : Nat := 0
deriving DecidableEq, Repr, Inhabited

/-- A region of NVM_LAYOUT (R378). -/
structure Region where
  kind : Nat
  off : Nat
  len : Nat
deriving DecidableEq, Repr, Inhabited

/-- A gate entry of the running card with its result (R379, R384). -/
structure Gate where
  gate : Nat
  off : Nat
  len : Nat
  minVersion : W32
  signer : BitVec 384
  result : Nat
  version : W32
deriving DecidableEq, Repr, Inhabited

/-- The request of UPDATE_STAGE, and where the rest of its bundle lies. -/
structure StageSource where
  caller : Caller
  ctx : Nat
  epoch : BitVec 24
  addr : Nat
deriving DecidableEq, Repr

/-- A bundle that is being staged (R389). -/
structure Staging where
  /-- octets of the bundle received and not yet written -/
  buffer : Octets
  /-- octets written -/
  done : Nat
  total : Nat
  /-- the request of UPDATE_STAGE, or the relay -/
  source : Option StageSource
  meas : BitVec 384
  /-- header and item table as they pass -/
  head : Octets
  lastAt : Nat
  /-- relay frames whose credits wait until staging has the loader buffer again, by the port that they came in on (R390) -/
  held : List Dir := []
deriving DecidableEq, Repr

/-- A sector that activation still has to write: flash offset and octets (R391). -/
structure Sector where
  off : Nat
  data : Octets
deriving DecidableEq, Repr

/-- A running activation (R391, R392). -/
structure Activation where
  caller : Caller
  sectors : List Sector
  /-- SHA-384 of each item as written -/
  digests : List (BitVec 384)
  prepared : Bool
deriving DecidableEq, Repr

/-- Why a directory change is written, and what follows it. -/
inductive DirUse where
  | plain
  /-- PREPARED written: the warm restart begins (R391) -/
  | prepared
  /-- the confirmation's step 2 (R395) -/
  | confirmed (caller : Option Caller)
deriving DecidableEq, Repr

/-- A warm restart that is due (R392, R396): into the trial pair, or into the confirmed one as a fall-back with its reason. -/
structure Restart where
  trial : Bool
  reason : Nat
  caller : Option Caller
deriving DecidableEq, Repr

/-- A flash operation that waits; the first of the list is in progress (R387). -/
inductive NvmOp where
  /-- part of a gate body to a descriptor -/
  | window (off len ctx : Nat) (epoch : BitVec 24) (addr : Nat) (caller : Caller)
  | signer (lane slot : Nat) (digest : Option (BitVec 384)) (caller : Caller)
  | cert (sel : Nat) (data : Octets) (caller : Caller)
  | debugStore (data : Octets) (caller : Caller)
  | debugErase (caller : Caller)
  | journal (off : Nat) (data : Octets)
  | directory (d : Directory) (use : DirUse)
  /-- a new key store image for the first waiting rewrite -/
  | store
  /-- the old key store region erased -/
  | eraseStore (first : Bool)
  /-- the next sector of staging -/
  | stage
  /-- the next sector of activation -/
  | activate
deriving DecidableEq, Repr

/-- A model signer record in flash (R240): the offset of the area it lies in, and the sealing root it is sealed under. -/
structure SignerRecord where
  area : Nat
  root : BitVec 256
  digest : BitVec 384
deriving DecidableEq, Repr

/-- The flash and its controller (R368, R378, R385 to R387). -/
structure Nvm where
  /-- contents by 64-octet unit, complemented: an erased octet is 0 -/
  flash : Table Line := []
  /-- model signer records by 4 * lane + slot -/
  signers : Table SignerRecord := []
  ops : List NvmOp := []
  /-- an erase in progress is suspended for a window read -/
  suspended : Bool := false
  mode : Nat := 0
  sckMhz : Nat := 12
  /-- the highest rates in MHz that SFDP reports, by mode (R44) -/
  rates : List Nat := []
  eraseSuspend : Bool := false
  dqsFailed : Bool := false
deriving DecidableEq, Repr

/-- Start and update (R381 to R400). -/
structure Boot where
  phase : Nat := 0
  halt : Nat := 0
  warm : Bool := false
  fallback : Bool := false
  pair : Bool := false
  bank : Bool := false
  reason : Nat := 0
  firstGate : W32 := 0
  started : W32 := 0
  fwVersion : W32 := 0
  fwArb : BitVec 8 := 0
  /-- SHA-384 of the running firmware's header, as retained SRAM keeps it (R471) -/
  fwMeas : BitVec 384 := 0
  /-- microprogram set version -/
  rnsSet : BitVec 16 := 0
  cardVersion : W32 := 0
  cardFormat : BitVec 16 := 0
  cardArb : BitVec 8 := 0
  fwOtp : BitVec 8 := 0
  cardOtp : BitVec 8 := 0
  dir : Option Directory := none
  regions : List Region := []
  gates : List Gate := []
  /-- bundles staged since start -/
  keyN : W32 := 0
  staging : Option Staging := none
  activation : Option Activation := none
  confirming : Option Caller := none
  restart : Option Restart := none
  progress : W32 := 0
  seq : BitVec 8 := 0
  staged : Bool := false
  aborted : Bool := false
  fellBack : Bool := false
  confirmed : Bool := false
  nvmError : Bool := false
  eventReason : BitVec 8 := 0
deriving DecidableEq, Repr

/-! ### Mileposts -/

/-- An extend that waits (R359); `slot` is the digest slot whose route it is, with the number of its use. -/
structure Extend where
  mp : Nat
  d : Octets
  slot : Option (Nat × Nat)
deriving DecidableEq, Repr

/-- A milepost (R358, R363). -/
structure Milepost where
  value : BitVec 384 := 0
  count : W32 := 0
  broken : Bool := false
deriving DecidableEq, Repr

/-- The mileposts, their queue and events (R358 to R366). -/
structure Miles where
  posts : Table Milepost := []
  queue : List Extend := []
  seq : BitVec 8 := 0
  fixed : Bool := false
  broke : Bool := false
  refused : Bool := false
deriving DecidableEq, Repr

/-! ### Models, receipts and sheets -/

/-- An entry of the model table (R251). -/
structure Model where
  measurement : BitVec 384
  lane : Nat
  ctx : Nat
  epoch : BitVec 24
  page : Nat
  pages : Nat
  parts : Nat
  batch : Nat
deriving DecidableEq, Repr

/-- What the loader needs of a tensor: its index, its encoding, its stored and its laid-out size (R242). -/
structure LoadTensor where
  index : Nat
  enc : Nat
  csize : Nat
  usize : Nat
deriving DecidableEq, Repr, Inhabited

/-- Where a stored tensor fails: the place of the failing byte in the laid-out payload, and status, reason and tensor. -/
structure BadTensor where
  at_ : Nat
  st : BitVec 8
  reason : Nat
  tensor : Nat
deriving DecidableEq, Repr

/-- A load from its first part on (R247). -/
structure Load where
  caller : Caller
  ctx : Nat
  epoch : BitVec 24
  pkgCtx : Nat
  pkgEpoch : BitVec 24
  shared : Bool
  /-- first page, pages in all, pages written, the part in progress -/
  page : Nat
  pages : Nat
  done : Nat
  part : Nat
  /-- tensors not yet begun; the payload's address, the first octet of it not yet read, the place where the next tensor is laid out -/
  tensors : List LoadTensor
  payload : Nat
  pos : Nat
  off : Nat
  /-- the package key (R243) -/
  key : Option Octets
  /-- octets laid out and not yet written, from the part in progress on -/
  ahead : Octets
  /-- a tensor begun that fails further on -/
  bad : Option BadTensor
  /-- the tensors' octets so far, and PAYLOAD_DIGEST -/
  plain : Octets
  digest : BitVec 384
  measurement : BitVec 384
  batch : Nat
  since : Nat
deriving DecidableEq, Repr

/-- States of an open receipt (R259). -/
inductive ReceiptState where
  | opened
  | closing
  | pending
  | entering
deriving DecidableEq, Repr, Inhabited

/-- A slot of a receipt (R257, R266). -/
structure RSlot where
  words : List W32
  /-- 0 DONE, 1 CORRUPT, 2 PAD -/
  status : Nat := 0
  cause : Nat := 0
  unbound : Bool := false
  fold : Block := 0
  digest : BitVec 384 := 0
  /-- an integrity failure was seen in its input region (R261) -/
  marked : Bool := false
  /-- epochs of its input and output contexts at open -/
  inEpoch : BitVec 24 := 0
  outEpoch : BitVec 24 := 0
deriving DecidableEq, Repr, Inhabited

/-- An open receipt (R255 to R267). -/
structure Receipt where
  state : ReceiptState
  lane : Nat
  ctx : Nat
  epoch : BitVec 24
  keyGen : BitVec 8
  handle : Nat
  modelCtx : Nat
  modelEpoch : BitVec 24
  measurement : BitVec 384
  serial : W64
  openPace : W64
  closePace : W64
  foldKey : Block
  slots : List RSlot
  verdict : Nat
  caller : Option Caller
  /-- tile read entries that its verdict waits for -/
  tiles : List Nat
  /-- order of its entry into ENTERING -/
  order : Nat
deriving DecidableEq, Repr

/-- States of a sheet slot (R268, R269). -/
inductive SheetState where
  | free
  | filling
  | signing
  | signed
deriving DecidableEq, Repr, Inhabited

/-- A sheet slot of a lane (R268 to R271). -/
structure Sheet where
  state : SheetState := .free
  count : Nat := 0
  /-- octets of its receipt records -/
  len : Nat := 0
  /-- Merkle leaves -/
  leaves : List (BitVec 384) := []
  firstPace : W64 := 0
  /-- pace of its first entry, outside fault restarts (R463) -/
  since : Nat := 0
  /-- it is to close once another slot of its lane is free -/
  due : Bool := false
  /-- 0 FULL, 1 FLUSH, 2 AGE, 3 RELEASE -/
  cause : Nat := 0
  serial : W64 := 0
  /-- octets of the signed image -/
  imageLen : Nat := 0
  attempts : Nat := 0
  /-- pace of the next attempt after three failed ones -/
  retryAt : Option Nat := none
  /-- flush jobs that wait for it -/
  callers : List Caller := []
deriving DecidableEq, Repr

/-- Models, receipts and sheets (R237 to R275). -/
structure Receipts where
  models : Table Model := []
  load : Option Load := none
  loadSeq : BitVec 8 := 0
  loadStatus : BitVec 8 := 0
  loadReason : BitVec 8 := 0
  loadTensor : BitVec 8 := 0
  receipts : Table Receipt := []
  /-- receipts opened, and orders given, since start -/
  opened : Nat := 0
  order : Nat := 0
  /-- sheet slots by 5 * lane + slot -/
  sheets : Table Sheet := []
  /-- sheets signed since start, by lane -/
  signedCount : Table Nat := []
deriving DecidableEq, Repr


/-! ### The RNS engine -/

/-- States of an engine job (R319). -/
inductive RnsPhase where
  | queued
  | loading
  | validating
  | running
  | waiting
  | checking
  | writing
  | clearing
  | spilling
  | spilled
  | restoring
deriving DecidableEq, Repr, Inhabited

/-- A descriptor of a job, with the epoch of its context at the post. -/
structure JobDesc where
  ctx : Nat
  addr : Nat
  len : Nat
  epoch : BitVec 24
deriving DecidableEq, Repr, Inhabited

/-- An engine job (R316 to R334). -/
structure RnsJob where
  /-- order of arrival -/
  id : Nat
  op : Nat
  set : Nat
  prio : Nat
  lane : Nat
  /-- the lane that its work is charged to (R124) -/
  payer : Nat := 0
  caller : Caller
  descs : List JobDesc
  /-- its handle's word and entry as at the post -/
  key : Option (W32 × Handle)
  phase : RnsPhase := .queued
  bank : Option Nat := none
  /-- pace at which the phase began -/
  since : Nat := 0
  /-- where it goes on from WAITING or after a restore -/
  resume : RnsPhase := .loading
  /-- operands in the bank, and the private key's octets -/
  ins : List Octets := []
  material : Octets := []
  /-- results, whether the engine's own check passes, and the status they carry -/
  outs : List Octets := []
  good : Bool := true
  status : BitVec 8 := 0
  words : List W32 := []
  iterations : Nat := 0
  /-- paces that its credit has covered, and whether it covers the present one (R119, R312) -/
  paces : Nat := 0
  covered : Bool := false
  /-- it waits for the coupling -/
  phaseDue : Bool := false
  /-- its lease has ended: it is spilled at its next commit point -/
  spill : Bool := false
  /-- it ends with this status at its next commit point; the descriptor concerned -/
  abort : Option (BitVec 8 × Nat) := none
  /-- its save met a fault -/
  bad : Bool := false
  /-- its slot of the spill area -/
  slot : Option Nat := none
deriving DecidableEq, Repr

/-- An RNS_LANE_ABORT that waits for the lane's jobs (R334). -/
structure RnsAbort where
  ids : List Nat
  caller : Caller
deriving DecidableEq, Repr

/-- The RNS engine (R309 to R338). -/
structure Rns where
  /-- in order of arrival -/
  jobs : List RnsJob := []
  next : Nat := 0
  /-- the bank whose job holds the lanes -/
  lanes : Option Nat := none
  /-- the job that holds the coupling, and since when -/
  coupling : Option (Nat × Nat) := none
  aborts : List RnsAbort := []
  seq : BitVec 8 := 0
  selfcheck : Bool := false
  tamperAbort : Bool := false
  spillFault : Bool := false
  leaseExpired : Bool := false
  queueFull : Bool := false
deriving DecidableEq, Repr

/-! ### The digest engine -/

/-- States of a digest slot (R351). -/
inductive SlotState where
  | free
  | opened
  | complete
  | expired
deriving DecidableEq, Repr, Inhabited

/-- A feed that runs (R345). -/
structure Feed where
  caller : Caller
  desc : JobDesc
  /-- octets absorbed, octets that it absorbs in all, octets discarded at its end -/
  done : Nat
  take : Nat
  excess : Nat
  /-- units of 64 octets of the present chunk that the credit has covered (R119) -/
  ready : Nat := 0
  /-- the lane that its work is charged to (R124) -/
  payer : Nat := 0
  /-- the whole of it is absorbed: it waits for the slot's extend -/
  routed : Bool := false
deriving DecidableEq, Repr

/-- A digest slot (R340 to R357). -/
structure DSlot where
  state : SlotState := .free
  alg : Nat := 0
  lane : Nat := 0
  outLen : Nat := 0
  /-- the milepost that its result extends -/
  route : Option Nat := none
  mlen : Nat := 0
  p : Nat := 0
  fed : Nat := 0
  /-- chaining value of SHA-2, or the Keccak state -/
  words : List W64 := []
  /-- the outer chaining value of HMAC -/
  outer : List W64 := []
  /-- the HMAC key's handle as at the open -/
  key : Option Handle := none
  /-- expired because its key became stale (R351) -/
  staleKey : Bool := false
  result : Octets := []
  /-- pace from which its timeout counts, with the timeout then in force -/
  since : Nat := 0
  wait : Nat := 0
  feed : Option Feed := none
deriving DecidableEq, Repr

/-- One core: the slot it serves and the slot it served last (R349). -/
structure DCore where
  slot : Option Nat := none
  last : Nat := 55
deriving DecidableEq, Repr

/-- The digest engine. -/
structure Dig where
  slots : Table DSlot := []
  /-- how often each slot was opened -/
  uses : Table Nat := []
  /-- the SHA-2 core and the Keccak core -/
  cores : List DCore := [{}, {}]
  /-- channels whose running DIGEST_OPEN waits for the working key register, oldest first, each with whether it is judged as the owner's -/
  opens : List (Nat × Bool) := []
  seq : BitVec 8 := 0
  excess : Bool := false
  expired : Bool := false
  routeFailed : Bool := false
deriving DecidableEq, Repr

/-! ### The relay -/

/-- States of a relay port; during a re-key the port is UP and repeats HELLO and KEYING (R420, R432). -/
inductive LinkPhase where
  | down
  | hello
  | keying
  | up
  | refused
deriving DecidableEq, Repr, Inhabited

/-- A frame to send, not yet sealed (R409, R415). -/
structure OutFrame where
  typ : Nat
  mode : Nat
  last : Bool
  src : Nat
  dst : Nat
  payload : Octets
  /-- the port whose receive buffer it leaves when it has its own credit (R414) -/
  hold : Option Dir := none
  /-- the peering or the bundle send whose frame it is -/
  peering : Option Nat := none
  bundle : Option Nat := none
  /-- the lane that its energy is charged to (R124) -/
  lane : Nat := 0
deriving DecidableEq, Repr, Inhabited

/-- The frame on the wire: its sealed octets and the beats not yet acknowledged. -/
structure WireFrame where
  frame : Frame
  out : OutFrame
  left : Nat
  /-- REQ of the present beat is up: its energy was covered (R119) -/
  up : Bool
  /-- pace at which REQ of the present beat rose -/
  since : Nat
deriving DecidableEq, Repr

/-- An object in reassembly on a port (R410). -/
structure RxObject where
  typ : Nat
  src : Nat
  object : Nat
  next : Nat
  octets : Octets
  /-- a bundle whose octets are staged (R422) -/
  staged : Bool := false
deriving DecidableEq, Repr

/-- A relay port and its link (R409 to R420). -/
structure Link where
  level : Bool := false
  phase : LinkPhase := .down
  cause : Nat := 0
  /-- a session stands while the phase is HELLO or KEYING: a re-key -/
  live : Bool := false
  /-- the neighbour's IDENTITY_DIGEST, its identity P-384 and ML-DSA-87 keys, its INDEX -/
  peer : BitVec 384 := 0
  peerP384 : Octets := []
  peerDsa : Octets := []
  peerIndex : Nat := 0
  /-- ephemeral scalar and HELLO of this side -/
  eph : Nat := 0
  hello : Octets := []
  /-- the neighbour's HELLO once checked, with its relay keys -/
  peerHello : Octets := []
  peerRelay : Octets := []
  /-- the KEM ciphertext sent and its shared secret -/
  kem : Octets := []
  kemSs : Octets := []
  /-- FINISHED that the neighbour must send -/
  fin : Octets := []
  txKey : Octets := []
  rxKey : Octets := []
  /-- keys derived and not yet in force: the sender's until its FINISHED goes out, the receiver's until the neighbour's is checked -/
  nextTx : Octets := []
  nextRx : Octets := []
  /-- SEQ of the next frame sent and of the last one accepted -/
  txSeq : Nat := 1
  rxSeq : Nat := 0
  finishedAt : Nat := 0
  /-- credited frames sent, and released as the neighbour last reported -/
  sent : Nat := 0
  released : Nat := 0
  /-- frames released here, as last reported, and pace of the first release not reported -/
  freed : Nat := 0
  reported : Nat := 0
  freedAt : Option Nat := none
  /-- pace from which every credit has been spent with no CREDIT frame -/
  spentAt : Option Nat := none
  /-- paces of the failures at check 5 of R412 -/
  fails : List Nat := []
  objects : List RxObject := []
  helloObject : Option RxObject := none
  /-- pace of the refusal that a retry follows -/
  refusedAt : Option Nat := none
  queue : List OutFrame := []
  wire : Option WireFrame := none
  /-- credited frames sent since a BUNDLE frame, while one waits (R415) -/
  passed : Nat := 0
deriving DecidableEq, Repr

/-- A job that waits for a remote answer (R430). -/
inductive RemoteWait where
  | waybill (dst : Nat) (desc : JobDesc) (caller : Caller)
  | keySend (dst : Nat) (caller : Caller)
  | peerSend (peering : Nat) (dst : Nat) (serial : Nat) (caller : Caller)
deriving DecidableEq, Repr

/-- A bundle that the head device sends (R422): what is left of it. -/
structure BundleJob where
  id : Nat
  caller : Caller
  ctx : Nat
  epoch : BitVec 24
  addr : Nat
  total : Nat
  done : Nat
  object : Nat
deriving DecidableEq, Repr

/-- A segment job (R424); its requester is a local one, or the device upstream. -/
structure SegmentJob where
  who : Option (Caller × JobDesc)
  nonce : Octets
  /-- W(p), once signed -/
  own : Octets := []
  /-- REMOTE_WAIT in paces as it stood when the job was accepted (R88), and the lane that its work is charged to (R124) -/
  wait : Nat := 0
  lane : Nat := 0
  /-- pace at which its wait for the answer from below ends -/
  due : Nat := 0
deriving DecidableEq, Repr

/-- States of a peering (R427). -/
inductive PeerState where
  | opening
  | up
  | closed
deriving DecidableEq, Repr, Inhabited

/-- A peering (R427, R428). -/
structure Peering where
  state : PeerState
  lane : Nat
  ctx : Nat
  epoch : BitVec 24
  keyGen : BitVec 8
  peer : Nat
  peerLane : Nat
  peerCtx : Nat
  /-- the key of TYPE 1 that both hold, and the peering key once UP -/
  shared : Octets
  key : Octets := []
  ringAddr : Nat
  ringLen : Nat
  /-- slots written so far: what the block writes as PRODUCED -/
  produced : Nat := 0
deriving DecidableEq, Repr

/-- A PEER_OPEN frame for which no peering stands yet (R427). -/
structure HeardOpen where
  src : Nat
  payload : Octets
deriving DecidableEq, Repr

/-- The relay (R402 to R433). -/
structure Relay where
  linkUp : Link := {}
  linkDn : Link := {}
  index : Nat := 0
  valid : Bool := false
  /-- the binding signed at start -/
  binding : Octets := []
  nextObject : Nat := 1
  nextSerial : Nat := 1
  nextJob : Nat := 0
  /-- jobs that wait for an answer, each with the pace at which its wait ends -/
  waits : List (Nat × RemoteWait) := []
  bundles : List BundleJob := []
  /-- the segment job that runs and those that wait -/
  segment : List SegmentJob := []
  peerings : Table Peering := []
  heard : List HeardOpen := []
  seq : BitVec 8 := 0
  linkLost : Bool := false
  refused : Bool := false
  authFail : Bool := false
  stale : Bool := false
  unroutable : Bool := false
deriving DecidableEq, Repr

/-! ### Sleep -/

/-- What the sleep image holds (R301, R361). -/
structure SleepImage where
  ctxs : Table Ctx
  laneTags : Table LaneId
  lanes : Table Lane
  /-- `LANE_QUOTA` registers -/
  quotas : Table W32
  handles : Table Handle
  uses : Table (BitVec 16)
  rcpt : Receipts
  writes : Table TileWrite
  /-- mileposts 3 to 7 and 24 to 31 -/
  miles : List (Nat × Milepost)
deriving DecidableEq, Repr

/-! ### The block -/

/-- Everything the spec gives the block, and the queue of commands that wait. -/
structure State where
  /-- commands waiting, first in first out -/
  pending : List Instr := []
  /-- the memory controller's deviating answers in the present step -/
  bus : Bus := []
  /-- number of the next value drawn from the random source (free values) -/
  rng : Nat := 0
  /-- number of the next value the spec leaves open (free values) -/
  free : Nat := 0
  pins : Pins := {}
  vlog : VLog := {}
  own : Own := {}
  cfg : Cfg := {}
  mbox : Table Channel := []
  pace : Pace := {}
  power : Power := {}
  /-- live counters by HOLDING offset (R123, R502) -/
  cnt : Table W64 := []
  lanes : Table Lane := []
  ctxs : Table Ctx := []
  /-- the lane tag file (R134) -/
  laneTags : Table LaneId := []
  cust : Cust := {}
  mapc : MapCache := {}
  tree : Meta := {}
  tiles : Tiles := {}
  bg : Bg := {}
  flt : Flt := {}
  /-- what the memory controller stores, by line address; an unlisted line reads 0 -/
  dram : Table Line := []
  keys : Keys := {}
  vault : Vault := {}
  otp : Otp := {}
  lc : Lc := {}
  tamper : Tamper := {}
  nvm : Nvm := {}
  boot : Boot := {}
  miles : Miles := {}
  rcpt : Receipts := {}
  rns : Rns := {}
  dig : Dig := {}
  relay : Relay := {}
  /-- the contents of the sleep image last written to memory -/
  sleepImage : Option SleepImage := none
  /-- page commands in progress -/
  pages : List PageJob := []
deriving DecidableEq, Repr

/-- The block right after reset: PORST_N applied, cold start not yet run (R59, R487). -/
def State.reset : State := {}

/-- No command of this block ends in a fault. -/
inductive Fault where
  /-- raised by no command: every violation, failing line and refusal has the answer the spec gives it (safe) -/
  | none
deriving DecidableEq, Repr

/-- Why a command has no meaning in this model. -/
inductive Refusal where
  /-- raised by `exec` for a command whose meaning is not written yet (safe: the machine stops) -/
  | notModelled (mnemonic : String)
deriving DecidableEq, Repr

end Sys2Proof.Machine
end

