-- ==== Sys2Proof/Machine/Ops.lean ====
section
/-!
DEFINITION. The named operations that every unit shares: reading and writing lanes, contexts, channels, registers and counters,
the violation log, doorbells and notices, answers and tickets, right of way.
-/

namespace Sys2Proof.Machine

open Sys2Proof

/-! ### When the block runs -/

/-- Whether the block runs: PORST_N is high and VDD_CORE and VDD_SRAM are present (R59, R60). -/
def powered (s : State) : Bool := s.pins.porstN && s.pins.vddCore

/-- The end of a command that turned s into t: the commands that wait, PORST_N and the supplies are as the surroundings have them, which
no command but their own changes, and no answer of the memory controller outlasts the step. -/
def ended (s t : State) : State :=
  { t with pending := s.pending, bus := []
           pins := { t.pins with porstN := s.pins.porstN, vddCore := s.pins.vddCore, vddVault := s.pins.vddVault } }

/-- A command's effect on a block that runs; a block held in reset or without supply takes no command (R59). -/
def live (s : State) (f : State → State) : Host.Outcome State Fault Refusal := .next (if powered s then ended s (f s) else s)

/-- A command whose own memory accesses the memory controller may answer otherwise than as stored (R28). -/
def onBus (s : State) (bus : Bus) (f : State → State) : Host.Outcome State Fault Refusal := live s (fun s => f { s with bus := bus })

/-! ### Time -/

/-- The low 32 bits of the elapsed-pace count, as logs and records stamp it (R107). -/
def nowWord (s : State) : W32 := BitVec.ofNat 32 s.pace.now

/-- Paces outside fault restarts: what the timeouts that R463 names count. -/
def clock (s : State) : Nat := s.pace.now - s.pace.held

/-! ### Free values -/

/-- The next value from the random source, with the state that has used it up (R276; log 4). -/
def drawRandom (s : State) : BitVec 512 × State := (Config.random s.rng, { s with rng := s.rng + 1 })

/-- The next value that the spec leaves open (log 4). -/
def drawFree (s : State) : W64 × State := (Config.freeValue s.free, { s with free := s.free + 1 })

/-! ### Counters (R123, R502) -/

/-- A live counter's value. -/
def counter (s : State) (off : Nat) : W64 := tget 0 s.cnt off

/-- A live counter raised by n, wrapping modulo 2^64. -/
def count (s : State) (off n : Nat) : State :=
  { s with cnt := tset 0 s.cnt off (counter s off + BitVec.ofNat 64 n) }

/-- A live counter cleared. -/
def clearCounter (s : State) (off : Nat) : State := { s with cnt := tset 0 s.cnt off 0 }

/-! ### Lanes and contexts -/

/-- A lane as reset leaves it: lane 0 is always OPEN (R128). -/
def laneReset (l : Nat) : Lane := if l = 0 then { state := .opened } else {}

/-- A lane. -/
def laneAt (s : State) (l : Nat) : Lane := tget (laneReset l) s.lanes l

/-- A lane written. -/
def setLane (s : State) (l : Nat) (v : Lane) : State := { s with lanes := tset (laneReset l) s.lanes l v }

/-- A context as reset leaves it: CTX 0 is always ACTIVE (R132). -/
def ctxReset (c : Nat) : Ctx := if c = 0 then { state := .active } else {}

/-- A context record. -/
def ctxAt (s : State) (c : Nat) : Ctx := tget (ctxReset c) s.ctxs c

/-- A context record written. -/
def setCtx (s : State) (c : Nat) (v : Ctx) : State := { s with ctxs := tset (ctxReset c) s.ctxs c v }

/-- Contexts of a lane that are ACTIVE or RELEASING (R159). CTX 0 is left out, so that CONTEXTS of lane 0 stands at its reset value: R132 has
CTX 0 ACTIVE in lane 0 from the start, R159's reset column gives 0 (DESIGN CHOICE, log 149). -/
def laneContexts (s : State) (l : Nat) : Nat :=
  tcount s.ctxs (fun c v => decide (c ≠ 0 ∧ v.lane.toNat = l) && (v.state == .active || v.state == .releasing))

/-! ### Registers that hold a value (R87, R487) -/

/-- The "else" value of a register with a named source, or 0 (R487). -/
def regElse (off : Nat) : W32 :=
  if off = 0x0440 then 0x02240258
  else if off = 0x0860 then 0x00000207
  else if off = 0x0870 then 0x01080010
  else if off = 0x087C then 0x000000F0
  else if off = 0x101C then 0x00042620
  else if off = 0x103C then 0x00000001
  else if off = 0x1044 then 0x00000100
  else if off = 0x301C then 0x00000008
  else if off = 0x3404 then 0x00004008
  else if off = 0x6004 then 0x00001040
  else 0

/-- Active value of a shadowed register. -/
def activeReg (s : State) (off : Nat) : W32 := tget (regElse off) s.cfg.active off
/-- Shadow value of a shadowed register. -/
def shadowReg (s : State) (off : Nat) : W32 := tget (regElse off) s.cfg.shadow off
/-- Value of an RW register that is not shadowed. -/
def plainReg (s : State) (off : Nat) : W32 := tget (regElse off) s.cfg.plain off
/-- Value of a register fixed by the route card. -/
def fixedReg (s : State) (off : Nat) : W32 := tget (regElse off) s.cfg.fixed off

/-- A shadow written. -/
def setShadow (s : State) (off : Nat) (v : W32) : State :=
  { s with cfg := { s.cfg with shadow := tset (regElse off) s.cfg.shadow off v } }
/-- An active value written, with its shadow (start applies the card to both). -/
def setBoth (s : State) (off : Nat) (v : W32) : State :=
  { s with cfg := { s.cfg with shadow := tset (regElse off) s.cfg.shadow off v,
                               active := tset (regElse off) s.cfg.active off v } }
/-- A register that is not shadowed written. -/
def setPlain (s : State) (off : Nat) (v : W32) : State :=
  { s with cfg := { s.cfg with plain := tset (regElse off) s.cfg.plain off v } }
/-- A register fixed by the card written. -/
def setFixed (s : State) (off : Nat) (v : W32) : State :=
  { s with cfg := { s.cfg with fixed := tset (regElse off) s.cfg.fixed off v } }

/-- The shadow group of an offset (R87), for the registers that the chapters mark as shadowed. -/
def groupOf (off : Nat) : Option Nat :=
  if off = 0x1008 then some 0
  else if 0x1400 ≤ off ∧ off < 0x1800 ∧ off % 16 = 0 then some 1
  else if (0x1100 ≤ off ∧ off < 0x1200 ∨ 0x1804 ≤ off ∧ off < 0x1900) ∧ off % 4 = 0 then some 2
  else if 0x0204 ≤ off ∧ off < 0x0300 ∧ off % 4 = 0 then some 3
  else if off = 0x0440 then some 4
  else if off = 0x0870 ∨ off = 0x087C ∨ off = 0x103C ∨ off = 0x1044 then some 5
  else if off = 0x6000 ∨ off = 0x6004 then some 6
  else if off = 0x0860 then some 7
  else none

/-- Bits of a word register that a write reaches; the others are reserved or RO (R8). -/
def writeMask (off : Nat) : W32 :=
  if off = 0x1008 then 0x01FFFFFF
  else if groupOf off = some 1 then 0xFFFF1FFF
  else if 0x1100 ≤ off ∧ off < 0x1200 then 0xBFBFBFBF
  else if 0x1804 ≤ off ∧ off < 0x1900 then 0x01FFFFFF
  else if groupOf off = some 3 then 0x0000007F
  else if off = 0x0440 then 0x0FFF03FF
  else if off = 0x0870 then 0x0F3F0FFF
  else if off = 0x087C then 0x000000FF
  else if off = 0x103C then 0x00000003
  else if off = 0x1044 then 0x00000FFF
  else if off = 0x6000 then 0x00000003
  else if off = 0x6004 then 0x0000FFFF
  else if off = 0x0860 then 0x00000F07
  else if off = 0x1A00 then 0x00003FFF
  else if 0x2040 ≤ off ∧ off < 0x2080 then 0x0000007F
  else if off = 0x301C then 0x0000007F
  else if off = 0x3404 then 0x0000FF3F
  else 0

/-- Offsets listed in either table of a shadowed register. -/
def shadowOffsets (s : State) : List Nat :=
  (s.cfg.active.map Prod.fst) ++ ((s.cfg.shadow.map Prod.fst).filter (fun o => !(s.cfg.active.map Prod.fst).contains o))

/-- Shadowed registers whose shadow differs from the active value. -/
def dirtyOffsets (s : State) : List Nat :=
  (shadowOffsets s).filter (fun o => decide (shadowReg s o ≠ activeReg s o))

/-- The lane that the active lane table binds a MID to (R129, R158). -/
def laneOfMid (s : State) (mid : Nat) : Option Nat :=
  let b := (activeReg s (0x1100 + 4 * (mid / 4)) >>> (8 * (mid % 4)))
  if bit b 7 then some (bits b 0 6) else none

/-! ### Right of way -/

/-- Whether a MID holds right of way (R78). -/
def isOwner (s : State) (mid : Mid) : Bool :=
  (s.own.phase == .owned || s.own.phase == .handover) && decide (s.own.mid = mid)

/-- The rank of a candidate. -/
def rankOf (s : State) (mid : Mid) : Option Nat := (s.own.cands.find? (fun c => decide (c.1 = mid))).map Prod.snd

/-- The best claim: the highest-ranked candidate that has claimed (R72). -/
def bestClaim (s : State) : Option (Mid × Nat) :=
  (s.own.cands.filter (fun c => s.own.claims.contains c.1)).foldl
    (fun b c => match b with
      | none => some c
      | some d => if c.2 < d.2 then some c else some d) none

/-! ### The violation log (R63, R64) -/

/-- Violation kinds (R66). -/
def kReqWithdrawn : BitVec 8 := 0x01
/-- BUNDLE_CHANGED -/
def kBundleChanged : BitVec 8 := 0x02
/-- REQ_STUCK -/
def kReqStuck : BitVec 8 := 0x03
/-- ACK_TIMEOUT -/
def kAckTimeout : BitVec 8 := 0x04
/-- EARLY_ACK -/
def kEarlyAck : BitVec 8 := 0x05
/-- BAD_FIELD -/
def kBadField : BitVec 8 := 0x06
/-- TAG_REUSE -/
def kTagReuse : BitVec 8 := 0x07
/-- UNSOLICITED -/
def kUnsolicited : BitVec 8 := 0x08
/-- BURST_EXCESS -/
def kBurstExcess : BitVec 8 := 0x09
/-- BURST_TIMEOUT -/
def kBurstTimeout : BitVec 8 := 0x0A
/-- BURST_SHORT -/
def kBurstShort : BitVec 8 := 0x0B
/-- PAIRED_WRITE -/
def kPairedWrite : BitVec 8 := 0x0C
/-- ACCESS_DENIED -/
def kAccessDenied : BitVec 8 := 0x0D
/-- NO_RESPONSE -/
def kNoResponse : BitVec 8 := 0x0E
/-- SIGNAL_RANGE -/
def kSignalRange : BitVec 8 := 0x0F

/-- Port codes (R65). -/
def pCustIn (ch : Fin 4) : BitVec 8 := BitVec.ofNat 8 (1 + ch.val)
/-- `CUST_OUT` -/
def pCustOut (ch : Fin 4) : BitVec 8 := BitVec.ofNat 8 (5 + ch.val)
/-- CTL -/
def pCtl : BitVec 8 := 0x09
/-- OTP_PORT -/
def pOtp : BitVec 8 := 0x0A
/-- RELAY_UP and RELAY_DN -/
def pRelay : Dir → BitVec 8
  | .up => 0x0B
  | .dn => 0x0C
/-- MASTER_EVENT -/
def pMasterEvent : BitVec 8 := 0x0D
/-- BUDGET_CAP -/
def pBudgetCap : BitVec 8 := 0x0E
/-- UPDATE_STROBE_IN -/
def pStrobeIn : BitVec 8 := 0x0F
/-- Test access port -/
def pTap : BitVec 8 := 0x10
/-- NVM pins -/
def pNvm : BitVec 8 := 0x11
/-- TEMPO -/
def pTempo : BitVec 8 := 0x12

/-- Entry k of the log. -/
def vEntry (v : VLog) (k : Nat) : VEntry := tget {} v.entries k

/-- The log with one occurrence: merged into the most recent entry where that matches, else written at HEAD (R63, R64). -/
def vlogAdd (v : VLog) (port kind : BitVec 8) (mid : Mid) (midv : Bool) (pace : W32) : VLog :=
  let last := (v.head - 1).toNat
  let e := vEntry v last
  let total : BitVec 16 := if v.total = 0xFFFF then v.total else v.total + 1
  if e.rep ≠ 0 ∧ e.port = port ∧ e.kind = kind ∧ e.mid = mid ∧ e.midv = midv then
    { v with entries := tset {} v.entries last { e with rep := if e.rep = 127 then 127 else e.rep + 1 },
             seq := v.seq + 1, total := total }
  else
    { v with entries := tset {} v.entries v.head.toNat
               { port := port, kind := kind, mid := mid, midv := midv, rep := 1, pace := pace },
             seq := v.seq + 1, head := v.head + 1,
             wrapped := v.wrapped || decide ((vEntry v v.head.toNat).rep ≠ 0), total := total }

/-- A violation logged; MIDV is 1 where a MID is known (R68). -/
def violate (s : State) (port kind : BitVec 8) (mid : Option Mid) : State :=
  { s with vlog := vlogAdd s.vlog port kind (mid.getD 0) mid.isSome (nowWord s) }

/-! ### Channels, doorbells and notices -/

/-- A port's REQ has fallen: its next bundle shows it (R68). -/
def reqFell (s : State) (port : BitVec 8) : State :=
  { s with vlog := { s.vlog with stuck := s.vlog.stuck.filter (fun p => decide (p ≠ port)) } }

/-- A channel. -/
def chanAt (s : State) (c : Nat) : Channel := tget {} s.mbox c
/-- A channel written. -/
def setChan (s : State) (c : Nat) (v : Channel) : State := { s with mbox := tset {} s.mbox c v }

/-- Whether a channel is direct (R90). -/
def isDirect (c : Nat) : Bool := decide (c < 16)

/-- The MID that holds a direct channel, or to which it is pinned. -/
def directHolder (v : Channel) : Option Mid := if v.pinned then some v.sender else v.holder

/-- Whether a channel is held, pinned or bound (R92). -/
def isActive (s : State) (c : Nat) : Bool :=
  let v := chanAt s c
  if isDirect c then (directHolder v).isSome else v.bound

/-- Whether a channel is an owner channel (R102). -/
def isOwnerChannel (s : State) (c : Nat) : Bool :=
  let v := chanAt s c
  if isDirect c then (match directHolder v with
    | some m => isOwner s m
    | none => false)
  else v.bound && isOwner s v.sender

/-- A channel's lane (R90, R91): of a bound channel its bound lane; of a direct one the lane at its last post, or before any post the
lane bound to its holder. -/
def channelLane (s : State) (c : Nat) : Option Nat :=
  let v := chanAt s c
  if isDirect c then
    match directHolder v with
    | none => none
    | some m =>
      match v.lastLane with
      | some l => l.map BitVec.toNat
      | none => laneOfMid s m.toNat
  else if v.bound ∧ v.lane ≠ 0 then some v.lane.toNat else none

/-- Channels that pass a test, in rising order. -/
def channelsWhere (s : State) (p : Nat → Bool) : List Nat := (s.mbox.map Prod.fst).filter p

/-- A latched doorbell bit raised on a channel (R101). -/
def raiseBell (s : State) (c b : Nat) : State :=
  let v := chanAt s c
  setChan s c { v with latched := v.latched ||| BitVec.ofNat 32 (2 ^ b) }

/-- A doorbell bit raised on several channels. -/
def raiseBells (s : State) (cs : List Nat) (b : Nat) : State := cs.foldl (fun t c => raiseBell t c b) s

/-- Doorbell bits (R101). -/
def bellSheet : Nat := 2
/-- SWEEP_DONE -/
def bellSweep : Nat := 3
/-- FAULT_NOTICE -/
def bellFault : Nat := 4
/-- OWNER_CHANGE -/
def bellOwner : Nat := 5
/-- UPDATE_STAGE -/
def bellStage : Nat := 6
/-- TAMPER_NOTICE -/
def bellTamper : Nat := 7

/-- The `DOORBELL` register: the latched bits with the two level bits (R101). -/
def doorbell (v : Channel) : W32 :=
  v.latched ||| flag 32 0 (!v.responses.isEmpty) ||| flag 32 1 (!v.notices.isEmpty)

/-- `DB_LINE[c]` (R43). -/
def dbLine (s : State) (c : Nat) : Bool := decide (doorbell (chanAt s c) &&& (chanAt s c).mask ≠ 0)

/-- A notice queued on a channel; a ninth is dropped (R98). -/
def queueNotice (s : State) (c : Nat) (ws : List W32) : State :=
  let v := chanAt s c
  if v.notices.length < 8 then setChan s c { v with notices := v.notices ++ [ws] }
  else setChan s c { v with noticeLost := true }

/-- A fault notice (R477): the bit rises on every active channel; the notice goes to the lane's channels and the owner channels, or
to every active channel. -/
def faultNotice (s : State) (notice : Nat) (lane : Option Nat) (page cnt : Nat) : State :=
  let act := channelsWhere s (isActive s)
  let to_ := match lane with
    | some l => act.filter (fun c => decide (channelLane s c = some l) || isOwnerChannel s c)
    | none => act
  let ws := [field 32 0 8 notice ||| field 32 8 6 (lane.getD 0) ||| flag 32 14 lane.isSome,
    field 32 0 24 page, BitVec.ofNat 32 cnt, nowWord s]
  to_.foldl (fun t c => queueNotice t c ws) (raiseBells s act bellFault)

/-! ### Answers and tickets (R95, R98) -/

/-- Global status codes (R99). -/
def stDone : BitVec 8 := 0x00
/-- ACCEPTED -/
def stAccepted : BitVec 8 := 0x01
/-- BUSY -/
def stBusy : BitVec 8 := 0x02
/-- NOT_OWNER -/
def stNotOwner : BitVec 8 := 0x03
/-- DENIED -/
def stDenied : BitVec 8 := 0x04
/-- BAD_OPCODE -/
def stBadOpcode : BitVec 8 := 0x05
/-- BAD_LENGTH -/
def stBadLength : BitVec 8 := 0x06
/-- BAD_FIELD -/
def stBadField : BitVec 8 := 0x07
/-- NO_SPACE -/
def stNoSpace : BitVec 8 := 0x08
/-- STALE_EPOCH -/
def stStaleEpoch : BitVec 8 := 0x09
/-- FAULTED -/
def stFaulted : BitVec 8 := 0x0A
/-- ABORTED -/
def stAborted : BitVec 8 := 0x0B
/-- PREEMPTED -/
def stPreempted : BitVec 8 := 0x0C
/-- TIMED_OUT -/
def stTimedOut : BitVec 8 := 0x0D
/-- LIFECYCLE -/
def stLifecycle : BitVec 8 := 0x0E
/-- RESTARTING -/
def stRestarting : BitVec 8 := 0x0F

/-- A response: word 0 echoes OPCODE and SEQ with LEN and FLAGS, word 1 holds STATUS (R95). -/
def response (w0 : W32) (ticketed : Bool) (st : BitVec 8) (payload : List W32) : List W32 :=
  [(w0 &&& 0xFFFFF000) ||| field 32 6 6 payload.length ||| 1 ||| flag 32 1 ticketed, field 32 0 8 st.toNat] ++ payload

/-- A response queued on a channel. -/
def pushResponse (s : State) (c : Nat) (ws : List W32) : State :=
  let v := chanAt s c
  setChan s c { v with responses := v.responses ++ [ws] }

/-- The running request of a channel answered. -/
def answerRunning (s : State) (c : Nat) (st : BitVec 8) (payload : List W32) : State :=
  let v := chanAt s c
  match v.running with
  | none => s
  | some r => setChan s c { v with running := none, responses := v.responses ++ [response r.w0 false st payload] }

/-- A ticket not in use. -/
def freeTicket (v : Channel) : Option Nat := firstBelow 16 (fun t => (tfind v.tickets t).isNone)

/-- The running request answered ACCEPTED with ticket t, whose job runs on (R98). -/
def acceptRunning (s : State) (c t : Nat) : State :=
  let v := chanAt s c
  match v.running with
  | none => s
  | some r =>
    let k : Ticket :=
      { op := BitVec.ofNat 12 (bits r.w0 20 12), seq := BitVec.ofNat 8 (bits r.w0 12 8), stamp := r.w1,
        status := none, result := [], cancel := false }
    setChan s c { v with
      running := none
      responses := v.responses ++ [response r.w0 true stAccepted [BitVec.ofNat 32 t]]
      tickets := tput v.tickets t k }

/-- A job ended: its status and result stand in its ticket and DOORBELL bit 16 + t is set (R98). -/
def endTicket (s : State) (c t : Nat) (st : BitVec 8) (result : List W32) : State :=
  let v := chanAt s c
  match tfind v.tickets t with
  | none => s
  | some k =>
    if k.status.isSome then s
    else
      let k' : Ticket := { k with status := some st, result := result, cancel := false }
      raiseBell (setChan s c { v with tickets := tput v.tickets t k' }) c (16 + t)

/-- What a request or job came to, given to whoever waits for it. -/
def finish (s : State) (w : Caller) (st : BitVec 8) (payload : List W32) : State :=
  match w with
  | .ticket c t => endTicket s c t st payload
  | .running c => answerRunning s c st payload

/-- Whether a ticket's job still runs. -/
def jobRuns (s : State) (c t : Nat) : Bool :=
  match tfind (chanAt s c).tickets t with
  | some k => k.status.isNone
  | none => false

/-- Whether someone still waits for a job. -/
def callerWaits (s : State) : Caller → Bool
  | .ticket c t => jobRuns s c t
  | .running c => (chanAt s c).running.isSome

/-- A requester that a master reset has taken away; its jobs end at their next commit point (R103). -/
def gone : Caller := .ticket 129 0

/-- Whether a job's cancellation waits for its next commit point (R98). -/
def cancelled (s : State) : Caller → Bool
  | .ticket c t => decide (c = 129) || (match tfind (chanAt s c).tickets t with
    | some k => k.cancel
    | none => false)
  | .running _ => false

/-- Word 1 of the request behind a caller. -/
def callerStamp (s : State) : Caller → W32
  | .ticket c t => match tfind (chanAt s c).tickets t with
    | some k => k.stamp
    | none => 0
  | .running c => match (chanAt s c).running with
    | some r => r.w1
    | none => 0

/-! ### Mileposts (R359) -/

/-- An extend requested: it joins the queue. -/
def requestExtend (s : State) (j : Nat) (d : Octets) : State :=
  { s with miles := { s.miles with queue := s.miles.queue ++ [{ mp := j, d := d, slot := none }] } }

/-! ### Changes of owner (R76) -/

/-- Code of a phase (R78). -/
def phaseCode : Phase → Nat
  | .start => 0
  | .window => 1
  | .owned => 2
  | .opened => 3
  | .handover => 4
  | .noCandidate => 5

/-- Whether some master holds right of way. -/
def hasOwner (s : State) : Bool := s.own.phase == .owned || s.own.phase == .handover

/-- The `OWNER` register (R78). -/
def ownerWord (s : State) : W32 :=
  field 32 0 8 s.own.mid.toNat ||| flag 32 8 (hasOwner s) ||| field 32 9 3 (phaseCode s.own.phase)
    ||| field 32 12 8 s.own.successor.toNat ||| field 32 20 8 s.own.gen.toNat

/-- Every shadow returned to its active value (R76). -/
def dropShadows (s : State) : State := { s with cfg := { s.cfg with shadow := s.cfg.active } }

/-- Waiting requests stamped as coming from the owner lose what the stamp gave them. -/
def stampsLost (s : State) : State :=
  { s with mbox := s.mbox.map (fun e =>
      (e.1, { e.2 with waiting := e.2.waiting.map (fun r => if bit r.w1 15 then { r with lostOwner := true } else r) })) }

/-- The effects that every change of owner has. -/
def ownerChanged (s0 : State) : State :=
  let s := stampsLost s0
  let s1 := dropShadows { s with own := { s.own with gen := s.own.gen + 1 } }
  requestExtend (raiseBells s1 (channelsWhere s1 (isActive s1)) bellOwner) 6 (beOctets 4 (ownerWord s1).toNat)

/-- A master takes right of way. -/
def takeRightOfWay (s : State) (mid : Mid) : State :=
  ownerChanged { s with own := { s.own with mid := mid, phase := .owned, successor := 0, remaining := 0, claims := [] } }

/-- Right of way vacated: a new window of 8,192 paces opens (R74, R75). -/
def vacate (s : State) : State :=
  ownerChanged { s with own := { s.own with mid := 0, phase := .window, successor := 0, remaining := 8192, claims := [] } }

/-- The window closes: the best claim wins, or the phase becomes OPEN (R72, R73). -/
def closeWindow (s : State) : State :=
  match bestClaim s with
  | some c => takeRightOfWay s c.1
  | none => { s with own := { s.own with phase := .opened, remaining := 0, claims := [] } }

/-- The election window opens at the end of cold start; with no candidate the phase is NONE (R69, R70). -/
def openWindow (s : State) : State :=
  if s.own.cands.isEmpty then { s with own := { s.own with phase := .noCandidate, remaining := 0 } }
  else { s with own := { s.own with phase := .window, remaining := 8192, claims := [] } }

/-- A window or handover whose REMAINING has reached 0 is settled (R72, R74). -/
def settleOwner (s : State) : State :=
  if s.own.remaining ≠ 0 then s
  else if s.own.phase == .window then closeWindow s
  else if s.own.phase == .handover then { s with own := { s.own with phase := .owned, successor := 0 } }
  else s

end Sys2Proof.Machine
end

