-- ==== Sys2Proof/Machine/Calibration.lean ====
section
/-!
DEFINITION. The pace calibration (R108 to R111) and the budget cap (R52, R114).
-/

namespace Sys2Proof.Machine

open Sys2Proof

/-- TEMPO's nominal frequency in kHz (R113); 0 where none is declared. -/
def tempoKhz (s : State) : Nat := bits (fixedReg s 0x0418) 0 18

/-- A calibration started: step 1 of R108. -/
def startCalibration (s : State) : State :=
  { s with pace := { s.pace with running := true, counting := false, calSince := s.pace.now, calHeld := false } }

/-- A calibration trigger (R109): held while a calibration runs; without a declared frequency nothing runs. -/
def triggerCalibration (s : State) : State :=
  if tempoKhz s = 0 then s
  else if s.pace.running then { s with pace := { s.pace with calHeld := true } }
  else startCalibration s

/-- The end of a calibration, with a held trigger starting the next one (R109). -/
def endCalibration (s : State) : State :=
  let s1 := { s with pace := { s.pace with running := false, counting := false } }
  if s1.pace.calHeld then startCalibration s1 else s1

/-- W: TEMPO cycles in 2^-10 s (R108). -/
def tempoCycles (khz : Nat) : Nat := roundDiv (khz * 1000) 1024

/-- The new PERIODS from the count C (R108, step 3). -/
def newTrim (khz c : Nat) : Nat := roundDiv (c * khz * 1000) (tempoCycles khz * 2 ^ 20)

/-- RAW_PACE from the count C: the untrimmed pace in units of 2^-35 s, limited to 0x0001 to 0xFFFF (R108, step 3). -/
def rawPaceOf (khz c : Nat) : Nat := max 1 (min 0xFFFF (roundDiv (tempoCycles khz * 2 ^ 45) (c * khz * 1000)))

/-- Whether the measured untrimmed pace, 1,024 periods, lies within 0.6 µs to 1.6 µs (R54, R111; DEDUCED, log 15). -/
def paceInRange (khz c : Nat) : Bool :=
  let num := 1024 * tempoCycles khz * 10 ^ 7
  let den := c * khz * 1000
  decide (0 < c ∧ 6 * den ≤ num ∧ num ≤ 16 * den)

/-- NVM_SCK after calibration: the lower of 200 MHz and the highest rate that SFDP reports for the mode in use (R44). -/
def raiseSck (s : State) : State := { s with nvm := { s.nvm with sckMhz := min 200 (s.nvm.rates.getD s.nvm.mode 12) } }

/-- The effect of a finished count (R108, steps 3 and 4). -/
def finishCount (s : State) (c : Nat) : State :=
  let f := tempoKhz s
  let raw : BitVec 16 := if c = 0 then 0xFFFF else BitVec.ofNat 16 (rawPaceOf f c)
  let p := { s.pace with rawPace := raw }
  if paceInRange f c then
    endCalibration (raiseSck { s with pace := { p with
      newPeriods := some (BitVec.ofNat 12 (newTrim f c)), calibrated := true, stepPending := false,
      calCount := p.calCount + 1, lastCal := some (s.pace.now, p.vddMv, p.tj) } })
  else
    endCalibration (violate { s with pace := { p with discarded := true, seq := p.seq + 1 } } pTempo kSignalRange none)

/-- CALIBRATION_PERIOD (R109). -/
def execCalibrationPeriod (s : State) : Host.Outcome State Fault Refusal :=
  live s (fun s => match s.pace.lastCal with
    | some (p, _) => if p + 67108864 ≤ s.pace.now then triggerCalibration s else s
    | none => s)

/-- CALIBRATION_COUNT_START (R108, step 1): within 2,048 paces of the trigger. -/
def execCalibrationCountStart (s : State) : Host.Outcome State Fault Refusal :=
  live s (fun s =>
    if s.pace.running && !s.pace.counting && decide (s.pace.now ≤ s.pace.calSince + 2048) then
      { s with pace := { s.pace with counting := true, calSince := s.pace.now } }
    else s)

/-- CALIBRATION_COUNT_END (R108, steps 2 to 4). -/
def execCalibrationCountEnd (count : BitVec 32) (s : State) : Host.Outcome State Fault Refusal :=
  live s (fun s => if s.pace.running && s.pace.counting then finishCount s count.toNat else s)

/-- CALIBRATION_ABANDONED (R110): no edge within 2,048 paces. -/
def execCalibrationAbandoned (s : State) : Host.Outcome State Fault Refusal :=
  live s (fun s =>
    if s.pace.running && decide (s.pace.calSince + 2048 ≤ s.pace.now) then
      endCalibration (violate { s with pace := { s.pace with tempoAbsent := true, seq := s.pace.seq + 1 } }
        pTempo kSignalRange none)
    else s)

/-- B, the effective budget in permits (R114). -/
def effectiveBudget (s : State) : Nat :=
  let b := min (bits (activeReg s 0x0440) 0 10) (4 * s.power.cap.toNat)
  max 63 (min 600 b)

/-- BUDGET_CAP (R52): the value is taken; CAP_LOWERED records that it lowered B (R122). -/
def execBudgetCap (cap : BitVec 8) (s : State) : Host.Outcome State Fault Refusal :=
  live s (fun s =>
    let s1 := reqFell { s with power := { s.power with cap := cap } } pBudgetCap
    if effectiveBudget s1 < effectiveBudget s then
      { s1 with power := { s1.power with capLowered := true, seq := s1.power.seq + 1 } }
    else s1)

end Sys2Proof.Machine
end

