-- ==== Sys2Proof/Machine/RightOfWay.lean ====
section
/-!
DEFINITION. Right of way (R69 to R78) and paired writes (R84): arming a half, its expiry, the actions of OWNER_CLAIM, the timers.
-/

namespace Sys2Proof.Machine

open Sys2Proof

/-- The PW registers: OWNER_CLAIM and ACCT_CLEAR (R78, R127). -/
def isPaired (off : Nat) : Bool := off == 0x0014 || off == 0x6800

/-- Whether a MID may write OWNER_CLAIM: the owner, a candidate, the successor (R80). -/
def mayClaim (s : State) (mid : Mid) : Bool :=
  isOwner s mid || (rankOf s mid).isSome || (s.own.phase == .handover && decide (s.own.successor = mid))

/-- Whether a MID may write this PW register; ACCT_CLEAR is the owner's alone (R80, R127). -/
def mayPair (s : State) (mid : Mid) (off : Nat) : Bool := if off = 0x0014 then mayClaim s mid else isOwner s mid

/-- What every CTL access shows: REQ has fallen since the last one (R68). -/
def ctlFell (s : State) : State := reqFell s pCtl

/-- A CTL access that wrote: CTL_RDATA is zero for writes (R41). -/
def ctlWrote (s : State) : State := let t := ctlFell s; { t with pins := { t.pins with ctlRdata := 0 } }

/-- A CTL read's data (R41). -/
def ctlRead (s : State) (w : W32) : State := let t := ctlFell s; { t with pins := { t.pins with ctlRdata := w } }

/-- A master whose reset is asserted reaches no register (R75). -/
def canAct (s : State) (mid : Mid) : Bool := !s.own.inReset.contains mid

/-- A MID's armed half dropped. -/
def disarm (s : State) (mid : Mid) : State := { s with cfg := { s.cfg with armed := tdel s.cfg.armed mid.toNat } }

/-- Whether an armed half has stood longer than 64 paces. -/
def halfExpired (s : State) (a : Armed) : Bool := decide (a.at_ + 64 < clock s)

/-- An armed half that has expired is disarmed and logged (R84). -/
def expireHalf (s : State) (mid : Mid) : State :=
  match tfind s.cfg.armed mid.toNat with
  | some a => if halfExpired s a then violate (disarm s mid) pCtl kPairedWrite (some mid) else s
  | none => s

/-- The first half of a paired write armed (R84). -/
def armHalf (s : State) (mid : Mid) (off : Nat) (v : W32) : State :=
  let s1 := expireHalf s mid
  { s1 with cfg := { s1.cfg with armed := tput s1.cfg.armed mid.toNat { off := off, value := v, at_ := clock s1 } } }

/-- The second half of a paired write: the value where it completes, else nothing, logged (R84). -/
def completePair (s : State) (mid : Mid) (off : Nat) (v : W32) : Option W32 × State :=
  let s1 := expireHalf s mid
  match tfind s1.cfg.armed mid.toNat with
  | some a =>
    if a.off = off ∧ v = ~~~a.value then (some a.value, disarm s1 mid)
    else (none, violate (disarm s1 mid) pCtl kPairedWrite (some mid))
  | none => (none, violate s1 pCtl kPairedWrite (some mid))

/-- An action refused: nothing changes and ACCESS_DENIED is logged (R71). -/
def refuseAction (s : State) (mid : Mid) : State := violate s pCtl kAccessDenied (some mid)

/-- The highest rank that the card lists. -/
def topRank (s : State) : Nat := s.own.cands.foldl (fun a c => min a c.2) 8

/-- CLAIM (R72, R73, R75). -/
def claimAction (s : State) (mid : Mid) : State :=
  match rankOf s mid with
  | none => refuseAction s mid
  | some r =>
    if s.own.phase = .window then
      if s.own.claims.contains mid then s
      else if r = topRank s then takeRightOfWay s mid
      else { s with own := { s.own with claims := s.own.claims ++ [mid] } }
    else if s.own.phase = .opened then takeRightOfWay s mid
    else refuseAction s mid

/-- NAME (R74). -/
def nameAction (s : State) (mid target : Mid) : State :=
  if isOwner s mid then
    if target = mid then
      if s.own.phase = .handover then { s with own := { s.own with phase := .owned, successor := 0, remaining := 0 } }
      else s
    else if (rankOf s target).isSome then
      { s with own := { s.own with phase := .handover, successor := target, remaining := 4096 } }
    else refuseAction s mid
  else refuseAction s mid

/-- CONFIRM (R74). -/
def confirmAction (s : State) (mid : Mid) : State :=
  if s.own.phase = .handover ∧ s.own.successor = mid then takeRightOfWay s mid else refuseAction s mid

/-- RESIGN (R74). -/
def resignAction (s : State) (mid : Mid) : State := if isOwner s mid then vacate s else refuseAction s mid

/-- The action that a completed OWNER_CLAIM value asks for (R71). -/
def ownerAction (s : State) (mid : Mid) (v : W32) : State :=
  let s1 := settleOwner s
  let act := bits v 0 8
  let target : Mid := BitVec.ofNat 8 (bits v 8 8)
  if bits v 16 16 ≠ 0x57A7 then refuseAction s1 mid
  else if act ≠ 2 ∧ target ≠ 0 then refuseAction s1 mid
  else if act = 1 then claimAction s1 mid
  else if act = 2 then nameAction s1 mid target
  else if act = 3 then confirmAction s1 mid
  else if act = 4 then resignAction s1 mid
  else refuseAction s1 mid

/-- The complement half of OWNER_CLAIM captured (R71, R80, R84). -/
def ownerClaimComplement (s : State) (mid : Mid) (v : W32) : State :=
  if !mayClaim s mid then refuseAction s mid
  else match completePair s mid 0x0014 v with
  | (some w, s1) => ownerAction s1 mid w
  | (none, s1) => s1

/-- Whether a row for one action is the one that the armed half names; a half armed for another action belongs to another row (log 1). -/
def rowMatches (s : State) (mid : Mid) (act : Nat) : Bool :=
  match tfind s.cfg.armed mid.toNat with
  | some a => decide (a.off ≠ 0x0014) || decide (bits a.value 0 8 = act)
  | none => true

/-- A row of one owner action. -/
def ownerRow (act : Nat) (mid : Mid) (v : W32) (s : State) : State :=
  if canAct s mid && rowMatches s mid act then ctlWrote (ownerClaimComplement s mid v) else s

/-- CLAIM (R72). -/
def execClaim (mid : Mid) (data : W32) (s : State) : Host.Outcome State Fault Refusal :=
  live s (fun s => ownerRow 1 mid data s)

/-- NAME (R74). -/
def execName (mid : Mid) (data : W32) (s : State) : Host.Outcome State Fault Refusal :=
  live s (fun s => ownerRow 2 mid data s)

/-- CONFIRM (R74). -/
def execConfirm (mid : Mid) (data : W32) (s : State) : Host.Outcome State Fault Refusal :=
  live s (fun s => ownerRow 3 mid data s)

/-- RESIGN (R74). -/
def execResign (mid : Mid) (data : W32) (s : State) : Host.Outcome State Fault Refusal :=
  live s (fun s => ownerRow 4 mid data s)

/-- ELECTION_WINDOW_CLOSE (R72, R73): acts once REMAINING is 0 in WINDOW. -/
def execElectionWindowClose (s : State) : Host.Outcome State Fault Refusal :=
  live s (fun s => if s.own.phase = .window ∧ s.own.remaining = 0 then closeWindow s else s)

/-- HANDOVER_EXPIRE (R74): acts once REMAINING is 0 in HANDOVER. -/
def execHandoverExpire (s : State) : Host.Outcome State Fault Refusal :=
  live s (fun s => if s.own.phase = .handover ∧ s.own.remaining = 0 then
    { s with own := { s.own with phase := .owned, successor := 0 } } else s)

/-- PAIRED_WRITE_ARM (R84): the first half, written to the register's own address. -/
def execPairedWriteArm (mid : Mid) (off : BitVec 14) (data : W32) (s : State) : Host.Outcome State Fault Refusal :=
  let o := 4 * off.toNat
  live s (fun s => if !canAct s mid || !isPaired o then s
    else ctlWrote (if mayPair s mid o then armHalf s mid o data else refuseAction s mid))

/-- PAIRED_WRITE_EXPIRE (R84): acts once more than 64 paces have passed. -/
def execPairedWriteExpire (mid : Mid) (s : State) : Host.Outcome State Fault Refusal :=
  live s (fun s => expireHalf s mid)

/-- RESET_RELEASED (R53, R75). -/
def execResetReleased (mid : Mid) (s : State) : Host.Outcome State Fault Refusal :=
  live s (fun s =>
    let s1 := reqFell s pMasterEvent
    { s1 with own := { s1.own with inReset := s1.own.inReset.filter (fun m => decide (m ≠ mid)) } })

/-- ME_KIND_RESERVED (R68): no event is recorded; BAD_FIELD is logged with the captured MID. -/
def execMeKindReserved (mid : Mid) (s : State) : Host.Outcome State Fault Refusal :=
  live s (fun s => violate (reqFell s pMasterEvent) pMasterEvent kBadField (some mid))

end Sys2Proof.Machine
end

