-- ==== Sys2Proof/Machine/Channels.lean ====
section
/-!
DEFINITION. The channel windows: composing and posting a request, popping responses, doorbells and channel actions (R90 to R95, R101).
-/

namespace Sys2Proof.Machine

open Sys2Proof

/-- Slots of a channel in use: the message being composed, waiting and running requests, unread responses (R92). -/
def slotsUsed (v : Channel) : Nat :=
  (if v.compose.isEmpty then 0 else 1) + v.waiting.length + (if v.running.isSome then 1 else 0) + v.responses.length

/-- Whether a MID may send on a channel, taking a free direct channel by its word 0 (R90, R91). -/
def maySend (s : State) (mid : Mid) (c : Nat) : Bool :=
  let v := chanAt s c
  if isDirect c then
    (if v.pinned then decide (v.sender = mid) else (match v.holder with
      | some m => decide (m = mid)
      | none => true))
  else v.bound && decide (v.sender = mid)

/-- Whether a MID may read a channel and write its other registers (R80, R90, R91). -/
def mayUse (s : State) (mid : Mid) (c : Nat) : Bool :=
  let v := chanAt s c
  if isDirect c then decide (directHolder v = some mid)
  else v.bound && (decide (v.sender = mid) || decide (v.watcher = mid))

/-- Word 1 as the block stamps it (R95). -/
def stampWord (s : State) (mid : Mid) (c : Nat) (lane : Option Nat) : W32 :=
  field 32 0 8 mid.toNat ||| field 32 8 6 (lane.getD 0) ||| flag 32 14 lane.isSome ||| flag 32 15 (isOwner s mid)
    ||| flag 32 16 (chanAt s c).bound ||| field 32 17 7 c

/-- A complete message posted (R93). -/
def postRequest (s : State) (mid : Mid) (c : Nat) (ws : List W32) : State :=
  let v := chanAt s c
  let lane := if isDirect c then laneOfMid s mid.toNat else if v.lane = 0 then none else some v.lane.toNat
  let r : Req := { w0 := ws.headD 0, w1 := stampWord s mid c lane, payload := ws.drop 1, at_ := s.pace.now }
  setChan s c { v with compose := [], waiting := v.waiting ++ [r],
                       lastLane := if isDirect c then some (lane.map (BitVec.ofNat 6)) else v.lastLane }

/-- A message discarded for a gap of more than 4,096 paces (R93). -/
def dropCompose (s : State) (c : Nat) (mid : Option Mid) : State :=
  violate (setChan s c { chanAt s c with compose := [] }) pCtl kBurstTimeout mid

/-- The sender of the message being composed. -/
def composer (v : Channel) (c : Nat) : Option Mid := if isDirect c then directHolder v else some v.sender

/-- A free direct channel taken by the MID whose word 0 arrives (R90). -/
def takeChannel (s : State) (mid : Mid) (c : Nat) : State :=
  let v := chanAt s c
  if isDirect c && !v.pinned && v.holder.isNone then setChan s c { v with holder := some mid } else s

/-- A push of word 0 (R94): it takes a slot. -/
def pushFirst (s : State) (mid : Mid) (c : Nat) (w : W32) : State :=
  let v := chanAt s c
  let len := bits w 6 6
  if 4 ≤ slotsUsed v then setChan s c { v with overrun := true, discarding := true }
  else if 14 < len then
    setChan s c { v with discarding := true, responses := v.responses ++ [response w false stBadLength []] }
  else if len = 0 then postRequest (setChan s c v) mid c [w]
  else setChan s c { v with compose := [w], lastPush := clock s }

/-- A push of a later word; the last one posts the request (R93). -/
def pushNext (s : State) (mid : Mid) (c : Nat) (w : W32) : State :=
  let v := chanAt s c
  let ws := v.compose ++ [w]
  if bits (v.compose.headD 0) 6 6 + 1 ≤ ws.length then postRequest s mid c ws
  else setChan s c { v with compose := ws, lastPush := clock s }

/-- Whether the message being composed has waited more than 4,096 paces. -/
def composeLate (s : State) (c : Nat) : Bool :=
  let v := chanAt s c
  !v.compose.isEmpty && decide (v.lastPush + 4096 < clock s)

/-- A push into `MSG_IN` (R93, R94). A word pushed while the channel is free is a word 0: it takes the channel even where DISCARDING, left
by the last holder, discards it (R90). -/
def pushWord (s : State) (mid : Mid) (c : Nat) (w : W32) : State :=
  if maySend s mid c then
    let s1 := takeChannel (if composeLate s c then dropCompose s c (some mid) else s) mid c
    let v := chanAt s1 c
    if v.discarding then s1
    else if v.compose.isEmpty then pushFirst s1 mid c w
    else pushNext s1 mid c w
  else refuseAction s mid

/-- A pop of `MSG_OUT`: the word read and the state after (R92). -/
def popWord (s : State) (mid : Mid) (c : Nat) : W32 × State :=
  let v := chanAt s c
  if mayUse s mid c then
    match v.responses with
    | [] => (0, s)
    | [] :: rest => (0, setChan s c { v with responses := rest })
    | [w] :: rest => (w, setChan s c { v with responses := rest })
    | (w :: ws) :: rest => (w, setChan s c { v with responses := ws :: rest })
  else (0, s)

/-- Doorbell bits cleared by a write of `DB_CLEAR`; the level bits and reserved bits are ignored (R101). -/
def clearBells (s : State) (c : Nat) (w : W32) : State :=
  let v := chanAt s c
  setChan s c { v with latched := v.latched &&& ~~~(w &&& 0xFFFF00FC) }

/-- FLUSH (R92). -/
def flushChannel (s : State) (c : Nat) : State :=
  setChan s c { chanAt s c with compose := [], discarding := false, overrun := false, noticeLost := false }

/-- RELEASE under R90. The spec names no other effect: OVERRUN, NOTICE_LOST, DISCARDING, queued notices, latched bells and DB_MASK stay for
the next holder (DESIGN CHOICE, log 148). -/
def releaseChannel (s : State) (c : Nat) : State :=
  let v := chanAt s c
  if isDirect c && !v.pinned && v.compose.isEmpty && v.waiting.isEmpty && v.running.isNone && v.responses.isEmpty
      && v.tickets.isEmpty then
    setChan s c { v with holder := none, lastLane := none }
  else s

/-- DROP_RESPONSES (R92). -/
def dropResponses (s : State) (c : Nat) : State := setChan s c { chanAt s c with responses := [] }

/-- A write to a channel register other than `MSG_IN`: done for a master that may use the channel, else ACCESS_DENIED (R80). -/
def channelWrite (s : State) (mid : Mid) (c : Nat) (f : State → State) : State :=
  if mayUse s mid c then f s else refuseAction s mid

/-- A masked write of `CH_CONTROL` (R83, R92): FLUSH, RELEASE, DROP_RESPONSES. -/
def controlWrite (s : State) (c : Nat) (w : W32) : State :=
  let on (i : Nat) : Bool := bit w (16 + i) && bit w i
  let s1 := if on 0 then flushChannel s c else s
  let s2 := if on 2 then dropResponses s1 c else s1
  if on 1 then releaseChannel s2 c else s2

/-- `CH_STATUS` (R92). -/
def chStatus (v : Channel) : W32 :=
  field 32 0 3 (v.waiting.length + (if v.running.isSome then 1 else 0)) ||| field 32 3 3 v.responses.length
    ||| field 32 6 3 (4 - slotsUsed v) ||| field 32 9 4 v.compose.length ||| flag 32 13 (!v.compose.isEmpty)
    ||| flag 32 14 v.discarding ||| flag 32 15 v.overrun ||| field 32 16 4 v.notices.length ||| flag 32 20 v.noticeLost

/-- `CH_BINDING` (R92). -/
def chBinding (s : State) (c : Nat) : W32 :=
  let v := chanAt s c
  let lane := channelLane s c
  let snd : Mid := if isDirect c then (directHolder v).getD 0 else v.sender
  let wat : Mid := if isDirect c then snd else v.watcher
  field 32 0 8 snd.toNat ||| field 32 8 8 wat.toNat ||| field 32 16 6 (lane.getD 0) ||| flag 32 22 lane.isSome
    ||| flag 32 23 v.bound ||| flag 32 24 (isActive s c) ||| flag 32 25 v.pinned

/-- MSG_IN (R93). -/
def execMsgIn (mid : Mid) (c : Fin 128) (data : W32) (s : State) : Host.Outcome State Fault Refusal :=
  live s (fun s => if canAct s mid then ctlWrote (pushWord s mid c.val data) else s)

/-- MSG_OUT (R92). -/
def execMsgOut (mid : Mid) (c : Fin 128) (s : State) : Host.Outcome State Fault Refusal :=
  live s (fun s => if canAct s mid then (let p := popWord s mid c.val; ctlRead p.2 p.1) else s)

/-- DB_CLEAR (R101). -/
def execDbClear (mid : Mid) (c : Fin 128) (data : W32) (s : State) : Host.Outcome State Fault Refusal :=
  live s (fun s => if canAct s mid then ctlWrote (channelWrite s mid c.val (fun t => clearBells t c.val data)) else s)

/-- FLUSH (R92). -/
def execFlush (mid : Mid) (c : Fin 128) (s : State) : Host.Outcome State Fault Refusal :=
  live s (fun s => if canAct s mid then ctlWrote (channelWrite s mid c.val (fun t => flushChannel t c.val)) else s)

/-- RELEASE (R90). -/
def execRelease (mid : Mid) (c : Fin 128) (s : State) : Host.Outcome State Fault Refusal :=
  live s (fun s => if canAct s mid then ctlWrote (channelWrite s mid c.val (fun t => releaseChannel t c.val)) else s)

/-- DROP_RESPONSES (R92). -/
def execDropResponses (mid : Mid) (c : Fin 128) (s : State) : Host.Outcome State Fault Refusal :=
  live s (fun s => if canAct s mid then ctlWrote (channelWrite s mid c.val (fun t => dropResponses t c.val)) else s)

end Sys2Proof.Machine
end

