-- ==== Sys2Proof/Machine/Cbor.lean ====
section
/-!
DEFINITION. CBOR (RFC 8949) as packages, sheets, waybills and peer messages use it: definite lengths, no tags but where a reader
asks for one, no floating-point values; and COSE headers and structures (RFC 9052).
-/

namespace Sys2Proof.Machine

open Sys2Proof

/-- A CBOR data item. -/
inductive Cbor where
  | uint (n : Nat)
  /-- the integer −1 − n -/
  | nint (n : Nat)
  | bytes (o : Octets)
  | text (o : Octets)
  | array (l : List Cbor)
  | map (l : List (Cbor × Cbor))
  | tag (n : Nat) (v : Cbor)
  | simple (n : Nat)
deriving Repr

/-- A head: major type and argument in the shortest form. -/
def cborHead (major n : Nat) : Octets :=
  let m := 32 * major
  if n < 24 then [BitVec.ofNat 8 (m + n)]
  else if n < 256 then BitVec.ofNat 8 (m + 24) :: beOctets 1 n
  else if n < 65536 then BitVec.ofNat 8 (m + 25) :: beOctets 2 n
  else if n < 4294967296 then BitVec.ofNat 8 (m + 26) :: beOctets 4 n
  else BitVec.ofNat 8 (m + 27) :: beOctets 8 n

/-- An unsigned integer. -/
def cborUint (n : Nat) : Octets := cborHead 0 n
/-- An integer. -/
def cborInt (i : Int) : Octets := if 0 ≤ i then cborHead 0 i.toNat else cborHead 1 (-1 - i).toNat
/-- A byte string. -/
def cborBytes (o : Octets) : Octets := cborHead 2 o.length ++ o
/-- A text string. -/
def cborText (s : String) : Octets := cborHead 3 (ascii s).length ++ ascii s
/-- An array of encoded items. -/
def cborArray (l : List Octets) : Octets := cborHead 4 l.length ++ l.flatten
/-- A map of encoded pairs. -/
def cborMap (l : List (Octets × Octets)) : Octets := cborHead 5 l.length ++ l.flatMap (fun p => p.1 ++ p.2)
/-- A boolean. -/
def cborBool (b : Bool) : Octets := if b then [0xF5] else [0xF4]
/-- A tagged item. -/
def cborTag (n : Nat) (o : Octets) : Octets := cborHead 6 n ++ o

/-- A head read: major type, argument, and the octets after it; nothing for reserved and indefinite forms. -/
def cborReadHead : Octets → Option (Nat × Nat × Octets)
  | [] => none
  | b :: rest =>
    let major := b.toNat / 32
    let a := b.toNat % 32
    let long (k : Nat) : Option (Nat × Nat × Octets) :=
      if rest.length < k then none else some (major, ofBe (rest.take k), rest.drop k)
    if a < 24 then some (major, a, rest)
    else if a = 24 then long 1
    else if a = 25 then (if major = 7 then none else long 2)
    else if a = 26 then (if major = 7 then none else long 4)
    else if a = 27 then (if major = 7 then none else long 8)
    else none

mutual

/-- One item read; fuel bounds the nesting and the number of items. -/
def cborRead : Nat → Octets → Option (Cbor × Octets)
  | 0, _ => none
  | f + 1, o =>
    match cborReadHead o with
    | none => none
    | some (major, n, rest) =>
      match major with
      | 0 => some (.uint n, rest)
      | 1 => some (.nint n, rest)
      | 2 => if rest.length < n then none else some (.bytes (rest.take n), rest.drop n)
      | 3 => if rest.length < n then none else some (.text (rest.take n), rest.drop n)
      | 4 => if rest.length < n then none else (cborReadList f n rest).map (fun r => (.array r.1, r.2))
      | 5 => if rest.length < 2 * n then none else (cborReadPairs f n rest).map (fun r => (.map r.1, r.2))
      | 6 => (cborRead f rest).map (fun r => (.tag n r.1, r.2))
      | _ => some (.simple n, rest)

/-- n items read. -/
def cborReadList : Nat → Nat → Octets → Option (List Cbor × Octets)
  | _, 0, o => some ([], o)
  | 0, _ + 1, _ => none
  | f + 1, n + 1, o =>
    match cborRead f o with
    | none => none
    | some (v, rest) => (cborReadList f n rest).map (fun r => (v :: r.1, r.2))

/-- n pairs read. -/
def cborReadPairs : Nat → Nat → Octets → Option (List (Cbor × Cbor) × Octets)
  | _, 0, o => some ([], o)
  | 0, _ + 1, _ => none
  | f + 1, n + 1, o =>
    match cborRead f o with
    | none => none
    | some (k, rest) =>
      match cborRead f rest with
      | none => none
      | some (v, rest2) => (cborReadPairs f n rest2).map (fun r => ((k, v) :: r.1, r.2))

end

/-- One item that takes up a whole string. -/
def cborDecode (o : Octets) : Option Cbor :=
  match cborRead (2 * o.length + 2) o with
  | some (v, []) => some v
  | _ => none

mutual

/-- Whether an item holds a tag or a simple value. -/
def Cbor.hasTag : Cbor → Bool
  | .tag _ _ => true
  | .simple _ => true
  | .array l => listHasTag l
  | .map l => pairsHaveTag l
  | _ => false

/-- The same of a list. -/
def listHasTag : List Cbor → Bool
  | [] => false
  | v :: t => v.hasTag || listHasTag t

/-- The same of pairs. -/
def pairsHaveTag : List (Cbor × Cbor) → Bool
  | [] => false
  | (k, v) :: t => k.hasTag || v.hasTag || pairsHaveTag t

end

/-- The unsigned integer an item is. -/
def Cbor.nat : Cbor → Option Nat
  | .uint n => some n
  | _ => none

/-- The integer an item is. -/
def Cbor.int : Cbor → Option Int
  | .uint n => some n
  | .nint n => some (-1 - (n : Int))
  | _ => none

/-- The byte string an item is. -/
def Cbor.octets : Cbor → Option Octets
  | .bytes o => some o
  | _ => none

/-- The items of an array. -/
def Cbor.items : Cbor → Option (List Cbor)
  | .array l => some l
  | _ => none

/-- The boolean an item is. -/
def Cbor.bool : Cbor → Option Bool
  | .simple 20 => some false
  | .simple 21 => some true
  | _ => none

/-- The pairs of a map whose keys are unsigned integers, each key once. -/
def Cbor.fields : Cbor → Option (List (Nat × Cbor))
  | .map l =>
    let ks := l.map (fun p => p.1.nat)
    if ks.all Option.isSome && decide (ks.Nodup) then some (l.map (fun p => (p.1.nat.getD 0, p.2))) else none
  | _ => none

/-- The value at an integer key of a map. -/
def Cbor.at (v : Cbor) (k : Int) : Option Cbor :=
  match v with
  | .map l => (l.find? (fun p => decide (p.1.int = some k))).map Prod.snd
  | _ => none

end Sys2Proof.Machine
end

