-- ==== Sys2Proof/Machine/Hash.lean ====
section
/-!
DEFINITION. The digests the spec names: SHA-384 and SHA-512 (FIPS 180-4) with their message schedule and constants
computed from their definitions, HMAC-SHA-384, SHA3-384, SHA3-512, SHAKE128 and SHAKE256 (FIPS 202).
-/

namespace Sys2Proof.Machine

open Sys2Proof

/-! Constants of SHA-2: the first 64 bits of the fractional parts of roots of primes. -/

/-- Largest r in [lo, hi) with r^k at most v, by bisection with fuel. -/
def rootSearch (k v : Nat) : Nat → Nat → Nat → Nat
  | 0, lo, _ => lo
  | f + 1, lo, hi =>
    if hi ≤ lo + 1 then lo
    else
      let m := (lo + hi) / 2
      if m ^ k ≤ v then rootSearch k v f m hi else rootSearch k v f lo m

/-- Primality by trial division. -/
def isPrimeNat (n : Nat) : Bool := decide (2 ≤ n) && (List.range n).all (fun d => decide (d < 2) || decide (n % d ≠ 0))

/-- The primes below a bound. -/
def primesBelow (n : Nat) : List Nat := (List.range n).filter isPrimeNat

/-- The first 64 bits of the fractional part of the k-th root of p. -/
def rootFrac (k p : Nat) : W64 :=
  BitVec.ofNat 64 (rootSearch k (p * 2 ^ (64 * k)) 80 0 (2 ^ 70))

/-- The 80 round constants of SHA-512: cube roots of the first 80 primes. -/
def sha512K : List W64 := (primesBelow 410).map (rootFrac 3)

/-- SHA-512's initial value: square roots of the first 8 primes. -/
def sha512Init : List W64 := (primesBelow 20).map (rootFrac 2)

/-- SHA-384's initial value: square roots of the 9th to 16th primes. -/
def sha384Init : List W64 := ((primesBelow 54).drop 8).map (rootFrac 2)

/-- Rotation right of a 64-bit word. -/
def ror64 (x : W64) (n : Nat) : W64 := x.rotateRight n

/-- The message schedule, newest word first. -/
def sha512Schedule : Nat → List W64 → List W64
  | 0, w => w
  | f + 1, w =>
    let a := w.getD 1 0
    let b := w.getD 14 0
    let s1 := ror64 a 19 ^^^ ror64 a 61 ^^^ (a >>> 6)
    let s0 := ror64 b 1 ^^^ ror64 b 8 ^^^ (b >>> 7)
    sha512Schedule f ((s1 + w.getD 6 0 + s0 + w.getD 15 0) :: w)

/-- The working variables of SHA-512. -/
structure Sha512Vars where
  a : W64
  b : W64
  c : W64
  d : W64
  e : W64
  f : W64
  g : W64
  h : W64
deriving DecidableEq, Repr

/-- One round of SHA-512. -/
def sha512Round (v : Sha512Vars) (kw : W64) : Sha512Vars :=
  let s1 := ror64 v.e 14 ^^^ ror64 v.e 18 ^^^ ror64 v.e 41
  let ch := (v.e &&& v.f) ^^^ (~~~v.e &&& v.g)
  let t1 := v.h + s1 + ch + kw
  let s0 := ror64 v.a 28 ^^^ ror64 v.a 34 ^^^ ror64 v.a 39
  let mj := (v.a &&& v.b) ^^^ (v.a &&& v.c) ^^^ (v.b &&& v.c)
  { a := t1 + (s0 + mj), b := v.a, c := v.b, d := v.c, e := v.d + t1, f := v.e, g := v.f, h := v.g }

/-- The compression of one 128-octet block. -/
def sha512Compress (st : List W64) (blk : Octets) : List W64 :=
  let w0 := ((chunks 8 blk).map (fun o => BitVec.ofNat 64 (ofBe o))).reverse
  let w := (sha512Schedule 64 w0).reverse
  let v0 : Sha512Vars :=
    { a := st.getD 0 0, b := st.getD 1 0, c := st.getD 2 0, d := st.getD 3 0,
      e := st.getD 4 0, f := st.getD 5 0, g := st.getD 6 0, h := st.getD 7 0 }
  let v := (List.zipWith (· + ·) sha512K w).foldl sha512Round v0
  [v0.a + v.a, v0.b + v.b, v0.c + v.c, v0.d + v.d, v0.e + v.e, v0.f + v.f, v0.g + v.g, v0.h + v.h]

/-- SHA-512 padding. -/
def sha512Pad (m : Octets) : Octets :=
  m ++ [0x80] ++ List.replicate ((239 - m.length % 128) % 128) 0 ++ beOctets 16 (8 * m.length)

/-- The SHA-512 family from an initial value. -/
def sha512With (init : List W64) (m : Octets) : Octets :=
  ((chunks 128 (sha512Pad m)).foldl sha512Compress init).flatMap (fun x => beOctets 8 x.toNat)

/-- SHA-512. -/
def sha512 (m : Octets) : Octets := sha512With sha512Init m

/-- SHA-384: 48 octets. -/
def sha384 (m : Octets) : Octets := (sha512With sha384Init m).take 48

/-- HMAC-SHA-384. -/
def hmacSha384 (key m : Octets) : Octets :=
  let k := padTo 128 (if key.length > 128 then sha384 key else key)
  sha384 (k.map (· ^^^ 0x5c) ++ sha384 (k.map (· ^^^ 0x36) ++ m))

/-! Keccak-f[1600]; a state is 25 lanes of 64 bits, lane x + 5y. -/

/-- One step of the round-constant register of Keccak. -/
def keccakLfsr (r : Nat) : Nat := let d := r * 2; if d ≥ 256 then d ^^^ 0x171 else d

/-- The register after n steps. -/
def keccakRc : Nat → Nat
  | 0 => 1
  | n + 1 => keccakLfsr (keccakRc n)

/-- Round constant of round i: bit 2^j - 1 is the register's low bit at step 7i + j. -/
def keccakIota (i : Nat) : W64 :=
  (List.range 7).foldl
    (fun acc j => if keccakRc (7 * i + j) % 2 = 1 then acc ^^^ BitVec.ofNat 64 (2 ^ (2 ^ j - 1)) else acc) 0

/-- Rotation offsets by the walk (x, y) to (y, 2x+3y): pairs of lane and offset. -/
def keccakRho : Nat → Nat → Nat → Nat → List (Nat × Nat)
  | 0, _, _, _ => []
  | f + 1, t, x, y =>
    (x + 5 * y, ((t + 1) * (t + 2) / 2) % 64) :: keccakRho f (t + 1) y ((2 * x + 3 * y) % 5)

/-- Rotation offset of a lane. -/
def rhoOf (l : Nat) : Nat := tget 0 (keccakRho 24 0 1 0) l

/-- One round of Keccak-f[1600]. -/
def keccakRound (s : List W64) (i : Nat) : List W64 :=
  let lane (x y : Nat) : W64 := s.getD (x % 5 + 5 * (y % 5)) 0
  let c := (List.range 5).map (fun x => lane x 0 ^^^ lane x 1 ^^^ lane x 2 ^^^ lane x 3 ^^^ lane x 4)
  let d := (List.range 5).map (fun x => c.getD ((x + 4) % 5) 0 ^^^ (c.getD ((x + 1) % 5) 0).rotateLeft 1)
  let th := (List.range 25).map (fun l => s.getD l 0 ^^^ d.getD (l % 5) 0)
  -- after rho and pi: lane (y, 2x+3y) takes lane (x, y) rotated
  let src (l : Nat) : Nat := let x' := l % 5; let y' := l / 5; ((x' + 3 * y') % 5) + 5 * x'
  let b := (List.range 25).map (fun l => (th.getD (src l) 0).rotateLeft (rhoOf (src l)))
  let ch := (List.range 25).map (fun l =>
    let y := l / 5
    b.getD l 0 ^^^ (~~~(b.getD ((l % 5 + 1) % 5 + 5 * y) 0) &&& b.getD ((l % 5 + 2) % 5 + 5 * y) 0))
  match ch with
  | a :: r => (a ^^^ keccakIota i) :: r
  | [] => []

/-- Keccak-f[1600]. -/
def keccakF (s : List W64) : List W64 := (List.range 24).foldl keccakRound s

/-- Absorb one padded block of the rate. -/
def keccakAbsorb (s : List W64) (blk : Octets) : List W64 :=
  let ws := (chunks 8 blk).map (fun o => BitVec.ofNat 64 (ofLe o))
  keccakF (List.zipWith (· ^^^ ·) s (ws ++ List.replicate (25 - ws.length) 0))

/-- Padding with a domain octet: suffix, zeros, and the last bit. -/
def keccakPad (rate : Nat) (dom : Byte) (m : Octets) : Octets :=
  let n := rate - m.length % rate
  if n = 1 then m ++ [dom ||| 0x80]
  else m ++ [dom] ++ List.replicate (n - 2) 0 ++ [0x80]

/-- Squeeze blocks of the rate. -/
def keccakSqueeze (rate : Nat) : Nat → List W64 → Octets
  | 0, _ => []
  | n + 1, s => (s.flatMap (fun x => leOctets 8 x.toNat)).take rate ++ keccakSqueeze rate n (keccakF s)

/-- The sponge: `n` octets from a message. -/
def sponge (rate : Nat) (dom : Byte) (m : Octets) (n : Nat) : Octets :=
  let s := (chunks rate (keccakPad rate dom m)).foldl keccakAbsorb (List.replicate 25 0)
  (keccakSqueeze rate (ceilDiv n rate) s).take n

/-- SHA3-384. -/
def sha3_384 (m : Octets) : Octets := sponge 104 0x06 m 48
/-- SHA3-512. -/
def sha3_512 (m : Octets) : Octets := sponge 72 0x06 m 64
/-- SHAKE128 with `n` octets of output. -/
def shake128 (m : Octets) (n : Nat) : Octets := sponge 168 0x1f m n
/-- SHAKE256 with `n` octets of output. -/
def shake256 (m : Octets) (n : Nat) : Octets := sponge 136 0x1f m n

end Sys2Proof.Machine
end

