-- ==== Sys2Proof/Machine/Curve.lean ====
section
/-!
DEFINITION. The elliptic curves P-256 and P-384, ECDSA (FIPS 186-5) and ECDH, which the RNS engine computes and the firmware, card,
package, sheet and waybill checks use.
-/

namespace Sys2Proof.Machine

open Sys2Proof

/-- Parameters of a short Weierstrass curve y² = x³ − 3x + b of prime order. -/
structure Curve where
  p : Nat
  b : Nat
  n : Nat
  gx : Nat
  gy : Nat
  /-- octets of a coordinate -/
  len : Nat
deriving DecidableEq, Repr

/-- P-256. -/
def p256 : Curve :=
  { p := 0xffffffff00000001000000000000000000000000ffffffffffffffffffffffff
    b := 0x5ac635d8aa3a93e7b3ebbd55769886bc651d06b0cc53b0f63bce3c3e27d2604b
    n := 0xffffffff00000000ffffffffffffffffbce6faada7179e84f3b9cac2fc632551
    gx := 0x6b17d1f2e12c4247f8bce6e563a440f277037d812deb33a0f4a13945d898c296
    gy := 0x4fe342e2fe1a7f9b8ee7eb4a7c0f9e162bce33576b315ececbb6406837bf51f5
    len := 32 }

/-- P-384. -/
def p384 : Curve :=
  { p := 0xfffffffffffffffffffffffffffffffffffffffffffffffffffffffffffffffeffffffff0000000000000000ffffffff
    b := 0xb3312fa7e23ee7e4988e056be3f82d19181d9c6efe8141120314088f5013875ac656398d8a2ed19d2a85c8edd3ec2aef
    n := 0xffffffffffffffffffffffffffffffffffffffffffffffffc7634d81f4372ddf581a0db248b0a77aecec196accc52973
    gx := 0xaa87ca22be8b05378eb1c71ef320ad746e1d3b628ba79b9859f741e082542a385502f25dbf55296c3a545e3872760ab7
    gy := 0x3617de4a96262c6f5d9e98bf9292dc29f8f41dbd289a147ce9da3113b5f0b8c00a60b1ce1d7e819d7a431d7c90ea0e5f
    len := 48 }

/-- `b ^ e mod m` by squaring, over the low `f` bits of e. -/
def powMod (m : Nat) : Nat → Nat → Nat → Nat → Nat
  | 0, _, _, acc => acc
  | f + 1, b, e, acc => powMod m f (b * b % m) (e / 2) (if e % 2 = 1 then acc * b % m else acc)

/-- The inverse modulo a prime of at most 400 bits. -/
def invMod (m x : Nat) : Nat := powMod m 400 (x % m) (m - 2) 1

/-- The difference modulo m of two residues. -/
def subMod (m a b : Nat) : Nat := (a + m - b % m) % m

/-- A point in Jacobian coordinates; z 0 is the point at infinity. -/
structure Jac where
  x : Nat
  y : Nat
  z : Nat
deriving DecidableEq, Repr

/-- The point at infinity. -/
def Jac.inf : Jac := { x := 1, y := 1, z := 0 }

/-- A point doubled. -/
def Jac.dbl (c : Curve) (a : Jac) : Jac :=
  if a.z = 0 ∨ a.y = 0 then Jac.inf
  else
    let p := c.p
    let yy := a.y * a.y % p
    let s := 4 * a.x * yy % p
    let zz := a.z * a.z % p
    let m := 3 * (subMod p a.x zz) * (a.x + zz) % p
    let x3 := subMod p (m * m) (2 * s)
    { x := x3, y := subMod p (m * subMod p s x3) (8 * yy * yy), z := 2 * a.y * a.z % p }

/-- Two points added. -/
def Jac.add (c : Curve) (a b : Jac) : Jac :=
  if a.z = 0 then b
  else if b.z = 0 then a
  else
    let p := c.p
    let z1 := a.z * a.z % p
    let z2 := b.z * b.z % p
    let u1 := a.x * z2 % p
    let u2 := b.x * z1 % p
    let s1 := a.y * z2 % p * b.z % p
    let s2 := b.y * z1 % p * a.z % p
    if u1 = u2 then (if s1 = s2 then a.dbl c else Jac.inf)
    else
      let h := subMod p u2 u1
      let r := subMod p s2 s1
      let hh := h * h % p
      let hhh := hh * h % p
      let v := u1 * hh % p
      let x3 := subMod p (r * r) (hhh + 2 * v)
      { x := x3, y := subMod p (r * subMod p v x3) (s1 * hhh), z := h * a.z % p * b.z % p }

/-- `k · a` over the low f bits of k. -/
def Jac.mul (c : Curve) : Nat → Nat → Jac → Jac → Jac
  | 0, _, _, acc => acc
  | f + 1, k, a, acc => Jac.mul c f (k / 2) (a.dbl c) (if k % 2 = 1 then acc.add c a else acc)

/-- Affine coordinates, where the point is not at infinity. -/
def Jac.affine (c : Curve) (a : Jac) : Option (Nat × Nat) :=
  if a.z = 0 then none
  else
    let i := invMod c.p a.z
    let ii := i * i % c.p
    some (a.x * ii % c.p, a.y * ii % c.p * i % c.p)

/-- The base point. -/
def Curve.base (c : Curve) : Jac := { x := c.gx, y := c.gy, z := 1 }

/-- Whether affine coordinates lie in the field and on the curve. -/
def Curve.onCurve (c : Curve) (x y : Nat) : Bool :=
  decide (x < c.p ∧ y < c.p ∧ y * y % c.p = (x * x % c.p * x + (c.p - 3) * x + c.b) % c.p)

/-- An uncompressed point 0x04 ‖ X ‖ Y. -/
def Curve.encode (c : Curve) (x y : Nat) : Octets := 0x04 :: beOctets c.len x ++ beOctets c.len y

/-- A valid public point read from its uncompressed form. -/
def Curve.decode (c : Curve) (o : Octets) : Option Jac :=
  let x := ofBe (slice o 1 c.len)
  let y := ofBe (slice o (1 + c.len) c.len)
  if o.length = 1 + 2 * c.len ∧ o.headD 0 = 0x04 ∧ c.onCurve x y then some { x := x, y := y, z := 1 } else none

/-- The public point of a scalar, uncompressed. -/
def Curve.public (c : Curve) (d : Nat) : Octets :=
  match (Jac.mul c (8 * c.len) d c.base Jac.inf).affine c with
  | some (x, y) => c.encode x y
  | none => []

/-- A drawn integer made a scalar: (c mod (n − 1)) + 1 (R279, R289). -/
def Curve.scalar (c : Curve) (o : Octets) : Nat := ofBe o % (c.n - 1) + 1

/-- The leftmost bits of a digest as an integer below the order's length (FIPS 186-5). -/
def Curve.digestInt (c : Curve) (h : Octets) : Nat := ofBe (h.take c.len)

/-- ECDSA over a digest with nonce k: r ‖ s, where both are non-zero. -/
def Curve.signWith (c : Curve) (d k : Nat) (h : Octets) : Option Octets :=
  match (Jac.mul c (8 * c.len) k c.base Jac.inf).affine c with
  | none => none
  | some (x, _) =>
    let r := x % c.n
    let s := invMod c.n k * (c.digestInt h + r * d) % c.n
    if r = 0 ∨ s = 0 then none else some (beOctets c.len r ++ beOctets c.len s)

/-- ECDSA verification of r ‖ s over a digest. -/
def Curve.verify (c : Curve) (pub h sig : Octets) : Bool :=
  let r := ofBe (sig.take c.len)
  let s := ofBe (sig.drop c.len)
  match c.decode pub with
  | none => false
  | some q =>
    if sig.length ≠ 2 * c.len ∨ r = 0 ∨ s = 0 ∨ c.n ≤ r ∨ c.n ≤ s then false
    else
      let w := invMod c.n s
      let a := Jac.mul c (8 * c.len) (c.digestInt h * w % c.n) c.base Jac.inf
      let b := Jac.mul c (8 * c.len) (r * w % c.n) q Jac.inf
      match (a.add c b).affine c with
      | none => false
      | some (x, _) => decide (x % c.n = r)

/-- ECDH: the X coordinate of d · Q. -/
def Curve.dh (c : Curve) (d : Nat) (pub : Octets) : Option Octets :=
  match c.decode pub with
  | none => none
  | some q => ((Jac.mul c (8 * c.len) d q Jac.inf).affine c).map (fun p => beOctets c.len p.1)

end Sys2Proof.Machine
end

