-- ==== Sys2Proof/Machine/Lattice.lean ====
section
/-!
DEFINITION. ML-KEM (FIPS 203) and ML-DSA (FIPS 204) at the parameter sets the block serves: ML-KEM-768 and -1024, ML-DSA-65 and -87.
The loops that the standards bound stop at the standards' own bounds (FIPS 203 appendix B, FIPS 204 appendix C).
-/

namespace Sys2Proof.Machine

open Sys2Proof

/-- SHA3-256. -/
def sha3_256 (m : Octets) : Octets := sponge 136 0x06 m 32

/-! ### Polynomials modulo q: lists of 256 residues -/

/-- The lowest `n` bits of a number reversed. -/
def bitRev : Nat → Nat → Nat
  | 0, _ => 0
  | n + 1, v => (v % 2) * 2 ^ n + bitRev n (v / 2)

/-- `b ^ e mod m` for exponents below 2^f. -/
def latPow (m : Nat) : Nat → Nat → Nat → Nat → Nat
  | 0, _, _, acc => acc
  | f + 1, b, e, acc => latPow m f (b * b % m) (e / 2) (if e % 2 = 1 then acc * b % m else acc)

/-- Pointwise sum. -/
def polyAdd (q : Nat) (a b : List Nat) : List Nat := List.zipWith (fun x y => (x + y) % q) a b
/-- Pointwise difference. -/
def polySub (q : Nat) (a b : List Nat) : List Nat := List.zipWith (fun x y => (x + q - y % q) % q) a b
/-- Pointwise product. -/
def polyMulPt (q : Nat) (a b : List Nat) : List Nat := List.zipWith (fun x y => x * y % q) a b
/-- Every coefficient times a number. -/
def polyScale (q c : Nat) (a : List Nat) : List Nat := a.map (fun x => x * c % q)
/-- The zero polynomial. -/
def polyZero : List Nat := List.replicate 256 0

/-- The forward transform: `d` levels, each splitting at half; node k multiplies by zeta to the bit-reversed k. -/
def nttFwd (q zeta revBits : Nat) : Nat → Nat → List Nat → List Nat
  | 0, _, f => f
  | d + 1, k, f =>
    let h := f.length / 2
    let a := f.take h
    let t := polyScale q (latPow q 24 zeta (bitRev revBits k) 1) (f.drop h)
    nttFwd q zeta revBits d (2 * k) (polyAdd q a t) ++ nttFwd q zeta revBits d (2 * k + 1) (polySub q a t)

/-- The inverse transform. -/
def nttInv (q zeta revBits : Nat) : Nat → Nat → List Nat → List Nat
  | 0, _, f => f
  | d + 1, k, f =>
    let h := f.length / 2
    let x := nttInv q zeta revBits d (2 * k) (f.take h)
    let y := nttInv q zeta revBits d (2 * k + 1) (f.drop h)
    let half := (q + 1) / 2
    let z := latPow q 24 (latPow q 24 zeta (bitRev revBits k) 1) (q - 2) 1
    polyScale q half (polyAdd q x y) ++ polyScale q (half * z % q) (polySub q x y)

/-- The sum of products of two vectors of polynomials under a product. -/
def polyDot (q : Nat) (mul : List Nat → List Nat → List Nat) (a b : List (List Nat)) : List Nat :=
  (List.zipWith mul a b).foldl (polyAdd q) polyZero

/-- Bits of octets, least significant first in each octet. -/
def bitsOfOctets (o : Octets) : List Bool := o.flatMap (fun b => (List.range 8).map (fun i => b.getLsbD i))

/-- The number that bits spell, least significant first. -/
def natOfBits (l : List Bool) : Nat := l.foldr (fun b a => (if b then 1 else 0) + 2 * a) 0

/-- Integers of `d` bits packed into octets, least significant bit first. -/
def packBits (d : Nat) (vs : List Nat) : Octets :=
  leOctets (ceilDiv (d * vs.length) 8) (vs.foldr (fun v a => v % 2 ^ d + 2 ^ d * a) 0)

/-- `n` integers of `d` bits read from octets. -/
def unpackBits (d : Nat) : Nat → Nat → List Nat
  | 0, _ => []
  | n + 1, v => v % 2 ^ d :: unpackBits d n (v / 2 ^ d)

/-- 256 integers of `d` bits read from octets. -/
def unpackPoly (d : Nat) (o : Octets) : List Nat := unpackBits d 256 (ofLe (o.take (32 * d)))

/-- A string cut into `n` pieces of `k` octets. -/
def pieces (k : Nat) : Nat → Octets → List Octets
  | 0, _ => []
  | n + 1, o => o.take k :: pieces k n (o.drop k)

/-! ### ML-KEM (FIPS 203) -/

/-- A parameter set of ML-KEM; η1 and η2 are 2 in both. -/
structure KemSet where
  k : Nat
  du : Nat
  dv : Nat
deriving DecidableEq, Repr

/-- ML-KEM-768. -/
def kem768 : KemSet := { k := 3, du := 10, dv := 4 }
/-- ML-KEM-1024. -/
def kem1024 : KemSet := { k := 4, du := 11, dv := 5 }

/-- The modulus of ML-KEM. -/
def kemQ : Nat := 3329

/-- NTT of ML-KEM. -/
def kemNtt (f : List Nat) : List Nat := nttFwd kemQ 17 7 7 1 f
/-- Inverse NTT of ML-KEM. -/
def kemInv (f : List Nat) : List Nat := nttInv kemQ 17 7 7 1 f

/-- Products of degree-one factors modulo X² − γ. -/
def kemBase : Nat → List Nat → List Nat → List Nat
  | i, a0 :: a1 :: as, b0 :: b1 :: bs =>
    let g := latPow kemQ 12 17 (2 * bitRev 7 i + 1) 1
    ((a0 * b0 + a1 * b1 % kemQ * g) % kemQ) :: ((a0 * b1 + a1 * b0) % kemQ) :: kemBase (i + 1) as bs
  | _, _, _ => []

/-- The product in the transform domain. -/
def kemMul (a b : List Nat) : List Nat := kemBase 0 a b

/-- Candidates of SampleNTT below q, in order. -/
def kemReject : Octets → List Nat
  | a :: b :: c :: rest =>
    let d1 := a.toNat + 256 * (b.toNat % 16)
    let d2 := b.toNat / 16 + 16 * c.toNat
    (if d1 < kemQ then [d1] else []) ++ (if d2 < kemQ then [d2] else []) ++ kemReject rest
  | _ => []

/-- SampleNTT. -/
def kemSample (seed : Octets) : List Nat := (kemReject (shake128 seed 840)).take 256

/-- SamplePolyCBD with η = 2. -/
def kemCbd (o : Octets) : List Nat :=
  let rec go : Nat → List Bool → List Nat
    | n + 1, a :: b :: c :: d :: rest =>
      ((a.toNat + b.toNat + kemQ - c.toNat - d.toNat) % kemQ) :: go n rest
    | _, _ => []
  go 256 (bitsOfOctets o)

/-- A vector of noise polynomials from counter n0 on. -/
def kemNoise (seed : Octets) (n0 k : Nat) : List (List Nat) :=
  (List.range k).map (fun i => kemCbd (shake256 (seed ++ [BitVec.ofNat 8 (n0 + i)]) 128))

/-- Matrix row i of Â; transposed for encryption. -/
def kemRow (rho : Octets) (k i : Nat) (tr : Bool) : List (List Nat) :=
  (List.range k).map (fun j =>
    kemSample (rho ++ (if tr then [BitVec.ofNat 8 i, BitVec.ofNat 8 j] else [BitVec.ofNat 8 j, BitVec.ofNat 8 i])))

/-- Compress_d. -/
def kemCompress (d x : Nat) : Nat := (2 ^ (d + 1) * x + kemQ) / (2 * kemQ) % 2 ^ d
/-- Decompress_d. -/
def kemDecompress (d y : Nat) : Nat := (2 * kemQ * y + 2 ^ d) / 2 ^ (d + 1)

/-- K-PKE.KeyGen: the encryption key and the decryption key. -/
def pkeKeygen (m : KemSet) (d : Octets) : Octets × Octets :=
  let g := sha3_512 (d ++ [BitVec.ofNat 8 m.k])
  let rho := g.take 32
  let s := (kemNoise (g.drop 32) 0 m.k).map kemNtt
  let e := (kemNoise (g.drop 32) m.k m.k).map kemNtt
  let t := (List.range m.k).zip e |>.map (fun x => polyAdd kemQ (polyDot kemQ kemMul (kemRow rho m.k x.1 false) s) x.2)
  (t.flatMap (packBits 12) ++ rho, s.flatMap (packBits 12))

/-- K-PKE.Encrypt. -/
def pkeEncrypt (m : KemSet) (ek msg r : Octets) : Octets :=
  let t := (pieces 384 m.k ek).map (unpackPoly 12)
  let rho := slice ek (384 * m.k) 32
  let y := (kemNoise r 0 m.k).map kemNtt
  let e1 := kemNoise r m.k m.k
  let e2 := kemCbd (shake256 (r ++ [BitVec.ofNat 8 (2 * m.k)]) 128)
  let u := (List.range m.k).zip e1 |>.map (fun x =>
    polyAdd kemQ (kemInv (polyDot kemQ kemMul (kemRow rho m.k x.1 true) y)) x.2)
  let mu := (unpackPoly 1 msg).map (kemDecompress 1)
  let v := polyAdd kemQ (polyAdd kemQ (kemInv (polyDot kemQ kemMul t y)) e2) mu
  u.flatMap (fun f => packBits m.du (f.map (kemCompress m.du))) ++ packBits m.dv (v.map (kemCompress m.dv))

/-- K-PKE.Decrypt. -/
def pkeDecrypt (m : KemSet) (dk c : Octets) : Octets :=
  let u := (pieces (32 * m.du) m.k c).map (fun o => (unpackPoly m.du o).map (kemDecompress m.du))
  let v := (unpackPoly m.dv (c.drop (32 * m.du * m.k))).map (kemDecompress m.dv)
  let s := (pieces 384 m.k dk).map (unpackPoly 12)
  let w := polySub kemQ v (kemInv (polyDot kemQ kemMul s (u.map kemNtt)))
  packBits 1 (w.map (kemCompress 1))

/-- Octets of an encapsulation key. -/
def KemSet.ekLen (m : KemSet) : Nat := 384 * m.k + 32
/-- Octets of a ciphertext. -/
def KemSet.ctLen (m : KemSet) : Nat := 32 * (m.du * m.k + m.dv)

/-- The encapsulation key of a seed d ‖ z (ML-KEM.KeyGen_internal). -/
def kemPublic (m : KemSet) (seed : Octets) : Octets := (pkeKeygen m (seed.take 32)).1

/-- Whether an encapsulation key passes the length and modulus checks (FIPS 203, 7.2). -/
def kemKeyOk (m : KemSet) (ek : Octets) : Bool :=
  decide (ek.length = m.ekLen) &&
    (pieces 384 m.k ek).all (fun o => (unpackPoly 12 o).all (fun x => decide (x < kemQ)))

/-- ML-KEM.Encaps_internal: ciphertext and shared secret. -/
def kemEncaps (m : KemSet) (ek msg : Octets) : Octets × Octets :=
  let g := sha3_512 (msg ++ sha3_256 ek)
  (pkeEncrypt m ek msg (g.drop 32), g.take 32)

/-- ML-KEM.Decaps_internal under the key of a seed d ‖ z. -/
def kemDecaps (m : KemSet) (seed c : Octets) : Octets :=
  let ks := pkeKeygen m (seed.take 32)
  let msg := pkeDecrypt m ks.2 c
  let g := sha3_512 (msg ++ sha3_256 ks.1)
  if pkeEncrypt m ks.1 msg (g.drop 32) = c then g.take 32 else shake256 (slice seed 32 32 ++ c) 32

/-! ### ML-DSA (FIPS 204) -/

/-- A parameter set of ML-DSA; γ1 is 2^19, γ2 is (q − 1)/32 and d is 13 in both. -/
structure DsaSet where
  k : Nat
  l : Nat
  tau : Nat
  eta : Nat
  beta : Nat
  omega : Nat
  /-- octets of the commitment hash -/
  cLen : Nat
deriving DecidableEq, Repr

/-- ML-DSA-65. -/
def dsa65 : DsaSet := { k := 6, l := 5, tau := 49, eta := 4, beta := 196, omega := 55, cLen := 48 }
/-- ML-DSA-87. -/
def dsa87 : DsaSet := { k := 8, l := 7, tau := 60, eta := 2, beta := 120, omega := 75, cLen := 64 }

/-- The modulus of ML-DSA. -/
def dsaQ : Nat := 8380417
/-- γ1. -/
def dsaG1 : Nat := 524288
/-- γ2. -/
def dsaG2 : Nat := 261888

/-- NTT of ML-DSA. -/
def dsaNtt (f : List Nat) : List Nat := nttFwd dsaQ 1753 8 8 1 f
/-- Inverse NTT of ML-DSA. -/
def dsaInv (f : List Nat) : List Nat := nttInv dsaQ 1753 8 8 1 f

/-- Candidates of RejNTTPoly. -/
def dsaReject : Octets → List Nat
  | a :: b :: c :: rest =>
    let z := a.toNat + 256 * b.toNat + 65536 * (c.toNat % 128)
    (if z < dsaQ then [z] else []) ++ dsaReject rest
  | _ => []

/-- RejNTTPoly. -/
def dsaUniform (seed : Octets) : List Nat := (dsaReject (shake128 seed 894)).take 256

/-- Candidates of RejBoundedPoly. -/
def dsaHalf (eta b : Nat) : List Nat :=
  if eta = 2 then (if b < 15 then [(dsaQ + 2 - b % 5) % dsaQ] else [])
  else (if b < 9 then [(dsaQ + 4 - b) % dsaQ] else [])

/-- RejBoundedPoly. -/
def dsaBounded (eta : Nat) (seed : Octets) : List Nat :=
  ((shake256 seed 481).flatMap (fun o => dsaHalf eta (o.toNat % 16) ++ dsaHalf eta (o.toNat / 16))).take 256

/-- Row i of Â. -/
def dsaRow (rho : Octets) (l i : Nat) : List (List Nat) :=
  (List.range l).map (fun j => dsaUniform (rho ++ [BitVec.ofNat 8 j, BitVec.ofNat 8 i]))

/-- A product of Â and a vector in the transform domain. -/
def dsaMatVec (m : DsaSet) (rho : Octets) (v : List (List Nat)) : List (List Nat) :=
  (List.range m.k).map (fun i => polyDot dsaQ (polyMulPt dsaQ) (dsaRow rho m.l i) v)

/-- A residue as the integer nearest 0. -/
def dsaCentre (x : Nat) : Int := if x ≤ dsaQ / 2 then x else (x : Int) - dsaQ

/-- Power2Round: (t1, t0 as a residue). -/
def power2Round (x : Nat) : Nat × Nat :=
  let r := x % 8192
  if r ≤ 4096 then (x / 8192, r) else (x / 8192 + 1, dsaQ + r - 8192)

/-- Decompose: (HighBits, LowBits). -/
def dsaDecompose (x : Nat) : Nat × Int :=
  let a := 2 * dsaG2
  let r0 : Int := if x % a ≤ dsaG2 then (x % a : Nat) else ((x % a : Nat) : Int) - a
  if (x : Int) - r0 = dsaQ - 1 then (0, r0 - 1) else (((x : Int) - r0).toNat / a, r0)

/-- The secret parts of a seed ξ: ρ, K, tr, s1, s2, t0, and the public key. -/
structure DsaKey where
  rho : Octets
  kay : Octets
  tr : Octets
  s1 : List (List Nat)
  s2 : List (List Nat)
  t0 : List (List Nat)
  pk : Octets
deriving DecidableEq, Repr

/-- ML-DSA.KeyGen_internal. -/
def dsaKeygen (m : DsaSet) (xi : Octets) : DsaKey :=
  let h := shake256 (xi ++ [BitVec.ofNat 8 m.k, BitVec.ofNat 8 m.l]) 128
  let rho := h.take 32
  let rho2 := slice h 32 64
  let s1 := (List.range m.l).map (fun r => dsaBounded m.eta (rho2 ++ leOctets 2 r))
  let s2 := (List.range m.k).map (fun r => dsaBounded m.eta (rho2 ++ leOctets 2 (r + m.l)))
  let t := List.zipWith (fun w s => polyAdd dsaQ (dsaInv w) s) (dsaMatVec m rho (s1.map dsaNtt)) s2
  let pr := t.map (fun f => f.map power2Round)
  let pk := rho ++ pr.flatMap (fun f => packBits 10 (f.map Prod.fst))
  { rho := rho, kay := h.drop 96, tr := shake256 pk 64, s1 := s1, s2 := s2, t0 := pr.map (fun f => f.map Prod.snd), pk := pk }

/-- The public key of a seed. -/
def dsaPublic (m : DsaSet) (xi : Octets) : Octets := (dsaKeygen m xi).pk

/-- Positions drawn by SampleInBall from octets, for i from 256 − τ on. -/
def ballSteps : Nat → Nat → Octets → List Bool → List Nat → List Nat
  | 0, _, _, _, c => c
  | _ + 1, _, [], _, c => c
  | f + 1, i, b :: rest, signs, c =>
    if 256 ≤ i then c
    else if b.toNat ≤ i then
      let c1 := c.set i (c.getD b.toNat 0)
      ballSteps f (i + 1) rest (signs.drop 1) (c1.set b.toNat (if signs.headD false then dsaQ - 1 else 1))
    else ballSteps f i rest signs c

/-- SampleInBall. -/
def sampleInBall (m : DsaSet) (seed : Octets) : List Nat :=
  let o := shake256 seed 264
  ballSteps 256 (256 - m.tau) (o.drop 8) (bitsOfOctets (o.take 8)) polyZero

/-- ExpandMask. -/
def expandMask (m : DsaSet) (seed : Octets) (kappa : Nat) : List (List Nat) :=
  (List.range m.l).map (fun r =>
    (unpackPoly 20 (shake256 (seed ++ leOctets 2 (kappa + r)) 640)).map (fun z => (dsaG1 + dsaQ - z) % dsaQ))

/-- w1Encode. -/
def w1Encode (w1 : List (List Nat)) : Octets := w1.flatMap (packBits 4)

/-- Whether every coefficient lies strictly below a bound in absolute value. -/
def normBelow (b : Nat) (v : List (List Nat)) : Bool := v.all (fun f => f.all (fun x => decide ((dsaCentre x).natAbs < b)))

/-- HintBitPack. -/
def hintPack (m : DsaSet) (h : List (List Bool)) : Octets :=
  let idx (f : List Bool) : List Nat := (f.zipIdx.filter (fun x => x.1)).map Prod.snd
  let ix := h.map idx
  let ends := (List.range m.k).map (fun i => ((ix.take (i + 1)).map List.length).foldl (· + ·) 0)
  let flat := ix.flatMap id
  (flat ++ List.replicate (m.omega - flat.length) 0 ++ ends).map (BitVec.ofNat 8)

/-- Whether positions rise strictly. -/
def strictRising : List Nat → Bool
  | a :: b :: t => decide (a < b) && strictRising (b :: t)
  | _ => true

/-- HintBitUnpack: the positions of each polynomial's hints, or nothing where the encoding is malformed. -/
def hintUnpack (m : DsaSet) (o : Octets) : Option (List (List Nat)) :=
  let ys := o.map BitVec.toNat
  let ends := ys.drop m.omega
  let starts := 0 :: ends
  let ok := (List.range m.k).all (fun i => decide (starts.getD i 0 ≤ ends.getD i 0 ∧ ends.getD i 0 ≤ m.omega))
  let sets := (List.range m.k).map (fun i => ((ys.drop (starts.getD i 0)).take (ends.getD i 0 - starts.getD i 0)))
  let rest := (ys.take m.omega).drop (ends.getD (m.k - 1) 0)
  if ok && sets.all strictRising && rest.all (fun x => decide (x = 0)) then some sets else none

/-- One attempt of ML-DSA.Sign_internal at a counter κ: a signature, or nothing where it is rejected. -/
def dsaAttempt (m : DsaSet) (key : DsaKey) (mu rho3 : Octets) (s1 s2 t0 : List (List Nat)) (kappa : Nat) : Option Octets :=
  let y := expandMask m rho3 kappa
  let w := (dsaMatVec m key.rho (y.map dsaNtt)).map dsaInv
  let w1 := w.map (fun f => f.map (fun x => (dsaDecompose x).1))
  let ct := shake256 (mu ++ w1Encode w1) m.cLen
  let c := dsaNtt (sampleInBall m ct)
  let z := List.zipWith (fun a s => polyAdd dsaQ a (dsaInv (polyMulPt dsaQ c s))) y s1
  let r := List.zipWith (fun a s => polySub dsaQ a (dsaInv (polyMulPt dsaQ c s))) w s2
  if !normBelow (dsaG1 - m.beta) z
      || !(r.all (fun f => f.all (fun x => decide ((dsaDecompose x).2.natAbs < dsaG2 - m.beta)))) then none
  else
    let ct0 := t0.map (fun t => dsaInv (polyMulPt dsaQ c t))
    let h := List.zipWith (fun f t => List.zipWith (fun x d =>
      decide ((dsaDecompose x).1 ≠ (dsaDecompose ((x + d) % dsaQ)).1)) f t) r ct0
    let ones := (h.map (fun f => (f.filter id).length)).foldl (· + ·) 0
    if !normBelow dsaG2 ct0 || decide (m.omega < ones) then none
    else some (ct ++ z.flatMap (fun f => packBits 20 (f.map (fun x => (dsaG1 + dsaQ - x) % dsaQ))) ++ hintPack m h)

/-- Attempts until one stands, with the number of those made. -/
def dsaAttempts (m : DsaSet) (key : DsaKey) (mu rho3 : Octets) (s1 s2 t0 : List (List Nat)) : Nat → Nat → Option (Octets × Nat)
  | 0, _ => none
  | f + 1, i =>
    match dsaAttempt m key mu rho3 s1 s2 t0 (i * m.l) with
    | some s => some (s, i + 1)
    | none => dsaAttempts m key mu rho3 s1 s2 t0 f (i + 1)

/-- The message representative μ of pure mode with a context string. -/
def dsaMu (tr ctx msg : Octets) : Octets := shake256 (tr ++ [0, BitVec.ofNat 8 ctx.length] ++ ctx ++ msg) 64

/-- ML-DSA signing in pure mode under the key of a seed; `rnd` is the 32-octet per-signature value: the signature and its iterations,
or nothing after 256 (R321). -/
def dsaSign (m : DsaSet) (xi ctx msg rnd : Octets) : Option (Octets × Nat) :=
  let key := dsaKeygen m xi
  let mu := dsaMu key.tr ctx msg
  let rho3 := shake256 (key.kay ++ rnd ++ mu) 64
  dsaAttempts m key mu rho3 (key.s1.map dsaNtt) (key.s2.map dsaNtt) (key.t0.map dsaNtt) 256 0

/-- Octets of a public key. -/
def DsaSet.pkLen (m : DsaSet) : Nat := 32 + 320 * m.k
/-- Octets of a signature. -/
def DsaSet.sigLen (m : DsaSet) : Nat := m.cLen + 640 * m.l + m.omega + m.k

/-- UseHint. -/
def useHint (h : Bool) (x : Nat) : Nat :=
  let d := dsaDecompose x
  if !h then d.1 else if 0 < d.2 then (d.1 + 1) % 16 else (d.1 + 15) % 16

/-- ML-DSA verification in pure mode. -/
def dsaVerify (m : DsaSet) (pk ctx msg sig : Octets) : Bool :=
  if pk.length ≠ m.pkLen ∨ sig.length ≠ m.sigLen then false
  else
    let ct := sig.take m.cLen
    let z := (pieces 640 m.l (sig.drop m.cLen)).map (fun o => (unpackPoly 20 o).map (fun v => (dsaG1 + dsaQ - v) % dsaQ))
    match hintUnpack m (sig.drop (m.cLen + 640 * m.l)) with
    | none => false
    | some hs =>
      let mu := dsaMu (shake256 pk 64) ctx msg
      let c := dsaNtt (sampleInBall m ct)
      let t1 := (pieces 320 m.k (pk.drop 32)).map (fun o => dsaNtt (polyScale dsaQ 8192 (unpackPoly 10 o)))
      let w := List.zipWith (fun a t => dsaInv (polySub dsaQ a (polyMulPt dsaQ c t))) (dsaMatVec m (pk.take 32) (z.map dsaNtt)) t1
      let w1 := List.zipWith (fun f h => f.zipIdx.map (fun x => useHint (h.contains x.2) x.1)) w hs
      normBelow (dsaG1 - m.beta) z && decide (shake256 (mu ++ w1Encode w1) m.cLen = ct)

end Sys2Proof.Machine
end

