-- ==== Sys2Proof/Machine/Energy.lean ====
section
/-!
DEFINITION. Energy (R115, R119, R123 to R126): the coefficients, what a lane is charged, the credits that permits leave, the standing
draw.
-/

namespace Sys2Proof.Machine

open Sys2Proof

/-! ### Coefficients (R125) -/

/-- Linear interpolation of a coefficient between the corners, in units of 10^-14 J for coefficients in pJ. -/
def atSupply (mv a b c d : Nat) : Nat :=
  if mv ≤ 550 then a * 100
  else if mv < 650 then a * 100 + (b - a) * (mv - 550)
  else if mv < 750 then b * 100 + (c - b) * (mv - 650)
  else if mv < 850 then c * 100 + (d - c) * (mv - 750)
  else d * 100

/-- Energy of a line of a class, in units of 10^-14 J. -/
def lineEnergy (s : State) : CustClass → Nat
  | .openC => atSupply s.pace.vddMv.toNat 54 76 101 130
  | .sealedC => atSupply s.pace.vddMv.toNat 193 269 358 460
  | .streamC => atSupply s.pace.vddMv.toNat 235 328 436 560
  | .versionedC => atSupply s.pace.vddMv.toNat 268 374 499 640

/-- Energy of an active pace of the RNS engine. -/
def rnsUnit (s : State) : Nat := 1000 * atSupply s.pace.vddMv.toNat 47 102 194 305
/-- Energy of 64 octets of digest input. -/
def digestUnit (s : State) : Nat := atSupply s.pace.vddMv.toNat 38 53 70 90
/-- Energy of a relay beat. -/
def relayUnit (s : State) : Nat := atSupply s.pace.vddMv.toNat 25 35 47 60
/-- Energy of an active pace of the controller. -/
def controllerUnit (s : State) : Nat := 1000 * atSupply s.pace.vddMv.toNat 4 9 16 26

/-! ### Charges (R123) -/

/-- Energy in units of 10^-14 J as ENERGY counts it, in units of 2^-40 J. -/
def energyUnits (e : Nat) : Nat := e * 2 ^ 40 / 10 ^ 14

/-- Energy charged to a lane (R123). -/
def chargeEnergy (s : State) (lane e : Nat) : State := count s (0x7010 + 32 * lane) (energyUnits e)

/-- Lines' energy charged to a lane. -/
def chargeLines (s : State) (lane : Nat) (c : CustClass) (n : Nat) : State := chargeEnergy s lane (n * lineEnergy s c)

/-- Paces of an engine on a lane's work, with their energy (R123, R125). -/
def chargePaces (s : State) (lane unit n : Nat) : State := count (chargeEnergy s lane (n * unit)) (0x7018 + 32 * lane) n

/-! ### Credit (R119) -/

/-- Credits count units of 10^-14 J x 2^-20: the unit in which permits are exact (R119). -/
def energyScale : Nat := 2 ^ 20

/-- Energy of one permit in a pace, in units of 10^-14 J x 2^-20: 4 mW over 2^-20 s, or over 0.6 µs while the pace is not calibrated. -/
def permitEnergy (s : State) : Nat := if s.pace.calibrated then 4 * 10 ^ 11 else 240000 * energyScale

/-- Places of the credits (R119): custody. -/
def crCustody : Nat := 0
/-- RNS engine -/
def crRns : Nat := 1
/-- digest engine -/
def crDigest : Nat := 2
/-- relay -/
def crRelay : Nat := 3
/-- controller -/
def crController : Nat := 4
/-- background engine -/
def crBackground : Nat := 5

/-- An engine's credit; below 0 it is owed. -/
def creditOf (s : State) (i : Nat) : Int := s.power.credits.getD i 0

/-- Whether an engine's credit covers n units of work. -/
def covers (s : State) (i unit n : Nat) : Bool := decide ((energyScale * (unit * n) : Nat) ≤ creditOf s i)

/-- Units of work that an engine's credit covers. -/
def unitsCovered (s : State) (i unit : Nat) : Nat := (creditOf s i).toNat / (energyScale * unit)

/-- Energy taken from an engine's credit. -/
def spendCredit (s : State) (i e : Nat) : State :=
  { s with power := { s.power with credits := s.power.credits.set i (creditOf s i - (energyScale * e : Nat)) } }

/-- Lines that the custody path moves for the block's own work: charged to a lane, and paid from the foreground's credit. -/
def workLines (s : State) (lane : Nat) (c : CustClass) (n : Nat) : State :=
  spendCredit (chargeLines s lane c n) crCustody (n * lineEnergy s c)

/-- Lines of the background engine: its own credit pays first, then what the foreground has left unspent (R479). -/
def backgroundLines (s : State) (lane : Nat) (c : CustClass) (n : Nat) : State :=
  spendCredit (chargeLines s lane c n) (if creditOf s crBackground ≤ 0 ∧ 0 < creditOf s crCustody then crCustody else crBackground)
    (n * lineEnergy s c)

/-! ### The standing draw (R115, R126) -/

/-- The standing draw in mW. -/
def standingMw (s : State) : Nat := Config.standingDraw s.pace.vddMv s.pace.tj

/-- The standing draw of n paces in units of 2^-40 J. -/
def standingUnits (s : State) (n : Nat) : Nat :=
  if s.pace.calibrated then n * standingMw s * 2 ^ 20 / 1000 else n * standingMw s * 600 * 2 ^ 40 / 10 ^ 12

/-- Paces that pass within one step: counted, with their standing draw (R107, R126). -/
def passPaces (s : State) (n : Nat) : State :=
  count { s with pace := { s.pace with now := s.pace.now + n } } 0x7808 (standingUnits s n)

end Sys2Proof.Machine
end

