-- ==== Sys2Proof/Machine/KeyRoad.lean ====
section
/-!
DEFINITION. The key road's derivations (R277, R278) and the key cache (R282).
-/

namespace Sys2Proof.Machine

open Sys2Proof

/-! ### The vault (R297) -/

/-- The bitwise majority of three copies (R86). -/
def vote3 {n : Nat} (a b c : BitVec n) : BitVec n := (a &&& b) ||| (a &&& c) ||| (b &&& c)

/-- Whether at least two of three copies agree (R86). -/
def agree3 {n : Nat} (a b c : BitVec n) : Bool := a == b || a == c || b == c

/-- CONTROL as voted. -/
def Vault.control (v : Vault) : W32 := vote3 v.controlA v.controlB v.controlC
/-- CONTROL written, in all its copies. -/
def Vault.withControl (v : Vault) (w : W32) : Vault := { v with controlA := w, controlB := w, controlC := w }
/-- A bit of CONTROL written. -/
def Vault.setControl (v : Vault) (i : Nat) (b : Bool) : Vault :=
  v.withControl ((v.control &&& ~~~(flag 32 i true)) ||| flag 32 i b)
/-- CONTROL.PROVISIONED -/
def Vault.provisioned (v : Vault) : Bool := bit v.control 0
/-- CONTROL.ROOT_VALID -/
def Vault.rootValid (v : Vault) : Bool := bit v.control 1
/-- CONTROL.ROOT_TEST -/
def Vault.rootTest (v : Vault) : Bool := bit v.control 2
/-- CONTROL.REALM_PENDING -/
def Vault.realmPending (v : Vault) : Bool := bit v.control 3

/-- The saved tree root as voted; nothing where no two copies agree (R189). -/
def Vault.savedRoot (v : Vault) : Option Line :=
  if agree3 v.rootA v.rootB v.rootC then some (vote3 v.rootA v.rootB v.rootC) else none

/-- The 1,024 octets of the vault; integers of 32 and 64 bits are little-endian (R7, R297), keys as their octets. -/
def vaultOctets (v : Vault) : Octets :=
  beOctets 32 v.bedrockMasked.toNat ++ beOctets 32 v.mask.toNat ++ octetsOfLine v.rootA ++ octetsOfLine v.rootB ++ octetsOfLine v.rootC
    ++ octetsOfWords [v.controlA, v.controlB, v.controlC, 0] ++ octetsOfBlock v.check ++ beOctets 48 v.authority.toNat
    ++ octetsOfWords [v.realmId, v.realmEpoch, v.kumCount, v.storeGen, v.nextRealmId, v.nextRealmEpoch, v.startCount, 0,
      v.tamperCount, v.sleepCount, BitVec.ofNat 32 v.logHead.toNat, 0]
    ++ (List.range 16).flatMap (fun i => leOctets 8 (tget 0 v.mono i).toNat)
    ++ (List.range 64).flatMap (fun i => octetsOfWord (tget 0 v.laneGens i))
    ++ (List.range 16).flatMap (fun i => octetsOfBlock (tget 0 v.tlog i))

/-- The words of a vault read from its 1,024 octets. -/
def vaultOf (v : Vault) (o : Octets) : Vault :=
  { v with
    bedrockMasked := BitVec.ofNat 256 (ofBe (slice o 0 32)), mask := BitVec.ofNat 256 (ofBe (slice o 0x020 32))
    rootA := lineOfOctets (slice o 0x040 64), rootB := lineOfOctets (slice o 0x080 64), rootC := lineOfOctets (slice o 0x0C0 64)
    controlA := wordAt o 0x100, controlB := wordAt o 0x104, controlC := wordAt o 0x108
    check := blockOfOctets (slice o 0x110 16), authority := BitVec.ofNat 384 (ofBe (slice o 0x120 48))
    realmId := wordAt o 0x150, realmEpoch := wordAt o 0x154, kumCount := wordAt o 0x158, storeGen := wordAt o 0x15C
    nextRealmId := wordAt o 0x160, nextRealmEpoch := wordAt o 0x164, startCount := wordAt o 0x168
    tamperCount := wordAt o 0x170, sleepCount := wordAt o 0x174, logHead := BitVec.ofNat 4 (wordAt o 0x178).toNat
    mono := (List.range 16).foldl (fun t i => tset 0 t i (BitVec.ofNat 64 (ofLe (slice o (0x180 + 8 * i) 8)))) []
    laneGens := (List.range 64).foldl (fun t i => tset 0 t i (wordAt o (0x200 + 4 * i))) []
    tlog := (List.range 16).foldl (fun t i => tset 0 t i (blockOfOctets (slice o (0x300 + 16 * i) 16))) [] }

/-- A 128-bit word of the vault written, by its logical place. -/
def putVaultWord (v : Vault) (i : Nat) (b : Block) : Vault :=
  let o := vaultOctets v
  vaultOf v (o.take (16 * i) ++ octetsOfBlock b ++ o.drop (16 * i + 16))

/-! ### Derivations -/

/-- A 256-bit key as its 32 octets. -/
def keyOctets (k : BitVec 256) : Octets := beOctets 32 k.toNat
/-- A 256-bit key from its first 32 octets. -/
def keyOf (o : Octets) : BitVec 256 := BitVec.ofNat 256 (ofBe (padTo 32 o))

/-- TEST_ROOT (R283). -/
def testRoot : Octets := (sha384 (ascii "STB7 TEST ROOT")).take 32

/-- IDK(Label, n) (R277). -/
def idk (s : State) (label : Octets) (n : Nat) : Octets :=
  ((List.range (ceilDiv n 48)).flatMap
    (fun i => hmacSha384 (beOctets 48 s.keys.identitySeed.toNat) (BitVec.ofNat 8 (i + 1) :: label))).take n

/-- Tier 1 derived from a tier-0 key (R277). -/
def deriveTier1 (s : State) (b : Octets) : State :=
  { s with keys := { s.keys with
      custodyRoot := keyOf (kdf b (ascii "STB7 CUSTODY") [] 32)
      relayRoot := keyOf (kdf b (ascii "STB7 RELAY") [] 32)
      sealingRoot := keyOf (kdf b (ascii "STB7 SEALING") [] 32)
      identitySeed := BitVec.ofNat 384 (ofBe (hmacSha384 b (ascii "STB7 IDENTITY"))) } }

/-- The vault as the block reads it: nothing where the life-cycle state leaves it unread (R299, R443). -/
def vaultView (s : State) : Vault := if s.keys.vaultState = 2 then {} else s.vault

/-- The realm key from CUSTODY_ROOT and the vault's realm values (R278). -/
def deriveRealm (s : State) : State :=
  { s with keys := { s.keys with
      realmKey := keyOf (kdf (keyOctets s.keys.custodyRoot) (ascii "STB7 REALM")
        (beOctets 4 (vaultView s).realmId.toNat ++ beOctets 4 (vaultView s).realmEpoch.toNat) 32) } }

/-- The lane key of lane l under its current generation (R278). -/
def laneKeyOf (s : State) (l : Nat) : BitVec 256 :=
  keyOf (kdf (keyOctets s.keys.realmKey) (ascii "STB7 LANE")
    (BitVec.ofNat 8 l :: beOctets 4 (laneAt s l).gen.toNat) 32)

/-- Lane l's register recomputed (R276). -/
def deriveLane (s : State) (l : Nat) : State :=
  { s with keys := { s.keys with laneKeys := tset 0 s.keys.laneKeys l (laneKeyOf s l) } }

/-- Every lane key recomputed. -/
def deriveLanes (s : State) : State := (List.range 64).foldl deriveLane s

/-- The inputs of a context key (R278). -/
def ctxKeyContext (s : State) (c : Nat) : Octets :=
  let v := ctxAt s c
  BitVec.ofNat 8 v.lane.toNat :: beOctets 4 (laneAt s v.lane.toNat).gen.toNat ++ beOctets 2 c
    ++ beOctets 1 v.keyGen.toNat ++ beOctets 3 v.epoch.toNat

/-- The context key under the context's current values, derived from its lane key (R278). -/
def deriveCtxKey (s : State) (c : Nat) : CtxKey :=
  let o := kdf (keyOctets (tget 0 s.keys.laneKeys (ctxAt s c).lane.toNat)) (ascii "STB7 CONTEXT") (ctxKeyContext s c) 48
  { enc := keyOf (o.take 32), hash := blockOfOctets (o.drop 32) }

/-- A key cache entry whose tags are the context's current values (R282). -/
def cachedKey (s : State) (c : Nat) : Option CtxKey :=
  let v := ctxAt s c
  match tfind s.keys.cache c with
  | some e =>
    if e.epoch = v.epoch ∧ e.keyGen = v.keyGen ∧ e.laneGen = (laneAt s v.lane.toNat).gen then some e.key else none
  | none => none

/-- The key of a context: cached, or as it derives (R282). -/
def ctxKey (s : State) (c : Nat) : CtxKey := (cachedKey s c).getD (deriveCtxKey s c)

/-- The entry least recently used. -/
def lruKey (t : Table CacheKey) : Option Nat :=
  (t.foldl (fun b e => match b with
    | none => some (e.1, e.2.used)
    | some d => if e.2.used < d.2 then some (e.1, e.2.used) else some d) none).map Prod.fst

/-- A derived key put into the key cache of 1,024 entries, evicting the least recently used (R282). -/
def cacheKey (s : State) (c : Nat) (k : CtxKey) : State :=
  let v := ctxAt s c
  let t := tdel s.keys.cache c
  let t1 := if t.length < 1024 then t else (match lruKey t with
    | some j => tdel t j
    | none => t)
  let e : CacheKey :=
    { epoch := v.epoch, keyGen := v.keyGen, laneGen := (laneAt s v.lane.toNat).gen, key := k, used := s.keys.clock }
  { s with keys := { s.keys with clock := s.keys.clock + 1, cache := tput t1 c e } }

/-- A context's key made ready: a hit is marked used, a miss derives and counts (R282, R308). -/
def readyKey (s : State) (c : Nat) : State :=
  match cachedKey s c with
  | some k => cacheKey s c k
  | none => count (cacheKey s c (deriveCtxKey s c)) 0x78C0 1

/-- A context's key cache entry dropped, with its derivations (R136). -/
def dropKey (s : State) (c : Nat) : State :=
  { s with keys := { s.keys with cache := tdel s.keys.cache c, inFlight := s.keys.inFlight.filter (fun d => decide (d ≠ c)) } }

end Sys2Proof.Machine
end

