-- ==== Sys2Proof/Machine/Egress.lean ====
section
/-!
DEFINITION. Fields of a map entry (R142) and the `CUST_OUT` channels as every access uses them (R39, R68, R156).
-/

namespace Sys2Proof.Machine

open Sys2Proof

/-! ### Map entries (R142) -/

/-- CTX of a map entry. -/
def entCtx (e : W32) : Nat := bits e 18 14
/-- CLASS of a map entry. -/
def entClass (e : W32) : CustClass :=
  match bits e 16 2 with
  | 0 => .openC
  | 1 => .sealedC
  | 2 => .versionedC
  | _ => .streamC
/-- Code of a class. -/
def classCode : CustClass → Nat
  | .openC => 0
  | .sealedC => 1
  | .versionedC => 2
  | .streamC => 3
/-- STATE of a map entry. -/
def entState (e : W32) : PageState :=
  match bits e 13 3 with
  | 0 => .free
  | 1 => .claimed
  | 2 => .live
  | 3 => .frozen
  | 4 => .sweeping
  | 5 => .poisoned
  | 6 => .lost
  | _ => .reserved
/-- Code of a page state. -/
def stateCode : PageState → Nat
  | .free => 0
  | .claimed => 1
  | .live => 2
  | .frozen => 3
  | .sweeping => 4
  | .poisoned => 5
  | .lost => 6
  | .reserved => 7
/-- SHARED. -/
def entShared (e : W32) : Bool := bit e 12
/-- WR. -/
def entWr (e : W32) : Bool := bit e 11
/-- RD. -/
def entRd (e : W32) : Bool := bit e 10
/-- EPOCH4. -/
def entEpoch4 (e : W32) : Nat := bits e 6 4
/-- AUX. -/
def entAux (e : W32) : Nat := bits e 0 6

/-- A map entry from its fields. -/
def mkEntry (ctx : Nat) (c : CustClass) (st : PageState) (shared wr rd : Bool) (ep aux : Nat) : W32 :=
  field 32 18 14 ctx ||| field 32 16 2 (classCode c) ||| field 32 13 3 (stateCode st) ||| flag 32 12 shared
    ||| flag 32 11 wr ||| flag 32 10 rd ||| field 32 6 4 ep ||| field 32 0 6 aux

/-- An entry in another page state. -/
def entWithState (e : W32) (st : PageState) : W32 := (e &&& 0xFFFF1FFF) ||| field 32 13 3 (stateCode st)
/-- An entry with other RD and WR. -/
def entWithRights (e : W32) (rd wr : Bool) : W32 := (e &&& 0xFFFFF3FF) ||| flag 32 11 wr ||| flag 32 10 rd
/-- An entry with another AUX. -/
def entWithAux (e : W32) (aux : Nat) : W32 := (e &&& 0xFFFFFFC0) ||| field 32 0 6 aux

/-! ### Egress channels (R39, R68, R156) -/

/-- A `CUST_OUT` channel. -/
def outChan (s : State) (ch : Nat) : OutChannel := s.cust.outs.getD ch {}
/-- A `CUST_OUT` channel written. -/
def setOut (s : State) (ch : Nat) (v : OutChannel) : State := { s with cust := { s.cust with outs := setAt {} s.cust.outs ch v } }

/-- The egress channel of a line (R156). -/
def egressOf (s : State) (la : Nat) : Nat :=
  let sh := bits (fixedReg s 0x1010) 0 4
  let c := (la >>> sh) % 4
  if bit (fixedReg s 0x1010) 4 then c ^^^ ((la >>> (sh + 2)) % 4) else c

/-- Whether an egress channel answers FAILED for want of a partner (R68). -/
def egressDown (s : State) (ch : Nat) : Bool := (outChan s ch).stalled || decide (64 ≤ (outChan s ch).retired.length)

/-- The lowest free egress tag of a channel. -/
def freeEgressTag (s : State) (ch : Nat) : Option Nat :=
  let v := outChan s ch
  firstBelow 1024 (fun t => !(v.reqs.any (fun r => decide (r.tag = t)) || v.retired.any (fun r => decide (r.tag = t))))

end Sys2Proof.Machine
end

