-- ==== Sys2Proof/Machine/Memory.lean ====
section
/-!
DEFINITION. External memory as the block reaches it, the metadata region's layout (R163), the metadata cache (R191 to R193) and
the counter tree: fetching with verification (R184, R185), write-back with reseal records (R186).
-/

namespace Sys2Proof.Machine

open Sys2Proof

/-! ### The window and the metadata region (R141, R156, R163) -/

/-- First page of the window. -/
def winBase (s : State) : Nat := bits (fixedReg s 0x1000) 0 24
/-- Largest window in pages: N0. -/
def winMax (s : State) : Nat := bits (fixedReg s 0x1004) 0 25
/-- Current window in pages. -/
def winPages (s : State) : Nat := bits (activeReg s 0x1008) 0 25
/-- First page of the map. -/
def mapBase (s : State) : Nat := bits (fixedReg s 0x100C) 0 24
/-- First page of the metadata region. -/
def metaBase (s : State) : Nat := bits (fixedReg s 0x1018) 0 24
/-- First page of the sweep ledger. -/
def ledgerBase (s : State) : Nat := bits (fixedReg s 0x1028) 0 24

/-- Whether a page lies in the current window (R141). -/
def inWindow (s : State) (p : Nat) : Bool := decide (winBase s ≤ p ∧ p < winBase s + winPages s)

/-- N_i (R163). -/
def levelSize (n0 : Nat) : Nat → Nat
  | 0 => n0
  | i + 1 => ceilDiv (levelSize n0 i) 64

/-- D: node levels below the root (R163, R183). -/
def treeDepth (s : State) : Nat :=
  let n := winMax s
  if n ≤ 64 then 0 else if levelSize n 1 ≤ 64 then 1 else if levelSize n 2 ≤ 64 then 2 else 3

/-- First line of the seal area. -/
def sealArea (s : State) : Nat := 64 * metaBase s
/-- First line of the counter-block area. -/
def ctrArea (s : State) : Nat := sealArea s + 8 * winMax s
/-- First line of the seals of level i; of the nodes of level i + 1. -/
def levelSeals (s : State) : Nat → Nat
  | 0 => ctrArea s + winMax s
  | i + 1 => levelSeals s i + ceilDiv (levelSize (winMax s) i) 8 + levelSize (winMax s) (i + 1)
/-- First line of the nodes of level i + 1. -/
def levelNodes (s : State) (i : Nat) : Nat := levelSeals s i + ceilDiv (levelSize (winMax s) i) 8

/-! ### The memory controller -/

/-- The answer set for an access of this step, if it deviates from what is stored. -/
def busAnswer (s : State) (write : Bool) (la : Nat) : Option MemReply :=
  (s.bus.find? (fun a => decide (a.addr.toNat = la) && a.write == write)).map MemAns.reply

/-- Stores to a line that the memory controller has not answered yet, oldest first. -/
def storesInFlight (s : State) (la : Nat) : List EgReq :=
  s.cust.outs.flatMap (fun o => o.reqs.filter (fun r => r.write && decide (r.addr = la) && !r.superseded))

/-- What a read of the block returns as stored: the newest store issued, else memory's line (R28). -/
def storedLine (s : State) (la : Nat) : Line :=
  match (storesInFlight s la).getLast? with
  | some r => r.data
  | none => tget 0 s.dram la

/-- Whether a line is metadata on its way: of the metadata region or of the custody map (R39). -/
def isMetaLine (s : State) (la : Nat) : Bool :=
  decide (sealArea s ≤ la ∧ la < levelSeals s (treeDepth s) + ceilDiv (levelSize (winMax s) (treeDepth s)) 8)
    || decide (64 * mapBase s ≤ la ∧ la < 64 * mapBase s + ceilDiv (winMax s) 16)

/-- The egress channel of an access that the block makes for itself: metadata goes to channel 3 where it is steered (R194). -/
def ownChannel (s : State) (la : Nat) : Nat := if bit (fixedReg s 0x101C) 0 && isMetaLine s la then 3 else egressOf s la

/-- Whether the channel of an access of the block is out of use (R68). -/
def ownDown (s : State) (la : Nat) : Bool := egressDown s (ownChannel s la)

/-- One line read by the block itself; a channel out of use does not answer (R68). -/
def memRead (s : State) (la : Nat) : MemReply := if ownDown s la then .silent else (busAnswer s false la).getD (.data (storedLine s la))

/-- Older stores to a line that a newer one has overtaken: their answers store nothing more. -/
def supersede (s : State) (la : Nat) : State :=
  { s with cust := { s.cust with outs := s.cust.outs.map (fun o => { o with
      reqs := o.reqs.map (fun r => if r.write && decide (r.addr = la) then { r with superseded := true } else r),
      retired := o.retired.map (fun r => if r.write && decide (r.addr = la) then { r with superseded := true } else r) }) } }

/-- A line stored in memory. -/
def storeLine (s : State) (la : Nat) (l : Line) : State := supersede { s with dram := tset 0 s.dram la l } la

/-- An access of the block that the memory controller left unanswered: NO_RESPONSE is logged and its tag retired (R62, R68). On a channel
that is out of use nothing went out. -/
def ownSilent (s : State) (write : Bool) (la : Nat) (l : Line) : State :=
  let ch := ownChannel s la
  if egressDown s ch then s
  else match freeEgressTag s ch with
    | none => s
    | some t =>
      let s1 := if write then supersede s la else s
      let v := outChan s1 ch
      let x : Retired := { tag := t, write := write, addr := la, data := l, left := 1, superseded := false }
      violate (setOut s1 ch { v with retired := v.retired ++ [x] }) (pCustOut ⟨ch % 4, Nat.mod_lt _ (by decide)⟩) kNoResponse none

/-- What follows a read that found a line silent. -/
def readSilent (s : State) (la : Nat) : State := if memRead s la = .silent then ownSilent s false la 0 else s

/-- One line written by the block itself: whether the memory controller stored it. After an orderly sleep the block changes no memory
(R301). -/
def memWrite (s : State) (la : Nat) (l : Line) : Bool × State :=
  if s.keys.asleep then (true, s) else if ownDown s la then (false, s) else match busAnswer s true la with
  | some .err => (false, s)
  | some .silent => (false, ownSilent s true la l)
  | _ => (true, storeLine s la l)

/-- Whether a write that was not stored met a memory controller that did not answer, rather than one that reported an error. -/
def writeSilent (s : State) (la : Nat) : Bool := ownDown s la || decide (busAnswer s true la = some .silent)

/-- Line address of a tree item in the metadata region. -/
def itemAddr (s : State) : TreeItem → Nat
  | .ctr q => ctrArea s + q
  | .node i n => levelNodes s (i - 1) + n
  | .root => 0

/-- Line that holds an item's seal, and the seal's place in it. -/
def itemSeal (s : State) : TreeItem → Nat × Nat
  | .ctr q => (levelSeals s 0 + q / 8, q % 8)
  | .node i n => (levelSeals s i + n / 8, n % 8)
  | .root => (0, 0)

/-- An item's parent and its slot there (R163). -/
def parentOf (s : State) : TreeItem → TreeItem × Nat
  | .ctr q => (if treeDepth s = 0 then .root else .node 1 (q / 64), q % 64)
  | .node i n => (if i = treeDepth s then .root else .node (i + 1) (n / 64), n % 64)
  | .root => (.root, 0)

/-- Line of a data line's 64-bit seal, and its place (R163, R166). -/
def lineSealAt (s : State) (q k : Nat) : Nat × Nat := (sealArea s + 8 * q + k / 8, k % 8)
/-- Line of a SEALED line's 16-bit check, and its place. -/
def lineCheckAt (s : State) (q k : Nat) : Nat × Nat := (sealArea s + 8 * q + k / 32, k % 32)

/-- Page index and line index of a line address. -/
def pageOfLine (la : Nat) : Nat := la / 64
/-- q of a page (R163). -/
def pageIndex (s : State) (p : Nat) : Nat := p - winBase s

/-- Line that holds the seal or check of a line of a class. -/
def sealPlace (s : State) (c : CustClass) (q k : Nat) : Nat × Nat :=
  match c with
  | .sealedC => lineCheckAt s q k
  | _ => lineSealAt s q k

/-- Seal j of a seal line: a big-endian 64-bit word. -/
def sealIn (l : Line) (j : Nat) : W64 := BitVec.ofNat 64 (ofBe (slice (octetsOfLine l) (8 * j) 8))
/-- A seal line with seal j replaced. -/
def withSeal (l : Line) (j : Nat) (w : W64) : Line :=
  let o := octetsOfLine l
  lineOfOctets (o.take (8 * j) ++ beOctets 8 w.toNat ++ o.drop (8 * j + 8))
/-- Check j of a check line: a big-endian 16-bit word. -/
def checkIn (l : Line) (j : Nat) : BitVec 16 := BitVec.ofNat 16 (ofBe (slice (octetsOfLine l) (2 * j) 2))
/-- A check line with check j replaced. -/
def withCheck (l : Line) (j : Nat) (w : BitVec 16) : Line :=
  let o := octetsOfLine l
  lineOfOctets (o.take (2 * j) ++ beOctets 2 w.toNat ++ o.drop (2 * j + 2))

/-! ### The metadata cache (R191 to R193) -/

/-- Reserved ways of a group (R196). -/
def reservedWays (s : State) : WayGroup → Nat
  | .sealedG => bits (fixedReg s 0x101C) 4 4
  | .versionedG => bits (fixedReg s 0x101C) 8 4
  | .streamG => bits (fixedReg s 0x101C) 12 4
  | .treeG => bits (fixedReg s 0x101C) 16 4

/-- The way group of a class (R192); an OPEN claim or sweep uses the VERSIONED group. -/
def groupOfClass : CustClass → WayGroup
  | .openC => .versionedG
  | .sealedC => .sealedG
  | .versionedC => .versionedG
  | .streamC => .streamG

/-- The set of a line. -/
def metaSetOf (la : Nat) : Nat := Config.metaSet la % 384

/-- Dirty lines now. -/
def dirtyLines (s : State) : Nat := tcount s.tree.lines (fun _ m => m.dirty)

/-- The dirty line that has been dirty longest, some lines left out. -/
def oldestDirty (s : State) (kept : List Nat) : Option Nat :=
  ((s.tree.lines.filter (fun e => e.2.dirty && !kept.contains e.1)).foldl (fun b e => match b with
    | none => some (e.1, e.2.dirtyAt)
    | some d => if e.2.dirtyAt < d.2 then some (e.1, e.2.dirtyAt) else some d) none).map Prod.fst

/-- Whether a request stands between its metadata and its issue, or holds its lines for the write half of a masked write (R191). -/
def usesMeta (r : CustReq) : Bool := match r.stage with
  | .walk => false
  | .fetch => false
  | .writing => false
  | .answering => false
  | .reading => decide (r.op = 2)
  | _ => true

/-- The metadata lines that requests in flight use: none of them is evicted (R191). -/
def linesInUse (s : State) : List Nat :=
  (s.cust.reqs.filter (fun r => usesMeta r && entClass r.entry != .openC)).flatMap (fun r =>
    let q := pageIndex s (pageOfLine r.addr)
    itemAddr s (.ctr q) :: (List.range r.n).map (fun i => (sealPlace s (entClass r.entry) q ((r.addr + i) % 64)).1))

/-- Lines with their order of use, put in by that order. -/
def insertUsed (x : Nat × Nat) : List (Nat × Nat) → List (Nat × Nat)
  | [] => [x]
  | y :: rest => if x.2 ≤ y.2 then x :: y :: rest else y :: insertUsed x rest

/-- The lines that a fill of group g may evict from its full set, least recently used first: its own group's lines and those of groups
above their reservation, but for lines in use (R191, R192). -/
def evictable (s : State) (la : Nat) (g : WayGroup) : List Nat :=
  let inSet := s.tree.lines.filter (fun e => metaSetOf e.1 == metaSetOf la)
  let occ (h : WayGroup) : Nat := (inSet.filter (fun e => decide (e.2.group = h))).length
  let used := linesInUse s
  ((inSet.filter (fun e => (decide (e.2.group = g) || decide (reservedWays s e.2.group < occ e.2.group)) && !used.contains e.1)).foldr
    (fun e r => insertUsed (e.1, e.2.used) r) []).map Prod.fst

/-- Whether a fill of a line finds its set full. -/
def setFull (s : State) (la : Nat) : Bool :=
  decide (16 ≤ s.tree.lines.length) &&
    decide (16 ≤ (s.tree.lines.filter (fun e => metaSetOf e.1 == metaSetOf la)).length)

/-- A line put into the cache. -/
def putMeta (s : State) (la : Nat) (m : MetaLine) : State :=
  { s with tree := { s.tree with lines := tput s.tree.lines la m, clock := s.tree.clock + 1 } }

/-- A line taken out of the cache. -/
def dropMeta (s : State) (la : Nat) : State := { s with tree := { s.tree with lines := tdel s.tree.lines la } }

/-- A cached line marked used; a hit counts (R199). -/
def hitMeta (s : State) (la : Nat) (m : MetaLine) : State := count (putMeta s la { m with used := s.tree.clock }) 0x7830 1

/-- A new clean line. -/
def cleanLine (s : State) (g : WayGroup) (t : Option TreeItem) (l : Line) : MetaLine :=
  { group := g, item := t, data := l, dirty := false, dirtyAt := 0, used := s.tree.clock }

/-- The contents of a tree item that is at hand: the root, or a cached item. -/
def itemAtHand (s : State) (t : TreeItem) : Option Line :=
  match t with
  | .root => some s.tree.root
  | t => (tfind s.tree.lines (itemAddr s t)).map MetaLine.data

/-- The record held for an item (R180, R186). -/
def rekeyOf (s : State) (t : TreeItem) : Option Rekey := s.tree.rekeys.find? (fun r => decide (r.item = t))

/-- The counters that stand for a child: the parent's, or its old ones while the child's pending bit is set (R186). -/
def childCounters (s : State) (p : TreeItem) (l : Line) (slot : Nat) : Nat × Nat :=
  match rekeyOf s p with
  | some r => if r.pending.testBit slot then (majorOf r.old, minorOf r.old slot) else (majorOf l, minorOf l slot)
  | none => (majorOf l, minorOf l slot)

/-- A pending bit cleared; a record whose mask is empty is freed and counts (R180). -/
def clearPending (s : State) (t : TreeItem) (slot : Nat) : State :=
  match rekeyOf s t with
  | none => s
  | some r =>
    if !r.pending.testBit slot then s
    else
      let m := r.pending - 2 ^ slot
      let others := s.tree.rekeys.filter (fun x => decide (x.item ≠ t))
      if m = 0 then count { s with tree := { s.tree with rekeys := others } } 0x7850 1
      else { s with tree := { s.tree with
        rekeys := s.tree.rekeys.map (fun x => if x.item = t then { x with pending := m } else x) } }

/-- A record abandoned and freed (R181, R221). -/
def abandonRekey (s : State) (t : TreeItem) : State :=
  { s with tree := { s.tree with rekeys := s.tree.rekeys.filter (fun x => decide (x.item ≠ t)) } }

/-- The outcome of fetching a tree item: its verified contents, or the item that failed (R184, R188). -/
inductive Fetched where
  | ok (l : Line)
  | bad (t : TreeItem)
  /-- the memory controller did not answer -/
  | silent
deriving DecidableEq, Repr

/-- An item checked against its seal under its parent's counters (R170, R174): its contents where they verify, and whether a symbol was
corrected. -/
def checkItem (s : State) (t : TreeItem) (l : Line) (w : W64) (major minor : Nat) : Option Line × Bool :=
  match decodeSeal l w with
  | none => (none, false)
  | some c => (if mac48 (ctxKey s 0) c.item major minor (itemAddr s t) = c.mac then some c.item else none, c.fixed)

/-- An item read, checked and counted (R174, R199, R308): its contents where they verify. -/
def readItem (s : State) (t : TreeItem) (l : Line) (w : W64) (major minor : Nat) : Option Line × State :=
  let s0 := readyKey s 0
  let (v, fixed) := checkItem s0 t l w major minor
  let s1 := if fixed then count s0 0x7840 1 else s0
  (v, if v.isSome then s1 else count s1 0x7848 1)

/-- Lowest page beneath a node: 64^i pages each (R188). -/
def nodeFirstPage (s : State) (i n : Nat) : Nat := winBase s + n * 64 ^ i

/-- A failing node reported at its first failure and at most once for every 1,048,576 paces after that (R188). A fetch that finds it well
in between does not begin this anew (DESIGN CHOICE, log 140). -/
def reportNode (s : State) (i n : Nat) : State :=
  let t := TreeItem.node i n
  let due := match s.tree.failing.find? (fun x => decide (x.1 = t)) with
    | some x => decide (x.2 + 1048576 ≤ s.pace.now)
    | none => true
  if due then
    let fl := (t, s.pace.now) :: s.tree.failing.filter (fun x => decide (x.1 ≠ t))
    let s1 := { s with tree := { s.tree with failing := fl } }
    faultNotice s1 0x03 none (nodeFirstPage s i n) i
  else s

/-- A tree item failed: a node is reported (R188). -/
def itemBad (s : State) (t : TreeItem) : State := match t with
  | .node i n => reportNode s i n
  | _ => s

/-- The parent's contents with its counter for a slot raised, and the record of a reseal where the minor passes 127 (R186); nothing
where a record is needed and none is free. -/
def bumpSlot (s : State) (p : TreeItem) (l : Line) (slot : Nat) : Option (Line × State) :=
  if minorOf l slot < 127 then some (withMinor l slot (minorOf l slot + 1), clearPending s p slot)
  else if (rekeyOf s p).isSome ∨ 16 ≤ s.tree.rekeys.length then none
  else
    let r : Rekey := { item := p, old := l, pending := liveMask l - 2 ^ slot, ctx := 0 }
    some (withMinor (freshItem (majorOf l + 1)) slot 1,
      if r.pending = 0 then count s 0x7850 1 else { s with tree := { s.tree with rekeys := s.tree.rekeys ++ [r] } })

/-- An item's contents replaced in the cache and marked dirty. -/
def markDirty (s : State) (t : TreeItem) (l : Line) : State :=
  match t with
  | .root => { s with tree := { s.tree with root := l } }
  | t =>
    match tfind s.tree.lines (itemAddr s t) with
    | some m => putMeta s (itemAddr s t)
        { m with data := l, dirty := true, dirtyAt := if m.dirty then m.dirtyAt else s.tree.clock }
    | none => s

/-- A seal or check line as it stands: cached, or in memory. -/
def sealLineNow (s : State) (la : Nat) : Option Line :=
  match tfind s.tree.lines la with
  | some m => some m.data
  | none => match memRead s la with
    | .data l => some l
    | _ => none

/-- What a write-back came to (R186). -/
inductive Written where
  | done
  /-- it needs a record and all 16 are in use: the item stays dirty meanwhile -/
  | waits
  /-- its parent failed, or memory did not take it -/
  | failed
deriving DecidableEq, Repr

/-- Whether a line is not at hand and the memory controller does not answer for it: a port fault (R68), not a failed check. -/
def lineSilent (s : State) (la : Nat) : Bool :=
  (tfind s.tree.lines la).isNone && decide (memRead s la = .silent)

mutual

/-- A tree item fetched and verified from the top down (R184, R185); fuel bounds the levels and the evictions. Evictions made for it may
change what it is verified against, so that is read once its way is free. -/
def metaFetch : Nat → State → TreeItem → WayGroup → Fetched × State
  | 0, s, t, _ => (.bad t, s)
  | f + 1, s, t, g =>
    match t with
    | .root => (.ok s.tree.root, s)
    | t =>
      let la := itemAddr s t
      match tfind s.tree.lines la with
      | some m => (.ok m.data, hitMeta s la m)
      | none =>
        let (p, slot) := parentOf s t
        if s.tree.dead.contains t then (.bad t, itemBad (count s 0x7848 1) t)
        else match metaFetch f s p .treeG with
        | (.bad b, s1) => (.bad b, s1)
        | (.silent, s1) => (.silent, s1)
        | (.ok pl, s1) =>
          let s2 := if (childCounters s1 p pl slot).2 = 0 then s1 else (metaPlain f s1 (itemSeal s1 t).1 .treeG).2
          let (room, s3) := metaRoom f s2 la g
          match tfind s3.tree.lines la with
          | some m => (.ok m.data, s3)
          | none =>
            let (major, minor) := childCounters s3 p ((itemAtHand s3 p).getD pl) slot
            let put (s : State) (l : Line) : State := if room then putMeta s la (cleanLine s g (some t) l) else s
            if minor = 0 then (.ok 0, put s3 0)
            else
              let s4 := count s3 0x7838 1
              match sealLineNow s4 (itemSeal s4 t).1, memRead s4 la with
              | some sl, .data l =>
                match readItem s4 t l (sealIn sl (itemSeal s4 t).2) major minor with
                | (some v, s5) => (.ok v, put s5 v)
                | (none, s5) => (.bad t, itemBad s5 t)
              | _, _ =>
                if lineSilent s4 la then (.silent, readSilent s4 la)
                else if lineSilent s4 (itemSeal s4 t).1 then (.silent, readSilent s4 (itemSeal s4 t).1)
                else (.bad t, itemBad (count s4 0x7848 1) t)

/-- A seal or check line fetched; nothing where the memory controller does not return it. -/
def metaPlain : Nat → State → Nat → WayGroup → Option Line × State
  | 0, s, _, _ => (none, s)
  | f + 1, s, la, g =>
    match tfind s.tree.lines la with
    | some m => (some m.data, hitMeta s la m)
    | none =>
      let (room, s1) := metaRoom f s la g
      match tfind s1.tree.lines la with
      | some m => (some m.data, s1)
      | none =>
        let s2 := count s1 0x7838 1
        match memRead s2 la with
        | .data l => (some l, if room then putMeta s2 la (cleanLine s2 g none l) else s2)
        | _ => (none, readSilent s2 la)

/-- A way made free for a line, evicting as R192 allows; where none can be, the line is not cached. -/
def metaRoom : Nat → State → Nat → WayGroup → Bool × State
  | 0, s, _, _ => (false, s)
  | f + 1, s, la, g => if !setFull s la then (true, s) else metaEvict f s la g (evictable s la g)

/-- The first line of a list that can leave the cache leaves it: a clean one at once, a dirty one once it is written back. -/
def metaEvict : Nat → State → Nat → WayGroup → List Nat → Bool × State
  | 0, s, _, _, _ => (false, s)
  | _ + 1, s, _, _, [] => (false, s)
  | f + 1, s, la, g, v :: rest =>
    match tfind s.tree.lines v with
    | none => metaRoom f s la g
    | some e =>
      if !e.dirty then (true, dropMeta s v)
      else match metaWriteback f s v with
        | (.done, s1) => metaRoom f s1 la g
        | (_, s1) => metaEvict f s1 la g rest

/-- A dirty line written back (R186): a seal or check line as it is; a tree item with its seal under its parent's raised counter, the
parent made dirty first, or written back itself where it is not cached. -/
def metaWriteback : Nat → State → Nat → Written × State
  | 0, s, _ => (.failed, s)
  | f + 1, s, la =>
    match tfind s.tree.lines la with
    | none => (.done, s)
    | some m0 =>
      match m0.item with
      | none =>
        match memWrite s la m0.data with
        | (true, s1) => (.done, putMeta s1 la { m0 with dirty := false })
        | (false, s1) => (.failed, s1)
      | some t =>
        let (p, slot) := parentOf s t
        match metaPlain f s (itemSeal s t).1 .treeG with
        | (none, s1) => (.failed, s1)
        | (some sl0, s1) =>
          match metaFetch f s1 p .treeG with
          | (.bad _, s2) => (.failed, s2)
          | (.silent, s2) => (.failed, s2)
          | (.ok pl0, s2) =>
            match tfind s2.tree.lines la with
            | none => (.done, s2)
            | some m =>
              if !m.dirty then (.done, s2)
              else
                let sla := (itemSeal s2 t).1
                let sl := (sealLineNow s2 sla).getD sl0
                match bumpSlot s2 p pl0 slot with
                | none => (.waits, s2)
                | some (pl, s3) =>
                  let cached := (itemAtHand s3 p).isSome
                  let s4 := readyKey (if cached then markDirty s3 p pl
                    else putMeta s3 (itemAddr s3 p) { cleanLine s3 .treeG (some p) pl with dirty := true }) 0
                  let w := makeSeal m.data (mac48 (ctxKey s4 0) m.data (majorOf pl) (minorOf pl slot) la)
                  let sl' := withSeal sl (itemSeal s4 t).2 w
                  let w1 := memWrite s4 la m.data
                  let w2 := memWrite w1.2 sla sl'
                  let out : Written := if w1.1 && w2.1 then .done else .failed
                  let s7 := putMeta w2.2 la { m with dirty := !(w1.1 && w2.1) }
                  let s8 := match tfind s7.tree.lines sla with
                    | some sm => putMeta s7 sla { sm with data := sl', dirty := false }
                    | none => s7
                  -- R466: a changed major word goes to memory at once
                  if (decide (majorOf pl ≠ majorOf pl0) && decide (p ≠ .root)) || !cached then
                    let s9 := (metaWriteback f s8 (itemAddr s8 p)).2
                    (out, if cached then s9 else dropMeta s9 (itemAddr s9 p))
                  else (out, s8)

end

/-- Fuel for a walk of at most four levels with its evictions. -/
def metaFuel : Nat := 80

/-- A tree item fetched. -/
def fetchItem (s : State) (t : TreeItem) (g : WayGroup) : Fetched × State := metaFetch metaFuel s t g

/-- A seal or check line fetched. -/
def fetchPlain (s : State) (la : Nat) (g : WayGroup) : Option Line × State := metaPlain metaFuel s la g

/-- A line written back. -/
def writebackLine (s : State) (la : Nat) : Written × State := metaWriteback metaFuel s la

/-- A dirty line lost: its item's pages become LOST (R193); a seal or check line takes none with it. -/
def loseLine (s : State) (la : Nat) : State :=
  match tfind s.tree.lines la with
  | none => s
  | some m =>
    let s1 := dropMeta s la
    match m.item with
    | some t =>
      let node : Bool := match t with
        | .node _ _ => true
        | _ => false
      { s1 with tree := { s1.tree with lost := s1.tree.lost ++ [t], dead := if node then t :: s1.tree.dead else s1.tree.dead } }
    | none => s1

/-- A write-back that is forced: a line that cannot be written back is lost (R186). -/
def forceWriteback (s : State) (la : Nat) : State :=
  match writebackLine s la with
  | (.done, s1) => s1
  | (_, s1) => loseLine s1 la

/-- Room made for one more dirty line: while 1,024 are dirty, the oldest is written back (R193). One that cannot be is lost (R186); where
its parent's minor would pass 127 and all 16 records are in use it stays dirty, and the next oldest goes (log 116). -/
def makeRoom : Nat → List Nat → State → State
  | 0, _, s => s
  | f + 1, kept, s =>
    if dirtyLines s < 1024 then s
    else match oldestDirty s kept with
      | none => s
      | some v => match writebackLine s v with
        | (.done, s1) => makeRoom f kept s1
        | (.waits, s1) => makeRoom f (v :: kept) s1
        | (.failed, s1) => makeRoom f kept (loseLine s1 v)

/-- Room for a line that is about to become dirty; one that is dirty already needs none. -/
def roomForDirty (s : State) (la : Nat) : State :=
  if ((tfind s.tree.lines la).map MetaLine.dirty).getD false then s else makeRoom 1024 [] s

/-- A fetched tree item given new contents: dirty in the cache, or written back at once where it is not cached (R192), and at once
where its major word changed (R466). -/
def updateItem (s : State) (t : TreeItem) (g : WayGroup) (l : Line) : State :=
  let la := itemAddr s t
  let s1 := roomForDirty s la
  let m0 := tfind s1.tree.lines la
  let old := (m0.map MetaLine.data).getD 0
  let m : MetaLine := { group := g, item := some t, data := l, dirty := true, dirtyAt := s1.tree.clock, used := s1.tree.clock }
  let s2 := putMeta s1 la (match m0 with
    | some e => { m with dirtyAt := if e.dirty then e.dirtyAt else m.dirtyAt }
    | none => m)
  let s3 := if majorOf old ≠ majorOf l ∨ m0.isNone then (writebackLine s2 la).2 else s2
  if m0.isNone && setFull s1 la then dropMeta s3 la else s3

/-- A fetched seal or check line given new contents. -/
def updatePlain (s : State) (la : Nat) (g : WayGroup) (l : Line) : State :=
  let s1 := roomForDirty s la
  let m0 := tfind s1.tree.lines la
  let m : MetaLine := { group := g, item := none, data := l, dirty := true, dirtyAt := s1.tree.clock, used := s1.tree.clock }
  let s2 := putMeta s1 la (match m0 with
    | some e => { m with dirtyAt := if e.dirty then e.dirtyAt else m.dirtyAt }
    | none => m)
  if m0.isNone && setFull s1 la then dropMeta (writebackLine s2 la).2 la else s2

end Sys2Proof.Machine
end

