-- ==== Sys2Proof/Machine/Lines.lean ====
section
/-!
DEFINITION. One protected line (R164 to R182): map entries and their staleness (R142, R144), exception records (R476), reading and
committing a line of each class, re-keys (R180, R181), the map cache and its walks (R145, R146), pages that fail (R147, R148).
-/

namespace Sys2Proof.Machine

open Sys2Proof

/-! ### Staleness (R144) -/

/-- Whether an entry is stale (R144). -/
def isStale (s : State) (e : W32) : Bool :=
  let v := ctxAt s (entCtx e)
  decide (entEpoch4 e ≠ v.epoch.toNat % 16) || !(v.state == .active)

/-! ### The block's own regions (R377) -/

/-- First page and pages of each own region: map, ledger, receipt store, key area, sleep image, spill area. -/
def ownRegions (s : State) : List (Nat × Nat) := [
  (mapBase s, ceilDiv (4 * winMax s) 4096),
  (ledgerBase s, 256),
  (bits (fixedReg s 0x1B0C) 0 24, 35280),
  (bits (fixedReg s 0x2020) 0 24, 16),
  (bits (fixedReg s 0x2024) 0 24, 128),
  (bits (fixedReg s 0x3014) 0 24, 104)]

/-- Whether a page belongs to one of the block's own regions. -/
def inOwnRegion (s : State) (p : Nat) : Bool := (ownRegions s).any (fun r => decide (r.1 ≤ p ∧ p < r.1 + r.2))

/-! ### Exception records (R16, R476) -/

/-- SOURCE of an exception record. -/
def srcCustIn : Nat := 0
/-- block DMA -/
def srcDma : Nat := 1
/-- background -/
def srcBackground : Nat := 2
/-- command -/
def srcCommand : Nat := 3

/-- Code of a verdict (R38). -/
def verdictCode : Verdict → Nat
  | .clean => 0
  | .deferred => 1
  | .stale => 2
  | .failed => 3

/-- What an exception record says beside its kind. -/
structure ExcAt where
  verdict : Verdict
  write : Bool
  source : Nat
  ctx : Nat
  la : Nat
  ch : Nat
  mid : Option Mid
  lane : Nat
  tag : Nat
deriving DecidableEq, Repr

/-- A record as its four words. -/
def excWords (s : State) (kind : Nat) (a : ExcAt) : Exc :=
  { w0 := field 32 0 8 kind ||| field 32 8 2 (verdictCode a.verdict) ||| flag 32 10 a.write ||| field 32 11 2 a.source
          ||| field 32 16 14 a.ctx
    w1 := field 32 0 30 a.la ||| field 32 30 2 a.ch
    w2 := field 32 0 8 (a.mid.getD 0).toNat ||| flag 32 8 a.mid.isSome ||| field 32 9 6 a.lane ||| field 32 16 10 a.tag
    w3 := nowWord s }

/-- Whether a line lies in the input region of a receipt slot under a context (R257, R261). -/
def inInput (w : List W32) (ctx la : Nat) : Bool :=
  let addr := (w.getD 2 0).toNat + 2 ^ 32 * bits (w.getD 3 0) 0 4
  decide (bits (w.getD 1 0) 0 14 = ctx ∧ addr / 64 ≤ la ∧ la < (addr + (w.getD 4 0).toNat) / 64)

/-- The KINDs of reads that fail under R175, and of the egress error that counts as one (R175, R460). -/
def integrityKind (kind : Nat) : Bool := kind == 0x06 || kind == 0x07 || kind == 0x08 || kind == 0x0A || kind == 0x0C

/-- A read that failed for integrity marks the slots of open receipts whose input it met (R261). -/
def markInputs (s : State) (kind : Nat) (a : ExcAt) : State :=
  if a.write ∨ a.verdict ≠ .failed ∨ 1 < a.source ∨ !integrityKind kind then s
  else { s with rcpt := { s.rcpt with receipts := s.rcpt.receipts.map (fun e =>
    if e.2.state = .opened ∨ e.2.state = .closing then
      (e.1, { e.2 with slots := e.2.slots.map (fun x => if inInput x.words a.ctx a.la then { x with marked := true } else x) })
    else e) } }

/-- An exception record written: queued and mirrored, or discarded where the queue is full (R16). The queue opens with custody
(R27). -/
def exception (s0 : State) (kind : Nat) (a : ExcAt) : State :=
  let s := markInputs s0 kind a
  if !s.cust.enabled then s
  else
    let x := excWords s kind a
    let s1 := count s 0x7978 1
    let f := s1.flt
    if f.queue.length < 256 then
      { s1 with flt := { f with queue := f.queue ++ [x], log := tset {w0 := 0, w1 := 0, w2 := 0, w3 := 0} f.log f.logHead.toNat x,
                                logHead := f.logHead + 1 } }
    else
      { s1 with flt := { f with excOverflow := if f.excOverflow = 0xFFFF then 0xFFFF else f.excOverflow + 1,
                                overflow := true, seq := f.seq + 1 } }

/-- A record of the background engine or of a command about a page or line. -/
def internalExc (s : State) (source : Nat) (ctx la : Nat) : ExcAt :=
  { verdict := .failed, write := false, source := source, ctx := ctx, la := la, ch := 0, mid := none,
    lane := (ctxAt s ctx).lane.toNat, tag := 0 }

/-! ### Tokens (R230) -/

/-- Whether a lane is regulated. -/
def regulated (s : State) (l : Nat) : Bool := bit (laneAt s l).reg 12

/-- Tokens that the block's own work under a lane's contexts takes (R13, R230). A step that moves more lines than the lane has tokens for
owes the rest: the lane admits nothing until they are paid (log 34). -/
def spendTokens (s : State) (l n : Nat) : State :=
  if regulated s l then
    let v := laneAt s l
    setLane s l (if 0 < v.tokens ∧ v.owed = 0 then { v with tokens := v.tokens - n } else { v with owed := v.owed + n })
  else s

/-! ### Metadata of a line -/

/-- A tree item that is needed now: at hand without a lookup, else fetched. -/
def itemNow (s : State) (t : TreeItem) (g : WayGroup) : Fetched × State :=
  match itemAtHand s t with
  | some l => (.ok l, s)
  | none => fetchItem s t g

/-- A seal or check line that is needed now. -/
def plainNow (s : State) (la : Nat) (g : WayGroup) : Option Line × State :=
  match tfind s.tree.lines la with
  | some m => (some m.data, s)
  | none => fetchPlain s la g

/-- KIND of the exception record for a line that fails (R476). -/
def badKind : BadLine → Nat
  | .item _ => 0x0A
  | .err => 0x08
  | .silent => 0x0B
  | .mac => 0x06
  | .uncorrectable => 0x07

/-- Counters of line k of a VERSIONED page, from a re-key record while the line's pending bit is set (R181). -/
def lineCounters (s : State) (q : Nat) (l : Line) (k : Nat) : Nat × Nat := childCounters s (.ctr q) l k

/-- The metadata of one line, fetched where it is not at hand. -/
def lineMeta (s : State) (c : CustClass) (q k aux : Nat) : LineMeta × State :=
  let g := groupOfClass c
  match c with
  | .openC => (.plain, s)
  | _ =>
    match itemNow s (.ctr q) g with
    | (.bad t, s1) => (.bad (.item t), s1)
    | (.silent, s1) => (.bad .silent, s1)
    | (.ok l, s1) =>
      let mm : Nat × Nat := match c with
        | .versionedC => lineCounters s1 q l k
        | .sealedC => (majorOf l, aux)
        | _ => (majorOf l, 0)
      let blank : Bool := match c with
        | .versionedC => decide (mm.2 = 0)
        | _ => !fillBit l k
      if blank then (.unwritten, s1)
      else
        let place := sealPlace s1 c q k
        match plainNow s1 place.1 g with
        | (none, s2) => (.bad (if lineSilent s2 place.1 then .silent else .err), s2)
        | (some sl, s2) =>
          (.keys { major := mm.1, minor := mm.2,
                   sl := if c = .sealedC then 0 else sealIn sl place.2,
                   check := if c = .sealedC then checkIn sl place.2 else 0 }, s2)

/-- Domain tag of a class's keystream (R168). -/
def streamTag : CustClass → Nat
  | .streamC => tagStream
  | _ => tagData

/-- A stored line opened under its counters (R174, R175): plaintext and ciphertext as corrected, or why it fails; and whether a symbol
was corrected. -/
structure Opened where
  line : Except BadLine (Line × Line)
  fixed : Bool

/-- A stored line opened under its counters. -/
def openLine (k : CtxKey) (c : CustClass) (m : LineKeys) (la : Nat) (ct : Line) : Opened :=
  match c with
  | .openC => { line := .ok (ct, ct), fixed := false }
  | .sealedC =>
    match decodeSealedLine ct m.check with
    | none => { line := .error .uncorrectable, fixed := false }
    | some (l, fixed) => { line := .ok (l ^^^ keystream k tagData m.major m.minor la, l), fixed := fixed }
  | _ =>
    match decodeSeal ct m.sl with
    | none => { line := .error .uncorrectable, fixed := false }
    | some d =>
      { line := if mac48 k d.item m.major m.minor la = d.mac then
          .ok (d.item ^^^ keystream k (streamTag c) m.major m.minor la, d.item)
        else .error .mac
        fixed := d.fixed }

/-- What a line that was opened counts: a correction, and a failure (R174, R175, R199). -/
def countOpened (s : State) (x : Opened) : State :=
  let s1 := if x.fixed then count s 0x7840 1 else s
  match x.line with
  | .ok _ => s1
  | .error _ => count s1 0x7848 1

/-- A read of one stored line by the block, with its corrections and failures counted: plaintext and ciphertext as corrected. -/
def readStored (s : State) (k : CtxKey) (c : CustClass) (m : LineKeys) (la : Nat) : Except BadLine (Line × Line) × State :=
  match memRead s la with
  | .err => (.error .err, count s 0x7848 1)
  | .silent => (.error .silent, readSilent s la)
  | .data ct => let x := openLine k c m la ct; (x.line, countOpened s x)

/-- Keys that stand for an OPEN line. -/
def noKeys : LineKeys := { major := 0, minor := 0, sl := 0, check := 0 }

/-- One line of a page read under the class's rules, plaintext (R150, R175). -/
def readLine (s : State) (owner : Nat) (c : CustClass) (q k aux : Nat) (la : Nat) : Except BadLine Line × State :=
  match lineMeta s c q k aux with
  | (.bad b, s1) => (.error b, s1)
  | (.unwritten, s1) => (.ok 0, s1)
  | (.plain, s1) =>
    match readStored s1 default c noKeys la with
    | (.ok r, s2) => (.ok r.1, s2)
    | (.error b, s2) => (.error b, s2)
  | (.keys m, s1) =>
    let s2 := readyKey s1 owner
    match readStored s2 (ctxKey s2 owner) c m la with
    | (.ok r, s3) => (.ok r.1, s3)
    | (.error b, s3) => (.error b, s3)

/-! ### Commits (R177, R179, R180) -/

/-- A seal or check put in its line. -/
def putSeal (s : State) (c : CustClass) (q k : Nat) (sl : W64) (chk : BitVec 16) : State :=
  let place := sealPlace s c q k
  let g := groupOfClass c
  match plainNow s place.1 g with
  | (none, s1) => s1
  | (some l, s1) => updatePlain s1 place.1 g (if c = .sealedC then withCheck l place.2 chk else withSeal l place.2 sl)

/-- A line enciphered under its counters: ciphertext, seal and check. -/
def sealLine (k : CtxKey) (c : CustClass) (major minor la : Nat) (p : Line) : Line × W64 × BitVec 16 :=
  match c with
  | .openC => (p, 0, 0)
  | .sealedC =>
    let ct := p ^^^ keystream k tagData major minor la
    (ct, 0, makeCheck ct)
  | _ =>
    let ct := p ^^^ keystream k (streamTag c) major minor la
    (ct, makeSeal ct (mac48 k ct major minor la), 0)

/-- What a commit of one line comes to. -/
inductive Commit where
  /-- committed: the line as it goes to memory -/
  | ok (ct : Line)
  /-- it waits for a re-key record -/
  | waits
  /-- the line's fill bit is set (R179) -/
  | filled
  | bad (b : BadLine)
  /-- the page's major word is at its end (R182) -/
  | exhausted
deriving DecidableEq, Repr

/-- A re-key record for a page taken, with the counter block that step 2 of R180 leaves. -/
def startRekey (s : State) (q k owner : Nat) (l : Line) : Option (Line × State) :=
  if (rekeyOf s (.ctr q)).isSome ∨ 16 ≤ s.tree.rekeys.length then none
  else
    let r : Rekey := { item := .ctr q, old := l, pending := liveMask l - 2 ^ k, ctx := owner }
    let s1 := if r.pending = 0 then count s 0x7850 1
      else { s with tree := { s.tree with rekeys := s.tree.rekeys ++ [r] } }
    some (withMinor (freshItem (majorOf l + 1)) k 1, s1)

/-- A line's ciphertext term added to its page's write entry (R171, R215). -/
def addWriteTerm (s : State) (k : CtxKey) (q line : Nat) (ct : Line) : State :=
  match tfind s.tiles.writes q with
  | some w =>
    let w' := { w with sum := w.sum ^^^ tileTerm k line ct, mask := w.mask ||| BitVec.ofNat 64 (2 ^ line) }
    { s with tiles := { s.tiles with writes := tput s.tiles.writes q w' } }
  | none => s

/-- One line committed: its counters, its seal or check, its fill bit, its tile sum (R507). -/
def commitLine (s : State) (owner : Nat) (c : CustClass) (q k aux : Nat) (la : Nat) (p : Line) : Commit × State :=
  let g := groupOfClass c
  match c with
  | .openC => (.ok p, s)
  | _ =>
    match itemNow s (.ctr q) g with
    | (.bad t, s1) => (.bad (.item t), s1)
    | (.silent, s1) => (.bad .silent, s1)
    | (.ok l, s1) =>
      let place := sealPlace s1 c q k
      match plainNow s1 place.1 g with
      | (none, s2) => (.bad (if lineSilent s2 place.1 then .silent else .err), s2)
      | (some _, s2) =>
        let s3 := readyKey s2 owner
        let key := ctxKey s3 owner
        match c with
        | .versionedC =>
          if minorOf l k < 127 then
            let m := minorOf l k + 1
            let (ct, sl, chk) := sealLine key c (majorOf l) m la p
            (.ok ct, putSeal (updateItem (clearPending s3 (.ctr q) k) (.ctr q) g (withMinor l k m)) c q k sl chk)
          else if 2 ^ 64 - 1 ≤ majorOf l then (.exhausted, s3)
          else match startRekey s3 q k owner l with
            | none => (.waits, s3)
            | some (l', s4) =>
              let (ct, sl, chk) := sealLine key c (majorOf l') 1 la p
              (.ok ct, putSeal (updateItem s4 (.ctr q) g l') c q k sl chk)
        | _ =>
          if fillBit l k then (.filled, s3)
          else
            let minor := if c = .sealedC then aux else 0
            let (ct, sl, chk) := sealLine key c (majorOf l) minor la p
            let s4 := putSeal (updateItem s3 (.ctr q) g (withFill l k)) c q k sl chk
            (.ok ct, if c = .sealedC then addWriteTerm s4 key q k ct else s4)

/-! ### Re-keys and reseals in the background (R180, R181, R186) -/

/-- The child of a tree item at a slot. -/
def childAt (s : State) (t : TreeItem) (slot : Nat) : TreeItem :=
  match t with
  | .ctr q => .ctr q
  | .node i n => if i ≤ 1 then .ctr (64 * n + slot) else .node (i - 1) (64 * n + slot)
  | .root => if treeDepth s = 0 then .ctr slot else .node (treeDepth s) slot

/-- The lowest pending slot of a record. -/
def lowestPending (m : Nat) : Option Nat := firstBelow 64 (fun k => m.testBit k)

/-- A seal whose MAC48 is complemented, over a line as it is stored (R181). -/
def spoiledSeal (l : Line) (mac : BitVec 48) : W64 := makeSeal l (~~~mac)

/-- A pending line that could not be re-keyed: counted and recorded (R175, R460). -/
def rekeyFails (s : State) (r : Rekey) (la : Nat) (b : BadLine) : State := exception s (badKind b) (internalExc s srcBackground r.ctx la)

/-- A pending data line rewritten under the new major word with minor 1; a failing one is spoiled (R181). So is one that the memory
controller, or its seal line's, does not return: the spec names only a line that fails verification (DESIGN CHOICE, log 141). -/
def rekeyData (s : State) (r : Rekey) (q k : Nat) (l : Line) : State :=
  let la := 64 * (winBase s + q) + k
  let s0 := backgroundLines (readyKey s r.ctx) (ctxAt s r.ctx).lane.toNat .versionedC 2
  let key := ctxKey s0 r.ctx
  let place := lineSealAt s0 q k
  let spoilt : Line × W64 := (0, spoiledSeal 0 (mac48 key 0 (majorOf l) 1 la))
  let out : (Line × W64) × State := match plainNow s0 place.1 .versionedG with
    | (none, s1) => (spoilt, rekeyFails (count s1 0x7848 1) r la (if lineSilent s1 place.1 then .silent else .err))
    | (some sl, s1) =>
      let old : LineKeys := { major := majorOf r.old, minor := minorOf r.old k, sl := sealIn sl place.2, check := 0 }
      match readStored s1 key .versionedC old la with
      | (.ok x, s2) => let y := sealLine key .versionedC (majorOf l) 1 la x.1; ((y.1, y.2.1), s2)
      | (.error b, s2) => (spoilt, rekeyFails s2 r la b)
  let s3 := updateItem (clearPending out.2 (.ctr q) k) (.ctr q) .versionedG (withMinor l k 1)
  (memWrite (putSeal s3 .versionedC q k out.1.2 0) la out.1.1).2

/-- A pending child of a reseal given a new seal; its contents do not change (R186). -/
def resealChild (s : State) (r : Rekey) (slot : Nat) (l : Line) : State :=
  let t := childAt s r.item slot
  let la := itemAddr s t
  let place := itemSeal s t
  match plainNow s place.1 .treeG with
  | (none, s1) => s1
  | (some sl, s1) =>
    match memRead s1 la with
    | .data x =>
      let (v, s2) := readItem s1 t x (sealIn sl place.2) (majorOf r.old) (minorOf r.old slot)
      let out : Line × W64 := match v with
        | some v => (v, makeSeal v (mac48 (ctxKey s2 0) v (majorOf l) 1 la))
        | none => (x, spoiledSeal x (mac48 (ctxKey s2 0) x (majorOf l) 1 la))
      let s3 := if out.1 = x then s2 else (memWrite s2 la out.1).2
      let s4 := updateItem (clearPending s3 r.item slot) r.item .treeG (withMinor ((itemAtHand s3 r.item).getD l) slot 1)
      (memWrite (match tfind s4.tree.lines place.1 with
        | some m => putMeta s4 place.1 { m with data := withSeal sl place.2 out.2 }
        | none => s4) place.1 (withSeal sl place.2 out.2)).2
    | _ => readSilent s1 la

/-- The first record put behind the others: what it needs cannot be read now, and is tried again later. -/
def rotateRekeys (s : State) : State := { s with tree := { s.tree with rekeys := s.tree.rekeys.drop 1 ++ s.tree.rekeys.take 1 } }

/-- One pending line or child of the first record (R180, step 3; R480). A counter block that fails its own verification takes its record
and its page with it (R181); where only an item above it fails, or an item does not come, the record is kept. -/
def rekeyStep (s : State) : State :=
  match s.tree.rekeys with
  | [] => s
  | r :: _ =>
    match lowestPending r.pending with
    | none => abandonRekey s r.item
    | some k =>
      match itemNow s r.item (match r.item with
        | .ctr _ => .versionedG
        | _ => .treeG) with
      | (.bad (.ctr q), s1) =>
        let s2 := abandonRekey s1 (.ctr q)
        { s2 with tree := { s2.tree with broken := s2.tree.broken ++ [q] } }
      | (.bad _, s1) => rotateRekeys s1
      | (.silent, s1) => rotateRekeys s1
      | (.ok l, s1) =>
        match r.item with
        | .ctr q => rekeyData s1 r q k l
        | .root => resealChild s1 r k l
        | .node _ _ => resealChild s1 r k l

/-- Up to n lines of records rewritten. -/
def rekeySteps : Nat → State → State
  | 0, s => s
  | n + 1, s => if s.tree.rekeys.isEmpty then s else rekeySteps n (rekeyStep s)

/-- A commit that waits, within its own step, for the records held: they are worked off first (R145, R180). -/
def commitNow (s : State) (owner : Nat) (c : CustClass) (q k aux : Nat) (la : Nat) (p : Line) : Commit × State :=
  match commitLine s owner c q k aux la p with
  | (.waits, s1) => commitLine (rekeySteps 1024 s1) owner c q k aux la p
  | r => r

/-- One line committed and stored by the block itself. -/
def writeLine (s : State) (owner : Nat) (c : CustClass) (q k aux : Nat) (la : Nat) (p : Line) : Except BadLine Unit × State :=
  match commitNow s owner c q k aux la p with
  | (.ok ct, s1) =>
    match memWrite s1 la ct with
    | (true, s2) => (.ok (), s2)
    | (false, s2) => (.error (if writeSilent s1 la then .silent else .err), s2)
  | (.bad b, s1) => (.error b, s1)
  | (.exhausted, s1) => (.error (.item (.ctr q)), s1)
  | (_, s1) => (.error .err, s1)

/-! ### Memory of CTX 0 (R377): VERSIONED lines of the block's own regions -/

/-- A line of the block's own regions read. -/
def readOwn (s : State) (la : Nat) : Except BadLine Line × State :=
  readLine s 0 .versionedC (pageIndex s (pageOfLine la)) (la % 64) 0 la

/-- A line of the block's own regions written. -/
def writeOwn (s : State) (la : Nat) (p : Line) : Except BadLine Unit × State :=
  writeLine s 0 .versionedC (pageIndex s (pageOfLine la)) (la % 64) 0 la p

/-- The block's own lines under CTX 0 as lane 0 accounts for them: tokens, energy, credit (R13, R123, R124). -/
def ownWork (s : State) : State := workLines (spendTokens s 0 1) 0 .versionedC 1

/-- A line of the block's own structures read by block DMA: beside map walks and sweeps, it counts as lane 0's traffic. -/
def readOwnDma (s : State) (la : Nat) : Except BadLine Line × State :=
  match readOwn (ownWork s) la with
  | (.ok l, s1) => (.ok l, count s1 0x7000 64)
  | r => r

/-- A line of the block's own structures written by block DMA. -/
def writeOwnDma (s : State) (la : Nat) (p : Line) : Except BadLine Unit × State :=
  match writeOwn (ownWork s) la p with
  | (.ok _, s1) => (.ok (), count s1 0x7008 64)
  | r => r

/-- A write-back that is forced, paid from custody's credit (R121). -/
def paidWriteback (s : State) (la : Nat) : State :=
  forceWriteback (spendCredit s crCustody (lineEnergy s .versionedC)) la

/-- Forced write-backs until no line is dirty; fuel bounds their number. -/
def flushSteps : Nat → State → State
  | 0, s => s
  | n + 1, s => match oldestDirty s [] with
    | none => s
    | some la => flushSteps n (paidWriteback s la)

/-- Every dirty line written back, or lost where it cannot be (R186, R193). -/
def flushDirty (s : State) : State := flushSteps 65536 s

/-! ### The custody map and its cache (R141, R145, R146) -/

/-- Line address of map line n. -/
def mapLineAddr (s : State) (n : Nat) : Nat := 64 * mapBase s + n

/-- The line of a full set that was used longest ago. -/
def mapVictim (s : State) (n : Nat) : Option Nat :=
  let inSet := s.mapc.lines.filter (fun e => e.1 % 256 == n % 256)
  if inSet.length < 8 then none
  else (inSet.foldl (fun b e => match b with
    | none => some (e.1, e.2.used)
    | some d => if e.2.used < d.2 then some (e.1, e.2.used) else some d) none).map Prod.fst

/-- A map line put into the cache: 256 sets of 8 ways. -/
def putMapLine (s : State) (n : Nat) (ws : List W32) : State :=
  let t := match (tfind s.mapc.lines n).isSome, mapVictim s n with
    | false, some v => tdel s.mapc.lines v
    | _, _ => s.mapc.lines
  { s with mapc := { lines := tput t n { words := ws, used := s.mapc.clock }, clock := s.mapc.clock + 1 } }

/-- A map line dropped from the cache. -/
def dropMapLine (s : State) (n : Nat) : State := { s with mapc := { s.mapc with lines := tdel s.mapc.lines n } }

/-- A map walk: the line fetched under CTX 0, verified and cached; where it fails, the KIND of the record (R145, R146): a memory
controller that does not answer is a port fault and no map fault. -/
def walkMap (s : State) (n : Nat) : Except Nat (List W32) × State :=
  match readOwn (count s 0x7818 1) (mapLineAddr s n) with
  | (.ok l, s1) => let ws := wordsOfOctets 16 (octetsOfLine l); (.ok ws, putMapLine s1 n ws)
  | (.error .silent, s1) => (.error 0x0B, s1)
  | (.error _, s1) => (.error 0x05, s1)

/-- A map line, from the cache or by a walk. -/
def mapLine (s : State) (n : Nat) : Except Nat (List W32) × State :=
  match tfind s.mapc.lines n with
  | some m => (.ok m.words, putMapLine s n m.words)
  | none => walkMap s n

/-- A page's map entry; a map fault, STATE 7 included, gives the KIND of its record (R142, R146). -/
def mapEntry (s : State) (p : Nat) : Except Nat W32 × State :=
  let q := pageIndex s p
  match mapLine s (q / 16) with
  | (.ok ws, s1) =>
    let e := ws.getD (q % 16) 0
    (if entState e = .reserved then .error 0x05 else .ok e, s1)
  | (.error k, s1) => (.error k, s1)

/-- A page's map entry written through (R145): whether memory took it; where it did not, the line leaves the cache. -/
def setEntry (s : State) (p : Nat) (e : W32) : Bool × State :=
  let q := pageIndex s p
  match mapLine s (q / 16) with
  | (.error _, s1) => (false, s1)
  | (.ok ws, s1) =>
    let ws' := ws.set (q % 16) e
    match writeOwn s1 (mapLineAddr s1 (q / 16)) (lineOfOctets (octetsOfWords ws')) with
    | (.ok _, s2) => (true, putMapLine s2 (q / 16) ws')
    | (.error _, s2) => (false, dropMapLine s2 (q / 16))

/-! ### Pages that fail (R147, R148, R188) -/

/-- A LIVE, FROZEN or CLAIMED page made POISONED; its re-key record is abandoned (R181). Whether it changed. -/
def poisonPage (s : State) (p : Nat) : Bool × State :=
  match mapEntry s p with
  | (.ok e, s1) =>
    if entState e = .live ∨ entState e = .frozen ∨ entState e = .claimed then
      let s2 := abandonRekey s1 (.ctr (pageIndex s1 p))
      let q := pageIndex s2 p
      let s3 := { s2 with tiles := { s2.tiles with writes := tdel s2.tiles.writes q } }
      (true, (setEntry s3 p (entWithState e .poisoned)).2)
    else (false, s1)
  | (.error _, s1) => (false, s1)

/-- A page poisoned and reported with PAGES_POISONED to the lane of its owner (R148). -/
def poisonReported (s : State) (p owner : Nat) : State :=
  match poisonPage s p with
  | (true, s1) => faultNotice s1 0x01 (some (ctxAt s1 owner).lane.toNat) p 1
  | (false, s1) => s1

/-- A page made LOST (R193, R219): its re-key record and its tile entry go with it. Whether it changed. -/
def losePage (s : State) (p : Nat) : Bool × State :=
  match mapEntry s p with
  | (.ok e, s1) =>
    if entState e = .live ∨ entState e = .frozen ∨ entState e = .claimed then
      let s2 := abandonRekey s1 (.ctr (pageIndex s1 p))
      let s3 := { s2 with tiles := { s2.tiles with writes := tdel s2.tiles.writes (pageIndex s2 p) } }
      (true, (setEntry s3 p (entWithState e .lost)).2)
    else (false, s1)
  | (.error _, s1) => (false, s1)

/-- The context that a page's entry names. -/
def pageCtx (s : State) (p : Nat) : Nat := match (mapEntry s p).1 with
  | .ok e => entCtx e
  | .error _ => 0

/-- The lane that a page's entry counts against. -/
def pageLane (s : State) (p : Nat) : Nat × State :=
  match mapEntry s p with
  | (.ok e, s1) => ((ctxAt s1 (entCtx e)).lane.toNat, s1)
  | (.error _, s1) => (0, s1)

/-- Pages made LOST, recorded (R148) and counted (R484, R485), with their number by lane added. The record's KIND is that of a failed
counter block or node, its SOURCE the background engine's (DESIGN CHOICE, log 142). -/
def losePages : List Nat → Table Nat → State → Table Nat × State
  | [], t, s => (t, s)
  | p :: ps, t, s =>
    let (l, s1) := pageLane s p
    match losePage s1 p with
    | (true, s2) =>
      let s3 := exception s2 0x0A { internalExc s2 srcBackground (pageCtx s2 p) (64 * p) with lane := l }
      losePages ps (tset 0 t l (tget 0 t l + 1)) (count { s3 with bg := { s3.bg with lostTotal := s3.bg.lostTotal + 1 } } 0x7970 1)
    | (false, s2) => losePages ps t s2

/-- Pages beneath a lost item (R193): the page of a counter block, 64^i pages beneath a level-i node. -/
def lostPages (s : State) : TreeItem → List Nat
  | .ctr q => [winBase s + q]
  | .node i n => (List.range (64 ^ i)).map (fun j => winBase s + n * 64 ^ i + j)
  | .root => []

/-- What a failing metadata item does beside the answer: a counter block poisons its page; a node was reported when it failed (R188). -/
def itemFailed (s : State) (t : TreeItem) : State :=
  match t with
  | .ctr q =>
    match mapEntry s (winBase s + q) with
    | (.ok e, s1) => if entState e = .free then s1 else poisonReported s1 (winBase s1 + q) (entCtx e)
    | (.error _, s1) => s1
  | _ => s

/-- The effects of a line that failed in a read of a page held by `owner`, besides its verdict. -/
def lineFailed (s : State) (b : BadLine) (a : ExcAt) : State :=
  let s1 := exception s (badKind b) a
  match b with
  | .item t => itemFailed s1 t
  | _ => s1

/-- The pages of broken counter blocks made POISONED, recorded and reported (R148, R181). -/
def settleBroken (s : State) : State :=
  s.tree.broken.foldl (fun t q =>
    let p := winBase t + q
    let c := pageCtx t p
    itemFailed (exception t 0x0A (internalExc t srcBackground c (64 * p))) (.ctr q)) { s with tree := { s.tree with broken := [] } }

/-- The pages of the lost items made LOST, and PAGES_LOST queued once for each lane (R477). Pages lost. -/
def settleLost (s0 : State) : Nat × State :=
  let s := settleBroken s0
  if s.tree.lost.isEmpty then (0, s)
  else
    let ps := (s.tree.lost.flatMap (lostPages s)).filter (fun p => decide (p < winBase s + winPages s))
    let (t, s1) := losePages ps [] { s with tree := { s.tree with lost := [] } }
    ((t.map Prod.snd).sum, t.foldl (fun u e => faultNotice u 0x02 (some e.1) 0 e.2) s1)

end Sys2Proof.Machine
end

