-- ==== Sys2Proof/Machine/Tiles.lean ====
section
/-!
DEFINITION. Deferred tile verdicts (R215 to R220): read entries, their completion reads, verdicts and fences.
-/

namespace Sys2Proof.Machine

open Sys2Proof

/-- A read entry by its order. -/
def tileEntry (s : State) (o : Nat) : Option TileRead := s.tiles.reads.find? (fun e => decide (e.order = o))

/-- A read entry replaced. -/
def setTile (s : State) (e : TileRead) : State :=
  { s with tiles := { s.tiles with reads := s.tiles.reads.map (fun x => if x.order = e.order then e else x) } }

/-- A read entry freed. -/
def dropTile (s : State) (o : Nat) : State :=
  { s with tiles := { s.tiles with reads := s.tiles.reads.filter (fun x => decide (x.order ≠ o)) } }

/-- The entry that a reader's next line of a page enters: the one that is not at completion. -/
def openTile (s : State) (page reader : Nat) : Option TileRead :=
  s.tiles.reads.find? (fun e => decide (e.page = page) && decide (e.reader = reader) && !e.completing)

/-- Entries still open to completion, oldest first, sent there while fewer than 32 entries are free (R217). The rule does not say how many
go: an entry that is completing already counts as one that will be free, and no more are sent than that leaves short of 32 (DESIGN CHOICE,
log 143). -/
def pressTiles (s : State) : State :=
  let used := s.tiles.reads.length
  let closing := (s.tiles.reads.filter TileRead.completing).length
  if used ≤ 96 + closing then s
  else
    let go := ((s.tiles.reads.filter (fun e => !e.completing)).take (used - 96 - closing)).map TileRead.order
    let rs := s.tiles.reads.map (fun e => if go.contains e.order then { e with completing := true } else e)
    { s with tiles := { s.tiles with reads := rs } }

/-- A new read entry (R216); none where all 128 are in use. -/
def newTile (s : State) (page holder reader : Nat) : Option (Nat × State) :=
  if 128 ≤ s.tiles.reads.length then none
  else
    let e : TileRead :=
      { order := s.tiles.nextOrder, page := page, holder := holder, holderEpoch := (ctxAt s holder).epoch.toNat,
        reader := reader, readerEpoch := (ctxAt s reader).epoch.toNat, sum := 0, mask := 0, flying := 0,
        lastAt := s.pace.now, completing := false }
    let t := { s.tiles with reads := s.tiles.reads ++ [e], nextOrder := s.tiles.nextOrder + 1 }
    some (e.order, pressTiles { s with tiles := t })

/-- The entry for one line of a SEALED read: a line already in it closes it (R216). -/
def tileFor (s : State) (page holder reader line : Nat) : Option (Nat × State) :=
  let mark (o : Nat) (t : State) : State := match tileEntry t o with
    | some e => setTile t { e with flying := e.flying ||| BitVec.ofNat 64 (2 ^ line) }
    | none => t
  match openTile s page reader with
  | none => (newTile s page holder reader).map (fun p => (p.1, mark p.1 p.2))
  | some e =>
    if bit (e.mask ||| e.flying) line then
      (newTile (setTile s { e with completing := true }) page holder reader).map (fun p => (p.1, mark p.1 p.2))
    else some (e.order, mark e.order s)

/-- Entries for several lines; none where one of them finds no free entry. -/
def tilesFor (s : State) (page holder reader : Nat) : List Nat → Option (List Nat × State)
  | [] => some ([], s)
  | k :: ks => match tileFor s page holder reader k with
    | none => none
    | some (o, s1) => (tilesFor s1 page holder reader ks).map (fun p => (o :: p.1, p.2))

/-- The answer of a fence whose entries are all final (R220). -/
def fenceDone (s : State) (f : Fence) : State :=
  finish s f.caller stDone [flag 32 0 (ctxAt s f.ctx).taint, BitVec.ofNat 32 f.count]

/-- Entry o left the table; where it had a verdict or was lost, the fences that wait for it count it. -/
def settleFences (s : State) (o : Nat) (counts : Bool) : State :=
  let fs := s.tiles.fences.map (fun f =>
    if f.entries.contains o then
      { f with entries := f.entries.filter (fun x => decide (x ≠ o)), count := if counts then f.count + 1 else f.count }
    else f)
  let done := fs.filter (fun f => f.entries.isEmpty)
  done.foldl fenceDone { s with tiles := { s.tiles with fences := fs.filter (fun f => !f.entries.isEmpty) } }

/-- TAINT set in a context that still stands in the epoch of the entry (R140). -/
def taintCtx (s : State) (c epoch : Nat) : State :=
  let v := ctxAt s c
  if v.epoch.toNat = epoch then setCtx s c { v with taint := true } else s

/-- A failed verdict (R218, R175). The page becomes POISONED where its own lines or counter block failed; a node that fails, a map line or
a memory controller that does not answer changes the state of no page (R188; DESIGN CHOICE, log 144). -/
def tileFails (s : State) (e : TileRead) (source : Nat) (poisons : Bool) : State :=
  let s1 := taintCtx (taintCtx (dropTile s e.order) e.reader e.readerEpoch) e.holder e.holderEpoch
  let s2 := count (count s1 0x7870 1) 0x7858 1
  let s3 := exception s2 0x09 (internalExc s2 source e.holder (64 * e.page))
  settleFences (if poisons then poisonReported s3 e.page e.holder else s3) e.order true

/-- Whether what failed is the page's own: its line or its counter block. -/
def BadLine.ofPage : BadLine → Bool
  | .item (.ctr _) => true
  | .item _ => false
  | .silent => false
  | _ => true

/-- The verdict of a full entry (R218); where what it needs cannot be read, it fails (DESIGN CHOICE, log 144). -/
def tileVerdict (s : State) (e : TileRead) : State :=
  match mapEntry s e.page with
  | (.error _, s1) => tileFails s1 e srcBackground false
  | (.ok me, s1) =>
    match itemNow s1 (.ctr (pageIndex s1 e.page)) .sealedG with
    | (.bad t, s2) => tileFails (itemFailed s2 t) e srcBackground (BadLine.item t).ofPage
    | (.silent, s2) => tileFails s2 e srcBackground false
    | (.ok l, s2) =>
      let s3 := readyKey s2 e.holder
      if tileTag (ctxKey s3 e.holder) e.sum (majorOf l) (entAux me) (64 * e.page) = tileTagOf l then
        settleFences (count (dropTile s3 e.order) 0x7870 1) e.order true
      else tileFails s3 e srcBackground true

/-- A line's ciphertext added to its entry; a full entry gets its verdict (R216, R218). -/
def tileAdd (s : State) (o line : Nat) (ct : Line) : State :=
  match tileEntry s o with
  | none => s
  | some e =>
    let s0 := readyKey s e.holder
    let b : BitVec 64 := BitVec.ofNat 64 (2 ^ line)
    let e' := { e with sum := e.sum ^^^ tileTerm (ctxKey s0 e.holder) line ct, mask := e.mask ||| b,
                       flying := e.flying &&& ~~~b, lastAt := s.pace.now }
    let s1 := setTile s0 e'
    if e'.mask = ~~~0 then tileVerdict s1 e' else s1

/-- A line that did not come: it is left to completion. -/
def tileUnfly (s : State) (o line : Nat) : State :=
  match tileEntry s o with
  | none => s
  | some e => setTile s { e with flying := e.flying &&& ~~~(BitVec.ofNat 64 (2 ^ line)) }

/-- Fences of a context whose epoch closes end STALE_EPOCH (R220). -/
def staleFences (s : State) (c : Nat) : State :=
  let hit := s.tiles.fences.filter (fun f => decide (f.ctx = c))
  let keep := s.tiles.fences.filter (fun f => decide (f.ctx ≠ c))
  hit.foldl (fun t f => finish t f.caller stStaleEpoch []) { s with tiles := { s.tiles with fences := keep } }

/-- Read entries of a closed context discarded without a verdict (R219). -/
def discardTiles (s : State) (c : Nat) : State :=
  let gone := (s.tiles.reads.filter (fun e => decide (e.reader = c ∨ e.holder = c))).map TileRead.order
  gone.foldl (fun t o => settleFences (dropTile t o) o false) s

/-- Read entries that belong to a context (R214). -/
def tilesOf (s : State) (c : Nat) : List TileRead :=
  s.tiles.reads.filter (fun e => decide (e.reader = c ∨ e.holder = c))

/-- TILE_DELAY_EXPIRE (R217): entries DELAY paces after their last added line go to completion. -/
def execTileDelayExpire (bus : Bus) (s : State) : Host.Outcome State Fault Refusal :=
  onBus s bus (fun s =>
    let delay := bits (activeReg s 0x1044) 0 12
    let rs := s.tiles.reads.map (fun e =>
      if e.lastAt + delay ≤ s.pace.now then { e with completing := true } else e)
    { s with tiles := { s.tiles with reads := rs } })

/-- The lowest line that an entry at completion still misses and that is not on its way. -/
def missingLine (e : TileRead) : Option Nat := firstBelow 64 (fun k => !bit (e.mask ||| e.flying) k)

/-- The oldest entry at completion that has a line to read. -/
def completionDue (s : State) : Option (TileRead × Nat) :=
  s.tiles.reads.foldr (fun e r => match e.completing, missingLine e with
    | true, some k => some (e, k)
    | _, _ => r) none

/-- One completion read: the missing line with its check, under the tile's context (R217). -/
def completionRead (s : State) : State :=
  match completionDue s with
  | none => s
  | some (e, k) =>
    let la := 64 * e.page + k
    let s1 := backgroundLines (count s 0x7878 1) (ctxAt s e.holder).lane.toNat .sealedC 1
    match mapEntry s1 e.page with
    | (.error _, s2) => tileFails s2 e srcBackground false
    | (.ok me, s2) =>
      match lineMeta s2 .sealedC (pageIndex s2 e.page) k (entAux me) with
      | (.keys m, s3) =>
        let s4 := readyKey s3 e.holder
        match readStored s4 (ctxKey s4 e.holder) .sealedC m la with
        | (.ok r, s5) => tileAdd s5 e.order k r.2
        | (.error b, s5) => tileFails (exception s5 (badKind b) (internalExc s5 srcBackground e.holder la)) e srcBackground b.ofPage
      | (.bad b, s3) => tileFails (lineFailed s3 b (internalExc s3 srcBackground e.holder la)) e srcBackground b.ofPage
      | (_, s3) => tileFails s3 e srcBackground true

/-- Whether the background engine has a permit: its floor's credit, or the credit that the foreground leaves unspent (R21, R479). -/
def backgroundMay (s : State) : Bool :=
  s.keys.sleeping.isNone &&
    (decide (0 < creditOf s crBackground) || (decide (0 < creditOf s crCustody) && s.cust.reqs.isEmpty))

/-- A unit of the background engine's work: without a permit it waits (R21). -/
def background (f : State → State) (s : State) : State := if backgroundMay s then f s else s

/-- TILE_COMPLETION_READ (R217). -/
def execTileCompletionRead (bus : Bus) (s : State) : Host.Outcome State Fault Refusal :=
  onBus s bus (background completionRead)

end Sys2Proof.Machine
end

