-- ==== Sys2Proof/Machine/Custody.lean ====
section
/-!
DEFINITION. The custody path (R35 to R40, R68, R151 to R155, R230, R231, R507): requests from capture to their answers, the egress
requests they issue, and what port violations do to them.
-/

namespace Sys2Proof.Machine

open Sys2Proof

/-! ### Channels -/

/-- A `CUST_IN` channel. -/
def inChan (s : State) (ch : Nat) : InChannel := s.cust.ins.getD ch {}
/-- A `CUST_IN` channel written. -/
def setIn (s : State) (ch : Nat) (v : InChannel) : State := { s with cust := { s.cust with ins := setAt {} s.cust.ins ch v } }
/-- Line addresses of a request. -/
def reqLines (r : CustReq) : List Nat := (List.range r.n).map (fun i => r.addr + i)

/-- READ. -/
def opRead : BitVec 2 := 0
/-- WRITE_MASKED. -/
def opMasked : BitVec 2 := 2

/-! ### Responses (R38) -/

/-- Beats put on a channel's response bundle. -/
def pushBeats (s : State) (ch : Nat) (bs : List RspBeat) : State :=
  if bs.isEmpty then s
  else
    let v := inChan s ch
    setIn s ch { v with rsp := v.rsp ++ bs, rspSince := if v.rsp.isEmpty then clock s else v.rspSince }

/-- The beats of an answer: one for a write; one per line of a read, with its verdict and data. -/
def answerBeats (tag : Tag) (mid : Mid) (lane : LaneId) (ctx owner : Nat) (counted write : Bool)
    (res : List (Verdict × Line)) : List RspBeat :=
  let n := res.length
  (List.range n).map (fun i =>
    let x := res.getD i (.failed, 0)
    { tag := tag, beat := i, write := write, verdict := x.1, data := x.2, mid := mid, lane := lane,
      last := decide (i + 1 = n), counted := counted, ctx := ctx, owner := owner })

/-- A request's results as its answer gives them. -/
def reqResults (r : CustReq) : List (Verdict × Line) :=
  if r.op = opRead then r.res.map (fun x => match x with
    | .waiting => (.failed, 0)
    | .got v d => (v, d))
  else [match r.res.head? with
    | some (.got v _) => (v, 0)
    | _ => (.clean, 0)]

/-- FAILED owed for a bundle that is not performed: its answer takes its turn among the channel's and its master's (R37, R38, R68).
`lines` counts the lines it names; none where it names none. -/
def owe (s : State) (ch : Fin 4) (b : CustBeat) (write : Bool) (lines answers : Nat) : State :=
  let r : CustReq :=
    { seq := s.cust.nextSeq, ch := ch, op := if write then 1 else 0, addr := if lines = 0 then 2 ^ 31 else b.addr.toNat, n := lines,
      mid := b.mid, lane := 0, ctx := 0, epoch := 0, owner := 0, ownerEpoch := 0, entry := 0, tag := b.tag, lines := [],
      stage := .answering, keys := [], res := List.replicate answers (.got .failed 0), fault := none, tiles := [],
      under := none, counted := false }
  { s with cust := { s.cust with reqs := s.cust.reqs ++ [r], nextSeq := s.cust.nextSeq + 1 } }

/-- FAILED owed for a request as captured: a beat per line of a read, one answer to a write. -/
def oweAll (s : State) (ch : Fin 4) (b : CustBeat) : State :=
  owe s ch b (decide (b.op ≠ opRead)) (b.len.toNat + 1) (if b.op = opRead then b.len.toNat + 1 else 1)

/-- What an exception record says of a request. -/
def reqExc (r : CustReq) (v : Verdict) (la : Nat) : ExcAt :=
  { verdict := v, write := decide (r.op ≠ opRead), source := srcCustIn, ctx := r.ctx, la := la, ch := r.ch.val,
    mid := some r.mid, lane := r.lane.toNat, tag := r.tag.toNat }

/-- What an exception record says of a beat that became no request. -/
def beatExc (ch : Nat) (b : CustBeat) : ExcAt :=
  { verdict := .failed, write := decide (b.op ≠ opRead), source := srcCustIn, ctx := b.ctx.toNat, la := b.addr.toNat, ch := ch,
    mid := some b.mid, lane := 0, tag := b.tag.toNat }

/-! ### Requests in the queues -/

/-- A request replaced. -/
def setReq (s : State) (r : CustReq) : State :=
  { s with cust := { s.cust with reqs := s.cust.reqs.map (fun x => if x.seq = r.seq then r else x) } }

/-- A request by its place in the order. -/
def reqAt (s : State) (n : Nat) : Option CustReq := s.cust.reqs.find? (fun r => decide (r.seq = n))

/-- Every line of a request, or its write answer, given one verdict. -/
def withVerdict (r : CustReq) (v : Verdict) : CustReq :=
  { r with stage := .answering, res := List.replicate (if r.op = opRead then r.n else 1) (.got v 0) }

/-- Lines of a request that are still out leave their read entries to completion. -/
def unflyAll (s : State) (r : CustReq) : State :=
  (List.zip r.tiles ((List.range r.n).zip r.res)).foldl
    (fun t x => if x.2.2 = .waiting then tileUnfly t x.1 ((r.addr + x.2.1) % 64) else t) s

/-- Class, page index and AUX of a request's page. -/
def reqClass (r : CustReq) : CustClass := entClass r.entry

/-- Tokens that a request takes (R230, R233). -/
def tokensOf (r : CustReq) : Nat := if r.op = opMasked then 2 * r.n else r.n

/-- Energy of a request's lines (R125). -/
def reqEnergy (s : State) (r : CustReq) : Nat := tokensOf r * lineEnergy s (reqClass r)

/-- Whether a request has been issued: its lines' energy is charged then. -/
def isIssued (r : CustReq) : Bool := r.stage == .reading || r.stage == .writing

/-- Energy of a request that ends before its issue (R123): its lines at the price of its page's class, or at an OPEN line's where no entry
was obtained (DESIGN CHOICE, log 22). -/
def chargeRefused (s : State) (r : CustReq) : State := if isIssued r || !r.counted then s else chargeEnergy s r.lane.toNat (reqEnergy s r)

/-- A request answered in full with one verdict and, where a KIND is given, one record (R153). -/
def refuseReq (s : State) (r : CustReq) (v : Verdict) (kind : Option Nat) : State :=
  let s1 := match kind with
    | some k => exception s k (reqExc r v r.addr)
    | none => s
  setReq (unflyAll (chargeRefused s1 r) r) (withVerdict r v)

/-- Whether two requests share a line. -/
def shareLine (a b : CustReq) : Bool := decide (a.addr < b.addr + b.n) && decide (b.addr < a.addr + a.n)

/-- Whether a request must let an earlier one go first: same master and line (R154), an issued request of any master where one of the two
writes the line (R155, R177), or a read of an earlier generation of the line that is not yet issued (R213). -/
def mustWait (s : State) (r : CustReq) : Bool :=
  s.cust.reqs.any (fun x => decide (x.seq < r.seq) && shareLine x r
    && (decide (x.mid = r.mid)
      || (isIssued x && (decide (x.op ≠ opRead) || decide (r.op ≠ opRead)))
      || (x.under.isSome && decide (r.op ≠ opRead))))

/-- Whether an answer must let an earlier one go first: same master and line (R38, R154), or the same tag on its channel (R68). -/
def answerWaits (s : State) (r : CustReq) : Bool :=
  s.cust.reqs.any (fun x => decide (x.seq < r.seq)
    && ((shareLine x r && decide (x.mid = r.mid)) || (decide (x.ch = r.ch) && decide (x.tag = r.tag))))

/-- A request's answer put on its channel. -/
def answerReq (s : State) (r : CustReq) : State :=
  let s1 := { s with cust := { s.cust with reqs := s.cust.reqs.filter (fun x => decide (x.seq ≠ r.seq)) } }
  pushBeats s1 r.ch.val
    (answerBeats r.tag r.mid r.lane r.ctx r.owner r.counted (decide (r.op ≠ opRead)) (reqResults r))

/-! ### Checks (R151) -/

/-- Whether the epoch tags of a request still match (R20, R152). -/
def tagsHold (s : State) (r : CustReq) : Bool :=
  let ok (c e : Nat) : Bool := (ctxAt s c).state == .active && decide ((ctxAt s c).epoch.toNat = e)
  ok r.ctx r.epoch && (decide (r.owner = r.ctx) || ok r.owner r.ownerEpoch)

/-- Check 5 (R151): the verdict for a context that is not ACTIVE, with the KIND of a record if one is written. -/
def ctxRefusal (v : Ctx) : Option (Verdict × Option Nat) :=
  match v.state with
  | .active => none
  | .free => if v.epoch = 0 ∧ v.keyGen = 0 then some (.failed, some 0x01) else some (.stale, none)
  | _ => some (.stale, none)

/-- Checks 1 to 5 of R151. -/
def earlyRefusal (s : State) (b : CustBeat) : Option (Verdict × Option Nat) :=
  let fail : Option (Verdict × Option Nat) := some (.failed, some 0x01)
  if !inWindow s (pageOfLine b.addr.toNat) then fail
  else match laneOfMid s b.mid.toNat with
    | none => fail
    | some l =>
      if (laneAt s l).state ≠ .opened then fail
      else if b.ctx = 0 then fail
      else
        let v := ctxAt s b.ctx.toNat
        if v.lane.toNat ≠ l then fail else ctxRefusal v

/-- Check 9: what a page state answers to a direction it does not admit (R148). -/
def stateRefusal (e : W32) (write : Bool) : Option (Verdict × Nat) :=
  match entState e with
  | .live => if !write ∧ entClass e = .sealedC then some (.failed, 0x03) else none
  | .frozen => if write then some (.failed, 0x03) else none
  | .sweeping => some (.stale, 0x03)
  | .poisoned => some (.failed, 0x0C)
  | .lost => some (.failed, 0x0C)
  | _ => some (.failed, 0x03)

/-- Checks 7 to 10 of R151 for a context's access to a page. -/
def entryRefusal (s : State) (ctx : Nat) (e : W32) (write : Bool) : Option (Verdict × Nat) :=
  if isStale s e then some (.stale, 0x02)
  else if entCtx e ≠ ctx ∧ !(entShared e && decide ((ctxAt s (entCtx e)).lane = (ctxAt s ctx).lane)) then
    some (.failed, 0x01)
  else match stateRefusal e write with
    | some x => some x
    | none => if (if write then entWr e else entRd e) then none else some (.failed, 0x01)

/-- Whether every metadata line that a request needs is cached: its counter block and the seal lines of its lines (R184). -/
def metaAtHand (s : State) (r : CustReq) : Bool :=
  let q := pageIndex s (pageOfLine r.addr)
  (itemAtHand s (.ctr q)).isSome
    && (reqLines r).all (fun la => (tfind s.tree.lines (sealPlace s (reqClass r) q (la % 64)).1).isSome)

/-- The lookups of a request that hits. -/
def countHits (s : State) (r : CustReq) : State :=
  let q := pageIndex s (pageOfLine r.addr)
  let las := (itemAddr s (.ctr q)) :: ((reqLines r).map (fun la => (sealPlace s (reqClass r) q (la % 64)).1)).eraseDups
  las.foldl (fun t la => match tfind t.tree.lines la with
    | some m => hitMeta t la m
    | none => t) s

/-- Custody's credit. -/
def custodyCredit (s : State) : Int := creditOf s crCustody

/-- A request that takes tokens of its lane, if it may. -/
def takeTokens (s : State) (r : CustReq) : Option State :=
  let l := r.lane.toNat
  let v := laneAt s l
  if !regulated s l then some s
  else if s.cust.reqs.any (fun x => decide (x.seq < r.seq) && x.stage == .tokens && decide (x.lane = r.lane)) then none
  else if 0 < v.tokens ∧ v.owed = 0 then some (setLane s l { v with tokens := v.tokens - tokensOf r })
  else none

/-- A request that passed every check on to the regulator; a wait is recorded once (R235, R236). -/
def toTokens (s : State) (r : CustReq) : State :=
  match takeTokens s r with
  | some s1 => setReq s1 { r with stage := .hold }
  | none =>
    let v := laneAt s r.lane.toNat
    let s1 := setLane s r.lane.toNat { v with throttled := true, regSeq := v.regSeq + 1 }
    setReq (count s1 0x7880 1) { r with stage := .tokens }

/-- After the metadata: check 11 (R151, R179), then the regulator. -/
def afterMeta (s : State) (r : CustReq) : State :=
  let c := reqClass r
  let q := pageIndex s (pageOfLine r.addr)
  let filled : Bool := match c, decide (r.op = opRead), itemAtHand s (.ctr q) with
    | .sealedC, false, some l => (reqLines r).any (fun la => fillBit l (la % 64))
    | .streamC, false, some l => (reqLines r).any (fun la => fillBit l (la % 64))
    | _, _, _ => false
  if filled then refuseReq s r .failed (some 0x04) else toTokens s r

/-- A request judged by its page's map entry (checks 6 to 10). -/
def judge (s : State) (r : CustReq) (e : W32) : State :=
  match entryRefusal s r.ctx e (decide (r.op ≠ opRead)) with
  | some (v, k) => refuseReq s r v (some k)
  | none =>
    let r1 := { r with entry := e, owner := entCtx e, ownerEpoch := (ctxAt s (entCtx e)).epoch.toNat }
    if entClass e = .openC then toTokens s r1
    else if metaAtHand s r1 then afterMeta (countHits s r1) r1
    else setReq s { r1 with stage := .fetch }

/-! ### Issue (R23, R507) -/

/-- One egress request queued on its channel: a write of one line, or a read of `n` consecutive lines of one request (R39). -/
def pushEgress (s : State) (write : Bool) (la : Nat) (data : Line) (req line n : Nat) : State :=
  let ch := egressOf s la
  match freeEgressTag s ch with
  | none => s
  | some t =>
    let s1 := if write then supersede s la else s
    let v := outChan s1 ch
    let e : EgReq := { tag := t, write := write, addr := la, data := data, acked := false, since := clock s, req := req,
                       line := line, n := n, got := 0, beatAt := clock s, superseded := false }
    setOut s1 ch { v with reqs := v.reqs ++ [e] }

/-- Whether every channel of a request has tags for it. -/
def egressRoom (s : State) (r : CustReq) : Bool :=
  (reqLines r).all (fun la => let v := outChan s (egressOf s la); decide (v.reqs.length + v.retired.length + 4 ≤ 1024))

/-- Bytes of a masked write merged into a line (R178). -/
def mergeLine (old new : Line) (mask : BitVec 64) : Line :=
  let o := octetsOfLine old
  let n := octetsOfLine new
  lineOfOctets ((List.range 64).map (fun k => if bit mask k then n.getD k 0 else o.getD k 0))

/-- Lines committed one after another: their ciphertexts, or what stopped the first that could not be. -/
def commitAll (s : State) (r : CustReq) (now : Bool) : List (Nat × Line) → Except Commit (List (Nat × Line)) × State
  | [] => (.ok [], s)
  | (la, p) :: rest =>
    let q := pageIndex s (pageOfLine la)
    let c := reqClass r
    let res := if now then commitNow s r.owner c q (la % 64) (entAux r.entry) la p
      else commitLine s r.owner c q (la % 64) (entAux r.entry) la p
    match res with
    | (.ok ct, s1) =>
      match commitAll s1 r now rest with
      | (.ok l, s2) => (.ok ((la, ct) :: l), s2)
      | e => e
    | (b, s1) => (.error b, s1)

/-- A write whose lines are known: committed in one step and issued (R507). -/
def issueWrite (s : State) (r : CustReq) (now : Bool) (ps : List (Nat × Line)) : State :=
  match commitAll s r now ps with
  | (.ok cts, s1) =>
    let s2 := count s1 (0x7008 + 32 * r.lane.toNat) (64 * r.n)
    let s3 := cts.foldl (fun t x => pushEgress t true x.1 x.2 r.seq (x.1 - r.addr) 1) s2
    setReq s3 { r with stage := .writing, res := List.replicate r.n .waiting }
  | (.error .waits, _) => setReq s { r with stage := .rekey }
  | (.error .filled, _) => refuseReq s r .failed (some 0x04)
  | (.error (.bad b), _) =>
    let s1 := lineFailed s b (reqExc r .failed r.addr)
    refuseReq s1 r .failed none
  | (.error .exhausted, _) =>
    refuseReq (poisonReported s (pageOfLine r.addr) r.owner) r .failed (some 0x0A)
  | (.error (.ok _), _) => s

/-- What each line of a request stands under. -/
def reqMeta (s : State) (r : CustReq) : List Nat → List LineMeta × State
  | [] => ([], s)
  | la :: rest =>
    let (m, s1) := lineMeta s (reqClass r) (pageIndex s (pageOfLine la)) (la % 64) (entAux r.entry) 
    let (ms, s2) := reqMeta s1 r rest
    (m :: ms, s2)

/-- A line added to the runs of consecutive lines on one channel, as (first line, lines). -/
def intoRuns (s : State) (la : Nat) : List (Nat × Nat) → List (Nat × Nat)
  | [] => [(la, 1)]
  | (a, n) :: rest => if a = la + 1 ∧ egressOf s a = egressOf s la then (la, n + 1) :: rest else (la, 1) :: (a, n) :: rest

/-- Whether a line is fetched: it is written and its metadata stands. -/
def isFetched : LineMeta → Bool
  | .keys _ => true
  | .plain => true
  | _ => false

/-- Reads of a request issued, a run of lines on one channel as one egress read (R39); a line that is not written answers zeros
without a fetch (R150). -/
def issueReads (s : State) (r : CustReq) : State :=
  let (ms, s1) := match r.under with
    | some ms => (ms, s)
    | none => reqMeta s r (reqLines r)
  let xs := (reqLines r).zip ms
  let s2 := xs.foldl (fun t x => match x.2 with
    | .bad b => lineFailed t b (reqExc r .failed x.1)
    | _ => t) s1
  let las := (xs.filter (fun x => isFetched x.2)).map Prod.fst
  let s2 := (las.foldr (intoRuns s2) []).foldl (fun t x => pushEgress t false x.1 0 r.seq (x.1 - r.addr) x.2) s2
  let ks := ms.map (fun m => match m with
    | .keys k => k
    | _ => noKeys)
  let res := ms.map (fun m => match m with
    | .keys _ => LineRes.waiting
    | .plain => .waiting
    | .unwritten => .got .clean 0
    | .bad _ => .got .failed 0)
  setReq s2 { r with keys := ks, res := res, stage := .reading, under := none }

/-- Plaintext of each line of a write: its data, merged into what stands there for a masked write. -/
def writeData (r : CustReq) (old : List Line) : List (Nat × Line) :=
  (List.range r.n).map (fun i =>
    let x := r.lines.getD i (0, 0)
    (r.addr + i, if r.op = opMasked then mergeLine (old.getD i 0) x.1 x.2 else x.1))

/-- What a request whose reads are all known goes on to: its answer, or the write half of a masked write (R178). -/
def readsDone (s : State) (r : CustReq) : State :=
  if r.res.any (fun x => x == .waiting) then s
  else if r.op = opRead then setReq s { r with stage := .answering }
  else if r.res.any (fun x => match x with
      | .got .failed _ => true
      | _ => false) then setReq s (withVerdict r .failed)
  else if !tagsHold s r then setReq s (withVerdict r .stale)
  else issueWrite s r true (writeData r (r.res.map (fun x => match x with
    | .got _ d => d
    | .waiting => 0)))

/-- Whether custody's credit covers a request's lines (R119). -/
def creditCovers (s : State) (r : CustReq) : Bool := decide (((energyScale * reqEnergy s r : Nat) : Int) ≤ custodyCredit s)

/-- A request's issue, once its turn has come, its key is at hand, a read entry is free and the credit covers its lines: they go out
together once it covers the last of them (DESIGN CHOICE, log 27). -/
def tryIssue (s : State) (r : CustReq) : Option State :=
  if mustWait s r then none
  else if !tagsHold s r then some (refuseReq s r .stale none)
  else if (reqLines r).any (fun la => egressDown s (egressOf s la)) then some (refuseReq s r .failed (some 0x0B))
  else if !egressRoom s r then none
  else if reqClass r ≠ .openC ∧ (cachedKey s r.owner).isNone then
    if r.stage = .key then none
    else
      let q := if s.keys.inFlight.contains r.owner then s.keys.inFlight else s.keys.inFlight ++ [r.owner]
      some (setReq { s with keys := { s.keys with inFlight := q } } { r with stage := .key })
  else if !creditCovers s r then none
  else
    let paid (t : State) : State :=
      chargeEnergy (spendCredit { t with cust := { t.cust with turn := (r.lane.toNat + 1) % 64 } } crCustody (reqEnergy t r))
        r.lane.toNat (reqEnergy t r)
    let s0 := if reqClass r = .openC then s else readyKey s r.owner
    if r.op = opRead then
      if reqClass r = .sealedC then
        match tilesFor s0 (pageOfLine r.addr) r.owner r.ctx ((reqLines r).map (fun la => la % 64)) with
        | none => if r.stage = .tile then none else some (setReq s { r with stage := .tile })
        | some (os, s1) => some (let r' := { r with tiles := os }; issueReads (paid (setReq s1 r')) r')
      else some (issueReads (paid s0) r)
    else if r.op = opMasked then some (issueReads (paid s0) r)
    else
      let s1 := issueWrite s0 r false (writeData r [])
      match reqAt s1 r.seq with
      | some x =>
        if x.stage = .rekey then (if r.stage = .rekey then none else some (setReq s x)) else some (paid s1)
      | none => some (paid s1)

/-- One request moved on as far as it can without an event from outside; nothing where it stays. -/
def moveReq (s : State) (r : CustReq) : Option State :=
  match r.stage with
  | .walk =>
    match tfind s.mapc.lines (pageIndex s (pageOfLine r.addr) / 16) with
    | some m =>
      let e := m.words.getD (pageIndex s (pageOfLine r.addr) % 16) 0
      some (if entState e = .reserved then refuseReq s r .failed (some 0x05) else judge s r e)
    | none => none
  | .fetch => if r.under.isSome then some (toTokens s r) else if metaAtHand s r then some (afterMeta (countHits s r) r) else none
  | .tokens => (takeTokens s r).map (fun t => setReq t { r with stage := .hold })
  | .tile => tryIssue s r
  | .hold => tryIssue s r
  | .rekey => tryIssue s r
  | .key => tryIssue s r
  | .reading => if r.res.any (fun x => x == .waiting) then none else some (readsDone s r)
  | .writing =>
    if r.res.any (fun x => x == .waiting) then none
    else some (setReq s (withVerdict r (if r.fault.isSome then .failed else .clean)))
  | .answering => if answerWaits s r then none else some (answerReq s r)

/-- A request's place in the turn: its lane counted from the lane whose turn is next, then the order of acceptance (R229). -/
def turnKey (s : State) (r : CustReq) : Nat := ((r.lane.toNat + 64 - s.cust.turn) % 64) * 2 ^ 40 + r.seq

/-- Requests put in by their place in the turn. -/
def insertTurn (s : State) (r : CustReq) : List CustReq → List CustReq
  | [] => [r]
  | x :: rest => if turnKey s r ≤ turnKey s x then r :: x :: rest else x :: insertTurn s r rest

/-- Whether a request waits to be issued. -/
def awaitsIssue (r : CustReq) : Bool := r.stage == .hold || r.stage == .tile || r.stage == .rekey || r.stage == .key

/-- Whether a request whose turn it is waits for want of credit alone: the requests behind it wait with it (R21, R229). -/
def creditShort (s : State) (r : CustReq) : Bool :=
  awaitsIssue r && !mustWait s r && egressRoom s r && (reqClass r == .openC || (cachedKey s r.owner).isSome) && !creditCovers s r

/-- The first request of a list that can move, moved. Once one is short of credit, none behind it is issued. -/
def moveFirst (s : State) : Bool → List CustReq → Option State
  | _, [] => none
  | short, r :: rest =>
    if short && awaitsIssue r then moveFirst s short rest
    else match moveReq s r with
      | some t => some t
      | none => moveFirst s (short || creditShort s r) rest

/-- Requests moved on until none can move; fuel bounds the moves. -/
def settleSteps : Nat → State → State
  | 0, s => s
  | n + 1, s =>
    match moveFirst s false (s.cust.reqs.foldr (insertTurn s) []) with
    | some t => settleSteps n t
    | none => s

/-- Requests moved on until none can move: each passes at most eight stages. -/
def settleReqs (s : State) : State := settleSteps (9 * s.cust.reqs.length + 9) s

/-! ### Capture (R36, R37, R68, R151) -/

/-- Whether a tag is outstanding on a channel (R37). -/
def tagOut (s : State) (ch : Nat) (tag : Tag) : Bool :=
  s.cust.reqs.any (fun r => decide (r.ch.val = ch) && decide (r.tag = tag)) || (inChan s ch).rsp.any (fun x => decide (x.tag = tag))

/-- Requests outstanding on a channel. -/
def outstandingOn (s : State) (ch : Nat) : Nat :=
  (s.cust.reqs.filter (fun r => decide (r.ch.val = ch))).length + ((inChan s ch).rsp.filter RspBeat.last).length
    + (if (inChan s ch).openWrite.isSome then 1 else 0)

/-- Custody requests of a lane accepted and not yet answered (R159). -/
def laneOutstanding (s : State) (l : Nat) : Nat :=
  (s.cust.reqs.filter (fun r => r.counted && decide (r.lane.toNat = l))).length
    + (s.cust.ins.flatMap (fun v => v.rsp.filter (fun x => x.last && x.counted && decide (x.lane.toNat = l)))).length

/-- Requests of a lane that wait for tokens, over all channels or on one. -/
def laneWaiting (s : State) (l : Nat) (ch : Option Nat) : Nat :=
  (s.cust.reqs.filter (fun r => r.stage == .tokens && decide (r.lane.toNat = l)
    && (match ch with
      | some c => decide (r.ch.val = c)
      | none => true))).length

/-- A complete request judged: checks 1 to 5, then the queue (R27, R151). -/
def submit (s : State) (ch : Fin 4) (b : CustBeat) (lines : List (Line × BitVec 64)) : State :=
  if !s.cust.enabled || s.cust.stopped then oweAll s ch b
  else
    let lane := laneOfMid s b.mid.toNat
    let v := ctxAt s b.ctx.toNat
    let early := earlyRefusal s b
    let r : CustReq :=
      { seq := s.cust.nextSeq, ch := ch, op := b.op, addr := b.addr.toNat, n := b.len.toNat + 1, mid := b.mid,
        lane := BitVec.ofNat 6 (lane.getD 0), ctx := b.ctx.toNat, epoch := v.epoch.toNat, owner := b.ctx.toNat,
        ownerEpoch := v.epoch.toNat, entry := 0, tag := b.tag, lines := lines, stage := .walk, keys := [], res := [],
        fault := none, tiles := [], under := none, counted := early.isNone }
    let s1 := { s with cust := { s.cust with reqs := s.cust.reqs ++ [r], nextSeq := s.cust.nextSeq + 1 } }
    match early with
    | some (vd, k) => refuseReq (if lane.isSome then chargeEnergy s1 r.lane.toNat (reqEnergy s1 r) else s1) r vd k
    | none => if (reqLines r).any (fun la => egressDown s (egressOf s la)) then refuseReq s1 r .failed (some 0x0B) else s1

/-- An open write discarded with one FAILED write answer and a record (R68). -/
def discardWrite (s : State) (ch : Fin 4) (w : OpenWrite) (kind : BitVec 8) : State :=
  let s1 := setIn s ch.val { inChan s ch.val with openWrite := none }
  oweAll (exception (violate s1 (pCustIn ch) kind (some w.first.mid)) 0x0B (beatExc ch.val w.first)) ch w.first

/-- Whether a request crosses a page boundary (R36). -/
def crossesPage (b : CustBeat) : Bool := decide (64 < b.addr.toNat % 64 + b.len.toNat + 1)

/-- A request whose every beat has arrived: refused for its tag or its span, or submitted. -/
def completeRequest (s : State) (ch : Fin 4) (b : CustBeat) (reuse : Bool) (lines : List (Line × BitVec 64)) : State :=
  if reuse || crossesPage b then oweAll (exception s 0x0B (beatExc ch.val b)) ch b else submit s ch b lines

/-- Beat 0 of a request (R36, R37, R68). A request that breaks two rules at once logs one violation: BAD_FIELD for OP 3, before TAG_REUSE,
before BAD_FIELD for a page crossing (DESIGN CHOICE, log 139). -/
def captureFirst (s : State) (ch : Fin 4) (b : CustBeat) : State :=
  let s0 := match (inChan s ch.val).openWrite with
    | some w => discardWrite s ch w kBurstShort
    | none => s
  if b.op = 3 then
    owe (exception (violate s0 (pCustIn ch) kBadField (some b.mid)) 0x0B (beatExc ch.val b)) ch b false (b.len.toNat + 1) 1
  else
    let reuse := tagOut s0 ch.val b.tag
    let s1 := if reuse then violate s0 (pCustIn ch) kTagReuse (some b.mid)
      else if crossesPage b then violate s0 (pCustIn ch) kBadField (some b.mid) else s0
    if b.op = opRead then completeRequest s1 ch b reuse []
    else if b.len = 0 then completeRequest s1 ch b reuse [(b.data, b.mask)]
    else setIn s1 ch.val { inChan s1 ch.val with
      openWrite := some { first := b, lines := [(b.data, b.mask)], lastBeat := clock s, reuse := reuse } }

/-- A continuation beat (R36, R68). -/
def captureNext (s : State) (ch : Fin 4) (b : CustBeat) : State :=
  match (inChan s ch.val).openWrite with
  | none => violate s (pCustIn ch) kBurstExcess none
  | some w =>
    if b.tag ≠ w.first.tag ∨ b.beat.toNat ≠ w.lines.length then discardWrite s ch w kBadField
    else
      let ls := w.lines ++ [(b.data, b.mask)]
      if ls.length = w.first.len.toNat + 1 then
        completeRequest (setIn s ch.val { inChan s ch.val with openWrite := none }) ch w.first w.reuse ls
      else setIn s ch.val { inChan s ch.val with openWrite := some { w with lines := ls, lastBeat := clock s } }

/-- A request bundle captured. -/
def capture (s : State) (ch : Fin 4) (b : CustBeat) : State := if b.beat = 0 then captureFirst s ch b else captureNext s ch b

/-- Whether ACK is withheld from a request: the channel holds 1,024, or the lane's 256 waiting requests stand on it (R37, R231). -/
def ackWithheld (s : State) (ch : Fin 4) (b : CustBeat) : Bool :=
  decide (b.beat = 0) && (decide (1024 ≤ outstandingOn s ch.val) ||
    (match laneOfMid s b.mid.toNat with
    | some l => decide (256 ≤ laneWaiting s l (some ch.val))
    | none => false))

/-- HOL recorded, once, for a lane whose 256 waiting requests hold the channel (R231). -/
def markHol (s : State) (ch : Fin 4) (b : CustBeat) : State :=
  match laneOfMid s b.mid.toNat with
  | some l =>
    if (inChan s ch.val).holMarked ∨ laneWaiting s l (some ch.val) < 256 then s
    else
      let v := laneAt s l
      setIn (setLane s l { v with hol := true, regSeq := v.regSeq + 1 }) ch.val { inChan s ch.val with holMarked := true }
  | none => s

/-- Bundles whose ACK was withheld captured in order, as far as room is made (R37, R231). -/
def drainHeld (ch : Fin 4) : Nat → State → State
  | 0, s => s
  | n + 1, s =>
    match (inChan s ch.val).held with
    | [] => s
    | b :: rest =>
      if ackWithheld s ch b then markHol s ch b
      else drainHeld ch n (settleReqs (capture (setIn s ch.val { inChan s ch.val with held := rest, holMarked := false }) ch b))

/-- The custody path moved on: pages whose metadata is lost first, then its requests, then the bundles that waited for room. -/
def settle (s : State) : State :=
  [(0 : Fin 4), 1, 2, 3].foldl (fun t ch => drainHeld ch (inChan t ch.val).held.length t) (settleReqs (settleLost s).2)

/-- A request beat: captured at once, or once the bundles before it have been and there is room (R231); after an orderly sleep no
request is (R301). -/
def captureBeat (s : State) (ch : Fin 4) (b : CustBeat) : State :=
  if s.keys.asleep then s
  else
    let s1 := reqFell s (pCustIn ch)
    settle (setIn s1 ch.val { inChan s1 ch.val with held := (inChan s1 ch.val).held ++ [b] })

/-- CUST_IN_REQUEST (R151). -/
def execCustInRequest (ch : Fin 4) (b : CustBeat) (s : State) : Host.Outcome State Fault Refusal :=
  live s (fun s => captureBeat s ch b)

/-- CUST_IN_WRITE_BEAT (R36). -/
def execCustInWriteBeat (ch : Fin 4) (b : CustBeat) (s : State) : Host.Outcome State Fault Refusal :=
  live s (fun s => captureBeat s ch b)

/-! ### Answers taken by the fabric (R38) -/

/-- The move of a DRAINING lane to DRAINED when nothing of it is in flight (R130, R208). -/
def settleDrain (s : State) (l : Nat) : State :=
  let v := laneAt s l
  if v.state = .draining ∧ laneOutstanding s l = 0 then
    let s1 := setLane s l { v with state := .drained, job := none }
    match v.job with
    | some w => finish s1 w stDone []
    | none => s1
  else s

/-- What a beat counts when it is given (R123, R161). -/
def countBeat (s : State) (x : RspBeat) : State :=
  match x.verdict with
  | .stale => count s 0x7820 1
  | .failed => count s 0x7828 1
  | _ => if x.write then s else count s (0x7000 + 32 * x.lane.toNat) 64

/-- CUST_IN_RESPONSE_ACK (R38): the beat is taken; with the last one the tag is free. -/
def responseAck (s : State) (ch : Fin 4) : State :=
  let v := inChan s ch.val
  match v.rsp with
  | [] => s
  | x :: rest =>
    let s1 := countBeat (setIn s ch.val { v with rsp := rest, rspSince := clock s, rspLate := false }) x
    if x.last && x.counted then settleDrain s1 x.lane.toNat else s1

/-- CUST_IN_RESPONSE_ACK (R38). -/
def execCustInResponseAck (ch : Fin 4) (s : State) : Host.Outcome State Fault Refusal := live s (fun s => responseAck s ch)

/-! ### Egress (R39, R40) -/

/-- The request on the wire of a channel: the first that has no ACK. -/
def onWire (v : OutChannel) : Option EgReq := v.reqs.find? (fun r => !r.acked)

/-- The next request's REQ rises now. -/
def raiseNext (s : State) (v : OutChannel) : OutChannel :=
  match onWire v with
  | some n => { v with reqs := v.reqs.map (fun r => if r.tag = n.tag then { r with since := clock s } else r) }
  | none => v

/-- CUST_OUT_REQUEST_ACK (R39). -/
def requestAck (s : State) (ch : Fin 4) : State :=
  let v := outChan s ch.val
  match onWire v with
  | none => s
  | some e =>
    let v1 := { v with stalled := false,
                       reqs := v.reqs.map (fun r => if r.tag = e.tag then { r with acked := true, since := clock s } else r) }
    settle (setOut s ch.val (raiseNext s v1))

/-- CUST_OUT_REQUEST_ACK (R39). -/
def execCustOutRequestAck (ch : Fin 4) (s : State) : Host.Outcome State Fault Refusal := live s (fun s => requestAck s ch)

/-- A line opened under the counters it was issued under, or under those that stand now if the block has rewritten it since (R155). -/
def openAnswer (s : State) (r : CustReq) (i la : Nat) (ct : Line) : Opened × State :=
  let c := reqClass r
  let k := ctxKey s r.owner
  let x := openLine k c (r.keys.getD i noKeys) la ct
  match x.line with
  | .ok _ => (x, s)
  | .error _ =>
    match lineMeta s c (pageIndex s (pageOfLine la)) (la % 64) (entAux r.entry) with
    | (.keys m, s1) =>
      let y := openLine k c m la ct
      (if y.line.isOk then y else x, s1)
    | (_, s1) => (x, s1)

/-- A line of a request failed in memory: its verdict, record and, for SEALED, the failed tile verdict (R175). -/
def readFails (s : State) (r : CustReq) (i : Nat) (b : BadLine) : State :=
  let la := r.addr + i
  let s1 := exception s (badKind b) (reqExc r .failed la)
  let s2 := match r.tiles[i]? with
    | some o => match tileEntry s1 o with
      | some e => tileFails s1 e srcCustIn true
      | none => s1
    | none => s1
  setReq s2 { r with res := r.res.set i (.got .failed 0) }

/-- A read answer taken into its request. -/
def readArrives (s : State) (r : CustReq) (i : Nat) (m : MemBeat) : State :=
  let la := r.addr + i
  if m.err then readFails (count s 0x7848 1) r i .err
  else
    let (x, s1) := openAnswer s r i la m.data
    let s2 := countOpened s1 x
    match x.line with
    | .error b => readFails s2 r i b
    | .ok (p, ct) =>
      let s3 := match r.tiles[i]? with
        | some o => tileAdd s2 o (la % 64) ct
        | none => s2
      setReq s3 { r with res := r.res.set i (.got (if reqClass r = .sealedC then .deferred else .clean) p) }

/-- A write answer taken into its request (R507). -/
def writeArrives (s : State) (r : CustReq) (i : Nat) (m : MemBeat) : State :=
  let s1 := if m.err ∧ r.fault.isNone then exception s 0x08 (reqExc r .failed (r.addr + i)) else s
  setReq s1 { r with res := r.res.set i (.got .clean 0), fault := if m.err ∧ r.fault.isNone then some 0x08 else r.fault }

/-- What memory holds after a write answer. -/
def storeAnswered (s : State) (e : EgReq) (m : MemBeat) : State :=
  if e.write ∧ !m.err ∧ !e.superseded then { s with dram := tset 0 s.dram e.addr e.data } else s

/-- A beat of a late answer to a retired tag (R68): the tag is free again at the last; a store it reports stands. -/
def lateAnswer (s : State) (ch : Nat) (m : MemBeat) (x : Retired) : State :=
  let v := outChan s ch
  let rest := v.retired.filter (fun y => decide (y.tag ≠ x.tag))
  let s1 := setOut s ch { v with retired := if x.left ≤ 1 then rest
                                            else v.retired.map (fun y => if y.tag = x.tag then { y with left := y.left - 1 } else y) }
  if x.write ∧ !m.err ∧ !x.superseded then { s1 with dram := tset 0 s1.dram x.addr x.data } else s1

/-- A request met by an egress fault: FAILED, with one record (R507). -/
def faultReq (s : State) (n : Nat) : State :=
  match reqAt s n with
  | none => s
  | some r => if r.stage = .answering then s else refuseReq s r .failed (if r.fault.isSome then none else some 0x0B)

/-- An egress request that leaves its channel. -/
def dropEgress (s : State) (ch : Nat) (e : EgReq) : State :=
  let v := outChan s ch
  setOut s ch { v with reqs := v.reqs.filter (fun x => decide (x.tag ≠ e.tag)) }

/-- The read answer that stands open on a channel. -/
def openResponse (v : OutChannel) : Option EgReq := v.reqs.find? (fun e => decide (0 < e.got))

/-- A partial read answer discarded, and its custody request answered FAILED (R68). -/
def discardPartial (s : State) (ch : Fin 4) (e : EgReq) (kind : BitVec 8) : State :=
  faultReq (violate (dropEgress s ch.val e) (pCustOut ch) kind none) e.req

/-- The expected beat of an egress request's answer. -/
def beatArrives (s : State) (ch : Fin 4) (e : EgReq) (m : MemBeat) : State :=
  let v := outChan s ch.val
  let s1 := if e.got + 1 < e.n then
      setOut s ch.val { v with reqs := v.reqs.map (fun x => if x.tag = e.tag then { x with got := e.got + 1, beatAt := clock s } else x) }
    else dropEgress s ch.val e
  let s2 := storeAnswered s1 e m
  match reqAt s2 e.req with
  | none => s2
  | some r => if e.write then (if r.stage = .writing then writeArrives s2 r e.line m else s2)
      else (if r.stage = .reading ∧ r.res[e.line + e.got]? = some .waiting then readArrives s2 r (e.line + e.got) m else s2)

/-- An open read answer cut short by the first beat of another (BURST_SHORT, R68). -/
def cutOpen (s : State) (ch : Fin 4) (m : MemBeat) : State :=
  match openResponse (outChan s ch.val) with
  | some o => if o.tag ≠ m.tag.toNat ∧ m.beat = 0 then discardPartial s ch o kBurstShort else s
  | none => s

/-- An answer beat taken, after an open answer that it cuts short. -/
def answerBeat (s : State) (ch : Fin 4) (m : MemBeat) : State :=
  let v := outChan s ch.val
  match v.reqs.find? (fun e => decide (e.tag = m.tag.toNat) && e.acked && e.write == m.write) with
  | none =>
    match v.retired.find? (fun e => decide (e.tag = m.tag.toNat) && e.write == m.write) with
    | some x => lateAnswer s ch.val m x
    | none => violate s (pCustOut ch) kUnsolicited none
  | some e => if m.beat.toNat = e.got then beatArrives s ch e m else violate s (pCustOut ch) kBurstExcess none

/-- CUST_OUT_RESPONSE (R40): an answer beat. -/
def memoryAnswers (s : State) (ch : Fin 4) (m : MemBeat) : State := settle (answerBeat (cutOpen s ch m) ch m)

/-- BURST_TIMEOUT of a read answer (R67, R68): 256 paces after its last beat. -/
def responseTimeout (s : State) (ch : Fin 4) : State :=
  match openResponse (outChan s ch.val) with
  | some e => if clock s < e.beatAt + 256 then s else discardPartial s ch e kBurstTimeout
  | none => s

/-- CUST_OUT_RESPONSE (R40). -/
def execCustOutResponse (ch : Fin 4) (r : MemBeat) (bus : Bus) (s : State) : Host.Outcome State Fault Refusal :=
  onBus s bus (fun s => memoryAnswers (reqFell s (pCustOut ch)) ch r)

/-! ### Timeouts of the egress (R67, R68) -/

/-- FAILED to every custody request waiting on a channel; reads not yet on the wire leave the queue. -/
def failWaiting (s : State) (ch : Nat) : State :=
  let v := outChan s ch
  let ws := v.reqs.filter (fun e => !e.acked)
  let head := (onWire v).map EgReq.tag
  let s1 := ws.foldl (fun t e => faultReq t e.req) s
  setOut s1 ch { v with reqs := v.reqs.filter (fun e => e.acked || e.write || decide (some e.tag = head)) }

/-- ACK_TIMEOUT on a `CUST_OUT` request (R68): 4,096 paces from the rise of its REQ. -/
def egressAckTimeout (s : State) (ch : Fin 4) : State :=
  let v := outChan s ch.val
  match onWire v with
  | none => s
  | some e =>
    if v.stalled ∨ clock s < e.since + 4096 then s
    else
      let s1 := violate (setOut s ch.val { v with stalled := true }) (pCustOut ch) kAckTimeout none
      settle (failWaiting s1 ch.val)

/-- NO_RESPONSE (R68): 16,384 paces after ACK; the tag is retired. -/
def noResponse (s : State) (ch : Fin 4) (tag : Nat) : State :=
  let v := outChan s ch.val
  match v.reqs.find? (fun e => decide (e.tag = tag) && e.acked && decide (e.got = 0)) with
  | none => s
  | some e =>
    if clock s < e.since + 16384 then s
    else
      let x : Retired := { tag := e.tag, write := e.write, addr := e.addr, data := e.data, left := e.n, superseded := e.superseded }
      let v1 := { v with reqs := v.reqs.filter (fun y => decide (y.tag ≠ e.tag)), retired := v.retired ++ [x] }
      let s1 := faultReq (violate (setOut s ch.val v1) (pCustOut ch) kNoResponse none) e.req
      settle (if 64 ≤ v1.retired.length then failWaiting s1 ch.val else s1)

/-- NO_RESPONSE (R68). -/
def execNoResponse (ch : Fin 4) (tag : Tag) (s : State) : Host.Outcome State Fault Refusal :=
  live s (fun s => noResponse s ch tag.toNat)

/-- ACK_TIMEOUT on a `CUST_IN` response (R68): logged once per episode. -/
def ingressAckTimeout (s : State) (ch : Fin 4) : State :=
  let v := inChan s ch.val
  match v.rsp with
  | [] => s
  | x :: _ =>
    if v.rspLate ∨ clock s < v.rspSince + 4096 then s
    else violate (setIn s ch.val { v with rspLate := true }) (pCustIn ch) kAckTimeout (some x.mid)

/-- BURST_TIMEOUT of an open write (R67, R68): 256 paces after its last beat. -/
def writeBurstTimeout (s : State) (ch : Fin 4) : State :=
  match (inChan s ch.val).openWrite with
  | none => s
  | some w => if clock s < w.lastBeat + 256 then s else discardWrite s ch w kBurstTimeout

/-- A request bundle withdrawn or changed before ACK (R68). On beat 0 while a write is open, the open write stays open: a bundle of which
nothing is performed does not cut it short (DESIGN CHOICE, log 138). -/
def beatWithdrawn (s0 : State) (ch : Fin 4) (b : CustBeat) (kind : BitVec 8) : State :=
  let s := setIn s0 ch.val { inChan s0 ch.val with held := (inChan s0 ch.val).held.filter (fun x => decide (x ≠ b)) }
  match (inChan s ch.val).openWrite, decide (b.beat = 0) with
  | some w, false => discardWrite s ch w kind
  | _, first =>
    let mid : Option Mid := if first then some b.mid else none
    let s1 := exception (violate s (pCustIn ch) kind mid) 0x0B (beatExc ch.val b)
    owe s1 ch b (first && decide (b.op ≠ opRead) && decide (b.op ≠ 3)) (if first then b.len.toNat + 1 else 0) 1

/-! ### Events inside the block -/

/-- The oldest request at a stage. -/
def oldestAt (s : State) (p : CustReq → Bool) : Option CustReq := s.cust.reqs.find? p

/-- MAP_WALK (R145, R146): the walk that the oldest waiting request asked for ends; a fault answers every request for its pages. -/
def mapWalkEnds (s : State) : State :=
  match oldestAt s (fun r => r.stage == .walk) with
  | none => s
  | some r =>
    let n := pageIndex s (pageOfLine r.addr) / 16
    match walkMap s n with
    | (.ok _, s1) => settle s1
    | (.error k, s1) =>
      settle ((s1.cust.reqs.filter (fun x => x.stage == .walk && decide (pageIndex s1 (pageOfLine x.addr) / 16 = n))).foldl
        (fun t x => refuseReq t x .failed (some k)) s1)

/-- MAP_WALK (R145). -/
def execMapWalk (bus : Bus) (s : State) : Host.Outcome State Fault Refusal := onBus s bus mapWalkEnds

/-- Seal lines that a request needs, with its counter block at hand: of a read, those of its written lines. -/
def neededPlaces (s : State) (r : CustReq) (l : Line) : List Nat :=
  let q := pageIndex s (pageOfLine r.addr)
  let c := reqClass r
  ((reqLines r).filter (fun la => decide (r.op ≠ opRead) || (match c with
    | .versionedC => decide ((lineCounters s q l (la % 64)).2 ≠ 0)
    | _ => fillBit l (la % 64)))).map (fun la => (sealPlace s c q (la % 64)).1)

/-- METADATA_FETCH (R184): what the oldest waiting request needs is fetched and verified. -/
def metadataArrives (s : State) : State :=
  match oldestAt s (fun r => r.stage == .fetch) with
  | none => s
  | some r =>
    let g := groupOfClass (reqClass r)
    match fetchItem s (.ctr (pageIndex s (pageOfLine r.addr))) g with
    | (.bad t, s1) =>
      settle (refuseReq (lineFailed s1 (.item t) (reqExc r .failed r.addr)) r .failed none)
    | (.silent, s1) => settle (refuseReq s1 r .failed (some 0x0B))
    | (.ok l, s1) =>
      let s2 := (neededPlaces s1 r l).eraseDups.foldl (fun t la => (fetchPlain t la g).2) s1
      settle (afterMeta s2 r)

/-- METADATA_FETCH (R184). -/
def execMetadataFetch (bus : Bus) (s : State) : Host.Outcome State Fault Refusal := onBus s bus metadataArrives

/-- KEY_DERIVATION (R282): the first derivation under way ends. -/
def keyDerived (s : State) : State :=
  match s.keys.inFlight with
  | [] => s
  | c :: rest => settle (readyKey { s with keys := { s.keys with inFlight := rest } } c)

/-- KEY_DERIVATION (R282). -/
def execKeyDerivation (s : State) : Host.Outcome State Fault Refusal := live s keyDerived

/-- METADATA_WRITEBACK (R186): the line dirty longest is written back. -/
def execMetadataWriteback (bus : Bus) (s : State) : Host.Outcome State Fault Refusal :=
  onBus s bus (fun s => match oldestDirty s [] with
    | some la => settle (writebackLine s la).2
    | none => s)

/-- REKEY_LINE (R180). -/
def execRekeyLine (bus : Bus) (s : State) : Host.Outcome State Fault Refusal :=
  onBus s bus (fun s => settle (background rekeyStep s))

/-! ### Custody stopped (R27, R301, R439, R444, R445, R450) -/

/-- Every request in flight answered FAILED with no record; nothing not yet on the wire is issued, and later requests are answered so too. -/
def cutCustody (s : State) : State :=
  let rs := s.cust.reqs.map (fun r => if r.stage = .answering then { r with res := r.res.map (fun _ => .got .failed 0) }
    else withVerdict r .failed)
  let outs := s.cust.outs.map (fun v =>
    let head := (onWire v).map EgReq.tag
    { v with reqs := v.reqs.filter (fun e => e.acked || decide (some e.tag = head)) })
  settle { s with cust := { s.cust with stopped := true, reqs := rs, outs := outs } }

/-! ### The close of an epoch (R136, R221) -/

/-- Custody traffic of a context whose epoch closes: everything not yet issued as a write is answered STALE. -/
def staleTraffic (s : State) (c : Nat) : State :=
  let hit (r : CustReq) : Bool :=
    r.counted && (decide (r.ctx = c) || decide (r.owner = c)) && !(r.stage == .writing) && !(r.stage == .answering)
  let touched (r : CustReq) : Bool := r.counted && (decide (r.ctx = c) || decide (r.owner = c)) && decide (r.op = opRead)
  let gone := (s.cust.reqs.filter hit).map CustReq.seq
  let s := (s.cust.reqs.filter hit).foldl chargeRefused s
  let rs := s.cust.reqs.map (fun r => if hit r || (touched r && r.stage == .answering) then withVerdict r .stale else r)
  let outs := s.cust.outs.map (fun v =>
    let head := (onWire v).map EgReq.tag
    { v with reqs := v.reqs.filter (fun e => e.acked || e.write || decide (some e.tag = head) || !gone.contains e.req) })
  let ins := s.cust.ins.map (fun v =>
    { v with rsp := v.rsp.take 1 ++ (v.rsp.drop 1).map (fun x =>
        if !x.write && x.counted && (decide (x.ctx = c) || decide (x.owner = c)) then { x with verdict := .stale, data := 0 } else x) })
  { s with cust := { s.cust with reqs := rs, outs := outs, ins := ins } }

end Sys2Proof.Machine
end

