-- ==== Sys2Proof/Machine/Mailbox.lean ====
section
/-!
DEFINITION. How the controller starts a mailbox request (R79, R81, R96, R97): which request is next, the checks in their order,
the rights of every opcode (R505), and the general opcodes (R98).
-/

namespace Sys2Proof.Machine

open Sys2Proof

/-- Who may use an opcode (R81, R505). -/
inductive Rights where
  | anyMaster
  /-- a lane service under this grant bit of LANE_GRANT -/
  | laneGrant (b : Nat)
  | ownerOnly
deriving DecidableEq, Repr

/-- When an opcode is ticketed (R505). -/
inductive Ticketing where
  | never
  | always
  /-- when COUNT exceeds 16 (R200) -/
  | byCount
deriving DecidableEq, Repr

/-- A row of R505 with the LENs that the opcode's chapter allows and whether payload word 2 names a context of the lane. -/
structure OpInfo where
  op : Nat
  rights : Rights
  ticketing : Ticketing
  tampered : Bool
  lens : List Nat
  namesCtx : Bool := false
deriving DecidableEq, Repr

/-- Grant bits of LANE_GRANT (R82). -/
def gCustody : Rights := .laneGrant 0
/-- MODELS -/
def gModels : Rights := .laneGrant 1
/-- RECEIPTS -/
def gReceipts : Rights := .laneGrant 2
/-- KEYS -/
def gKeys : Rights := .laneGrant 3
/-- RNS -/
def gRns : Rights := .laneGrant 4
/-- DIGEST -/
def gDigest : Rights := .laneGrant 5
/-- RELAY -/
def gRelay : Rights := .laneGrant 6

/-- General and custody opcodes (R98, R200, R505). -/
def opsCustody : List OpInfo := [
  ⟨0x001, .anyMaster, .never, true, List.range 15, false⟩,
  ⟨0x002, .anyMaster, .never, true, [0], false⟩,
  ⟨0x003, .anyMaster, .never, true, [1], false⟩,
  ⟨0x004, .anyMaster, .never, true, [1], false⟩,
  ⟨0x005, .anyMaster, .never, true, [0], false⟩,
  ⟨0x101, .ownerOnly, .never, true, [2], false⟩,
  ⟨0x102, gCustody, .never, true, [1], true⟩,
  ⟨0x103, gCustody, .byCount, true, [3], true⟩,
  ⟨0x104, gCustody, .byCount, true, [3], true⟩,
  ⟨0x105, gCustody, .byCount, true, [3], true⟩,
  ⟨0x106, gCustody, .byCount, true, [3], true⟩,
  ⟨0x107, gCustody, .byCount, true, [3], true⟩,
  ⟨0x108, gCustody, .never, true, [1], true⟩,
  ⟨0x109, gCustody, .always, true, [1], true⟩,
  ⟨0x10A, gCustody, .never, true, [2], true⟩,
  ⟨0x110, .ownerOnly, .never, true, [1], false⟩,
  ⟨0x111, .ownerOnly, .always, true, [1], false⟩,
  ⟨0x112, .ownerOnly, .never, true, [1], false⟩,
  ⟨0x113, .ownerOnly, .always, true, [1], false⟩]

/-- Model and receipt opcodes (R254, R505). -/
def opsModels : List OpInfo := [
  ⟨0x201, gModels, .always, false, [6], false⟩,
  ⟨0x202, gModels, .never, false, [1], false⟩,
  ⟨0x203, .ownerOnly, .always, false, [13], false⟩,
  ⟨0x210, gReceipts, .never, false, [5], false⟩,
  ⟨0x211, gReceipts, .always, false, [2], false⟩,
  ⟨0x212, gReceipts, .never, false, [1], false⟩,
  ⟨0x213, gReceipts, .never, false, [11], false⟩,
  ⟨0x220, gReceipts, .always, false, [1], false⟩,
  ⟨0x221, gReceipts, .always, false, [7], false⟩,
  ⟨0x222, gReceipts, .never, false, [3], false⟩,
  ⟨0x223, .anyMaster, .never, true, [1], false⟩,
  ⟨0x224, .anyMaster, .never, true, [4], false⟩]

/-- Key opcodes (R305, R505). -/
def opsKeys : List OpInfo := [
  ⟨0x301, gKeys, .never, false, [6], false⟩,
  ⟨0x302, gKeys, .never, false, [1], false⟩,
  ⟨0x303, gKeys, .never, false, [1], false⟩,
  ⟨0x304, gKeys, .never, false, [5], false⟩,
  ⟨0x305, gKeys, .always, false, [2], false⟩,
  ⟨0x306, .ownerOnly, .always, false, [4], false⟩,
  ⟨0x307, .ownerOnly, .always, false, [5], false⟩,
  ⟨0x310, .ownerOnly, .always, false, [0], false⟩,
  ⟨0x311, gKeys, .never, false, [1], false⟩,
  ⟨0x312, gKeys, .never, false, [1], false⟩,
  ⟨0x320, .ownerOnly, .always, true, [8], false⟩]

/-- RNS engine opcodes (R316, R505). -/
def opsRns : List OpInfo := [
  ⟨0x401, gRns, .always, false, [10], false⟩,
  ⟨0x402, gRns, .always, false, [13], false⟩,
  ⟨0x403, gRns, .always, false, [10], false⟩,
  ⟨0x404, gRns, .always, false, [10], false⟩,
  ⟨0x405, gRns, .always, false, [13], false⟩,
  ⟨0x406, gRns, .always, false, [6], false⟩,
  ⟨0x407, gRns, .always, false, [13], false⟩,
  ⟨0x408, gRns, .always, false, [10], false⟩,
  ⟨0x410, gRns, .never, false, [0], false⟩,
  ⟨0x420, .ownerOnly, .always, false, [1], false⟩]

/-- Digest opcodes (R352, R505). -/
def opsDigest : List OpInfo := [
  ⟨0x501, gDigest, .never, false, [4], false⟩,
  ⟨0x502, gDigest, .always, false, [5], false⟩,
  ⟨0x503, gDigest, .never, false, [1], false⟩,
  ⟨0x504, gDigest, .never, false, [1], false⟩,
  ⟨0x505, gDigest, .never, false, [1], false⟩,
  ⟨0x510, .anyMaster, .never, true, [1], false⟩]

/-- Update opcodes (R398, R505). -/
def opsUpdate : List OpInfo := [
  ⟨0x601, .ownerOnly, .always, false, [4], false⟩,
  ⟨0x602, .ownerOnly, .always, false, [0], false⟩,
  ⟨0x603, .ownerOnly, .always, false, [0], false⟩,
  ⟨0x604, .ownerOnly, .always, false, [0], false⟩,
  ⟨0x605, .ownerOnly, .never, false, [0], false⟩,
  ⟨0x610, .ownerOnly, .always, false, [6], false⟩]

/-- Attestation and relay opcodes (R430, R505); a request with a nonce is 5 words longer than its nonce. -/
def opsRelay : List OpInfo := [
  ⟨0x701, .anyMaster, .always, true, [5, 6, 7, 8, 9, 10, 11, 12, 13], false⟩,
  ⟨0x702, .anyMaster, .always, true, [5, 6, 7, 8, 9, 10, 11, 12, 13], false⟩,
  ⟨0x703, .anyMaster, .always, true, [5, 6, 7, 8, 9, 10, 11, 12, 13], false⟩,
  ⟨0x704, .anyMaster, .always, true, [5], false⟩,
  ⟨0x710, .ownerOnly, .always, false, [4], false⟩,
  ⟨0x711, .ownerOnly, .always, false, [5], false⟩,
  ⟨0x720, gRelay, .always, false, [8], true⟩,
  ⟨0x721, gRelay, .always, false, [5], false⟩,
  ⟨0x722, gRelay, .never, false, [1], false⟩,
  ⟨0x730, .ownerOnly, .never, true, [1], false⟩]

/-- Life-cycle opcodes (R457, R505). -/
def opsLife : List OpInfo := [
  ⟨0x801, .ownerOnly, .always, true, [5, 9], false⟩,
  ⟨0x802, .ownerOnly, .always, false, [4], false⟩,
  ⟨0x803, .ownerOnly, .always, true, [0], false⟩,
  ⟨0x804, .ownerOnly, .never, true, [1], false⟩]

/-- Every opcode that a chapter defines (R505). -/
def opTable : List OpInfo := opsCustody ++ opsModels ++ opsKeys ++ opsRns ++ opsDigest ++ opsUpdate ++ opsRelay ++ opsLife

/-- The row of an opcode. -/
def opInfo (op : Nat) : Option OpInfo := opTable.find? (fun i => decide (i.op = op))

/-- OPCODE of a word 0 (R95). -/
def opcodeOf (w0 : W32) : Nat := bits w0 20 12

/-- Whether word 1 shows the OWNER stamp, its MID still holds right of way (R79), and has held it ever since (R76). -/
def asOwner (s : State) (r : Req) : Bool := bit r.w1 15 && !r.lostOwner && isOwner s (BitVec.ofNat 8 (bits r.w1 0 8))

/-- The lane stamped in word 1, if LANEV. -/
def stampedLane (w1 : W32) : Option Nat := if bit w1 14 then some (bits w1 8 6) else none

/-- What the controller does with waiting requests. -/
inductive Serving where
  | serves
  /-- answers RESTARTING: the start has halted or the life-cycle state runs no firmware (R383, R434) -/
  | restarts
  /-- stopped: nothing starts -/
  | waits
deriving DecidableEq, Repr

/-- Whether a restart or a debugger holds the firmware controller (R97, R301, R439, R444, R452, R471). -/
def controllerHeld (s : State) : Bool := s.flt.resumeDue || s.boot.restart.isSome || s.tamper.restartDue || s.lc.halted

/-- Whether the firmware controller runs: nothing holds it, and it has not halted (R16, R383). -/
def controllerRuns (s : State) : Bool := !controllerHeld s && !s.lc.stopped && s.boot.phase == 6

/-- Whether the controller serves mailboxes: it is not stopped by a restart, a debugger or an orderly sleep, and the start has reached
its end (R97, R301, R383, R439, R444, R452, R471). While an orderly sleep is being prepared it starts JOB_CANCEL alone (log 48). -/
def serving (s : State) (op : Nat) : Serving :=
  if controllerHeld s || (s.keys.sleeping.isSome && op != 0x004) then .waits
  else if s.lc.stopped || s.boot.phase != 6 || (s.keys.asleep && decide (0x100 ≤ op)) then .restarts
  else .serves

/-- Whether an opcode answers LIFECYCLE: one that tampered mode does not serve (R455), or one that TEST_ROOT closes (R283). -/
def lifecycleRefuses (s : State) (i : OpInfo) : Bool :=
  (s.tamper.mode && !i.tampered) || (s.keys.root == .testRoot && (i.op == 0x306 || i.op == 0x320))

/-- Channels with a waiting request and none running (R97). -/
def readyChannels (s : State) : List Nat :=
  channelsWhere s (fun c => let v := chanAt s c; !v.waiting.isEmpty && v.running.isNone)

/-- The request that starts next: the longest-waiting one that has waited 4,096 paces, else the lowest channel's (R97). -/
def pickChannel (s : State) : Option Nat :=
  let rs := readyChannels s
  let at_ (c : Nat) : Nat := match (chanAt s c).waiting with
    | r :: _ => r.at_
    | [] => s.pace.now
  let late := rs.filter (fun c => decide (at_ c + 4096 ≤ s.pace.now))
  match late.foldl (fun b c => match b with
      | none => some c
      | some d => if at_ c < at_ d then some c else some d) none with
  | some c => some c
  | none => rs.head?

/-- A request that has started. -/
structure Call where
  ch : Nat
  req : Req
  /-- judged as the owner's (R79, R81) -/
  owner : Bool
  lane : Nat
  laneV : Bool
deriving DecidableEq, Repr

/-- Message word 2 + i of a call; a word that is not there reads 0. -/
def Call.word (k : Call) (i : Nat) : W32 := k.req.payload.getD i 0

/-- LEN of a call. -/
def Call.len (k : Call) : Nat := k.req.payload.length

/-- Whether an engine opcode carries a handle in word 3 (R316). -/
def opKeyed (op : Nat) : Bool := decide (op = 0x401 ∨ op = 0x403 ∨ op = 0x404 ∨ op = 0x406 ∨ op = 0x408)

/-- Payload words at which an engine opcode's descriptors stand (R316). -/
def descWords (op : Nat) : List Nat := if op = 0x406 then [2] else if opKeyed op then [2, 6] else [1, 5, 9]

/-- Payload words of an opcode that name a context: its CTX field, and the CTX of each descriptor (R100). -/
def ctxWords (op len : Nat) (w0 : W32) : List Nat :=
  if 0x102 ≤ op ∧ op ≤ 0x10A then [0]
  else if op = 0x201 then [0, 2]
  else if op = 0x210 then [0, 1]
  else if op = 0x213 then [7]
  else if op = 0x221 then [3]
  else if op = 0x301 then (if bits w0 0 4 = 3 then [1] else [])
  else if op = 0x304 ∨ op = 0x307 ∨ op = 0x502 ∨ op = 0x711 ∨ op = 0x721 ∨ (0x701 ≤ op ∧ op ≤ 0x704) then [1]
  else if op = 0x306 ∨ op = 0x601 ∨ op = 0x710 ∨ op = 0x802 then [0]
  else if op = 0x320 ∨ op = 0x720 then [0, 4]
  else if op = 0x610 then [2]
  else if op = 0x801 then (if len = 9 then [5] else [])
  else if 0x401 ≤ op ∧ op ≤ 0x408 then descWords op
  else []

/-- The contexts that a request names. -/
def ctxsNamed (r : Req) : List Nat :=
  (ctxWords (opcodeOf r.w0) r.payload.length (r.payload.getD 0 0)).map (fun i => bits (r.payload.getD i 0) 0 14)

/-- The lane whose work a request is (R124): for an owner's request that names a tenant's context that context's lane, else the stamped
lane, else lane 0. -/
def workLane (s : State) (k : Call) : Nat :=
  match (if k.owner then (ctxsNamed k.req).find? (fun c => decide ((ctxAt s c).lane ≠ 0)) else none) with
  | some c => (ctxAt s c).lane.toNat
  | none => if k.laneV then k.lane else 0

/-- The controller's paces on a request, charged to its lane with their energy; the spec states no number of them: a free value (R123, R125;
log 134). Its credit can only delay those paces (R119), and the step covers them all. -/
def controllerWork (s : State) (lane : Nat) : State :=
  let (p, s1) := drawFree s
  chargePaces s1 lane (controllerUnit s) p.toNat

/-- The picked request taken from its queue: it runs on its channel. -/
def startRequest (s : State) (c : Nat) : Option (Call × State) :=
  let v := chanAt s c
  match v.waiting with
  | [] => none
  | r :: rest =>
    let l := stampedLane r.w1
    let k : Call := { ch := c, req := r, owner := asOwner s r, lane := l.getD 0, laneV := l.isSome }
    some (k, setChan (controllerWork s (workLane s k)) c { v with waiting := rest, running := some r })

/-- The lane that a lane service names (R81, R254, R285): its context's, LANE of a sheet command, LANE or the context of a
KEY_HANDLE_OPEN. -/
def namedLane (s : State) (k : Call) (i : OpInfo) : Option Nat :=
  if k.len = 0 then none
  else if i.namesCtx then some (ctxAt s (bits (k.word 0) 0 14)).lane.toNat
  else if i.op = 0x220 ∨ i.op = 0x221 ∨ i.op = 0x222 then some (bits (k.word 0) 0 6)
  else if i.op = 0x301 then
    match bits (k.word 0) 0 4 with
    | 2 => some (bits (k.word 0) 16 6)
    | 3 => if (k.word 1).toNat < 16384 then some (ctxAt s (k.word 1).toNat).lane.toNat else none
    | 4 => some (bits (k.word 0) 16 6)
    | 6 => some (bits (k.word 0) 16 6)
    | _ => none
  else none

/-- Whether a lane service is the owner's alone in this form: KEY_HANDLE_OPEN of a REALM or IDENTITY handle, KEY_DESTROY of a lane (R285,
R305). -/
def ownersForm (k : Call) (i : OpInfo) : Bool :=
  decide (k.len ≠ 0 ∧ (i.op = 0x301 ∧ (bits (k.word 0) 0 4 = 1 ∨ bits (k.word 0) 0 4 = 7) ∨ i.op = 0x305 ∧ bit (k.word 0) 0))

/-- Whether a call may use an opcode (R79, R81): nothing, or the status of the refusal. -/
def rightsRefusal (s : State) (k : Call) (i : OpInfo) : Option (BitVec 8) :=
  match i.rights with
  | .anyMaster => none
  | .ownerOnly => if k.owner then none else some stNotOwner
  | .laneGrant b =>
    if k.owner then none
    else if ownersForm k i then some stNotOwner
    else if !k.laneV || !bit (activeReg s (0x0200 + 4 * k.lane)) b then some stDenied
    else match namedLane s k i with
      | some l => if l ≠ k.lane then some stDenied else none
      | none => none

/-- Checks 1 to 7 of R96 in their order; LEN is 0 to 14 in every posted request (R94). -/
def requestRefusal (s : State) (k : Call) : Option (BitVec 8) :=
  if bits k.req.w0 0 6 ≠ 0 then some stBadField
  else match opInfo (opcodeOf k.req.w0) with
    | none => some stBadOpcode
    | some i =>
      if lifecycleRefuses s i then some stLifecycle
      else match rightsRefusal s k i with
        | some st => some st
        | none => if !i.lens.contains k.len then some stBadLength
          else if k.req.stale then some stStaleEpoch else none

/-- A row of one opcode: it acts when the request that the controller starts next carries this opcode (log 14). -/
def service (op : Nat) (s : State) (body : Call → State → State) : State :=
  match pickChannel s with
  | none => s
  | some c =>
    match startRequest s c with
    | none => s
    | some (k, s1) =>
      if opcodeOf k.req.w0 ≠ op then s
      else match serving s op with
        | .waits => s
        | .restarts => answerRunning s1 c stRestarting []
        | .serves =>
          match requestRefusal s1 k with
          | some st => answerRunning s1 c st []
          | none => body k s1

/-- A row of one opcode whose request waits where it stands until something else is done. -/
def serviceWhen (op : Nat) (s : State) (ready : Call → State → Bool) (body : Call → State → State) : State :=
  match pickChannel s with
  | none => s
  | some c =>
    match startRequest s c with
    | none => s
    | some (k, s1) => if opcodeOf k.req.w0 = op ∧ (requestRefusal s1 k).isNone ∧ !ready k s1 then s else service op s body

/-- Whether the payload words of a call hold nothing outside the given fields (R8, R96). -/
def fieldsOk (k : Call) (masks : List W32) : Bool :=
  (k.req.payload.zip masks).all (fun p => decide (p.1 &&& ~~~p.2 = 0))

/-- The running request answered. -/
def reply (s : State) (k : Call) (st : BitVec 8) (payload : List W32) : State := answerRunning s k.ch st payload

/-- A long request: answered ACCEPTED with a free ticket before its job starts, or BUSY where all 16 are in use (R98). -/
def ticketed (s : State) (k : Call) (job : Caller → State → State) : State :=
  match freeTicket (chanAt s k.ch) with
  | none => reply s k stBusy []
  | some t => job (.ticket k.ch t) (acceptRunning s k.ch t)

/-! ### General opcodes (R98) -/

/-- UNKNOWN_OPCODE (R96): a request whose opcode no chapter defines. -/
def execUnknownOpcode (s : State) : Host.Outcome State Fault Refusal :=
  live s (fun s => match pickChannel s with
  | none => s
  | some c =>
    match startRequest s c with
    | none => s
    | some (k, _) => if (opInfo (opcodeOf k.req.w0)).isSome then s else service (opcodeOf k.req.w0) s (fun _ t => t))

/-- PING (R98): the payload is echoed. -/
def execPing (s : State) : Host.Outcome State Fault Refusal :=
  live s (fun s => service 0x001 s (fun k t => reply t k stDone k.req.payload))

/-- A JOB_STATUS or JOB_CANCEL payload word whose reserved bits are 0; KEEP belongs to JOB_STATUS. -/
def ticketWordOk (w : W32) (keep : Bool) : Bool := decide (w.toNat &&& (if keep then 0xFFFFFEF0 else 0xFFFFFFF0) = 0)

/-- The job word of JOB_STATUS (R98). -/
def jobWord (k : Ticket) (t : Nat) : W32 := field 32 0 12 k.op.toNat ||| field 32 12 8 k.seq.toNat ||| field 32 20 4 t

/-- Whether the engine job of a ticket is spilled and waits to resume: PREEMPTED (R98, R99). -/
def jobSpilled (s : State) (c t : Nat) : Bool := s.rns.jobs.any (fun j => j.phase == .spilled && decide (j.caller = .ticket c t))

/-- The effect of JOB_STATUS. -/
def jobStatus (k : Call) (s : State) : State :=
  let w := k.word 0
  let t := bits w 0 4
  let v := chanAt s k.ch
  if !ticketWordOk w true then reply s k stBadField []
  else match tfind v.tickets t with
    | none => reply s k stBadField []
    | some j =>
      match j.status with
      | none => reply s k (if jobSpilled s k.ch t then stPreempted else stBusy) [jobWord j t]
      | some st =>
        let s1 := if bit w 8 then s
          else setChan s k.ch { v with tickets := tdel v.tickets t,
                                       latched := v.latched &&& ~~~(BitVec.ofNat 32 (2 ^ (16 + t))) }
        reply s1 k st (jobWord j t :: j.result)

/-- JOB_STATUS (R98). -/
def execJobStatus (s : State) : Host.Outcome State Fault Refusal := live s (fun s => service 0x003 s jobStatus)

/-- NOTICE_FETCH (R98): the oldest notice, removed; LEN 0 with an empty queue. -/
def noticeFetch (k : Call) (s : State) : State :=
  let v := chanAt s k.ch
  match v.notices with
  | [] => reply s k stDone []
  | n :: rest => reply (setChan s k.ch { v with notices := rest }) k stDone n

/-- NOTICE_FETCH (R98). -/
def execNoticeFetch (s : State) : Host.Outcome State Fault Refusal := live s (fun s => service 0x005 s noticeFetch)

end Sys2Proof.Machine
end

