-- ==== Sys2Proof/Machine/Contexts.lean ====
section
/-!
DEFINITION. Contexts, lanes and pages (R128 to R140, R200 to R214): the sweep ledger, the page commands, the queries, the fence, the
lane commands, and the advance of an epoch.
-/

namespace Sys2Proof.Machine

open Sys2Proof

/-! ### Context records (R133) -/

/-- Code of a context state. -/
def ctxStateCode : CtxState → Nat
  | .free => 0
  | .active => 1
  | .releasing => 2
  | .retired => 3

/-- Word i of a context record. -/
def ctxWord (v : Ctx) : Nat → W32
  | 0 => field 32 0 6 v.lane.toNat ||| field 32 8 24 v.epoch.toNat
  | 1 => field 32 0 3 (ctxStateCode v.state) ||| flag 32 3 v.taint ||| field 32 4 4 v.permits.toNat ||| field 32 8 24 v.quota.toNat
  | 2 => field 32 0 24 v.held.toNat ||| field 32 24 6 v.sealGroup.toNat ||| flag 32 30 v.sealFull
  | 3 => field 32 0 12 v.model.toNat ||| field 32 12 4 v.depth.toNat ||| field 32 16 8 v.keyGen.toNat
  | _ => 0

/-! ### The sweep ledger (R223, R227) -/

/-- Line address of a context's ledger line. -/
def ledgerAddr (s : State) (c : Nat) : Nat := 64 * ledgerBase s + c

/-- A context's ledger words, read by the firmware or by the sweep, whose lines take no tokens (R230). -/
def ledgerWords (s : State) (sweeps : Bool) (c : Nat) : Except BadLine (List W32) × State :=
  match (if sweeps then readOwn s (ledgerAddr s c) else readOwnDma s (ledgerAddr s c)) with
  | (.ok l, s1) => (.ok (wordsOfOctets 16 (octetsOfLine l)), s1)
  | (.error b, s1) => (.error b, s1)

/-- DEPTH: the largest distance of a non-zero word's epoch from the current one (R223). -/
def depthFrom (ws : List W32) (epoch : Nat) : Nat :=
  (List.range 16).foldl (fun d k => if ws.getD k 0 = 0 then d else max d ((epoch + 16 - k) % 16)) 0

/-- A fault that the sweep or the ledger meets (R227). -/
def sweepFault (s : State) (ctx la : Nat) : State :=
  let s1 := exception (count s 0x7868 1) 0x0D (internalExc s srcBackground ctx la)
  { s1 with bg := { s1.bg with faults := true, seq := s1.bg.seq + 1 } }

/-- A context whose ledger line failed: DEPTH is held at 15 until one whole pass that begins after the fault has ended (R227). -/
def holdLedger (s : State) (c : Nat) : State :=
  let s1 := sweepFault s c (ledgerAddr s c)
  setCtx s1 c { ctxAt s1 c with depth := 15, ledgerHold := some (s1.bg.begun + 1) }

/-- DEPTH from a context's ledger words for an epoch; a rebuilt record keeps 15 until its pass has ended (R223, R465). -/
def withDepth (s : State) (c epoch : Nat) (ws : List W32) : State :=
  let v := ctxAt s c
  setCtx s c { v with depth := if v.ledgerHold.isSome then 15 else BitVec.ofNat 4 (depthFrom ws epoch) }

/-- A context's ledger words changed, with DEPTH recomputed for an epoch (R223); a line that has failed is left as it is (R227). -/
def ledgerChange (s : State) (sweeps : Bool) (c epoch : Nat) (f : List W32 → List W32) : State :=
  if (ctxAt s c).ledgerHold.isSome ∧ !(ctxAt s c).rebuilt then s
  else match ledgerWords s sweeps c with
    | (.error _, s1) => holdLedger s1 c
    | (.ok ws, s1) =>
      let ws' := f ws
      if ws' = ws then withDepth s1 c epoch ws
      else match (if sweeps then writeOwn s1 (ledgerAddr s1 c) (lineOfOctets (octetsOfWords ws'))
          else writeOwnDma s1 (ledgerAddr s1 c) (lineOfOctets (octetsOfWords ws'))) with
        | (.ok _, s2) => withDepth s2 c epoch ws'
        | (.error _, s2) => holdLedger s2 c

/-- n pages added to word k of a context's ledger line. -/
def ledgerAdd (s : State) (c k n : Nat) : State :=
  ledgerChange s false c (ctxAt s c).epoch.toNat (fun ws => ws.set k (ws.getD k 0 + BitVec.ofNat 32 n))

/-- One page taken from word k by the sweep; a word at 0 stays (R465). -/
def ledgerTake (s : State) (c k : Nat) : State :=
  ledgerChange s true c (ctxAt s c).epoch.toNat (fun ws => if ws.getD k 0 = 0 then ws else ws.set k (ws.getD k 0 - 1))

/-! ### Pending sweeps (R222, R228, R235) -/

/-- SWEEP_PENDING raised. -/
def addPending (s : State) (n : Nat) : State :=
  { s with bg := { s.bg with pendingPages := s.bg.pendingPages + BitVec.ofNat 25 n } }

/-- A release whose pages the next pass to begin finishes; a 17th merges into the newest (R228). -/
def addCompletion (s : State) (ch op seq : Nat) (subject : W32) : State :=
  let x : SweepDone :=
    { ch := ch, op := BitVec.ofNat 12 op, seq := BitVec.ofNat 8 seq, subject := subject, pass := s.bg.begun + 1 }
  let mine := s.bg.completions.filter (fun y => decide (y.ch = ch))
  if mine.length < 16 then { s with bg := { s.bg with completions := s.bg.completions ++ [x] } }
  else
    let others := s.bg.completions.filter (fun y => decide (y.ch ≠ ch))
    let newest := mine.map (fun y => if some y = mine.getLast? then { y with pass := x.pass } else y)
    { s with bg := { s.bg with completions := others ++ newest } }

/-! ### Page ranges (R201 to R205) -/

/-- Custody status codes (R234). -/
def stPageNotFree : BitVec 8 := 0x20
/-- PAGE_STALE -/
def stPageStale : BitVec 8 := 0x21
/-- CLASS_DENIED -/
def stClassDenied : BitVec 8 := 0x22
/-- CTX_QUOTA -/
def stCtxQuota : BitVec 8 := 0x23
/-- LANE_QUOTA -/
def stLaneQuota : BitVec 8 := 0x24
/-- PAGE_STATE -/
def stPageState : BitVec 8 := 0x25
/-- SEAL_GROUP -/
def stSealGroup : BitVec 8 := 0x26
/-- NOT_HOLDER -/
def stNotHolder : BitVec 8 := 0x27
/-- LANE_STATE -/
def stLaneState : BitVec 8 := 0x28
/-- CTX_STATE -/
def stCtxState : BitVec 8 := 0x29
/-- NOT_DRAINED -/
def stNotDrained : BitVec 8 := 0x2A
/-- OUTSIDE_WINDOW -/
def stOutsideWindow : BitVec 8 := 0x2B
/-- MAP_FAULT -/
def stMapFault : BitVec 8 := 0x2C
/-- TILE_FULL -/
def stTileFull : BitVec 8 := 0x2D
/-- WRONG_CLASS, and LANE_CHANGE of CTX_OPEN -/
def stWrongClass : BitVec 8 := 0x2E

/-- Page addresses of a span. -/
def pageSpan (p n : Nat) : List Nat := (List.range n).map (fun i => p + i)

/-- The first page of a list that fails a test, by its index. -/
def firstFailing (ps : List Nat) (f : Nat → Bool) : Option Nat := (ps.zipIdx.find? (fun x => f x.1)).map Prod.snd

/-- The map entries of pages, or the index of the first that faults. -/
def entriesOf (s : State) : List Nat → Nat → Except Nat (List W32) × State
  | [], _ => (.ok [], s)
  | p :: ps, i =>
    match mapEntry s p with
    | (.error _, s1) => (.error i, s1)
    | (.ok e, s1) =>
      match entriesOf s1 ps (i + 1) with
      | (.ok es, s2) => (.ok (e :: es), s2)
      | r => r

/-- The first page whose entry a command refuses: its index and the status. -/
def firstRefused (f : W32 → Option (BitVec 8)) : List W32 → Nat → Option (Nat × BitVec 8)
  | [], _ => none
  | e :: es, i => match f e with
    | some st => some (i, st)
    | none => firstRefused f es (i + 1)

/-- What the change of one page came to. -/
inductive PageDone where
  | done
  /-- done, and POISONED -/
  | poisoned
  /-- a fault stopped it -/
  | fault (st : BitVec 8)
deriving DecidableEq, Repr

/-- The pages of a range changed one after another: pages done, pages that became POISONED with the lowest of them, and a fault. -/
def changePages (f : State → Nat → W32 → PageDone × State) (s : State) :
    List (Nat × W32) → Nat → List Nat → Nat × List Nat × Option (BitVec 8) × State
  | [], n, bad => (n, bad, none, s)
  | (p, e) :: rest, n, bad =>
    match f s p e with
    | (.done, s1) => changePages f s1 rest (n + 1) bad
    | (.poisoned, s1) => changePages f s1 rest (n + 1) (bad ++ [p])
    | (.fault st, s1) => (n, bad, some st, s1)

/-- A page command's CTX, PAGE and COUNT. -/
structure PageCall where
  ctx : Nat
  page : Nat
  n : Nat
deriving DecidableEq, Repr

/-- The range of a job (R201). -/
def PageJob.call (j : PageJob) : PageCall := { ctx := bits j.word 0 14, page := j.page, n := j.n }

/-! ### Claiming (R209 to R211) -/

/-- Zero lines written straight to a page; whether every line was stored. -/
def zeroFill (s : State) (p : Nat) : Bool × State :=
  (List.range 64).foldl (fun x k => let r := memWrite x.2 (64 * p + k) 0; (x.1 && r.1, r.2)) (true, s)

/-- Flags of a claim (R209). -/
structure ClaimFlags where
  cls : CustClass
  rd : Bool
  wr : Bool
  shared : Bool
  nofill : Bool
deriving DecidableEq, Repr

/-- The flags of word 2. -/
def claimFlags (w : W32) : ClaimFlags :=
  { cls := match bits w 16 2 with
      | 0 => .openC
      | 1 => .sealedC
      | 2 => .versionedC
      | _ => .streamC
    rd := bit w 18, wr := bit w 19, shared := bit w 20, nofill := bit w 21 }

/-- Flags that no claim may carry (R209). -/
def claimFlagsOk (w : W32) : Bool :=
  let f := claimFlags w
  !(f.nofill && f.cls != .openC) && !(f.cls == .sealedC && !(f.rd && f.wr))

/-- Pages that claims which have passed their checks have still to take, of a kind: the quotas and the tile table count them as held
(R131, R147, R215). -/
def pagesReserved (s : State) (of_ : PageJob → Bool) : Nat :=
  ((s.pages.filter (fun k => k.op == .claim && k.checked && of_ k)).map (fun k => k.n - k.done - (if k.fence.isSome then 1 else 0))).sum

/-- Tile write entries that are neither in use nor promised to a claim that has passed its checks (R215). -/
def tilesFree (s : State) : Nat :=
  384 - (s.tiles.writes.length + pagesReserved s (fun k => (claimFlags k.word).cls == .sealedC))

/-- The checks of a claim, with or without that of the tile write entries. -/
def claimChecks (tiles : Bool) (f : ClaimFlags) (s : State) (r : PageCall) (es : List W32) : Option (Nat × BitVec 8) :=
  let v := ctxAt s r.ctx
  let l := v.lane.toNat
  let ofCtx := pagesReserved s (fun k => decide (k.call.ctx = r.ctx))
  let ofLane := pagesReserved s (fun k => decide ((ctxAt s k.call.ctx).lane.toNat = l))
  if v.state ≠ .active then some (0, stCtxState)
  else if (laneAt s l).state ≠ .opened then some (0, stLaneState)
  else if !bit v.permits (classCode f.cls) ∨ (s.tamper.mode ∧ f.cls ≠ .openC) then some (0, stClassDenied)
  else if f.cls = .sealedC ∧ v.sealFull then some (0, stSealGroup)
  else match firstRefused (fun e => if entState e = .free then none
      else if isStale s e then some stPageStale else some stPageNotFree) es 0 with
    | some x => some x
    | none =>
      if v.quota.toNat < v.held.toNat + ofCtx + r.n then some (0, stCtxQuota)
      else if (activeReg s (0x1800 + 4 * l)).toNat < (laneAt s l).held.toNat + ofLane + r.n then some (0, stLaneQuota)
      else if tiles ∧ f.cls = .sealedC ∧ tilesFree s < r.n then some (0, stTileFull)
      else none

/-- The claim's checks (R209); in tampered mode only OPEN (R454). A refusal that is of no single page gives INDEX 0 (DESIGN CHOICE,
log 145). -/
def claimRefusal (f : ClaimFlags) (s : State) (r : PageCall) (es : List W32) : Option (Nat × BitVec 8) := claimChecks true f s r es

/-- A page's map entry written by a command: a write that memory did not take leaves a record of its egress fault (R145, R507). -/
def commandEntry (s : State) (p : Nat) (e : W32) : Bool × State :=
  match setEntry s p e with
  | (true, s1) => (true, s1)
  | (false, s1) =>
    let la := mapLineAddr s1 (pageIndex s1 p / 16)
    let at0 := internalExc s1 srcCommand 0 la
    if writeSilent s1 la then (false, exception s1 0x0B { at0 with write := true })
    else if busAnswer s1 true la = some .err then (false, exception s1 0x08 { at0 with write := true })
    else (false, s1)

/-- One page claimed and initialised (R210). -/
def claimPage (c : Nat) (f : ClaimFlags) (s : State) (p : Nat) (_e : W32) : PageDone × State :=
  let v := ctxAt s c
  let l := v.lane.toNat
  let q := pageIndex s p
  let aux := if f.cls = .sealedC then v.sealGroup.toNat else 0
  let ent (st : PageState) (aux : Nat) : W32 := mkEntry c f.cls st f.shared f.wr f.rd (v.epoch.toNat % 16) aux
  match commandEntry s p (mkEntry c f.cls .claimed f.shared f.wr f.rd (v.epoch.toNat % 16) aux) with
  | (false, s1) => (.fault stMapFault, s1)
  | (true, s1) =>
    let s2 := setCtx s1 c { ctxAt s1 c with held := (ctxAt s1 c).held + 1 }
    let s3 := setLane s2 l { laneAt s2 l with held := (laneAt s2 l).held + 1 }
    let poison (t : State) : PageDone × State :=
      match commandEntry t p (ent .poisoned aux) with
      | (true, t1) => (.poisoned, t1)
      | (false, t1) => (.fault stMapFault, t1)
    let g := groupOfClass f.cls
    match itemNow s3 (.ctr q) g with
    | (.bad _, s4) => poison s4
    | (.silent, s4) => poison s4
    | (.ok old, s4) =>
      if 2 ^ 64 - 1 ≤ majorOf old then poison s4
      else
        let major := majorOf old + 1
        let kept := f.nofill && decide (((octetsOfLine old).getD 8 0).toNat = l + 1)
        let s5 := updateItem (abandonRekey s4 (.ctr q)) (.ctr q) g (freshItem major)
        let s6 := if f.cls = .sealedC then
            { s5 with tiles := { s5.tiles with
              writes := tput s5.tiles.writes q { ctx := c, epoch := v.epoch.toNat, sum := 0, mask := 0 } } }
          else s5
        let (filled, s7) := if f.cls = .openC ∧ !kept then
            zeroFill (workLines s6 l .openC 64) p
          else (true, s6)
        if !filled then poison s7
        else match commandEntry s7 p (mkEntry c f.cls .live f.shared f.wr f.rd (v.epoch.toNat % 16)
            (if f.cls = .streamC then major % 64 else aux)) with
          | (true, s8) => (.done, s8)
          | (false, s8) => (.fault stMapFault, s8)

/-- POISONED pages of a claim reported once (R148, R210). -/
def reportClaimed (c : Nat) (s : State) (bad : List Nat) : State :=
  match bad with
  | [] => s
  | p :: _ => faultNotice (exception s 0x0A (internalExc s srcCommand c (64 * p))) 0x01 (some (ctxAt s c).lane.toNat) p bad.length

/-! ### Sealing, freezing, renewing and releasing (R212, R213) -/

/-- Zero plaintext written into the lines of a SEALED page whose fill bit is clear (R179). -/
def fillClear (c aux q p : Nat) (s : State) : List Nat → Bool × State
  | [] => (true, s)
  | k :: ks =>
    let l := (itemAtHand s (.ctr q)).getD 0
    if fillBit l k then fillClear c aux q p s ks
    else match writeLine s c .sealedC q k aux (64 * p + k) 0 with
      | (.ok _, s1) => fillClear c aux q p (workLines s1 (ctxAt s1 c).lane.toNat .sealedC 1) ks
      | (.error _, s1) => (false, s1)

/-- The seal's checks (R212). -/
def sealRefusal (s : State) (r : PageCall) (es : List W32) : Option (Nat × BitVec 8) :=
  let v := ctxAt s r.ctx
  firstRefused (fun e =>
    if entCtx e ≠ r.ctx ∨ entState e = .free then some stNotHolder
    else if entClass e ≠ .sealedC then some stWrongClass
    else if entState e ≠ .live then some stPageState
    else if entAux e ≠ v.sealGroup.toNat ∨ v.sealFull then some stSealGroup
    else none) es 0

/-- A page whose counter block or a node above it failed in a command: recorded; where its own block failed it becomes POISONED (R148,
R188). -/
def pageFault (s : State) (t : TreeItem) (p : Nat) (e : W32) : PageDone × State :=
  (.fault stPageState, lineFailed s (.item t) (internalExc s srcCommand (entCtx e) (64 * p)))

/-- A page whose counter block did not come: the command stops there and the page keeps its state (R68). -/
def pageSilent (s : State) (p : Nat) (e : W32) : PageDone × State :=
  (.fault stPageState, exception s 0x0B (internalExc s srcCommand (entCtx e) (64 * p)))

/-- One page sealed (R212). -/
def sealPage (c : Nat) (s : State) (p : Nat) (e : W32) : PageDone × State :=
  let q := pageIndex s p
  match itemNow s (.ctr q) .sealedG with
  | (.bad t, s1) => pageFault s1 t p e
  | (.silent, s1) => pageSilent s1 p e
  | (.ok _, s1) =>
    match fillClear c (entAux e) q p s1 (List.range 64) with
    | (false, s2) => (.fault stPageState, s2)
    | (true, s2) =>
      match itemNow s2 (.ctr q) .sealedG, tfind s2.tiles.writes q with
      | (.ok l, s3), some w =>
        let s4 := readyKey s3 c
        let tag := tileTag (ctxKey s4 c) w.sum (majorOf l) (entAux e) (64 * p)
        let s5 := updateItem s4 (.ctr q) .sealedG (withTileTag l tag)
        let s6 := { s5 with tiles := { s5.tiles with writes := tdel s5.tiles.writes q } }
        match commandEntry s6 p (entWithRights (entWithState e .frozen) true false) with
        | (true, s7) => (.done, s7)
        | (false, s7) => (.fault stMapFault, s7)
      | (.bad t, s3), _ => pageFault s3 t p e
      | (.silent, s3), _ => pageSilent s3 p e
      | (_, s3), none => (.fault stPageState, s3)

/-- The seal group moves on once pages were sealed under it (R139, R212). -/
def nextSealGroup (s : State) (c : Nat) : State :=
  let v := ctxAt s c
  setCtx s c (if v.sealGroup = 63 then { v with sealFull := true } else { v with sealGroup := v.sealGroup + 1 })

/-- PAGE_FREEZE's checks (R213). -/
def freezeRefusal (_s : State) (r : PageCall) (es : List W32) : Option (Nat × BitVec 8) :=
  firstRefused (fun e =>
    if entCtx e ≠ r.ctx ∨ entState e = .free then some stNotHolder
    else if entClass e = .sealedC then some stWrongClass
    else if entState e ≠ .live then some stPageState
    else none) es 0

/-- One page frozen. -/
def freezePage (s : State) (p : Nat) (e : W32) : PageDone × State :=
  match commandEntry s p (entWithRights (entWithState e .frozen) (entRd e) false) with
  | (true, s1) => (.done, s1)
  | (false, s1) => (.fault stMapFault, s1)

/-- PAGE_RENEW's checks (R213). -/
def renewRefusal (_s : State) (r : PageCall) (es : List W32) : Option (Nat × BitVec 8) :=
  firstRefused (fun e =>
    if entCtx e ≠ r.ctx ∨ entState e = .free then some stNotHolder
    else if entClass e ≠ .streamC then some stWrongClass
    else if entState e ≠ .live then some stPageState
    else none) es 0

/-- One page renewed (R213). -/
def renewPage (s : State) (p : Nat) (e : W32) : PageDone × State :=
  let q := pageIndex s p
  match itemNow s (.ctr q) .streamG with
  | (.bad t, s1) => pageFault s1 t p e
  | (.silent, s1) => pageSilent s1 p e
  | (.ok l, s1) =>
    if 2 ^ 64 - 1 ≤ majorOf l then
      (.fault stPageState, poisonReported (exception s1 0x0A (internalExc s1 srcCommand (entCtx e) (64 * p))) p (entCtx e))
    else
      let major := majorOf l + 1
      match commandEntry (updateItem s1 (.ctr q) .streamG (freshItem major)) p (entWithAux e (major % 64)) with
      | (true, s2) => (.done, s2)
      | (false, s2) => (.fault stMapFault, s2)

/-- PAGE_RELEASE's checks (R213). -/
def releaseRefusal (s : State) (r : PageCall) (es : List W32) : Option (Nat × BitVec 8) :=
  firstRefused (fun e =>
    if entCtx e ≠ r.ctx then some stNotHolder
    else if isStale s e then some stPageStale
    else if entState e = .free ∨ entState e = .sweeping then some stPageState
    else none) es 0

/-- One held page given to the sweep (R147, R213, R223). -/
def releasePage (c : Nat) (s : State) (p : Nat) (e : W32) : PageDone × State :=
  let q := pageIndex s p
  match commandEntry s p (entWithState e .sweeping) with
  | (false, s1) => (.fault stMapFault, s1)
  | (true, s1) =>
    let s2 := setCtx s1 c { ctxAt s1 c with held := (ctxAt s1 c).held - 1 }
    let s3 := { s2 with tiles := { s2.tiles with writes := tdel s2.tiles.writes q } }
    (.done, ledgerAdd (addPending s3 1) c (entEpoch4 e) 1)

/-- The channel of a caller. -/
def callerChannel : Caller → Nat
  | .ticket c _ => c
  | .running c => c

/-! ### Page commands in progress (R200 to R205) -/

/-- The opcode of a page command. -/
def PageOp.code : PageOp → Nat
  | .claim => 0x103
  | .seal => 0x104
  | .freeze => 0x105
  | .renew => 0x106
  | .release => 0x107

/-- Flags of word 2 that a page command may carry, beside CTX. -/
def PageOp.flags : PageOp → W32
  | .claim => 0x3F0000
  | _ => 0

/-- A command's own checks on its range (R209, R212, R213). -/
def pageRefusal (j : PageJob) (s : State) (es : List W32) : Option (Nat × BitVec 8) :=
  match j.op with
  | .claim => claimRefusal (claimFlags j.word) s j.call es
  | .seal => sealRefusal s j.call es
  | .freeze => freezeRefusal s j.call es
  | .renew => renewRefusal s j.call es
  | .release => releaseRefusal s j.call es

/-- The check of one entry that may have changed under the lock. -/
def pageStill (j : PageJob) (s : State) (e : W32) : Option (BitVec 8) :=
  match j.op with
  | .claim => if entState e = .free then none else some stPageNotFree
  | _ => (pageRefusal j s [e]).map Prod.snd

/-- A command's change of one page. -/
def pageChange (j : PageJob) (s : State) (p : Nat) (e : W32) : PageDone × State :=
  match j.op with
  | .claim => claimPage j.call.ctx (claimFlags j.word) s p e
  | .seal => sealPage j.call.ctx s p e
  | .freeze => freezePage s p e
  | .renew => renewPage s p e
  | .release => releasePage j.call.ctx s p e

/-- What a command does once it changes no more pages (R210, R212, R228). -/
def pageClose (j : PageJob) (s : State) : State :=
  match j.op with
  | .claim => reportClaimed j.call.ctx s j.bad
  | .seal => if j.done = 0 then s else nextSealGroup s j.call.ctx
  | .release => if j.done = 0 then s
      else addCompletion s (callerChannel j.caller) 0x107 j.seq.toNat (BitVec.ofNat 32 j.call.ctx)
  | _ => s

/-- Word 3 of DONE (R205). -/
def pageWord (j : PageJob) : W32 :=
  match j.op with
  | .claim => BitVec.ofNat 32 j.bad.length
  | .seal => BitVec.ofNat 32 j.group
  | _ => 0

/-- A job with the page at hand counted as done once it is changed. -/
def PageJob.settled (j : PageJob) : PageJob := if j.fence.isSome then { j with done := j.done + 1, fence := none } else j

/-- A command ended with a status and its pages done (R205). -/
def pageEnds (s : State) (j : PageJob) (st : BitVec 8) (word : W32) : State :=
  finish (pageClose j.settled s) j.caller st [BitVec.ofNat 32 j.settled.done, word]

/-- Whether another command holds the lock of a page (R203). -/
def pageLocked (s : State) (p : Nat) : Bool := s.pages.any (fun k => decide (k.page + k.done ≤ p ∧ p < k.page + k.locked))

/-- Pages of a command's range that it can lock, in ascending order, up to the first that another holds. -/
def lockReach (s : State) (j : PageJob) : Nat :=
  s.pages.foldl (fun m k =>
    let lo := max (j.page + j.locked) (k.page + k.done)
    if lo < k.page + k.locked then min m (lo - j.page) else m) j.n

/-- The two checks of R202, then the command's own. -/
def pageCheck (s : State) (j : PageJob) : Option (Nat × BitVec 8) × State :=
  let ps := pageSpan j.page j.n
  match firstFailing ps (fun p => !inWindow s p || inOwnRegion s p) with
  | some i => (some (i, stOutsideWindow), s)
  | none =>
    match entriesOf s ps 0 with
    | (.error i, s1) => (some (i, stMapFault), s1)
    | (.ok es, s1) => (pageRefusal j s1 es, s1)

/-- Where a command stands after one move. -/
inductive PageMove where
  | waits (s : State) (j : PageJob)
  | goes (s : State) (j : PageJob)
  | ends (s : State)
deriving DecidableEq, Repr

/-- Whether the fill of an OPEN page is waived: its last holder was of the lane (R211). -/
def fillWaived (j : PageJob) (l : Nat) (old : Line) : Bool :=
  (claimFlags j.word).nofill && decide (((octetsOfLine old).getD 8 0).toNat = l + 1)

/-- Tokens of an OPEN claim's zero-fill, four lines at a time (R210, R230). -/
def payFill (s : State) (j : PageJob) (p : Nat) : Option PageMove :=
  let l := (ctxAt s j.call.ctx).lane.toNat
  if !(j.op == .claim && (claimFlags j.word).cls == .openC) || !regulated s l || decide (64 ≤ j.paid) then none
  else match itemNow s (.ctr (pageIndex s p)) (groupOfClass .openC) with
    | (.ok old, s1) =>
      if fillWaived j l old then some (.goes s1 { j with paid := 64 })
      else if 0 < (laneAt s1 l).tokens ∧ (laneAt s1 l).owed = 0 then
        some (.goes (setLane s1 l { laneAt s1 l with tokens := (laneAt s1 l).tokens - 4 }) { j with paid := j.paid + 4 })
      else some (.waits s1 j)
    | (_, _) => some (.goes s { j with paid := 64 })

/-- Requests for a page that still wait for its map line are judged by the entry that stands (R204). -/
def judgeWaiting (s : State) (p : Nat) (e : W32) : State :=
  (s.cust.reqs.filter (fun r => r.stage == .walk && decide (pageOfLine r.addr = p))).foldl (fun t r => judge t r e) s

/-- Whether a page's change may be made: a seal waits for every request in flight on its page, a renewal for the writes (R204, R213). -/
def changeReady (j : PageJob) (s : State) (p : Nat) : Bool :=
  !s.cust.reqs.any (fun r => decide (pageOfLine r.addr = p) && r.stage != .answering
    && (match j.op with
      | .seal => true
      | .renew => decide (r.op ≠ opRead)
      | _ => false))

/-- Before a page is renewed, the reads accepted earlier and not yet issued keep what their lines stand under (R213). -/
def keepGeneration (s : State) (p : Nat) : State :=
  (s.cust.reqs.filter (fun r => decide (pageOfLine r.addr = p) && r.stage != .answering && !isIssued r)).foldl
    (fun t r => let (ms, t1) := reqMeta t r (reqLines r); setReq t1 { r with under := some ms }) s

/-- The page at hand changed: its new entry applies to every request accepted from now on (R204). -/
def changeNext (s : State) (j : PageJob) (p : Nat) : PageMove :=
  match mapEntry s p with
  | (.error _, s1) => .ends (pageEnds s1 j stFaulted (field 32 0 8 stMapFault.toNat))
  | (.ok e, s1) =>
    match pageStill j s1 e with
    | some st => .ends (pageEnds s1 j stFaulted (field 32 0 8 st.toNat))
    | none =>
      let s2 := judgeWaiting s1 p e
      if !changeReady j s2 p then .waits s2 j
      else match payFill s2 j p with
        | some m => m
        | none =>
          let j1 := { j with fence := some s2.cust.nextSeq, paid := 0 }
          match pageChange j (if j.op = .renew then keepGeneration s2 p else s2) p e with
          | (.done, s3) => .goes s3 j1
          | (.poisoned, s3) => .goes s3 { j1 with bad := j.bad ++ [p] }
          | (.fault st, s3) => .ends (pageEnds s3 j stFaulted (field 32 0 8 st.toNat))

/-- Whether custody requests older than a page's change are in flight (R204). -/
def olderTraffic (s : State) (p f : Nat) : Bool := s.cust.reqs.any (fun x => decide (x.seq < f ∧ pageOfLine x.addr = p))

/-- Whether another PAGE_SEAL of the context is under way: each seals under a group of its own (R139). -/
def sealRuns (s : State) (j : PageJob) : Bool :=
  j.op == .seal && s.pages.any (fun k => k.op == .seal && k.checked && decide (k.call.ctx = j.call.ctx))

/-- A command moved on by one step: its locks and checks, then each page, finished once the requests accepted before its change have been
answered. -/
def pageMove (s : State) (j : PageJob) : PageMove :=
  if !j.checked then
    let j1 := { j with locked := lockReach s j }
    if j1.locked < j1.n ∨ sealRuns s j1 then .waits s j1
    else match pageCheck s j1 with
      | (some (i, st), s1) => .ends (finish s1 j.caller st [BitVec.ofNat 32 i])
      | (none, s1) => .goes s1 { j1 with checked := true, group := (ctxAt s1 j.call.ctx).sealGroup.toNat }
  else if j.n ≤ j.done then .ends (pageEnds s j stDone (pageWord j))
  else
    let p := j.page + j.done
    match j.fence with
    | some f => if olderTraffic s p f then .waits s j else .goes s j.settled
    | none => changeNext s j p

/-- A command moved on until it waits, ends or has changed pages up to a bound; fuel bounds the moves. -/
def runPages : Nat → Nat → State → PageJob → State
  | 0, _, s, j => { s with pages := s.pages ++ [j] }
  | f + 1, lim, s, j =>
    if lim ≤ j.done ∧ j.done < j.n then { s with pages := s.pages ++ [j] }
    else match pageMove s j with
      | .waits s1 j1 => { s1 with pages := s1.pages ++ [j1] }
      | .goes s1 j1 => runPages f lim s1 j1
      | .ends s1 => s1

/-- Pages that a command changes in one step of the block. -/
def pageChunk : Nat := 16

/-- A command's turn: at most 16 pages. -/
def pageTurn (s : State) (j : PageJob) : State := runPages (20 * pageChunk) (j.done + pageChunk) s j

/-- A command of the list given its turn, by its caller. -/
def pageTurnOf (s : State) (w : Caller) : State :=
  match s.pages.find? (fun j => decide (j.caller = w)) with
  | some j => pageTurn { s with pages := s.pages.filter (fun k => decide (k.caller ≠ w)) } j
  | none => s

/-- Every command in progress given its turn. -/
def pageTurns (s : State) : State := (s.pages.map PageJob.caller).foldl pageTurnOf s

/-- Commands in progress ended where they stand, at a page boundary (R98, R205, R221). -/
def endPages (s : State) (st : BitVec 8) (hit : PageJob → Bool) : State :=
  (s.pages.filter hit).foldl (fun t j => pageEnds t j st 0) { s with pages := s.pages.filter (fun j => !hit j) }

/-- A new page command. -/
def newPageJob (op : PageOp) (k : Call) (w : Caller) : PageJob :=
  { op := op, seq := BitVec.ofNat 8 (bits k.req.w0 12 8), caller := w, word := k.word 0, page := bits (k.word 1) 0 24, n := bits (k.word 2) 0 17,
    locked := 0, checked := false, done := 0, bad := [], group := 0, fence := none, paid := 0 }

/-- A page command's effect: its field checks, its ticket when COUNT exceeds 16, then its first turn (R200, R201). -/
def startPages (op : PageOp) (k : Call) (s : State) : State :=
  let n := bits (k.word 2) 0 17
  if !fieldsOk k [0x3FFF ||| op.flags, 0xFFFFFF, 0x1FFFF] || !(op != .claim || claimFlagsOk (k.word 0))
      || decide (n = 0 ∨ 65536 < n) then reply s k stBadField []
  else if 16 < n then ticketed s k (fun w u => settle (pageTurn u (newPageJob op k w)))
  else settle (pageTurn s (newPageJob op k (.running k.ch)))

/-- PAGE_CLAIM (R209). -/
def execPageClaim (bus : Bus) (s : State) : Host.Outcome State Fault Refusal :=
  onBus s bus (fun s => service 0x103 s (startPages .claim))

/-- PAGE_SEAL (R212). -/
def execPageSeal (bus : Bus) (s : State) : Host.Outcome State Fault Refusal :=
  onBus s bus (fun s => service 0x104 s (startPages .seal))

/-- PAGE_FREEZE (R213). -/
def execPageFreeze (bus : Bus) (s : State) : Host.Outcome State Fault Refusal :=
  onBus s bus (fun s => service 0x105 s (startPages .freeze))

/-- PAGE_RENEW (R213). -/
def execPageRenew (bus : Bus) (s : State) : Host.Outcome State Fault Refusal :=
  onBus s bus (fun s => service 0x106 s (startPages .renew))

/-- PAGE_RELEASE (R213, R228). -/
def execPageRelease (bus : Bus) (s : State) : Host.Outcome State Fault Refusal :=
  onBus s bus (fun s => service 0x107 s (startPages .release))

/-! ### Contexts (R206, R214) -/

/-- CTX_OPEN's effect (R135, R206). -/
def ctxOpen (k : Call) (s : State) : State :=
  let c := bits (k.word 0) 0 14
  let l := bits (k.word 0) 16 6
  let v := ctxAt s c
  if !fieldsOk k [0x0F3F3FFF, 0x00FFFFFF] ∨ c = 0 ∨ l = 0 then reply s k stBadField []
  else if v.state ≠ .free then reply s k stCtxState []
  else if (laneAt s l).state ≠ .opened then reply s k stLaneState []
  else if v.lane.toNat ≠ l ∧ v.depth ≠ 0 then reply s k stWrongClass []
  else
    let v' : Ctx := { v with lane := BitVec.ofNat 6 l, state := .active, taint := false,
                             permits := BitVec.ofNat 4 (bits (k.word 0) 24 4), quota := BitVec.ofNat 24 (bits (k.word 1) 0 24),
                             held := 0, sealGroup := 0, sealFull := false, model := 0, closedAt := none, releaseOn := none,
                             stuckPasses := 0, rebuilt := false, laneClosed := false }
    let s1 := setCtx { s with laneTags := tset 0 s.laneTags c (BitVec.ofNat 6 l) } c v'
    reply s1 k stDone [field 32 0 24 v.epoch.toNat, field 32 0 8 v.keyGen.toNat]

/-- CTX_OPEN (R206). -/
def execCtxOpen (bus : Bus) (s : State) : Host.Outcome State Fault Refusal := onBus s bus (fun s => service 0x101 s ctxOpen)

/-- CTX_QUERY's effect (R214). -/
def ctxQuery (k : Call) (s : State) : State :=
  let c := bits (k.word 0) 0 14
  if !fieldsOk k [0x3FFF] then reply s k stBadField []
  else
    let v := ctxAt s c
    let reads := (tilesOf s c).length
    let writes := tcount s.tiles.writes (fun _ w => decide (w.ctx = c))
    reply s k stDone [ctxWord v 0, ctxWord v 1, ctxWord v 2, ctxWord v 3, field 32 0 10 reads ||| field 32 16 10 writes]

/-- CTX_QUERY (R214). -/
def execCtxQuery (bus : Bus) (s : State) : Host.Outcome State Fault Refusal := onBus s bus (fun s => service 0x108 s ctxQuery)

/-- PAGE_QUERY's effect (R214). A page outside the window and one behind a map fault answer as a page command answers them (DESIGN CHOICE,
log 146). -/
def pageQuery (k : Call) (s : State) : State :=
  let p := bits (k.word 1) 0 24
  if !fieldsOk k [0x3FFF, 0xFFFFFF] then reply s k stBadField []
  else if !inWindow s p then reply s k stOutsideWindow []
  else match mapEntry s p with
    | (.error _, s1) => reply s1 k stMapFault []
    | (.ok e, s1) =>
      if entState e ≠ .free ∧ !k.owner ∧ (ctxAt s1 (entCtx e)).lane.toNat ≠ k.lane then reply s1 k stDenied []
      else reply s1 k stDone [e, flag 32 0 (isStale s1 e)]

/-- PAGE_QUERY (R214). -/
def execPageQuery (bus : Bus) (s : State) : Host.Outcome State Fault Refusal := onBus s bus (fun s => service 0x10A s pageQuery)

/-- VERDICT_FENCE's job (R220). -/
def startFence (c : Nat) (w : Caller) (s : State) : State :=
  let es := (tilesOf s c).map TileRead.order
  let f : Fence := { ctx := c, epoch := (ctxAt s c).epoch.toNat, entries := es, count := 0, caller := w }
  if es.isEmpty then fenceDone s f
  else
    let rs := s.tiles.reads.map (fun e => if es.contains e.order then { e with completing := true } else e)
    { s with tiles := { s.tiles with reads := rs, fences := s.tiles.fences ++ [f] } }

/-- VERDICT_FENCE (R220). -/
def execVerdictFence (bus : Bus) (s : State) : Host.Outcome State Fault Refusal :=
  onBus s bus (fun s => service 0x109 s (fun k t =>
    if !fieldsOk k [0x3FFF] then reply t k stBadField []
    else ticketed t k (startFence (bits (k.word 0) 0 14))))

/-! ### Lanes (R130, R208) -/

/-- LANE of a lane command. -/
def laneOf (k : Call) : Nat := bits (k.word 0) 0 6

/-- A lane command's field check. -/
def laneFieldOk (k : Call) : Bool := fieldsOk k [0x3F] && decide (laneOf k ≠ 0)

/-- LANE_OPEN (R208); BUSY until the rewrite that destroys the last tenant's stored keys commits (R295). -/
def execLaneOpen (s : State) : Host.Outcome State Fault Refusal :=
  live s (fun s => service 0x110 s (fun k t =>
    let l := laneOf k
    if !laneFieldOk k then reply t k stBadField []
    else if (laneAt t l).state ≠ .closed then reply t k stLaneState []
    else if (laneAt t l).rewriteDue then reply t k stBusy []
    else reply (setLane t l { laneAt t l with state := .opened }) k stDone [1]))

/-- LANE_DRAIN's effect. -/
def laneDrain (k : Call) (s : State) : State :=
  let l := laneOf k
  if !laneFieldOk k then reply s k stBadField []
  else if (laneAt s l).state ≠ .opened then reply s k stLaneState []
  else ticketed s k (fun w t => settleDrain (setLane t l { laneAt t l with state := .draining, job := some w }) l)

/-- LANE_DRAIN (R208). -/
def execLaneDrain (s : State) : Host.Outcome State Fault Refusal := live s (fun s => service 0x111 s laneDrain)

/-- A drain job that another lane command ends (R208). -/
def abortDrain (s : State) (l : Nat) : State :=
  match (laneAt s l).job with
  | some w => finish (setLane s l { laneAt s l with job := none }) w stAborted []
  | none => s

/-- LANE_RESUME (R208). -/
def execLaneResume (s : State) : Host.Outcome State Fault Refusal :=
  live s (fun s => service 0x112 s (fun k t =>
    let l := laneOf k
    let v := laneAt t l
    if !laneFieldOk k then reply t k stBadField []
    else if v.state ≠ .draining ∧ v.state ≠ .drained then reply t k stLaneState []
    else
      let t1 := abortDrain t l
      reply (setLane t1 l { laneAt t1 l with state := .opened }) k stDone [1]))

/-- Contexts that name a lane. -/
def contextsOf (s : State) (l : Nat) : List Nat := tkeys s.ctxs (fun c v => decide (c ≠ 0 ∧ v.lane.toNat = l))

/-- A RETIRED record made FREE: EPOCH and KEY_GEN wrap to 0, and DEPTH follows (R135, R223). -/
def freeRetired (s : State) (c : Nat) : State :=
  let x := ctxAt s c
  ledgerChange (setCtx s c { x with state := .free, epoch := 0, keyGen := 0, rebuilt := false, laneClosed := false }) false c 0 id

/-- A RELEASING lane whose contexts are all FREE or RETIRED is CLOSED; its RETIRED contexts become FREE (R130, R135, R138). -/
def settleRelease (s : State) (l : Nat) : State :=
  let v := laneAt s l
  let cs := contextsOf s l
  if v.state = .releasing ∧ cs.all (fun c => (ctxAt s c).state == .free || (ctxAt s c).state == .retired) then
    let s1 := setLane s l { v with state := .closed, job := none }
    let s2 := cs.foldl (fun t c =>
      let x := ctxAt t c
      if x.state = .retired then (if x.rebuilt ∧ x.ledgerHold.isSome then setCtx t c { x with laneClosed := true } else freeRetired t c)
      else t) s1
    match v.job with
    | some w => finish s2 w stDone [v.gen]
    | none => s2
  else s

/-! ### The advance of an epoch (R137, R138) -/

/-- The answer of a CTX_RELEASE whose 64 paces are complete (R207). -/
def answerRelease (s : State) (c : Nat) : State :=
  let v := ctxAt s c
  match v.releaseOn with
  | none => s
  | some ch =>
    let waits := decide (v.depth = 15) || v.ledgerHold.isSome
    answerRunning (setCtx s c { v with releaseOn := none }) ch stDone [field 32 0 24 v.epoch.toNat, flag 32 0 waits]

/-- The epoch of a RELEASING context advances where DEPTH allows (R137); at its last epoch it retires (R135). -/
def advanceCtx (s : State) (c : Nat) : State :=
  let v := ctxAt s c
  if v.state ≠ .releasing ∨ v.depth = 15 ∨ v.ledgerHold.isSome then s
  else
    let s1 := if v.held = 0 then s else ledgerAdd s c (v.epoch.toNat % 16) v.held.toNat
    let v1 := ctxAt s1 c
    if v1.ledgerHold.isSome then s1
    else if v1.epoch = 0xFFFFFF ∧ v1.keyGen = 0xFF then
      settleRelease (setCtx s1 c { v1 with state := .retired, held := 0, closedAt := none }) v1.lane.toNat
    else
      let v2 : Ctx := { v1 with epoch := v1.epoch + 1, keyGen := if v1.epoch = 0xFFFFFF then v1.keyGen + 1 else v1.keyGen,
                                held := 0, taint := false, sealGroup := 0, sealFull := false, state := .free, closedAt := none,
                                stuckPasses := 0 }
      settleRelease (ledgerChange (setCtx s1 c v2) false c v2.epoch.toNat id) v2.lane.toNat

/-- Whether the 64 paces of a context's release are complete. -/
def releaseDue (s : State) (c : Nat) : Bool :=
  match (ctxAt s c).closedAt with
  | some t => decide (t + 64 ≤ s.pace.now)
  | none => false

/-- EPOCH_ADVANCE (R137): every context whose 64 paces are complete. -/
def epochAdvance (s : State) : State :=
  (tkeys s.ctxs (fun c _ => releaseDue s c)).foldl (fun t c => advanceCtx (answerRelease t c) c) s

/-- EXCEPTION_TAKE (R16): the oldest record leaves the queue while the controller runs; its follow-up work is done where the fault was
met. -/
def execExceptionTake (bus : Bus) (s : State) : Host.Outcome State Fault Refusal :=
  onBus s bus (fun s => if controllerRuns s then { s with flt := { s.flt with queue := s.flt.queue.drop 1 } } else s)

end Sys2Proof.Machine
end

