-- ==== Sys2Proof/Machine/Sweep.lean ====
section
/-!
DEFINITION. Background work on pages: sweep passes (R222 to R228, R480) and the external scrub (R481).
-/

namespace Sys2Proof.Machine

open Sys2Proof

/-! ### Sweep passes -/

/-- Whether a context waits at RELEASING with DEPTH 15. -/
def isStuck (v : Ctx) : Bool := v.state == .releasing && decide (v.depth = 15)

/-- SWEEP_PASS_START (R222): a pass begins where entries wait and no pass runs. -/
def passStart (s : State) : State :=
  if s.bg.sweepActive ∨ s.bg.pendingPages = 0 then s
  else
    let s1 := { s with bg := { s.bg with sweepActive := true, cursor := 0, begun := s.bg.begun + 1,
                                         lastFaults := s.bg.lineFaults, lineFaults := [], marked := [] } }
    (tkeys s1.ctxs (fun _ v => isStuck v && v.stuckPasses == 0)).foldl
      (fun t c => setCtx t c { ctxAt t c with stuckPasses := 1 }) s1

/-- SWEEP_PASS_START (R222). -/
def execSweepPassStart (bus : Bus) (s : State) : Host.Outcome State Fault Refusal := onBus s bus passStart

/-- RETIRE_PASSES; 0 acts as 1 (R484). -/
def retirePasses (s : State) : Nat := max 1 (bits (activeReg s 0x0860) 8 4)

/-- A ledger line written as zeros once the pass that it waited for has ended (R227, R465); a write that fails is a fault of the sweep, and
the line waits for another pass (R145). A rebuilt record whose lane has reached CLOSED becomes FREE (R135). -/
def clearLedger (s : State) (c : Nat) : State :=
  match writeOwn s (ledgerAddr s c) 0 with
  | (.error _, s1) => holdLedger s1 c
  | (.ok _, s1) =>
    let v : Ctx := { ctxAt s1 c with ledgerHold := none, depth := 0 }
    if v.state = .retired ∧ (v.laneClosed ∨ (laneAt s1 v.lane.toNat).state = .closed) then
      setCtx s1 c { v with state := .free, epoch := 0, keyGen := 0, rebuilt := false, laneClosed := false }
    else setCtx s1 c v

/-- A context at DEPTH 15 through its passes retires (R480). -/
def stuckPassEnds (s : State) (c : Nat) : State :=
  let v := ctxAt s c
  if !isStuck v then setCtx s c { v with stuckPasses := 0 }
  else if v.stuckPasses = 0 then s
  else if retirePasses s ≤ v.stuckPasses then
    settleRelease (setCtx s c { v with state := .retired, held := 0, closedAt := none, stuckPasses := 0 }) v.lane.toNat
  else setCtx s c { v with stuckPasses := v.stuckPasses + 1 }

/-- The bit and the notice of a release whose pages are swept (R102, R228). -/
def sweepDone (s : State) (x : SweepDone) : State :=
  queueNotice (raiseBells s (channelsWhere s (fun c => decide (c = x.ch) || isOwnerChannel s c)) bellSweep) x.ch
    [field 32 0 12 x.op.toNat ||| field 32 12 8 x.seq.toNat, x.subject, field 32 0 16 s.bg.passes]

/-- The end of a pass (R222, R228): releases that it was bound to finish, or, with nothing left to sweep, all. -/
def passEnd (s : State) : State :=
  let s1 := { s with bg := { s.bg with sweepActive := false, passes := s.bg.passes + 1 } }
  let s2 := (tkeys s1.ctxs (fun _ v => match v.ledgerHold with
    | some n => decide (n ≤ s1.bg.passes)
    | none => false)).foldl clearLedger s1
  let s3 := (tkeys s2.ctxs (fun _ v => v.stuckPasses != 0)).foldl stuckPassEnds s2
  let due (x : SweepDone) : Bool := decide (x.pass ≤ s3.bg.passes ∨ s3.bg.pendingPages = 0)
  let ready := s3.bg.completions.filter due
  ready.foldl sweepDone { s3 with bg := { s3.bg with completions := s3.bg.completions.filter (fun x => !due x) } }

/-- The pass ends when the walk is past the window and nothing is marked. -/
def maybePassEnd (s : State) : State :=
  if s.bg.sweepActive ∧ s.bg.marked.isEmpty ∧ winPages s ≤ s.bg.cursor.toNat then passEnd s else s

/-- Whether the sweep takes an entry (R222). -/
def sweepable (s : State) (e : W32) : Bool :=
  entState e == .sweeping || (isStale s e && entState e != .free)

/-- A map line that failed in the sweep (R227, R480). -/
def mapLineFault (s : State) (n : Nat) : State :=
  let s1 := sweepFault s 0 (mapLineAddr s n)
  let s2 := { s1 with bg := { s1.bg with lineFaults := s1.bg.lineFaults ++ [n] } }
  if s2.bg.lastFaults.contains n ∧ !s2.bg.reportedFaults.contains n then
    faultNotice (count { s2 with bg := { s2.bg with reportedFaults := s2.bg.reportedFaults ++ [n] } } 0x7998 1)
      0x06 none (winBase s2 + 16 * n) n
  else s2

/-- SWEEP_MAP_LINE (R222): the next map line of the pass. -/
def sweepMapLine (s : State) : State :=
  if !s.bg.sweepActive || !s.bg.marked.isEmpty then s
  else if winPages s ≤ s.bg.cursor.toNat then passEnd s
  else
    let n := s.bg.cursor.toNat / 16
    let next := { s with bg := { s.bg with cursor := BitVec.ofNat 25 (16 * n + 16) } }
    match readOwn next (mapLineAddr next n) with
    | (.error _, s1) => maybePassEnd (mapLineFault s1 n)
    | (.ok l, s1) =>
      let ws := wordsOfOctets 16 (octetsOfLine l)
      let ps := (List.range 16).filter (fun i => decide (16 * n + i < winPages s1) && sweepable s1 (ws.getD i 0))
      maybePassEnd { s1 with bg := { s1.bg with marked := ps.map (fun i => winBase s1 + 16 * n + i) } }

/-- The counter block that a swept page keeps: its major word, and in octet 8 the lane that left it unfilled (R211, R224). -/
def sweptItem (major history : Nat) : Line := setItem (freshItem major) 440 8 history

/-- Whether a swept page is filled (R225). -/
def sweepFills (s : State) (c : CustClass) : Bool :=
  let p := activeReg s 0x103C
  bit p 1 || (bit p 0 && c == .openC)

/-- The counts of a page that leaves its holder (R223). -/
def sweepCounts (s : State) (e : W32) : State :=
  let c := entCtx e
  let v := ctxAt s c
  if entState e ≠ .sweeping ∧ v.state = .releasing ∧ entEpoch4 e = v.epoch.toNat % 16 then
    setCtx s c { v with held := v.held - 1 }
  else ledgerTake s c (entEpoch4 e)

/-- The counter block of a swept page (R224, step 3; R227). -/
def sweepCounterBlock (s : State) (p : Nat) (e : W32) (history : Nat) : State :=
  let q := pageIndex s p
  let g := groupOfClass (entClass e)
  match itemNow s (.ctr q) g with
  | (.ok l, s1) => updateItem (abandonRekey s1 (.ctr q)) (.ctr q) g (sweptItem (majorOf l) history)
  | (_, s1) => sweepFault s1 (entCtx e) (64 * p)

/-- One page finished (R224). -/
def sweepOne (s : State) (p : Nat) (e : W32) : State :=
  let lane := (ctxAt s (entCtx e)).lane.toNat
  let q := pageIndex s p
  let mark := if entState e = .sweeping then (true, s) else setEntry s p (entWithState e .sweeping)
  if !mark.1 then sweepFault mark.2 (entCtx e) (64 * p)
  else
    let s1 := { mark.2 with tiles := { mark.2.tiles with writes := tdel mark.2.tiles.writes q } }
    let fills := sweepFills s1 (entClass e)
    let payer := if (laneAt s1 lane).state = .opened then lane else 0
    let (whole, s2) := if fills then zeroFill (backgroundLines s1 payer .openC 64) p else (true, s1)
    let s3 := if whole then s2 else sweepFault s2 (entCtx e) (64 * p)
    let s4 := sweepCounterBlock s3 p e (if fills then 0 else lane + 1)
    match setEntry s4 p 0 with
    | (false, s5) => sweepFault s5 (entCtx e) (64 * p)
    | (true, s5) =>
      let s6 := sweepCounts s5 e
      let s7 := setLane s6 lane { laneAt s6 lane with held := (laneAt s6 lane).held - 1 }
      count { s7 with bg := { s7.bg with pendingPages := s7.bg.pendingPages - 1 } } 0x7860 1

/-- SWEEP_PAGE (R224): the first marked page, once no command holds its lock (R203). -/
def sweepPage (s : State) : State :=
  match s.bg.marked with
  | [] => s
  | p :: rest =>
    let s0 := { s with bg := { s.bg with marked := rest } }
    if pageLocked s p then s
    else match mapEntry s0 p with
    | (.error _, s1) => maybePassEnd (sweepFault s1 0 (64 * p))
    | (.ok e, s1) => maybePassEnd (if sweepable s1 e then sweepOne s1 p e else s1)

/-! ### The external scrub (R481) -/

/-- Whether the scrub writes corrected lines back. -/
def scrubWrites (s : State) : Bool := bit (activeReg s 0x0860) 2

/-- A line written back under R481. -/
def scrubRepair (s : State) : State :=
  let s1 := count s 0x7988 1
  { s1 with bg := { s1.bg with repairsTotal := s1.bg.repairsTotal + 1 } }

/-- A failing line found by the scrub. -/
def scrubFails (s : State) (ctx la : Nat) : State := exception (count s 0x7848 1) 0x0E (internalExc s srcBackground ctx la)

/-- One line of a page scrubbed. -/
def scrubLine (s : State) (p : Nat) (e : W32) (k : Nat) : State :=
  let c := entClass e
  let owner := entCtx e
  let q := pageIndex s p
  let la := 64 * p + k
  match lineMeta s c q k (entAux e) with
  | (.keys m, s1) =>
    let s2 := count (backgroundLines (readyKey s1 owner) 0 c 1) 0x7980 1
    match memRead s2 la with
    | .data ct =>
      let x := openLine (ctxKey s2 owner) c m la ct
      let s3 := if x.fixed then count s2 0x7840 1 else s2
      match x.line with
      | .ok (_, l) =>
        if x.fixed && scrubWrites s3 then
          let key := ctxKey s3 owner
          let sl := if c = .sealedC then (0, makeCheck l) else (makeSeal l (mac48 key l m.major m.minor la), 0)
          scrubRepair (memWrite (putSeal (backgroundLines s3 0 c 1) c q k sl.1 sl.2) la l).2
        else s3
      | .error _ => scrubFails s3 owner la
    | _ => scrubFails (readSilent s2 la) owner la
  | (.bad b, s1) =>
    let s2 := scrubFails s1 owner la
    match b with
    | .item t => itemFailed s2 t
    | _ => s2
  | (_, s1) => s1

/-- A tree item's copy in memory scrubbed, with every item above it (R481); fuel bounds the levels. -/
def scrubItem : Nat → State → TreeItem → State
  | 0, s, _ => s
  | f + 1, s, t =>
    match t with
    | .root => s
    | t =>
      let la := itemAddr s t
      let dirty : Bool := match tfind s.tree.lines la with
        | some m => m.dirty
        | none => false
      let up := (parentOf s t).1
      let slot := (parentOf s t).2
      match itemNow s up .treeG with
      | (.bad _, s1) => s1
      | (.silent, s1) => s1
      | (.ok pl, s1) =>
        let mm := childCounters s1 up pl slot
        if dirty || mm.2 == 0 then scrubItem f s1 up
        else match plainNow s1 (itemSeal s1 t).1 .treeG, memRead s1 la with
          | (some sl, s2), .data l =>
            let s3 := readyKey (count (backgroundLines s2 0 .versionedC 1) 0x7980 1) 0
            let (v, fixed) := checkItem s3 t l (sealIn sl (itemSeal s3 t).2) mm.1 mm.2
            let s4 := if fixed then count s3 0x7840 1 else s3
            match v with
            | some v => scrubItem f (if fixed && scrubWrites s4 then scrubRepair (memWrite s4 la v).2 else s4) up
            | none => scrubItem f (itemBad (scrubFails s4 0 la) t) up
          | (_, s2), _ => scrubItem f (scrubFails (readSilent s2 la) 0 la) up

/-- One page visited, or passed by (R481). -/
def scrubVisit (s : State) (p : Nat) : State :=
  match mapEntry s p with
  | (.error _, s1) => s1
  | (.ok e, s1) =>
    let c := entClass e
    let visits := (entState e == .live || entState e == .frozen) && !isStale s1 e && c != .openC
      && (c != .sealedC || bit (activeReg s1 0x0860) 0)
    if !visits then s1
    else
      let s2 := if bit (activeReg s1 0x0860) 1 then scrubItem 5 s1 (.ctr (pageIndex s1 p)) else s1
      (List.range 64).foldl (fun t k => scrubLine t p e k) s2

/-- SCRUB_PAGE (R481): the page at the cursor. -/
def scrubPage (s : State) : State :=
  if bits (activeReg s 0x0870) 0 12 = 0 ∨ winPages s = 0 then s
  else
    let q := s.bg.scrubCursor.toNat % winPages s
    if pageLocked s (winBase s + q) then s
    else
      let s1 := scrubVisit s (winBase s + q)
      if q + 1 < winPages s then { s1 with bg := { s1.bg with scrubCursor := BitVec.ofNat 25 (q + 1) } }
      else { s1 with bg := { s1.bg with scrubCursor := 0, scrubPass := s1.bg.scrubPass + 1 } }

/-- SCRUB_PAGE (R481). -/
def execScrubPage (bus : Bus) (s : State) : Host.Outcome State Fault Refusal := onBus s bus (background scrubPage)

end Sys2Proof.Machine
end

