-- ==== Sys2Proof/Machine/Dma.lean ====
section
/-!
DEFINITION. Block DMA (R12, R13, R100): descriptors and their checks, transfers line by line through the custody path, and the block's
own regions under CTX 0.
-/

namespace Sys2Proof.Machine

open Sys2Proof

/-- A descriptor (R100). -/
structure Desc where
  ctx : Nat
  addr : Nat
  len : Nat
deriving DecidableEq, Repr, Inhabited

/-- The descriptor at payload word a (message word 2 + a). -/
def descAt (k : Call) (a : Nat) : Desc :=
  { ctx := bits (k.word a) 0 14
    addr := (k.word (a + 1)).toNat + 2 ^ 32 * bits (k.word (a + 2)) 0 4
    len := (k.word (a + 3)).toNat }

/-- The fields of a descriptor's words (R8, R100). -/
def descMasks : List W32 := [0x3FFF, 0xFFFFFFFF, 0xF, 0xFFFFFFFF]

/-- Pages of a span of bytes. -/
def spanPages (addr len : Nat) : List Nat :=
  if len = 0 then [] else pageSpan (addr / 4096) ((addr + len - 1) / 4096 - addr / 4096 + 1)

/-- Why a context may not reach a page by DMA: a stale epoch, or any other failure (R100, check 3). -/
def pageDenied (s : State) (ctx p : Nat) (write : Bool) : Option (BitVec 8) × State :=
  if !inWindow s p then (some stDenied, s)
  else match mapEntry s p with
    | (.error _, s1) => (some stDenied, s1)
    | (.ok e, s1) =>
      match entryRefusal s1 ctx e write with
      | some (.stale, _) => (some stStaleEpoch, s1)
      | some _ => (some stDenied, s1)
      | none => (none, s1)

/-- The first page that a context may not reach. -/
def pagesDenied (s : State) (ctx : Nat) (write : Bool) : List Nat → Option (BitVec 8) × State
  | [] => (none, s)
  | p :: ps => match pageDenied s ctx p write with
    | (some st, s1) => (some st, s1)
    | (none, s1) => pagesDenied s1 ctx write ps

/-- The checks of a descriptor before its first byte moves (R100); a lane that does not take traffic answers BUSY (R130). -/
def descRefusal (s : State) (k : Call) (d : Desc) (write : Bool) : Option (BitVec 8) × State :=
  let v := ctxAt s d.ctx
  if d.len = 0xFFFFFFFF ∨ 2 ^ 36 < d.addr + d.len then (some stBadLength, s)
  else if !k.owner ∧ v.lane.toNat ≠ k.lane then (some stDenied, s)
  else match ctxRefusal v with
    | some (.stale, _) => (some stStaleEpoch, s)
    | some _ => (some stDenied, s)
    | none =>
      if d.ctx ≠ 0 ∧ (laneAt s v.lane.toNat).state ≠ .opened then (some stBusy, s)
      else pagesDenied s d.ctx write (spanPages d.addr d.len)

/-- Several descriptors checked in order. -/
def descsRefusal (s : State) (k : Call) : List (Desc × Bool) → Option (BitVec 8) × State
  | [] => (none, s)
  | (d, w) :: ds => match descRefusal s k d w with
    | (some st, s1) => (some st, s1)
    | (none, s1) => descsRefusal s1 k ds

/-- What an exception record says of a DMA line. -/
def dmaExc (s : State) (ctx la : Nat) (v : Verdict) (write : Bool) : ExcAt :=
  { verdict := v, write := write, source := srcDma, ctx := ctx, la := la, ch := 0, mid := none,
    lane := (ctxAt s ctx).lane.toNat, tag := 0 }

/-- Completion reads made until a read entry is free for a line (R216); fuel bounds them. -/
def freeTileFor : Nat → State → Nat → Nat → Nat → Nat → Option (Nat × State)
  | 0, s, page, holder, reader, k => tileFor s page holder reader k
  | n + 1, s, page, holder, reader, k =>
    match tileFor s page holder reader k with
    | some r => some r
    | none => freeTileFor n (completionRead (pressTiles s)) page holder reader k

/-- A line refused to block DMA: its record, and its energy (R123). -/
def dmaRefused (s : State) (ctx la : Nat) (c : CustClass) (v : Verdict) (kind : Option Nat) (write : Bool) : BitVec 8 × State :=
  let s1 := chargeLines s (ctxAt s ctx).lane.toNat c 1
  (if v = .stale then stStaleEpoch else stFaulted, match kind with
    | some k => exception s1 k (dmaExc s1 ctx la v write)
    | none => s1)

/-- The checks of R151 that every line of block DMA passes: the window, the named context, its page's entry. -/
def dmaChecks (s : State) (ctx la : Nat) (write : Bool) : Except (BitVec 8) W32 × State :=
  let p := pageOfLine la
  let refuse (s : State) (c : CustClass) (v : Verdict) (k : Option Nat) : Except (BitVec 8) W32 × State :=
    let r := dmaRefused s ctx la c v k write
    (.error r.1, r.2)
  if !inWindow s p then refuse s .openC .failed (some 0x01)
  else match ctxRefusal (ctxAt s ctx) with
    | some (v, k) => refuse s .openC v k
    | none => match mapEntry s p with
      | (.error k, s1) => refuse s1 .openC .failed (some k)
      | (.ok e, s1) => match entryRefusal s1 ctx e write with
        | some (v, k) => refuse s1 (entClass e) v (some k)
        | none => (.ok e, s1)

/-- One line read under a context: plaintext with its verdict, or the status that stops the transfer. -/
def dmaReadLine (s : State) (ctx la : Nat) : Except (BitVec 8) (Line × Verdict) × State :=
  let p := pageOfLine la
  match dmaChecks s ctx la false with
  | (.error st, s1) => (.error st, s1)
  | (.ok e, s1) =>
    let c := entClass e
    let q := pageIndex s1 p
    let lane := (ctxAt s1 ctx).lane.toNat
    let s2 := workLines (spendTokens s1 lane 1) lane c 1
    match lineMeta s2 c q (la % 64) (entAux e) with
    | (.bad b, s3) => (.error stFaulted, lineFailed s3 b (dmaExc s3 ctx la .failed false))
    | (.unwritten, s3) => (.ok (0, .clean), count s3 (0x7000 + 32 * lane) 64)
    | (m, s3) =>
      let keys := match m with
        | .keys k => k
        | _ => noKeys
      let owner := entCtx e
      let s4 := if c = .openC then s3 else readyKey s3 owner
      match (if c = .sealedC then freeTileFor 8192 s4 p owner ctx (la % 64) else some (0, s4)) with
      | none => (.error stFaulted, s4)
      | some (o, s5) =>
        match readStored s5 (if c = .openC then default else ctxKey s5 owner) c keys la with
        | (.ok (pt, ct), s6) =>
          let s7 := if c = .sealedC then tileAdd s6 o (la % 64) ct else s6
          (.ok (pt, if c = .sealedC then .deferred else .clean), count s7 (0x7000 + 32 * lane) 64)
        | (.error b, s6) =>
          let s7 := exception s6 (badKind b) (dmaExc s6 ctx la .failed false)
          (.error stFaulted, match c, tileEntry s7 o with
            | .sealedC, some t => tileFails s7 t srcDma b.ofPage
            | _, _ => s7)

/-- A masked write that has its line's old data still to come reads it as a write of block DMA that overtakes it leaves it: no other write
falls between its read and its write (R155, R233). -/
def overtakeMasked (s : State) (la : Nat) (p : Line) : State :=
  s.cust.reqs.foldl (fun t r =>
    if r.stage = .reading ∧ r.op = opMasked ∧ r.addr ≤ la ∧ la < r.addr + r.n then
      setReq t { r with res := r.res.set (la - r.addr) (.got .clean p) }
    else t) s

/-- One line written under a context; `mask` names the bytes written. -/
def dmaWriteLine (s : State) (ctx la : Nat) (data : Line) (mask : BitVec 64) : Except (BitVec 8) Unit × State :=
  let p := pageOfLine la
  match dmaChecks s ctx la true with
  | (.error st, s1) => (.error st, s1)
  | (.ok e, s1) =>
    let c := entClass e
    let q := pageIndex s1 p
    let lane := (ctxAt s1 ctx).lane.toNat
    let owner := entCtx e
    let whole := decide (mask = ~~~0)
    let n := if whole then 1 else 2
    let s2 := workLines (spendTokens s1 lane n) lane c n
    let old : Except BadLine Line × State := if whole then (.ok 0, s2) else readLine s2 owner c q (la % 64) (entAux e) la
    match old with
    | (.error b, s3) => (.error stFaulted, lineFailed s3 b (dmaExc s3 ctx la .failed true))
    | (.ok o, s3) =>
      let line := if whole then data else mergeLine o data mask
      match commitNow s3 owner c q (la % 64) (entAux e) la line with
      | (.ok ct, s4) =>
        match memWrite (overtakeMasked s4 la line) la ct with
        | (true, s5) => (.ok (), count s5 (0x7008 + 32 * lane) 64)
        | (false, s5) => (.error stFaulted, exception s5 (if writeSilent s5 la then 0x0B else 0x08) (dmaExc s5 ctx la .failed true))
      | (.filled, s4) => (.error stFaulted, exception s4 0x04 (dmaExc s4 ctx la .failed true))
      | (.bad b, s4) => (.error stFaulted, lineFailed s4 b (dmaExc s4 ctx la .failed true))
      | (.exhausted, s4) => (.error stFaulted, poisonReported (exception s4 0x0A (dmaExc s4 ctx la .failed true)) p owner)
      | (.waits, s4) => (.error stFaulted, s4)

/-- Lines of a span of bytes, each with the bytes of it that the span covers: line, first byte, number. -/
def spanLines (addr len : Nat) : List (Nat × Nat × Nat) :=
  if len = 0 then []
  else (List.range ((addr + len - 1) / 64 - addr / 64 + 1)).map (fun i =>
    let la := addr / 64 + i
    let lo := max addr (64 * la)
    let hi := min (addr + len) (64 * la + 64)
    (la, lo - 64 * la, hi - lo))

/-- What a transfer came to: its octets, or the status that stopped it and the bytes moved before (R100). -/
abbrev Moved := Except (BitVec 8 × Nat) Octets

/-- A span read line by line. -/
def dmaReadLines (s : State) (ctx : Nat) : List (Nat × Nat × Nat) → Octets → Moved × State
  | [], acc => (.ok acc, s)
  | (la, lo, n) :: rest, acc =>
    match dmaReadLine s ctx la with
    | (.ok (l, _), s1) => dmaReadLines s1 ctx rest (acc ++ slice (octetsOfLine l) lo n)
    | (.error st, s1) => (.error (st, acc.length), s1)

/-- A descriptor read. -/
def dmaRead (s : State) (d : Desc) : Moved × State := dmaReadLines s d.ctx (spanLines d.addr d.len) []

/-- Bytes `[lo, lo+n)` of a line as a mask. -/
def byteMask (lo n : Nat) : BitVec 64 := BitVec.ofNat 64 ((2 ^ n - 1) * 2 ^ lo)

/-- Octets written line by line: nothing, or the status that stopped the transfer and the bytes moved. -/
def dmaWriteLines (s : State) (ctx : Nat) : List (Nat × Nat × Nat) → Octets → Nat → Option (BitVec 8 × Nat) × State
  | [], _, _ => (none, s)
  | (la, lo, n) :: rest, o, done =>
    let line := lineOfOctets (List.replicate lo 0 ++ o.take n)
    match dmaWriteLine s ctx la line (byteMask lo n) with
    | (.ok _, s1) => dmaWriteLines s1 ctx rest (o.drop n) (done + n)
    | (.error st, s1) => (some (st, done), s1)

/-- Octets written at an address under a context. -/
def dmaWrite (s : State) (ctx addr : Nat) (o : Octets) : Option (BitVec 8 × Nat) × State :=
  dmaWriteLines s ctx (spanLines addr o.length) o 0

/-- Whole lines of an own region read. -/
def ownReadLines (s : State) : Nat → Nat → Octets → Except BadLine Octets × State
  | 0, _, acc => (.ok acc, s)
  | n + 1, la, acc =>
    match readOwnDma s la with
    | (.ok l, s1) => ownReadLines s1 n (la + 1) (acc ++ octetsOfLine l)
    | (.error b, s1) => (.error b, s1)

/-- Octets of an own region from a line on. -/
def ownRead (s : State) (la n : Nat) : Except BadLine Octets × State :=
  match ownReadLines s (ceilDiv n 64) la [] with
  | (.ok o, s1) => (.ok (o.take n), s1)
  | r => r

/-- Octets put into an own region from a line on; whether every line was stored. -/
def ownWrite (s : State) (la : Nat) (o : Octets) : Bool × State :=
  ((chunks 64 o).zipIdx).foldl (fun x c => match writeOwnDma x.2 (la + c.2) (lineOfOctets c.1) with
    | (.ok _, s1) => (x.1, s1)
    | (.error _, s1) => (false, s1)) (true, s)

/-- Octets read from a plain text of words: message words of an answer. -/
def wordsOf (o : Octets) : List W32 := wordsOfOctets (ceilDiv o.length 4) o

end Sys2Proof.Machine
end

