-- ==== Sys2Proof/Machine/Nvm.lean ====
section
/-!
DEFINITION. The OTP macro's words (R46, R440), the flash and its queue of users (R368, R387), the directory (R369, R370), and the
milepost unit's extend (R358 to R363).
-/

namespace Sys2Proof.Machine

open Sys2Proof

/-- A read burst without transitions of NVM_DQS: logged, and the flash is used in 1-1-1 for the rest of the start (R45). -/
def dqsLost (s : State) : State :=
  let n := { s.nvm with mode := 0, dqsFailed := true }
  violate { s with nvm := if s.pace.calibrated then { n with sckMhz := min 200 (n.rates.getD 0 12) } else n } pNvm kSignalRange none

/-! ### OTP (R440) -/

/-- A word of the OTP macro. -/
def otpWord (s : State) (a : Nat) : W32 := tget 0 s.otp.words a

/-- A field of n words: octet 4j lies in bits [31:24] of word j. -/
def otpField (s : State) (a n : Nat) : Octets := (List.range n).flatMap (fun i => beOctets 4 (otpWord s (a + i)).toNat)

/-- Bits of a word programmed; OTP bits are only ever set. -/
def otpSet (s : State) (a : Nat) (b : W32) : State :=
  { s with otp := { s.otp with words := tset 0 s.otp.words a (otpWord s a ||| b) } }

/-- A counter over n words: the index of its highest set bit plus 1, or 0. -/
def otpCounter (s : State) (a n : Nat) : Nat :=
  (List.range (32 * n)).foldl (fun c i => if bit (otpWord s (a + i / 32)) (i % 32) then i + 1 else c) 0

/-- Words of the firmware and card anti-rollback counters, the re-enrollment count, the serial, the digests, the enrollment key. -/
def otpFwCounter : Nat := 0x0C0
/-- route card counter -/
def otpCardCounter : Nat := 0x0C8
/-- re-enrollment count -/
def otpReenroll : Nat := 0x0D0
/-- device serial -/
def otpSerial : Nat := 0x0D4
/-- card authority digest -/
def otpCardAuth : Nat := 0x0D8
/-- debug authority digest -/
def otpDebugAuth : Nat := 0x0E4
/-- vault scramble seed -/
def otpSeed : Nat := 0x0F0
/-- tamper configuration -/
def otpTamperCfg : Nat := 0x0F2
/-- enrollment key -/
def otpEnrollKey : Nat := 0x100

/-- The device serial. -/
def deviceSerial (s : State) : Octets := otpField s otpSerial 4

/-- Re-enrollments so far. -/
def reenrollments (s : State) : Nat := otpCounter s otpReenroll 1

/-- Programs queued at the OTP port; the first one's REQ rises at once where the port is idle. -/
def otpEnqueue (s : State) (ops : List OtpOp) : State :=
  { s with otp := { s.otp with queue := s.otp.queue ++ ops, since := if s.otp.queue.isEmpty then clock s else s.otp.since } }

/-- The program in progress taken off the queue. -/
def otpPop (s : State) : State :=
  { s with otp := { s.otp with queue := s.otp.queue.drop 1, since := clock s } }

/-- A user's programs dropped. -/
def otpDrop (s : State) (u : OtpUser) : State :=
  { s with otp := { s.otp with queue := s.otp.queue.filter (fun o => decide (o.user ≠ u)), since := clock s } }

/-- Whether a user's programs wait. -/
def otpWaits (s : State) (u : OtpUser) : Bool := s.otp.queue.any (fun o => decide (o.user = u))

/-! ### Flash contents -/

/-- A 64-octet unit of the flash. -/
def flashUnit (s : State) (u : Nat) : Line := ~~~(tget 0 s.nvm.flash u)

/-- A unit written. -/
def setFlashUnit (s : State) (u : Nat) (l : Line) : State := { s with nvm := { s.nvm with flash := tset 0 s.nvm.flash u (~~~l) } }

/-- Octets of the flash. -/
def flashPeek (s : State) (off n : Nat) : Octets :=
  (spanLines off n).flatMap (fun x => slice (octetsOfLine (flashUnit s x.1)) x.2.1 x.2.2)

/-- Octets read from the flash, counted (R401). -/
def flashRead (s : State) (off n : Nat) : Octets × State := (flashPeek s off n, count s 0x7918 n)

/-- Octets put into the flash. -/
def flashPoke (s : State) (off : Nat) (o : Octets) : State :=
  ((spanLines off o.length).foldl (fun (x : State × Octets) p =>
    let l := octetsOfLine (flashUnit x.1 p.1)
    (setFlashUnit x.1 p.1 (lineOfOctets (l.take p.2.1 ++ x.2.take p.2.2 ++ l.drop (p.2.1 + p.2.2))), x.2.drop p.2.2)) (s, o)).1

/-- A region erased, `n` erase operations counted (R401). -/
def flashErase (s : State) (off len n : Nat) : State := count (flashPoke s off (List.replicate len 0xFF)) 0x7928 n

/-- Octets programmed, counted. -/
def flashProgram (s : State) (off : Nat) (o : Octets) : State := count (flashPoke s off o) 0x7920 o.length

/-- One unit whose contents a cut-off or failed operation leaves open. -/
def spoilUnit (s : State) (u : Nat) : State :=
  let d := (List.range 8).foldl (fun (x : Octets × State) _ =>
    let r := drawFree x.2
    (x.1 ++ leOctets 8 r.1.toNat, r.2)) ([], s)
  setFlashUnit d.2 u (lineOfOctets d.1)

/-- A region whose contents a cut-off or failed operation leaves open (log 4). -/
def flashSpoil (s : State) (off len : Nat) : State :=
  (List.range (ceilDiv len 64)).foldl (fun t i => spoilUnit t (off / 64 + i)) s

/-- A region of NVM_LAYOUT. -/
def nvmRegion (s : State) (kind : Nat) : Region :=
  (s.boot.regions.find? (fun r => decide (r.kind = kind))).getD { kind := kind, off := 0, len := 0 }

/-! ### The queue of flash users (R387) -/

/-- Precedence of an operation. -/
def NvmOp.rank : NvmOp → Nat
  | .window _ _ _ _ _ _ => 0
  | .stage => 2
  | .activate => 2
  | _ => 1

/-- An operation put behind those of its rank and before those of lower precedence. -/
def insertOp (op : NvmOp) : List NvmOp → List NvmOp
  | [] => [op]
  | x :: xs => if op.rank < x.rank then op :: x :: xs else x :: insertOp op xs

/-- An operation asked of the flash. The one in progress goes on, but for an erase that a window read suspends. -/
def nvmEnqueue (s : State) (op : NvmOp) : State :=
  match s.nvm.ops with
  | [] => { s with nvm := { s.nvm with ops := [op] } }
  | x :: xs =>
    if op.rank = 0 ∧ x.rank ≠ 0 ∧ s.nvm.eraseSuspend then
      { s with nvm := { s.nvm with ops := op :: x :: xs, suspended := true } }
    else { s with nvm := { s.nvm with ops := x :: insertOp op xs } }

/-- The operation in progress ended: the next user proceeds. -/
def nvmPop (s : State) : State :=
  let rest := s.nvm.ops.drop 1
  let goesOn := match rest with
    | x :: _ => decide (x.rank = 0)
    | [] => false
  { s with nvm := { s.nvm with ops := rest, suspended := s.nvm.suspended && goesOn } }

/-- The loader takes the 64 KiB buffer: copies of staging and activation that are not in progress leave the queue, and are asked for
again once the buffer is free (R253, R390). -/
def yieldBuffer (s : State) : State :=
  let n := if s.nvm.suspended then 2 else 1
  { s with nvm := { s.nvm with ops := s.nvm.ops.take n ++ (s.nvm.ops.drop n).filter (fun o => o.rank != 2) } }

/-- Operations dropped that a test picks. -/
def nvmDrop (s : State) (p : NvmOp → Bool) : State :=
  { s with nvm := { s.nvm with ops := s.nvm.ops.filter (fun o => !p o) } }

/-! ### The directory (R369, R370) -/

/-- Offset of the primary and of the mirror copy. -/
def dirOffset (mirror : Bool) : Nat := if mirror then 0x10000 else 0

/-- A directory copy's words 0 to 123. -/
def dirWords (d : Directory) : List W32 :=
  [0x52494453, field 32 0 16 1 ||| field 32 16 16 512, d.seq,
   field 32 0 2 d.update ||| flag 32 2 d.pair ||| field 32 3 2 d.trialBoots ||| flag 32 5 d.lastFallback]
    ++ d.slots.flatMap (fun x => [BitVec.ofNat 32 x.1, BitVec.ofNat 32 x.2])
    ++ [field 32 0 2 d.stage ||| flag 32 2 d.stageTest, BitVec.ofNat 32 d.stageStart, BitVec.ofNat 32 d.stageLength,
      d.keyStart, d.keyN, d.bundleSeq]
    ++ wordsOfOctets 12 (beOctets 48 d.bundleMeas.toNat) ++ [BitVec.ofNat 32 d.ringNext]

/-- A directory copy as it lies in flash: 512 octets. -/
def dirOctets (d : Directory) : Octets :=
  let body := padTo 496 (octetsOfWords (dirWords d))
  body ++ (sha384 body).take 16

/-- Whether two spans overlap. -/
def overlaps (a b : Nat × Nat) : Bool := decide (a.1 < b.1 + b.2 ∧ b.1 < a.1 + a.2)

/-- Whether no two spans of a list overlap. -/
def disjoint : List (Nat × Nat) → Bool
  | [] => true
  | a :: t => t.all (fun b => !overlaps a b) && disjoint t

/-- Sectors of the directory and of the debug certificate (R368, R448). -/
def fixedSectors : List (Nat × Nat) := [(0, 0x1000), (0x10000, 0x1000), (0x20000, 0x2000)]

/-- A directory copy read, where it is valid (R369, R448). -/
def dirParse (o : Octets) : Option Directory :=
  let w (i : Nat) : W32 := wordAt o (4 * i)
  let slots := (List.range 4).map (fun i => ((w (4 + 2 * i)).toNat, (w (5 + 2 * i)).toNat))
  let ok := decide (o.length = 512) && decide (w 0 = 0x52494453) && decide (w 1 = 0x02000001)
    && decide (o.drop 496 = (sha384 (o.take 496)).take 16) && slots.all (fun x => decide (x.1 % 4096 = 0))
    && disjoint (slots ++ fixedSectors) && decide (bits (w 3) 0 2 ≠ 3)
  if ok then
    some { seq := w 2, update := bits (w 3) 0 2, pair := bit (w 3) 2, trialBoots := bits (w 3) 3 2, lastFallback := bit (w 3) 5
           slots := slots, stage := bits (w 12) 0 2, stageTest := bit (w 12) 2, stageStart := (w 13).toNat
           stageLength := (w 14).toNat, keyStart := w 15, keyN := w 16, bundleSeq := w 17
           bundleMeas := BitVec.ofNat 384 (ofBe (slice o 72 48)), ringNext := (w 30).toNat }
  else none

/-- The directory in use. -/
def theDir (s : State) : Directory := s.boot.dir.getD {}

/-- The working copy changed, with a rewrite of both flash copies queued. -/
def changeDir (s : State) (use : DirUse) (f : Directory → Directory) : State :=
  let d := f (theDir s)
  nvmEnqueue { s with boot := { s.boot with dir := some d } } (.directory d use)

/-- Both copies rewritten with SEQ + 1, the lower one first. -/
def writeDir (s : State) (d : Directory) : State :=
  let d' := { d with seq := (theDir s).seq + 1 }
  let o := dirOctets d'
  let put (t : State) (m : Bool) : State := flashProgram (flashErase t (dirOffset m) 4096 1) (dirOffset m) o
  let s1 := put (put s true) false
  { s1 with boot := { s1.boot with dir := some { theDir s1 with seq := d'.seq } } }

/-- The copy that a change rewrites first: the one with the lower SEQ. -/
def firstCopy (s : State) : Bool :=
  match dirParse (flashPeek s 0 512), dirParse (flashPeek s 0x10000 512) with
  | some a, some b => decide (b.seq.toNat ≤ a.seq.toNat)
  | some _, none => true
  | none, _ => false

/-! ### The counter journal (R483) -/

/-- Octets 0 to 47 of a journal record. -/
def journalBody (s : State) (seq : W32) : Octets :=
  octetsOfWords [0x4E524A53, seq, s.vault.startCount, 0, nowWord s, BitVec.ofNat 32 (s.pace.now / 2 ^ 32), s.bg.restartsTotal,
    s.bg.lostTotal, s.bg.uncorrTotal, s.bg.repairsTotal, 0, 0]

/-- The tag of a record. -/
def journalTag (s : State) (body : Octets) : Octets :=
  (hmacSha384 (kdf (beOctets 32 s.keys.sealingRoot.toNat) (ascii "STB7 JOURNAL") [] 32) body).take 16

/-- Records that the ring holds. -/
def journalSlots (s : State) : Nat := (nvmRegion s 8).len / 64

/-- The next record: its place and octets; the ring moves on. Under a public root none is written. -/
def journalNext (s : State) : Option (Nat × Octets) × State :=
  if s.keys.root ≠ .bedrock ∨ journalSlots s = 0 then (none, s)
  else
    let seq := s.bg.journalSeq + 1
    let b := journalBody s seq
    (some ((nvmRegion s 8).off + 64 * s.bg.journalSlot, b ++ journalTag s b),
      { s with bg := { s.bg with journalSeq := seq, journalSlot := (s.bg.journalSlot + 1) % journalSlots s, journalAt := s.pace.now,
                                 journalDue := false } })

/-- A record written at its place; the sector is erased as it is entered. -/
def journalWrite (s : State) (off : Nat) (o : Octets) : State :=
  flashProgram (if off % 4096 = 0 then flashErase s off 4096 1 else s) off o

/-! ### Update events (R400) -/

/-- Events of `BUNDLE_EVENTS`. -/
inductive BundleEvent where
  | staged
  | aborted
  | fellBack (reason : Nat)
  | confirmed
  | nvmError
deriving DecidableEq, Repr

/-- An event recorded. -/
def bundleEvent (s : State) (e : BundleEvent) : State :=
  let b := { s.boot with seq := s.boot.seq + 1 }
  { s with boot := match e with
    | .staged => { b with staged := true }
    | .aborted => { b with aborted := true }
    | .fellBack r => { b with fellBack := true, eventReason := BitVec.ofNat 8 r }
    | .confirmed => { b with confirmed := true }
    | .nvmError => { b with nvmError := true } }

/-! ### Mileposts (R358 to R363) -/

/-- A milepost. -/
def milepost (s : State) (j : Nat) : Milepost := tget {} s.miles.posts j

/-- A milepost written. -/
def setMilepost (s : State) (j : Nat) (m : Milepost) : State :=
  { s with miles := { s.miles with posts := tset {} s.miles.posts j m } }

/-- A milepost's octets; a BROKEN one reads as zeros. -/
def mileOctets (m : Milepost) : Octets := if m.broken then List.replicate 48 0 else beOctets 48 m.value.toNat

/-- An event of `MP_EVENTS` recorded: FIXED, BROKE, REFUSED. -/
def mpEvent (s : State) (fixed broke refused : Bool) : State :=
  { s with miles := { s.miles with seq := s.miles.seq + 1, fixed := s.miles.fixed || fixed, broke := s.miles.broke || broke,
                                   refused := s.miles.refused || refused } }

/-- One extend performed: M := SHA-384(M ‖ d); a BROKEN milepost refuses it. Whether it was made. -/
def extendNow (s : State) (j : Nat) (d : Octets) : Bool × State :=
  let m := milepost s j
  if m.broken then (false, mpEvent s false false true)
  else
    let v := BitVec.ofNat 384 (ofBe (sha384 (beOctets 48 m.value.toNat ++ d)))
    (true, count (setMilepost s j { m with value := v, count := if m.count = 0xFFFFFFFF then m.count else m.count + 1 }) 0x7910 1)

/-- Extends of a start, performed in their order. -/
def extendAll (s : State) (xs : List (Nat × Octets)) : State := xs.foldl (fun t x => (extendNow t x.1 x.2).2) s

end Sys2Proof.Machine
end

