-- ==== Sys2Proof/Machine/Signing.lean ====
section
/-!
DEFINITION. The signature block and its checks (R238, R239), signing with values from the random source, and the device's own
identity and sheet keys (R279).
-/

namespace Sys2Proof.Machine

open Sys2Proof

/-- Octets of a signature block. -/
def sigLen : Nat := 7412

/-- The signer's digest: SHA-384 of octets 0 to 2,688 of a signature block. -/
def signerDigest (sig : Octets) : Octets := sha384 (sig.take 2689)

/-- Whether the ECDSA signature of a block verifies over a message. -/
def blockEcdsa (msg sig : Octets) : Bool := p384.verify (sig.take 97) (sha384 msg) (slice sig 2689 96)

/-- Whether the ML-DSA-87 signature of a block verifies over a message, in pure mode with an empty context string. -/
def blockMldsa (msg sig : Octets) : Bool := dsaVerify dsa87 (slice sig 97 2592) [] msg (slice sig 2785 4627)

/-- A signature block checked against the digests that may sign: 0x10 signer, 0x11 P-384, 0x12 ML-DSA-87, or nothing. -/
def blockFails (signers : List Octets) (msg sig : Octets) : Option Nat :=
  if sig.length ≠ sigLen ∨ !signers.contains (signerDigest sig) then some 0x10
  else if !blockEcdsa msg sig then some 0x11
  else if !blockMldsa msg sig then some 0x12
  else none

/-- Octets that the digest cores absorb for the block itself, with their switches and paces, charged to a lane. The spec states no amounts:
each is a free value (R123, R340, R367; log 57, 58). -/
def ownDigest (s : State) (lane : Nat) : State :=
  let (n, s1) := drawFree s
  let (w, s2) := drawFree s1
  let (p, s3) := drawFree s2
  let s4 := count (count s3 0x7900 n.toNat) 0x7908 w.toNat
  chargeEnergy (count s4 (0x7018 + 32 * lane) p.toNat) lane (ceilDiv n.toNat 64 * digestUnit s4)

/-- Engine jobs of the block's own that ended DONE and that failed (R338), with what the cores absorb for them; the paces in which they hold
the lanes are a free value, charged with their energy (R123, R125; log 57). -/
def ownRns (s : State) (lane : Nat) (n : Nat × Nat) : State :=
  let (p, s1) := drawFree (ownDigest (count (count s 0x78D8 n.1) 0x78E0 n.2) lane)
  chargePaces (count s1 0x78F8 p.toNat) lane (rnsUnit s1) p.toNat

/-- An event of `RNS_EVENTS` recorded. -/
def rnsEvent (s : State) (f : Rns → Rns) : State :=
  let r := f s.rns
  { s with rns := { r with seq := s.rns.seq + 1 } }

/-- The program that serves a job (R313). -/
def programOf (op set : Nat) : Nat :=
  if set ≤ 1 then 3 * set + (op - 0x401) + 1
  else if set ≤ 3 then 2 * (set - 2) + (op - 0x404) + 7
  else 3 * (set - 4) + (op - 0x406) + 11

/-- A result that failed the engine's own check: counted, with its event and its notice (R322). -/
def selfcheckFails (s : State) (program : Nat) : State :=
  faultNotice (rnsEvent (count s 0x78F0 1) (fun r => { r with selfcheck := true })) 0x07 none 0 program

/-- The engine jobs that the check of a signature block takes. -/
def blockJobs (signers : List Octets) (msg sig : Octets) : Nat × Nat :=
  match blockFails signers msg sig with
  | none => (2, 0)
  | some 0x11 => (0, 1)
  | some 0x12 => (1, 1)
  | some _ => (0, 0)

/-! ### Values from the random source -/

/-- `n` octets from the random source, at most 64. -/
def drawOctets (s : State) (n : Nat) : Octets × State :=
  let (v, s1) := drawRandom s
  ((beOctets 64 v.toNat).take n, s1)

/-- A scalar from 1 to n − 1 by rejection (FIPS 186-5); after 64 draws that were all rejected, by the reduction of one more (DESIGN CHOICE,
log 152). -/
def drawScalar (c : Curve) : Nat → State → Nat × State
  | 0, s => let (o, s1) := drawOctets s 64; (1 + ofBe o % (c.n - 1), s1)
  | f + 1, s =>
    let (o, s1) := drawOctets s c.len
    let k := ofBe o
    if 1 ≤ k ∧ k < c.n then (k, s1) else drawScalar c f s1

/-- An ECDSA signature over a digest with its iterations; a zero part draws again, and 256 draws end without one (R321). -/
def ecdsaSign (c : Curve) (d : Nat) (h : Octets) : Nat → Nat → State → Option (Octets × Nat) × State
  | 0, _, s => (none, s)
  | f + 1, n, s =>
    let (k, s1) := drawScalar c 64 s
    match c.signWith d k h with
    | some sig => (some (sig, n + 1), s1)
    | none => ecdsaSign c d h f (n + 1) s1

/-- A hedged ML-DSA signature over a message with its iterations. -/
def mldsaSign (m : DsaSet) (xi ctx msg : Octets) (s : State) : Option (Octets × Nat) × State :=
  let (rnd, s1) := drawOctets s 32
  (dsaSign m xi ctx msg rnd, s1)

/-! ### Identity and sheet keys (R279) -/

/-- The P-384 identity scalar. -/
def idScalar (s : State) : Nat := p384.scalar (idk s (ascii "STB7 ID P384") 56)
/-- The seed of the ML-DSA-87 identity. -/
def idXi (s : State) : Octets := idk s (ascii "STB7 ID MLDSA87") 32
/-- The seed of the ML-KEM-1024 device key. -/
def idKem (s : State) : Octets := idk s (ascii "STB7 ID MLKEM1024") 64

/-- The identity public keys: P-384, ML-DSA-87, ML-KEM-1024. -/
def idPublic (s : State) (sel : Nat) : Octets :=
  if sel = 0 then p384.public (idScalar s) else if sel = 1 then dsaPublic dsa87 (idXi s) else kemPublic kem1024 (idKem s)

/-- The three identity public keys in order. -/
def idPublics (s : State) : Octets := idPublic s 0 ++ idPublic s 1 ++ idPublic s 2

/-- IDENTITY_DIGEST. -/
def identityDigest (s : State) : Octets := sha384 (idPublics s)

/-- What a sheet key's label ends with. -/
def sheetLabel (s : State) (l : Nat) : Octets := BitVec.ofNat 8 l :: beOctets 4 (laneAt s l).gen.toNat
/-- A lane's P-384 sheet scalar. -/
def sheetScalar (s : State) (l : Nat) : Nat := p384.scalar (idk s (ascii "STB7 SHEET P384" ++ sheetLabel s l) 56)
/-- The seed of a lane's ML-DSA-65 sheet key. -/
def sheetXi (s : State) (l : Nat) : Octets := idk s (ascii "STB7 SHEET MLDSA65" ++ sheetLabel s l) 32
/-- A lane's sheet public keys. -/
def sheetPublic (s : State) (l sel : Nat) : Octets :=
  if sel = 0 then p384.public (sheetScalar s l) else dsaPublic dsa65 (sheetXi s l)

end Sys2Proof.Machine
end

