-- ==== Sys2Proof/Machine/Cose.lean ====
section
/-!
DEFINITION. COSE_Sign objects with two signatures (R269, R406): building, signing, reading and verifying.
-/

namespace Sys2Proof.Machine

open Sys2Proof

/-- Algorithm values: ES384, ML-DSA-65, ML-DSA-87 (R406). -/
def algEs384 : Int := -35
/-- ML-DSA-65 -/
def algDsa65 : Int := -70065
/-- ML-DSA-87 -/
def algDsa87 : Int := -70087

/-- A body protected header with a content type. -/
def coseBody (typ : String) : Octets := cborMap [(cborUint 3, cborText typ)]

/-- A signature's protected header. -/
def coseAlg (alg : Int) : Octets := cborMap [(cborUint 1, cborInt alg)]

/-- The octets that a signature of a COSE_Sign object covers (RFC 9052). -/
def toBeSigned (body : Octets) (alg : Int) (payload : Octets) : Octets :=
  cborArray [cborText "Signature", cborBytes body, cborBytes (coseAlg alg), cborBytes [], cborBytes payload]

/-- A tagged COSE_Sign object. -/
def coseObject (body payload : Octets) (sigs : List (Int × Octets)) : Octets :=
  cborTag 98 (cborArray [cborBytes body, cborMap [], cborBytes payload,
    cborArray (sigs.map (fun x => cborArray [cborBytes (coseAlg x.1), cborMap [], cborBytes x.2]))])

/-- The keys of a signer: a P-384 scalar, and an ML-DSA set with its seed and algorithm value. -/
structure SignKeys where
  d : Nat
  set : DsaSet
  xi : Octets
  alg : Int
  /-- the lane whose work a signature is (R124) -/
  lane : Nat
deriving DecidableEq, Repr

/-- A device's identity keys. -/
def idSignKeys (s : State) (lane : Nat) : SignKeys := { d := idScalar s, set := dsa87, xi := idXi s, alg := algDsa87, lane := lane }
/-- A lane's sheet keys. -/
def sheetSignKeys (s : State) (l : Nat) : SignKeys := { d := sheetScalar s l, set := dsa65, xi := sheetXi s l, alg := algDsa65, lane := l }

/-- One signature of the block's own checked by the engine (R322): the signature where it stands. -/
def ownSigned (s : State) (lane program : Nat) (g : Option Octets) (verifies : Octets → Bool) : Option Octets × State :=
  match g with
  | none => (none, ownRns s lane (0, 1))
  | some o => if verifies o then (some o, ownRns s lane (1, 0)) else (none, selfcheckFails (ownRns s lane (0, 1)) program)

/-- A payload signed with both keys; both signatures are verified before the object is given out (R269, R322, R406). -/
def coseSign (s : State) (k : SignKeys) (typ : String) (payload : Octets) : Option Octets × State :=
  let body := coseBody typ
  let t1 := toBeSigned body algEs384 payload
  let t2 := toBeSigned body k.alg payload
  let (e, s1) := ecdsaSign p384 k.d (sha384 t1) 256 0 s
  let (m, s2) := mldsaSign k.set k.xi [] t2 s1
  let (a, s3) := ownSigned s2 k.lane (programOf 0x401 1) (e.map Prod.fst) (p384.verify (p384.public k.d) (sha384 t1))
  let (b, s4) := ownSigned s3 k.lane (programOf 0x404 (if k.set = dsa65 then 2 else 3)) (m.map Prod.fst)
    (dsaVerify k.set (dsaPublic k.set k.xi) [] t2)
  match a, b with
  | some a, some b => (some (coseObject body payload [(algEs384, a), (k.alg, b)]), s4)
  | _, _ => (none, s4)

/-- A COSE_Sign object read: body protected header, payload, and its two signatures with their protected headers. -/
structure CoseRead where
  body : Octets
  payload : Octets
  sigs : List (Octets × Octets)
deriving DecidableEq, Repr

/-- One signature of an object. -/
def coseReadSig : Cbor → Option (Octets × Octets)
  | .array [.bytes p, .map [], .bytes g] => some (p, g)
  | _ => none

/-- A tagged COSE_Sign object read. -/
def coseRead (o : Octets) : Option CoseRead :=
  match cborDecode o with
  | some (.tag 98 (.array [.bytes b, .map [], .bytes p, .array l])) =>
    let g := l.map coseReadSig
    if g.all Option.isSome then some { body := b, payload := p, sigs := g.map (fun x => x.getD ([], [])) } else none
  | _ => none

/-- Whether an object of a content type carries exactly the two identity signatures, and both verify. -/
def coseVerifies (c : CoseRead) (typ : String) (p384Key dsaKey : Octets) : Bool :=
  match c.sigs with
  | [(a, e), (b, m)] =>
    decide (c.body = coseBody typ ∧ a = coseAlg algEs384 ∧ b = coseAlg algDsa87)
      && p384.verify p384Key (sha384 (toBeSigned c.body algEs384 c.payload)) e
      && dsaVerify dsa87 dsaKey [] (toBeSigned c.body algDsa87 c.payload) m
  | _ => false

end Sys2Proof.Machine
end

