-- ==== Sys2Proof/Machine/Inflate.lean ====
section
/-!
DEFINITION. The inflater (R248): raw RFC 1951 streams with stored, fixed-Huffman and dynamic-Huffman blocks, and the reasons for
which a tensor's stream is rejected.
-/

namespace Sys2Proof.Machine

open Sys2Proof

/-- Reasons of R248: 0x30 invalid, 0x31 short, 0x32 excess, 0x33 a distance before the first byte. -/
inductive InflateBad where
  | invalid
  | short
  | excess
  | distance
deriving DecidableEq, Repr

/-- The reason code. -/
def InflateBad.code : InflateBad → Nat
  | .invalid => 0x30
  | .short => 0x31
  | .excess => 0x32
  | .distance => 0x33

/-- The input as bits, least significant first. -/
def streamBits (o : Octets) : List Bool := o.flatMap (fun b => (List.range 8).map (fun i => b.getLsbD i))

/-- `n` bits read as a number, least significant first. -/
def takeBits : Nat → List Bool → Option (Nat × List Bool)
  | 0, l => some (0, l)
  | _ + 1, [] => none
  | n + 1, b :: t => (takeBits n t).map (fun r => (b.toNat + 2 * r.1, r.2))

/-- Numbers of codes of each length 0 to 15. -/
def codeCounts (lens : List Nat) : List Nat := (List.range 16).map (fun k => lens.count k)

/-- Symbols in canonical order: by length, then by value. -/
def codeSymbols (lens : List Nat) : List Nat :=
  (List.range 15).flatMap (fun k => (lens.zipIdx.filter (fun x => decide (x.1 = k + 1))).map Prod.snd)

/-- Codes left over: negative where over-subscribed, 0 where complete. -/
def codesLeft (lens : List Nat) : Int :=
  ((codeCounts lens).drop 1).foldl (fun (left : Int) (n : Nat) => 2 * left - n) 1

/-- A Huffman code. -/
structure HuffCode where
  counts : List Nat
  syms : List Nat
deriving DecidableEq, Repr

/-- A code from its lengths. -/
def huffOf (lens : List Nat) : HuffCode := { counts := (codeCounts lens).drop 1, syms := codeSymbols lens }

/-- Whether lengths make a usable code: complete, or a single code of one bit. -/
def huffOk (lens : List Nat) : Bool :=
  let left := codesLeft lens
  if left < 0 then false
  else if left = 0 then true
  else decide (lens.length = (codeCounts lens).getD 0 0 + (codeCounts lens).getD 1 0)

/-- One symbol: `code` read so far, `first` the first code of its length, `index` where its symbols begin. -/
def huffSymbol (syms : List Nat) : List Nat → Nat → Nat → Nat → List Bool → Except InflateBad (Nat × List Bool)
  | [], _, _, _, _ => .error .invalid
  | _ :: _, _, _, _, [] => .error .short
  | n :: ns, code, first, index, b :: t =>
    let c := code + b.toNat
    if c < first + n then .ok (syms.getD (index + (c - first)) 0, t)
    else huffSymbol syms ns (2 * c) (2 * (first + n)) (index + n) t

/-- One symbol of a code. -/
def HuffCode.read (h : HuffCode) (l : List Bool) : Except InflateBad (Nat × List Bool) := huffSymbol h.syms h.counts 0 0 0 l

/-- Bases and extra bits of length symbols 257 to 285. -/
def lengthBase : List Nat := [3, 4, 5, 6, 7, 8, 9, 10, 11, 13, 15, 17, 19, 23, 27, 31, 35, 43, 51, 59, 67, 83, 99, 115, 131, 163, 195, 227, 258]
/-- Extra bits of length symbols. -/
def lengthExtra : List Nat := [0, 0, 0, 0, 0, 0, 0, 0, 1, 1, 1, 1, 2, 2, 2, 2, 3, 3, 3, 3, 4, 4, 4, 4, 5, 5, 5, 5, 0]
/-- Bases of distance symbols 0 to 29. -/
def distBase : List Nat := [1, 2, 3, 4, 5, 7, 9, 13, 17, 25, 33, 49, 65, 97, 129, 193, 257, 385, 513, 769, 1025, 1537, 2049, 3073, 4097,
  6145, 8193, 12289, 16385, 24577]
/-- Extra bits of distance symbols. -/
def distExtra : List Nat := [0, 0, 0, 0, 1, 1, 2, 2, 3, 3, 4, 4, 5, 5, 6, 6, 7, 7, 8, 8, 9, 9, 10, 10, 11, 11, 12, 12, 13, 13]

/-- A run of bytes copied from `d` back; the output is kept last byte first. -/
def copyBack (d : Nat) : Nat → Octets → Octets
  | 0, out => out
  | n + 1, out => copyBack d n (out.getD (d - 1) 0 :: out)

/-- A failure of a stream with the number of bytes produced before it. -/
abbrev InflateErr := InflateBad × Nat

/-- What runs out when the input ends: short, or excess once every byte is produced. -/
def endOfInput (usize produced : Nat) : InflateErr := (if usize ≤ produced then .excess else .short, produced)

/-- A failure seen with a number of bytes produced. -/
def atEnd (usize produced : Nat) : InflateBad → InflateErr
  | .short => endOfInput usize produced
  | b => (b, produced)

/-- The symbols of one compressed block; fuel bounds their number. -/
def inflateCodes (usize : Nat) (lit dist : HuffCode) : Nat → List Bool → Octets → Nat → Except InflateErr (List Bool × Octets × Nat)
  | 0, _, _, n => .error (endOfInput usize n)
  | f + 1, l, out, n =>
    match lit.read l with
    | .error b => .error (atEnd usize n b)
    | .ok (sym, l1) =>
      if sym = 256 then .ok (l1, out, n)
      else if sym < 256 then
        if usize ≤ n then .error (.excess, n)
        else inflateCodes usize lit dist f l1 (BitVec.ofNat 8 sym :: out) (n + 1)
      else if 285 < sym then .error (.invalid, n)
      else match takeBits (lengthExtra.getD (sym - 257) 0) l1 with
        | none => .error (endOfInput usize n)
        | some (x, l2) =>
          let len := lengthBase.getD (sym - 257) 0 + x
          match dist.read l2 with
          | .error b => .error (atEnd usize n b)
          | .ok (ds, l3) =>
            if 29 < ds then .error (.invalid, n)
            else match takeBits (distExtra.getD ds 0) l3 with
              | none => .error (endOfInput usize n)
              | some (y, l4) =>
                let d := distBase.getD ds 0 + y
                if n < d then .error (.distance, n)
                else if usize < n + len then .error (.excess, n)
                else inflateCodes usize lit dist f l4 (copyBack d len out) (n + len)

/-- Lengths of the fixed literal code. -/
def fixedLit : List Nat := List.replicate 144 8 ++ List.replicate 112 9 ++ List.replicate 24 7 ++ List.replicate 8 8
/-- Lengths of the fixed distance code. -/
def fixedDist : List Nat := List.replicate 30 5

/-- Order of the code length code's lengths. -/
def clOrder : List Nat := [16, 17, 18, 0, 8, 7, 9, 6, 10, 5, 11, 4, 12, 3, 13, 2, 14, 1, 15]

/-- `n` three-bit lengths read. -/
def readCl : Nat → List Bool → Option (List Nat × List Bool)
  | 0, l => some ([], l)
  | n + 1, l => match takeBits 3 l with
    | none => none
    | some (v, l1) => (readCl n l1).map (fun r => (v :: r.1, r.2))

/-- Code lengths of a dynamic block, run-length coded. -/
def readLens (cl : HuffCode) : Nat → Nat → List Bool → List Nat → Except InflateBad (List Nat × List Bool)
  | 0, _, _, _ => .error .invalid
  | f + 1, total, l, acc =>
    if total ≤ acc.length then (if acc.length = total then .ok (acc, l) else .error .invalid)
    else match cl.read l with
      | .error b => .error b
      | .ok (sym, l1) =>
        if sym < 16 then readLens cl f total l1 (acc ++ [sym])
        else
          let spec : Nat × Nat := if sym = 16 then (2, 3) else if sym = 17 then (3, 3) else (7, 11)
          if sym = 16 ∧ acc.isEmpty then .error .invalid
          else match takeBits spec.1 l1 with
            | none => .error .short
            | some (x, l2) =>
              readLens cl f total l2 (acc ++ List.replicate (spec.2 + x) (if sym = 16 then acc.getLastD 0 else 0))

/-- The two codes of a dynamic block. -/
def readDynamic (l : List Bool) : Except InflateBad (HuffCode × HuffCode × List Bool) :=
  match takeBits 14 l with
  | none => .error .short
  | some (h, l1) =>
    let nlen := h % 32 + 257
    let ndist := h / 32 % 32 + 1
    let ncode := h / 1024 % 16 + 4
    if 286 < nlen ∨ 30 < ndist then .error .invalid
    else match readCl ncode l1 with
      | none => .error .short
      | some (cs, l2) =>
        let cl := (clOrder.zip cs).foldl (fun t p => t.set p.1 p.2) (List.replicate 19 0)
        if codesLeft cl ≠ 0 then .error .invalid
        else match readLens (huffOf cl) 320 (nlen + ndist) l2 [] with
          | .error b => .error b
          | .ok (lens, l3) =>
            let lit := lens.take nlen
            let dist := lens.drop nlen
            if lit.getD 256 0 = 0 ∨ !huffOk lit ∨ !huffOk dist then .error .invalid
            else .ok (huffOf lit, huffOf dist, l3)

/-- A stored block: its octets follow at the next octet boundary. -/
def inflateStored (usize : Nat) (l : List Bool) (out : Octets) (n : Nat) : Except InflateErr (List Bool × Octets × Nat) :=
  let l0 := l.drop (l.length % 8)
  match takeBits 32 l0 with
  | none => .error (endOfInput usize n)
  | some (h, l1) =>
    let len := h % 65536
    if h / 65536 ≠ 65535 - len then .error (.invalid, n)
    else if usize < n + len then .error (.excess, n)
    else if l1.length < 8 * len then .error (endOfInput usize n)
    else
      let os := (List.range len).map (fun i => BitVec.ofNat 8 (((takeBits 8 (l1.drop (8 * i))).map Prod.fst).getD 0))
      .ok (l1.drop (8 * len), os.reverse ++ out, n + len)

/-- The blocks of a stream up to its final one. -/
def inflateBlocks (usize : Nat) : Nat → List Bool → Octets → Nat → Except InflateErr (List Bool × Octets × Nat)
  | 0, _, _, n => .error (endOfInput usize n)
  | f + 1, l, out, n =>
    match takeBits 3 l with
    | none => .error (endOfInput usize n)
    | some (h, l1) =>
      let r : Except InflateErr (List Bool × Octets × Nat) :=
        if h / 2 = 0 then inflateStored usize l1 out n
        else if h / 2 = 1 then inflateCodes usize (huffOf fixedLit) (huffOf fixedDist) (l1.length + 1) l1 out n
        else if h / 2 = 2 then (match readDynamic l1 with
          | .error b => .error (atEnd usize n b)
          | .ok (lit, dist, l2) => inflateCodes usize lit dist (l2.length + 1) l2 out n)
        else .error (.invalid, n)
      match r with
      | .error b => .error b
      | .ok (l2, out2, n2) => if h % 2 = 1 then .ok (l2, out2, n2) else inflateBlocks usize f l2 out2 n2

/-- A tensor's DEFLATE stream inflated to exactly `usize` bytes (R248). -/
def inflate (o : Octets) (usize : Nat) : Except InflateErr Octets :=
  let l := streamBits o
  match inflateBlocks usize (l.length + 1) l [] 0 with
  | .error b => .error b
  | .ok (rest, out, n) =>
    if n < usize then .error (.short, n)
    else if 8 ≤ rest.length then .error (.excess, n)
    else .ok out.reverse

end Sys2Proof.Machine
end

