-- ==== Sys2Proof/Machine/Keys.lean ====
section
/-!
DEFINITION. The key services that need no engine (R280, R284, R285, R287 to R300, R305): handles, public keys, the key store image,
key update messages, certificates, monotonic counters, the refresh of the shares.
-/

namespace Sys2Proof.Machine

open Sys2Proof

/-- Key status codes (R306). -/
def stKeyHandle : BitVec 8 := 0x38
/-- KEY_FORMAT -/
def stKeyFormat : BitVec 8 := 0x39
/-- KEY_IDENTITY -/
def stKeyIdentity : BitVec 8 := 0x3A
/-- KEY_SIGNATURE -/
def stKeySignature : BitVec 8 := 0x3B
/-- KEY_COUNTER -/
def stKeyCounter : BitVec 8 := 0x3C
/-- KEY_STATE -/
def stKeyState : BitVec 8 := 0x3D
/-- ENROLL_EXHAUSTED -/
def stEnrollExhausted : BitVec 8 := 0x3E
/-- KEY_MONO -/
def stKeyMono : BitVec 8 := 0x3F

/-! ### Key types (R289) -/

/-- Stored octets of a type. -/
def typeOctets (t : Nat) : Nat :=
  if t = 1 then 32 else if t = 2 then 48 else if t = 3 then 32 else if t = 4 then 48 else if t = 5 then 64
  else if t = 6 then 64 else if t = 7 then 32 else if t = 8 then 32 else 0

/-- Whether a TYPE is one that R289 lists. -/
def isType (t : Nat) : Bool := decide (1 ≤ t ∧ t ≤ 8)

/-- Whether material is well formed: a stored scalar lies from 1 to n − 1. -/
def materialOk (t : Nat) (m : Octets) : Bool :=
  let d := ofBe m
  decide (m.length = typeOctets t) &&
    (if t = 3 then decide (1 ≤ d ∧ d < p256.n) else if t = 4 then decide (1 ≤ d ∧ d < p384.n) else true)

/-- A derived key's material: drawn from the lane key and converted (R278, R289). -/
def derivedMaterial (s : State) (l t : Nat) (label : Octets) : Octets :=
  let n := if t = 3 then 40 else if t = 4 then 56 else typeOctets t
  let c := kdf (keyOctets (tget 0 s.keys.laneKeys l)) (ascii "STB7 DERIVED")
    (BitVec.ofNat 8 l :: beOctets 4 (laneAt s l).gen.toNat ++ [BitVec.ofNat 8 t] ++ label) n
  if t = 3 then beOctets 32 (p256.scalar c) else if t = 4 then beOctets 48 (p384.scalar c) else c

/-- The public key of asymmetric material; nothing for a symmetric type. -/
def publicOf (t : Nat) (m : Octets) : Option Octets :=
  if t = 3 then some (p256.public (ofBe m)) else if t = 4 then some (p384.public (ofBe m))
  else if t = 5 then some (kemPublic kem768 m) else if t = 6 then some (kemPublic kem1024 m)
  else if t = 7 then some (dsaPublic dsa65 m) else if t = 8 then some (dsaPublic dsa87 m)
  else none

/-! ### The key store (R287, R288) -/

/-- A slot of the key store. -/
def slotAt (s : State) (i : Nat) : StoreSlot := tget {} s.keys.store i

/-- Whether a waiting rewrite empties a slot. -/
def rewriteEmpties (v : StoreSlot) (i : Nat) : Rewrite → Bool
  | .update j n _ _ _ => decide (i = j) && !n.valid
  | .destroySlot j _ => decide (i = j)
  | .destroyLane l _ => decide (v.lane = l)
  | .laneReleased l => decide (v.lane = l)

/-- Whether a slot holds a key that no waiting rewrite destroys (R295). -/
def slotLive (s : State) (i : Nat) : Bool :=
  let v := slotAt s i
  v.valid && !s.keys.rewrites.any (rewriteEmpties v i)

/-- A slot emptied; its VERSION increments where a message removes it. -/
def emptySlot (v : StoreSlot) (bump : Nat) : StoreSlot := { version := v.version + BitVec.ofNat 32 bump }

/-- The store after a rewrite. -/
def rewritten (t : Table StoreSlot) : Rewrite → Table StoreSlot
  | .update i n _ _ _ => tset {} t i n
  | .destroySlot i _ => tset {} t i (emptySlot (tget {} t i) 0)
  | .destroyLane l _ => t.foldl (fun u e => if e.2.valid ∧ e.2.lane = l then tset {} u e.1 (emptySlot e.2 0) else u) t
  | .laneReleased l => t.foldl (fun u e => if e.2.valid ∧ e.2.lane = l then tset {} u e.1 (emptySlot e.2 0) else u) t

/-- A record of the image: 80 octets. -/
def storeRecord (v : StoreSlot) : Octets :=
  (if v.valid then 1 else 0) :: BitVec.ofNat 8 v.lane :: BitVec.ofNat 8 v.typ :: 0 :: beOctets 4 v.version.toNat
    ++ List.replicate 8 0 ++ padTo 64 v.material

/-- The image header: MAGIC, STORE_GEN, the count of valid slots, a reserved word. -/
def storeHeader (gen : W32) (t : Table StoreSlot) : Octets :=
  octetsOfWords [0x54534B53, gen, BitVec.ofNat 32 (tcount t (fun _ v => v.valid)), 0]

/-- The seal key of a store generation (R278). -/
def storeKey (s : State) (gen : W32) : Octets :=
  kdf (keyOctets s.keys.sealingRoot) (ascii "STB7 KEYSTORE") (beOctets 4 gen.toNat) 32

/-- The sealed image of 20,512 octets. -/
def storeImage (s : State) (gen : W32) (t : Table StoreSlot) : Octets :=
  let h := storeHeader gen t
  let x := gcmSeal (storeKey s gen) (List.replicate 12 0) h ((List.range 256).flatMap (fun i => storeRecord (tget {} t i)))
  h ++ x.1 ++ x.2

/-- A record read. -/
def recordSlot (o : Octets) : StoreSlot :=
  let t := (o.getD 2 0).toNat
  let valid := bit (o.getD 0 0) 0
  { valid := valid, lane := (o.getD 1 0).toNat, typ := t, version := BitVec.ofNat 32 (ofBe (slice o 4 4))
    material := if valid then slice o 16 (typeOctets t) else [] }

/-- A region's image unsealed, where it carries the vault's STORE_GEN and its tag verifies (R287). -/
def unsealStore (s : State) (o : Octets) : Option (Table StoreSlot) :=
  if wordAt o 0 ≠ 0x54534B53 ∨ wordAt o 4 ≠ s.vault.storeGen then none
  else match gcmOpen (storeKey s s.vault.storeGen) (List.replicate 12 0) (o.take 16) (slice o 16 20480) (slice o 20496 16) with
    | none => none
    | some p => some ((List.range 256).foldl (fun t i => tset {} t i (recordSlot (slice p (80 * i) 80))) [])

/-- An event of `KEY_EVENTS` recorded. -/
def keyEvent (s : State) (f : Keys → Keys) : State :=
  let k := f s.keys
  { s with keys := { k with seq := s.keys.seq + 1 } }

/-! ### Handles (R284, R285) -/

/-- Whether a handle's key has other inputs now than at its open. -/
def handleStale (s : State) (h : Handle) : Bool :=
  h.stale ||
  (if h.kind = 1 ∨ h.kind = 7 then false
   else decide (h.laneGen ≠ (laneAt s h.lane).gen) ||
     (if h.kind = 3 then
        let v := ctxAt s h.name.toNat
        decide (v.epoch ≠ h.epoch ∨ v.keyGen ≠ h.keyGen) || v.state != .active
      else if h.kind = 5 then !slotLive s h.name.toNat || decide ((slotAt s h.name.toNat).version ≠ h.version)
      else false))

/-- A handle that is stale now stays so until it is closed (R285). -/
def staysStale (s : State) : State :=
  { s with keys := { s.keys with handles := s.keys.handles.map (fun e => (e.1, { e.2 with stale := handleStale s e.2 })) } }

/-- A rewrite asked for: its image is written once the inactive region is erased. The handles of keys that it destroys are stale from
here on, whatever becomes of it (R295). -/
def askRewrite (s : State) (r : Rewrite) : State :=
  let first := s.keys.rewrites.isEmpty
  let s1 := staysStale { s with keys := { s.keys with rewrites := s.keys.rewrites ++ [r] } }
  if first && s1.keys.inactiveErased then nvmEnqueue s1 .store else s1

/-- The handle word of an entry. -/
def handleWord (s : State) (i : Nat) : W32 := field 32 0 9 i ||| field 32 16 16 (tget 0 s.keys.uses i).toNat

/-- The live entry that a handle word names. -/
def handleOf (s : State) (w : W32) : Option (Nat × Handle) :=
  let i := bits w 0 9
  match tfind s.keys.handles i with
  | some h => if w = handleWord s i then some (i, h) else none
  | none => none

/-- An entry freed: its USE increments. -/
def freeHandle (s : State) (i : Nat) : State :=
  { s with keys := { s.keys with handles := tdel s.keys.handles i, uses := tset 0 s.keys.uses i (tget 0 s.keys.uses i + 1) } }

/-- Every entry of a lane freed, as it reaches CLOSED. -/
def freeLaneHandles (s : State) (l : Nat) : State :=
  (tkeys s.keys.handles (fun _ h => decide (h.lane = l) && !(decide (h.kind = 1 ∨ h.kind = 7)))).foldl freeHandle s

/-- A handle for a service: the entry, or the status of the refusal (R284, R285). -/
def useHandle (s : State) (k : Call) (w : W32) : Except (BitVec 8) (Nat × Handle) :=
  match handleOf s w with
  | none => .error stKeyHandle
  | some (i, h) =>
    if !k.owner ∧ h.lane ≠ k.lane then .error stDenied
    else .ok (i, h)

/-- First line of the key area (R287). -/
def keyArea (s : State) : Nat := 64 * bits (fixedReg s 0x2020) 0 24

/-- A stored key's material read from the key store image in the key area, under CTX 0 (R286, R287). -/
def storedMaterial (s : State) (i : Nat) : Except BadLine Octets × State :=
  let start := 16 + 80 * i
  match ownRead s (keyArea s + start / 64) (start % 64 + 80) with
  | (.ok o, s1) => (.ok (recordSlot (o.drop (start % 64))).material, s1)
  | (.error b, s1) => (.error b, s1)

/-- The material of a keyed handle: STORED or DERIVED (R286). -/
def handleMaterial (s : State) (h : Handle) : Except BadLine Octets × State :=
  if h.kind = 5 then storedMaterial s h.name.toNat else (.ok (derivedMaterial s h.lane h.typ h.label), s)

/-- A stage of use of the material: what it is put to, or what a line that cannot be read comes to. -/
def withMaterial (s : State) (h : Handle) (bad : State → State) (f : Octets → State → State) : State :=
  match handleMaterial s h with
  | (.ok m, s1) => f m s1
  | (.error _, s1) => bad s1

/-- Entries that count against a lane; the owner's count against lane 0. -/
def handlesOf (s : State) (l : Nat) : Nat := tcount s.keys.handles (fun _ h => decide ((if h.owners then 0 else h.lane) = l))

/-- What a KEY_HANDLE_OPEN would open, or the status of its refusal. -/
def handleFor (s : State) (k : Call) : Except (BitVec 8) Handle :=
  let kind := bits (k.word 0) 0 4
  let lane := bits (k.word 0) 16 6
  let w := k.word 1
  let label := (List.range 4).flatMap (fun i => beOctets 4 (k.word (2 + i)).toNat)
  let base : Handle :=
    { kind := kind, lane := lane, name := w, typ := 0, label := [], laneGen := (laneAt s lane).gen, epoch := 0, keyGen := 0
      version := 0, stale := false, owners := k.owner }
  let foreign (l : Nat) : Bool := !k.owner && decide (l ≠ k.lane)
  if kind ≠ 4 ∧ label.any (fun b => decide (b ≠ 0)) then .error stBadField
  else if kind = 1 ∨ kind = 7 then
    if !k.owner then .error stNotOwner
    else if (if kind = 7 then 3 ≤ w.toNat else w.toNat ≠ 0) then .error stBadField
    else .ok { base with lane := 0, laneGen := if kind = 1 then (vaultView s).realmEpoch else 0 }
  else if kind = 2 then
    if w ≠ 0 then .error stBadField else if foreign lane then .error stDenied else .ok base
  else if kind = 3 then
    let v := ctxAt s w.toNat
    if 16384 ≤ w.toNat then .error stBadField
    else if foreign v.lane.toNat then .error stDenied
    else if v.state ≠ .active then .error stCtxState
    else .ok { base with lane := v.lane.toNat, laneGen := (laneAt s v.lane.toNat).gen, epoch := v.epoch, keyGen := v.keyGen }
  else if kind = 4 then
    if 256 ≤ w.toNat ∨ !isType w.toNat then .error stBadField
    else if foreign lane then .error stDenied
    else .ok { base with typ := w.toNat, label := label }
  else if kind = 5 then
    let v := slotAt s w.toNat
    if 256 ≤ w.toNat then .error stBadField
    else if !slotLive s w.toNat then .error stKeyHandle
    else if foreign v.lane then .error stDenied
    else .ok { base with lane := v.lane, laneGen := (laneAt s v.lane).gen, typ := v.typ, version := v.version }
  else if kind = 6 then
    if 2 ≤ w.toNat then .error stBadField else if foreign lane then .error stDenied else .ok base
  else .error stBadField

/-- KEY_HANDLE_OPEN's effect. -/
def handleOpen (k : Call) (s : State) : State :=
  if !fieldsOk k [0x003F000F] then reply s k stBadField []
  else match handleFor s k with
    | .error st => reply s k st []
    | .ok h =>
      let l := if h.owners then 0 else h.lane
      let cap := if l = 0 then 64 else 32
      match firstBelow 512 (fun i => (tfind s.keys.handles i).isNone) with
      | none => reply s k stNoSpace []
      | some i =>
        if cap ≤ handlesOf s l then reply s k stNoSpace []
        else
          let s1 := { s with keys := { s.keys with handles := tput s.keys.handles i h } }
          reply s1 k stDone [handleWord s1 i]

/-- KEY_HANDLE_OPEN (R285). -/
def execKeyHandleOpen (bus : Bus) (s : State) : Host.Outcome State Fault Refusal :=
  onBus s bus (fun s => service 0x301 s handleOpen)

/-- KEY_HANDLE_CLOSE (R285). -/
def execKeyHandleClose (s : State) : Host.Outcome State Fault Refusal :=
  live s (fun s => service 0x302 s (fun k t => match useHandle t k (k.word 0) with
    | .error st => reply t k st []
    | .ok (i, _) => reply (freeHandle t i) k stDone []))

/-- The generation that KEY_INFO reports. -/
def handleGen (h : Handle) : W32 :=
  if h.kind = 3 then field 32 0 24 h.epoch.toNat ||| field 32 24 8 h.keyGen.toNat
  else if h.kind = 5 then h.version else h.laneGen

/-- KEY_INFO (R305). -/
def execKeyInfo (s : State) : Host.Outcome State Fault Refusal :=
  live s (fun s => service 0x303 s (fun k t => match useHandle t k (k.word 0) with
    | .error st => reply t k st []
    | .ok (_, h) =>
      reply t k stDone [field 32 0 4 h.kind ||| field 32 4 2 (if handleStale t h then 2 else 1) ||| field 32 8 6 h.lane
        ||| field 32 16 8 h.typ, h.name, handleGen h]))

/-- The public key that a handle names, or the status of the refusal; a stored key whose lines cannot be read answers FAULTED (log 154). -/
def handlePublic (s : State) (k : Call) (h : Handle) : Except (BitVec 8) Octets × State :=
  if h.kind = 7 then (if k.owner then .ok (idPublic s h.name.toNat) else .error stNotOwner, s)
  else if h.kind = 6 then (if handleStale s h then .error stStaleEpoch else .ok (sheetPublic s h.lane h.name.toNat), s)
  else if h.kind = 5 then
    if handleStale s h then (.error stStaleEpoch, s)
    else match storedMaterial s h.name.toNat with
      | (.error _, s1) => (.error stFaulted, s1)
      | (.ok m, s1) => match publicOf h.typ m with
        | some o => (.ok o, s1)
        | none => (.error stKeyHandle, s1)
  else (.error stKeyHandle, s)

/-- Octets written to a descriptor for a request that is not ticketed: LEN 1 with the octets written. -/
def replyWrite (s : State) (k : Call) (d : Desc) (o : Octets) : State :=
  if d.len < o.length then reply s k stBadLength []
  else match dmaWrite s d.ctx d.addr o with
    | (none, s1) => reply s1 k stDone [BitVec.ofNat 32 o.length]
    | (some (st, n), s1) => reply s1 k st [BitVec.ofNat 32 n]

/-- Whether a word is the handle of an IDENTITY key, which is the owner's alone (R305). -/
def identityHandle (s : State) (w : W32) : Bool := match handleOf s w with
  | some (_, h) => decide (h.kind = 7)
  | none => false

/-- KEY_PUBLIC (R305). -/
def execKeyPublic (bus : Bus) (s : State) : Host.Outcome State Fault Refusal :=
  onBus s bus (fun s => service 0x304 s (fun k t =>
    if !k.owner ∧ identityHandle t (k.word 0) then reply t k stNotOwner []
    else if !fieldsOk k (0xFFFFFFFF :: descMasks) then reply t k stBadField []
    else match descRefusal t k (descAt k 1) true with
      | (some st, t1) => reply t1 k st []
      | (none, t1) => match useHandle t1 k (k.word 0) with
        | .error st => reply t1 k st []
        | .ok (_, h) => match handlePublic t1 k h with
          | (.error st, t2) => reply t2 k st []
          | (.ok o, t2) => replyWrite t2 k (descAt k 1) o))

/-! ### Monotonic counters (R300) -/

/-- Whether a call may use counter i: nothing, or `KEY_MONO`; `KEY_STATE` while the vault is not read (R443). -/
def monoRefusal (s : State) (k : Call) (i : Nat) : Option (BitVec 8) :=
  let a := plainReg s (0x2040 + 4 * i)
  if s.keys.vaultState ≠ 0 then some stKeyState
  else if !k.owner ∧ !(bit a 6 ∧ bits a 0 6 = k.lane) then some stKeyMono
  else if s.vault.monoBroken.contains i then some stKeyMono
  else none

/-- A counter's two words, low first. -/
def monoWords (v : W64) : List W32 := [BitVec.ofNat 32 v.toNat, BitVec.ofNat 32 (v.toNat / 2 ^ 32)]

/-- MONO_READ (R305). -/
def execMonoRead (s : State) : Host.Outcome State Fault Refusal :=
  live s (fun s => service 0x311 s (fun k t =>
    let i := bits (k.word 0) 0 4
    if !fieldsOk k [0xF] then reply t k stBadField []
    else match monoRefusal t k i with
      | some st => reply t k st []
      | none => reply t k stDone (monoWords (tget 0 t.vault.mono i))))

/-- MONO_INCREMENT (R300). -/
def execMonoIncrement (s : State) : Host.Outcome State Fault Refusal :=
  live s (fun s => service 0x312 s (fun k t =>
    let i := bits (k.word 0) 0 4
    let v := tget 0 t.vault.mono i
    if !fieldsOk k [0xF] then reply t k stBadField []
    else match monoRefusal t k i with
      | some st => reply t k st []
      | none =>
        if v = 0xFFFFFFFFFFFFFFFF then reply t k stKeyMono []
        else reply { t with vault := { t.vault with mono := tset 0 t.vault.mono i (v + 1) } } k stDone (monoWords (v + 1))))

/-! ### The shares (R298) -/

/-- The bedrock recombined. -/
def bedrock (s : State) : BitVec 256 := s.vault.bedrockMasked ^^^ s.vault.mask

/-- Both shares rewritten under a new MASK. -/
def refreshShares (s : State) : State :=
  let (v, s1) := drawRandom s
  let m := BitVec.ofNat 256 v.toNat
  { s1 with vault := { s1.vault with bedrockMasked := bedrock s1 ^^^ m, mask := m, refreshedAt := s1.pace.now } }

/-- VAULT_SHARE_REFRESH (R298): every 1,048,576 paces, while the shares are in use (R283, R443). -/
def execVaultShareRefresh (s : State) : Host.Outcome State Fault Refusal :=
  live s (fun s =>
    if s.keys.root = .bedrock ∧ s.vault.provisioned ∧ s.vault.refreshedAt + 1048576 ≤ s.pace.now then refreshShares s else s)

/-! ### Certificates (R280) -/

/-- One DER element: tag, contents and what follows; lengths definite and minimal. -/
def derRead (o : Octets) : Option (Byte × Octets × Octets) :=
  match o with
  | t :: b :: rest =>
    if b.toNat < 128 then (if rest.length < b.toNat then none else some (t, rest.take b.toNat, rest.drop b.toNat))
    else
      let k := b.toNat - 128
      let n := ofBe (rest.take k)
      if k = 0 ∨ 4 < k ∨ rest.length < k ∨ n < 128 ∨ n < 256 ^ (k - 1) ∨ (rest.drop k).length < n then none
      else some (t, (rest.drop k).take n, (rest.drop k).drop n)
  | _ => none

/-- The elements of a string, or nothing where it does not parse; fuel bounds their number. -/
def derItems : Nat → Octets → Option (List (Byte × Octets))
  | 0, _ => none
  | f + 1, o =>
    if o.isEmpty then some []
    else match derRead o with
      | none => none
      | some (t, c, rest) => (derItems f rest).map (fun l => (t, c) :: l)

/-- Whether constructed elements parse all the way down. -/
def derWhole : Nat → Octets → Bool
  | 0, _ => false
  | f + 1, o =>
    match derItems (o.length + 1) o with
    | none => false
    | some l => l.all (fun e => !bit e.1 5 || derWhole f e.2)

/-- The key octets of an X.509 certificate's subjectPublicKeyInfo. -/
def certKey (o : Octets) : Option Octets :=
  if !derWhole 64 o then none
  else match derItems 2 o with
    | some [(0x30, cert)] =>
      match derItems 4 cert with
      | some [(0x30, tbs), (0x30, _), (0x03, _)] =>
        match derItems (tbs.length + 1) tbs with
        | some ((0xA0, _) :: _ :: _ :: _ :: _ :: _ :: (0x30, spki) :: _) =>
          match derItems 3 spki with
          | some [(0x30, _), (0x03, k)] => if k.headD 1 = 0 then some (k.drop 1) else none
          | _ => none
        | _ => none
      | _ => none
    | _ => none

/-- The place of a certificate in the flash area that the card names: 8 KiB, the most that one takes, for each key selector (R280, R305, R378;
DESIGN CHOICE, log 39). -/
def certPlace (s : State) (sel : Nat) : Nat := (nvmRegion s 7).off + 8192 * sel

/-- A certificate as it lies at its place: as many octets as its DER element has, and none where no element stands there. -/
def certOctets (s : State) (sel : Nat) : Octets :=
  let o := flashPeek s (certPlace s sel) 8192
  match derRead o with
  | some (_, _, rest) => o.take (8192 - rest.length)
  | none => []

/-- CERT_INSTALL's job (R280). -/
def certInstall (k : Call) (w : Caller) (s : State) : State :=
  let sel := bits (k.word 0) 0 2
  match dmaRead s (descAt k 1) with
  | (.error (st, _), s1) => finish s1 w st []
  | (.ok o, s1) => if certKey o = some (idPublic s1 sel) then nvmEnqueue s1 (.cert sel o w) else finish s1 w stKeyFormat []

/-- CERT_INSTALL (R280). -/
def execCertInstall (bus : Bus) (s : State) : Host.Outcome State Fault Refusal :=
  onBus s bus (fun s => service 0x307 s (fun k t =>
    if !fieldsOk k (0x3 :: descMasks) || decide (bits (k.word 0) 0 2 = 3) then reply t k stBadField []
    else match descRefusal t k (descAt k 1) false with
      | (some st, t1) => reply t1 k st []
      | (none, t1) => if 8192 < (descAt k 1).len then reply t1 k stBadLength [] else ticketed t1 k (certInstall k)))

/-! ### Key update messages (R289 to R293) -/

/-- A key update message that has passed its checks. -/
structure Kum where
  kind : Nat
  lane : Nat
  slot : Nat
  typ : Nat
  body : Octets
  digest : BitVec 384
deriving DecidableEq, Repr

/-- Octets of a body by KIND and TYPE (R291). -/
def kumBody (kind t : Nat) : Nat := if kind = 1 then typeOctets t else if kind = 3 then 8 else if kind = 4 then 48 else 0

/-- Check 2 of R292: the form of a message. -/
def kumForm (o : Octets) : Bool :=
  let b (i : Nat) : Nat := (o.getD i 0).toNat
  let kind := ofLe (slice o 6 2)
  let body := (wordAt o 12).toNat
  let wrapped := decide (b 75 = 1)
  decide (wordAt o 0 = 0x4D554B53 ∧ ofLe (slice o 4 2) = 1 ∧ 1 ≤ kind ∧ kind ≤ 5 ∧ b 75 ≤ 1) &&
    decide (wrapped = decide (kind = 1)) && decide (body = kumBody kind (b 74)) &&
    decide (o.length = 128 + (if wrapped then 1568 + body + 16 else body) + sigLen) &&
    (slice o 76 52).all (fun x => decide (x = 0)) &&
    (if kind = 1 then decide (1 ≤ b 72 ∧ b 72 ≤ 63) && isType (b 74) else decide (b 72 = 0 ∧ b 74 = 0)) &&
    (decide (kind ≤ 2) || decide (b 73 = 0))

/-- Checks 2 to 7 of R292: the message, or the status of the first failure. -/
def kumCheck (s : State) (o : Octets) : Except (BitVec 8) Kum :=
  if !kumForm o then .error stKeyFormat
  else if slice o 16 48 ≠ identityDigest s ∨ wordAt o 64 ≠ s.vault.realmId ∨ wordAt o 68 ≠ s.vault.realmEpoch then .error stKeyIdentity
  else
    let n := o.length - sigLen
    if (blockFails [beOctets 48 s.vault.authority.toNat] (o.take n) (o.drop n)).isSome then .error stKeySignature
    else if wordAt o 8 ≠ s.vault.kumCount + 1 then .error stKeyCounter
    else
      let kind := ofLe (slice o 6 2)
      let len := (wordAt o 12).toNat
      let t := (o.getD 74 0).toNat
      let body : Option Octets :=
        if kind = 1 then
          let ss := kemDecaps kem1024 (idKem s) (slice o 128 1568)
          let key := (hmacSha384 ss (ascii "STB7-KUM" ++ slice o 8 4)).take 32
          gcmOpen key (List.replicate 12 0) (o.take 128) (slice o 1696 len) (slice o (1696 + len) 16)
        else some (slice o 128 len)
      match body with
      | none => .error stKeyFormat
      | some m =>
        if kind = 1 ∧ !materialOk t m then .error stKeyFormat
        else if kind = 3 ∧ (wordAt m 4).toNat ≤ s.vault.realmEpoch.toNat then .error stKeyFormat
        else .ok { kind := kind, lane := (o.getD 72 0).toNat, slot := (o.getD 73 0).toNat, typ := t, body := m
                   digest := BitVec.ofNat 384 (ofBe (sha384 o)) }

/-- A message refused: its event and status. -/
def kumRefused (s : State) (st : BitVec 8) : State :=
  keyEvent s (fun k => { k with updateRefused := true, lastRefusal := st })

/-- A message committed: its counter, its event, its milepost (R293, R360). -/
def kumCommitted (s : State) (digest : BitVec 384) : State :=
  let s1 := { s with vault := { s.vault with kumCount := s.vault.kumCount + 1 } }
  requestExtend (keyEvent s1 (fun k => { k with updateApplied := true })) 3 (beOctets 48 digest.toNat)

/-- Whether a key update message waits for its commit. -/
def kumRuns (s : State) : Bool := s.keys.kumDue.isSome || s.keys.rewrites.any (fun r => match r with
  | .update _ _ _ _ _ => true
  | _ => false)

/-- The effect of a message of the kinds whose effect is in the vault alone. -/
def kumVault (s : State) (m : Kum) : State :=
  if m.kind = 3 then
    { s with vault := ({ s.vault with nextRealmId := wordAt m.body 0, nextRealmEpoch := wordAt m.body 4 }).setControl 3 true }
  else if m.kind = 4 then { s with vault := { s.vault with authority := BitVec.ofNat 384 (ofBe m.body) } }
  else s

end Sys2Proof.Machine
end

