-- ==== Sys2Proof/Machine/Models.lean ====
section
/-!
DEFINITION. Model packages and the loader (R237 to R254): the package and its manifest, the sizing checks, the load part by part, its
end, the model table, and the model commands.
-/

namespace Sys2Proof.Machine

open Sys2Proof

/-- Model and receipt status codes (R273). -/
def stPkgFormat : BitVec 8 := 0x30
/-- PKG_SIGNATURE -/
def stPkgSignature : BitVec 8 := 0x31
/-- PKG_LIMIT -/
def stPkgLimit : BitVec 8 := 0x32
/-- INFLATE -/
def stInflate : BitVec 8 := 0x33
/-- PAYLOAD_DIGEST -/
def stPayloadDigest : BitVec 8 := 0x34
/-- MODEL_PRESENT -/
def stModelPresent : BitVec 8 := 0x35
/-- RECEIPT_STATE -/
def stReceiptState : BitVec 8 := 0x36
/-- SLOT_TABLE -/
def stSlotTable : BitVec 8 := 0x37

/-! ### The package (R237, R241, R242) -/

/-- Why a load fails: status, reason, tensor (0xFF where none is concerned). -/
structure LoadFail where
  st : BitVec 8
  reason : Nat
  tensor : Nat
deriving DecidableEq, Repr

/-- A malformed package. -/
def badPkg (reason : Nat) : LoadFail := { st := stPkgFormat, reason := reason, tensor := 0xFF }

/-- The parts of a package: manifest, signature block and payload, by offset and length. -/
structure PkgParts where
  man : Nat × Nat
  sig : Nat × Nat
  pay : Nat × Nat
deriving DecidableEq, Repr

/-- The header read (R237). -/
def pkgHeader (o : Octets) (len : Nat) : Except LoadFail PkgParts :=
  let w (i : Nat) : W32 := wordAt o (4 * i)
  let p : PkgParts :=
    { man := ((w 2).toNat, (w 3).toNat), sig := ((w 4).toNat, (w 5).toNat), pay := ((w 6).toNat, (w 7).toNat) }
  if o.length < 64 ∨ w 0 ≠ 0x4B504D53 ∨ w 1 ≠ 0x00400001 ∨ p.man.2 = 0 ∨ 16384 < p.man.2 ∨ p.sig.2 ≠ sigLen
      ∨ !((slice o 32 32).all (fun b => decide (b = 0))) then .error (badPkg 0x01)
  else
    let parts := [(0, 64), p.man, p.sig, p.pay]
    if parts.all (fun x => decide (x.1 + x.2 ≤ len)) && disjoint (parts.filter (fun x => decide (x.2 ≠ 0))) then .ok p
    else .error (badPkg 0x02)

/-- A tensor record (R242). -/
structure Tensor where
  typ : Nat
  dims : List Nat
  enc : Nat
  csize : Nat
  usize : Nat
deriving DecidableEq, Repr, Inhabited

/-- A manifest (R241). -/
structure Manifest where
  modelId : Octets
  batch : Nat
  tensors : List Tensor
  digest : Octets
  wrap : Option Octets
deriving DecidableEq, Repr

/-- The value of a key that must be present. -/
def fieldOf (l : List (Nat × Cbor)) (k : Nat) : Option Cbor := (l.find? (fun p => decide (p.1 = k))).map Prod.snd

/-- A tensor record read; `i` is its index. -/
def readTensor (c : Cbor) (i : Nat) : Except LoadFail Tensor :=
  let bad : Except LoadFail Tensor := .error (badPkg 0x04)
  let range : Except LoadFail Tensor := .error { st := stPkgFormat, reason := 0x06, tensor := i }
  match c.fields with
  | none => bad
  | some l =>
    if !decide (l.length = 5) then bad
    else match (fieldOf l 1).bind Cbor.nat, (fieldOf l 2).bind Cbor.items, (fieldOf l 3).bind Cbor.nat, (fieldOf l 4).bind Cbor.nat,
        (fieldOf l 5).bind Cbor.nat with
      | some t, some ds, some e, some cs, some us =>
        let dims := ds.map Cbor.nat
        if !dims.all Option.isSome ∨ 1 < e then bad
        else
          let dv := dims.map (fun x => x.getD 0)
          if 6 < t ∨ dv.isEmpty ∨ 6 < dv.length ∨ !dv.all (fun x => decide (1 ≤ x ∧ x ≤ 0xFFFFFFFF)) then range
          else .ok { typ := t, dims := dv, enc := e, csize := cs, usize := us }
      | _, _, _, _, _ => bad

/-- Tensor records read in order. -/
def readTensors : List Cbor → Nat → Except LoadFail (List Tensor)
  | [], _ => .ok []
  | c :: cs, i => match readTensor c i with
    | .error e => .error e
    | .ok t => (readTensors cs (i + 1)).map (fun ts => t :: ts)

/-- A manifest read. -/
def readManifest (o : Octets) : Except LoadFail Manifest :=
  match cborDecode o with
  | none => .error (badPkg 0x03)
  | some c =>
    if c.hasTag then .error (badPkg 0x03)
    else match c.fields with
      | none => .error (badPkg 0x04)
      | some l =>
        let wrap := fieldOf l 7
        if !decide (l.length = 6 + (if wrap.isSome then 1 else 0)) then .error (badPkg 0x04)
        else match (fieldOf l 1).bind Cbor.nat, (fieldOf l 2).bind Cbor.octets, (fieldOf l 3).bind Cbor.nat, (fieldOf l 4).bind Cbor.nat,
            (fieldOf l 5).bind Cbor.items, (fieldOf l 6).bind Cbor.octets with
          | some 1, some m, some v, some b, some ts, some d =>
            let w := wrap.bind Cbor.octets
            if m.length ≠ 16 ∨ 0xFFFFFFFF < v ∨ !([1, 2, 4, 8, 16].contains b) ∨ d.length ≠ 48 ∨ (wrap.isSome ∧ w.isNone)
                ∨ (w.isSome ∧ (w.getD []).length ≠ 1568) then .error (badPkg 0x04)
            else if ts.isEmpty ∨ 32 < ts.length then .error (badPkg 0x05)
            else (readTensors ts 0).map (fun l => { modelId := m, batch := b, tensors := l, digest := d, wrap := w })
          | _, _, _, _, _, _ => .error (badPkg 0x04)

/-- Bytes of an element type. -/
def elemBytes (t : Nat) : Nat := if t ≤ 1 then 1 else if t ≤ 4 then 2 else 4

/-! ### Sizes before allocation (R244, R245) -/

/-- The product of the dimensions and the element size; nothing on a 64-bit overflow. -/
def dimBytes (t : Tensor) : Option Nat :=
  (t.dims ++ [elemBytes t.typ]).foldl (fun a d => a.bind (fun x => if x * d < 2 ^ 64 then some (x * d) else none)) (some 1)

/-- The sum of numbers; nothing on a 64-bit overflow. -/
def sum64 (l : List Nat) : Option Nat :=
  l.foldl (fun a d => a.bind (fun x => if x + d < 2 ^ 64 then some (x + d) else none)) (some 0)

/-- The first tensor that fails a test. -/
def tensorFails (l : List Tensor) (f : Tensor → Bool) : Option Nat := (l.zipIdx.find? (fun x => f x.1)).map Prod.snd

/-- A failed check of R244. -/
def limitFail (reason tensor : Nat) : Except LoadFail (Nat × Nat) := .error { st := stPkgLimit, reason := reason, tensor := tensor }

/-- The checks of R244: pages and parts, or the first failure. -/
def sizeCheck (s : State) (m : Manifest) (payload ctx : Nat) : Except LoadFail (Nat × Nat) :=
  let ts := m.tensors
  let v := ctxAt s ctx
  let l := v.lane.toNat
  match tensorFails ts (fun t => (dimBytes t).isNone) with
  | some i => limitFail 0x21 i
  | none => match tensorFails ts (fun t => decide (dimBytes t ≠ some t.usize)) with
    | some i => limitFail 0x22 i
    | none => match tensorFails ts (fun t => decide (t.enc = 0 ∧ t.csize ≠ t.usize)) with
      | some i => limitFail 0x20 i
      | none => match tensorFails ts (fun t => decide (t.enc = 1 ∧ (2 ^ 64 ≤ 1032 * t.csize ∨ 1032 * t.csize < t.usize))) with
        | some i => limitFail 0x23 i
        | none =>
          if sum64 (ts.map Tensor.csize) ≠ some payload then limitFail 0x24 0xFF
          else match sum64 (ts.map (fun t => ceilDiv t.usize 64 * 64)) with
            | none => limitFail 0x25 0xFF
            | some a =>
              let p := ceilDiv a 4096
              let parts := ceilDiv p 256
              if 67108864 < a then limitFail 0x25 0xFF
              else if 64 - v.sealGroup.toNat < parts ∨ v.sealFull then limitFail 0x26 0xFF
              else if v.quota.toNat < v.held.toNat + p then limitFail 0x27 0xFF
              else if (activeReg s (0x1800 + 4 * l)).toNat < (laneAt s l).held.toNat + p then limitFail 0x28 0xFF
              else .ok (p, parts)

/-! ### The end of a load (R250, R251, R274) -/

/-- The loader's result register. -/
def loadResult (s : State) (st : BitVec 8) (reason tensor : Nat) : State :=
  { s with rcpt := { s.rcpt with load := none, loadSeq := s.rcpt.loadSeq + 1, loadStatus := st,
                                 loadReason := BitVec.ofNat 8 reason, loadTensor := BitVec.ofNat 8 tensor } }

/-- The pages of a span that a context still holds, with their entries. -/
def heldPages (s : State) (c : Nat) (ps : List Nat) : List (Nat × W32) × State :=
  ps.foldl (fun x p => match mapEntry x.2 p with
    | (.ok e, s1) =>
      if entCtx e = c ∧ !isStale s1 e ∧ entState e ≠ .free ∧ entState e ≠ .sweeping then (x.1 ++ [(p, e)], s1) else (x.1, s1)
    | (.error _, s1) => (x.1, s1)) ([], s)

/-- Pages released one after another, beyond a fault too; how many were. -/
def releaseAll (ctx : Nat) (s : State) (ps : List (Nat × W32)) : Nat × State :=
  ps.foldl (fun x p => match releasePage ctx x.2 p.1 p.2 with
    | (.done, s1) => (x.1 + 1, s1)
    | (_, s1) => (x.1, s1)) (0, s)

/-- A load that ends otherwise than DONE: its claimed pages go to the sweep (R250). -/
def rejectLoad (s : State) (w : Caller) (f : LoadFail) (ctx page n part : Nat) : State :=
  let (held, s1) := heldPages s ctx (pageSpan page n)
  let (freed, s2) := releaseAll ctx s1 held
  let s3 := count (loadResult s2 f.st f.reason f.tensor) 0x7890 1
  finish s3 w f.st [field 32 0 8 f.reason ||| field 32 8 8 f.tensor ||| field 32 16 7 part, BitVec.ofNat 32 freed]

/-- A load whose epochs closed under it: its pages are stale already (R252). -/
def staleLoad (s : State) (l : Load) : State :=
  let s1 := count (loadResult s stStaleEpoch 0 0xFF) 0x7890 1
  finish s1 l.caller stStaleEpoch [field 32 8 8 0xFF ||| field 32 16 7 l.part, 0]

/-- Whether a model table entry's context still stands in its epoch. -/
def modelCurrent (s : State) (m : Model) : Bool :=
  let v := ctxAt s m.ctx
  decide (v.epoch = m.epoch) && v.state == .active

/-- The lowest handle that is free: never given, or freed at the close of its context's epoch (R252). -/
def freeModel (s : State) : Option Nat :=
  ((List.range 4095).map (fun i => i + 1)).find? (fun h => match tfind s.rcpt.models h with
    | none => true
    | some m => !modelCurrent s m)

/-- The milepost that a lane's model loads extend (R360, R362). -/
def modelMilepost (s : State) (l : Nat) : Nat :=
  match firstBelow 8 (fun i =>
    let w := fixedReg s (0x3E80 + 4 * i)
    bit w 6 && bit w 7 && decide (bits w 0 6 = l)) with
  | some i => 24 + i
  | none => 7

/-- RECORDING (R251). -/
def recordLoad (s : State) (l : Load) : State :=
  let v := ctxAt s l.ctx
  match freeModel s with
  | none => rejectLoad s l.caller { st := stNoSpace, reason := 0, tensor := 0xFF } l.ctx l.page l.pages l.part
  | some h =>
    let m : Model :=
      { measurement := l.measurement, lane := v.lane.toNat, ctx := l.ctx, epoch := v.epoch, page := l.page, pages := l.pages
        parts := l.part, batch := l.batch }
    let s1 := { s with rcpt := { s.rcpt with models := tput s.rcpt.models h m } }
    let s2 := setCtx s1 l.ctx { ctxAt s1 l.ctx with model := BitVec.ofNat 12 h }
    let d := beOctets 48 l.measurement.toNat ++ [BitVec.ofNat 8 v.lane.toNat] ++ beOctets 2 l.ctx
    let s3 := requestExtend s2 (modelMilepost s2 v.lane.toNat) d
    let s4 := count (loadResult s3 stDone 0 0xFF) 0x7888 1
    finish s4 l.caller stDone [field 32 0 12 h ||| field 32 12 7 l.part, field 32 0 15 l.pages, field 32 0 24 v.epoch.toNat]

/-! ### The parts (R247) -/

/-- Flags of the loader's claims. -/
def loadFlags (shared : Bool) : ClaimFlags := { cls := .sealedC, rd := true, wr := true, shared := shared, nofill := false }

/-- The status for which a claim of n pages is refused; SIZING leaves out the tile write entries, which the loader waits for part by part. -/
def claimStatus (tiles : Bool) (s : State) (ctx page n : Nat) (f : ClaimFlags) : Option (BitVec 8) × State :=
  let ps := pageSpan page n
  if (firstFailing ps (fun p => !inWindow s p || inOwnRegion s p)).isSome then (some stOutsideWindow, s)
  else match entriesOf s ps 0 with
    | (.error _, s1) => (some stMapFault, s1)
    | (.ok es, s1) => ((claimChecks tiles f s1 { ctx := ctx, page := page, n := n } es).map Prod.snd, s1)

/-- The pages of a part claimed: how many were, and the status that stopped it, if any. -/
def claimPart (s : State) (l : Load) (page n : Nat) : Nat × Option (BitVec 8) × State :=
  let f := loadFlags l.shared
  match claimStatus true s l.ctx page n f with
  | (some st, s1) => (0, some st, s1)
  | (none, s1) =>
    match changePages (claimPage l.ctx f) s1 ((pageSpan page n).map (fun p => (p, 0))) 0 [] with
    | (k, bad, fault, s2) =>
      let s3 := reportClaimed l.ctx s2 bad
      (k, if fault.isSome ∨ !bad.isEmpty then some stFaulted else none, s3)

/-- The pages of a part sealed: the status that stopped it, if any (R212). -/
def sealPart (s : State) (ctx page n : Nat) : Option (BitVec 8) × State :=
  match entriesOf s (pageSpan page n) 0 with
  | (.error _, s1) => (some stMapFault, s1)
  | (.ok es, s1) =>
    match sealRefusal s1 { ctx := ctx, page := page, n := n } es with
    | some (_, st) => (some st, s1)
    | none =>
      match changePages (sealPage ctx) s1 ((pageSpan page n).zip es) 0 [] with
      | (k, _, fault, s2) => (fault.map (fun _ => stFaulted), if k = 0 then s2 else nextSealGroup s2 ctx)

/-- Whether the epochs of a load's contexts are still those of its start. -/
def loadCurrent (s : State) (l : Load) : Bool :=
  decide ((ctxAt s l.ctx).epoch = l.epoch ∧ (ctxAt s l.pkgCtx).epoch = l.pkgEpoch) && (ctxAt s l.ctx).state == .active

/-- A stretch of the payload decrypted where it is wrapped (R243): counter mode from the payload's start. -/
def unwrapAt (key : Option Octets) (pos : Nat) (o : Octets) : Octets :=
  match key with
  | none => o
  | some k =>
    let b := pos / 16
    (aesCtr k (BitVec.ofNat 128 b) (List.replicate (pos - 16 * b) 0 ++ o)).drop (pos - 16 * b)

/-- A failure of INFLATING that no reason code names: the transfer of payload or weights stopped (R100, R247; DESIGN CHOICE, log 153). -/
def movedFail (st : BitVec 8) (tensor : Nat) : LoadFail :=
  { st := if st = stStaleEpoch then stStaleEpoch else stInflate, reason := 0, tensor := tensor }

/-- One tensor read, decrypted and inflated or copied (R245, R248). -/
def layTensor (s : State) (l : Load) (t : LoadTensor) : Except LoadFail Load × State :=
  match dmaRead s { ctx := l.pkgCtx, addr := l.payload + l.pos, len := t.csize } with
  | (.error (st, _), s1) => (.error (movedFail st t.index), s1)
  | (.ok o, s1) =>
    let x := unwrapAt l.key l.pos o
    let size := ceilDiv t.usize 64 * 64
    let l1 := { l with pos := l.pos + t.csize, off := l.off + size }
    match (if t.enc = 0 then .ok x else inflate x t.usize : Except InflateErr Octets) with
    | .error (b, n) =>
      (.ok { l1 with ahead := l.ahead ++ List.replicate size 0
                     bad := some { at_ := l.off + n, st := stInflate, reason := b.code, tensor := t.index } }, s1)
    | .ok y => (.ok { l1 with ahead := l.ahead ++ padTo size y, plain := l.plain ++ y }, s1)

/-- The tensors that begin before a place of the layout, until one fails (INFLATING); a tensor's stored bytes are read in the part in which it
begins (DESIGN CHOICE, log 46). -/
def layTensors (upTo : Nat) : List LoadTensor → State → Load → Except LoadFail Load × State
  | [], s, l => (.ok { l with tensors := [] }, s)
  | t :: ts, s, l =>
    if upTo ≤ l.off ∨ l.bad.isSome then (.ok { l with tensors := t :: ts }, s)
    else match layTensor s l t with
      | (.error e, s1) => (.error e, s1)
      | (.ok l1, s1) => layTensors upTo ts s1 l1

/-- INFLATING of a part of n pages: its octets, with the load behind them. -/
def inflatePart (s : State) (l : Load) (n : Nat) : Except LoadFail (Octets × Load) × State :=
  let upTo := 4096 * (l.done + n)
  match layTensors upTo l.tensors s l with
  | (.error e, s1) => (.error e, s1)
  | (.ok l1, s1) =>
    match l1.bad with
    | some b => if b.at_ < upTo then (.error { st := b.st, reason := b.reason, tensor := b.tensor }, s1)
      else (.ok (padTo (4096 * n) (l1.ahead.take (4096 * n)), { l1 with ahead := l1.ahead.drop (4096 * n) }), s1)
    | none => (.ok (padTo (4096 * n) (l1.ahead.take (4096 * n)), { l1 with ahead := l1.ahead.drop (4096 * n) }), s1)

/-- What the parts of a load come to. -/
inductive PartEnd where
  /-- sealed: the load behind it -/
  | next (l : Load)
  /-- it fails, with pages of the load claimed so far -/
  | fails (f : LoadFail) (claimed : Nat)
deriving DecidableEq, Repr

/-- A part claimed, written and sealed (CLAIMING, INFLATING, SEALING). -/
def loadPart (s : State) (l : Load) (n : Nat) : PartEnd × State :=
  let page := l.page + l.done
  match claimPart s l page n with
  | (k, some st, s1) => (.fails { st := st, reason := 0, tensor := 0xFF } (l.done + k), s1)
  | (_, none, s1) =>
    match inflatePart s1 l n with
    | (.error f, s2) => (.fails f (l.done + n), s2)
    | (.ok (o, l1), s2) =>
      match dmaWrite s2 l.ctx (4096 * page) o with
      | (some (st, _), s3) => (.fails (movedFail st 0xFF) (l.done + n), s3)
      | (none, s3) =>
        match sealPart s3 l.ctx page n with
        | (some st, s4) => (.fails { st := st, reason := 0, tensor := 0xFF } (l.done + n), s4)
        | (none, s4) => (.next { l1 with part := l.part + 1, done := l.done + n }, s4)

/-- CHECKING and RECORDING. -/
def checkLoad (s : State) (l : Load) : State :=
  if beOctets 48 l.digest.toNat = sha384 l.plain then recordLoad s l
  else rejectLoad s l.caller { st := stPayloadDigest, reason := 0x40, tensor := 0xFF } l.ctx l.page l.pages l.part

/-- The parts of a load, one after another, as many as are given; where fewer than 256 tile write entries are free it waits for them. -/
def loadParts : Nat → State → Load → State
  | 0, s, l => checkLoad s l
  | m + 1, s, l =>
    let n := min 256 (l.pages - l.done)
    if !loadCurrent s l then staleLoad s l
    else if n = 0 then checkLoad s l
    else if tilesFree s < 256 then yieldBuffer { s with rcpt := { s.rcpt with load := some { l with since := clock s } } }
    else match loadPart s l n with
      | (.fails f k, s1) => if f.st = stStaleEpoch then staleLoad s1 l else rejectLoad s1 l.caller f l.ctx l.page k l.part
      | (.next l1, s1) => loadParts m s1 l1

/-- A load that waits for tile write entries goes on once 256 are free. -/
def resumeLoad (s : State) : State :=
  match s.rcpt.load with
  | none => s
  | some l => if tilesFree s < 256 ∧ loadCurrent s l then s else loadParts 64 s l

/-- Signer digests of a lane: the records of the area that the card names, as far as the present sealing root opens them (R240). -/
def laneSigners (s : State) (l : Nat) : List Octets :=
  (List.range 4).flatMap (fun i => match tfind s.nvm.signers (4 * l + i) with
    | some r => if r.root = s.keys.sealingRoot ∧ r.area = (nvmRegion s 6).off then [beOctets 48 r.digest.toNat] else []
    | none => [])

/-- The package key (R243). -/
def packageKey (s : State) (m : Manifest) : Option Octets :=
  m.wrap.map (fun w => (hmacSha384 (kemDecaps kem1024 (idKem s) w) (ascii "STB7-MODEL" ++ m.modelId)).take 32)

/-- What READING comes to: header, manifest octets with the manifest, signature block. -/
structure Package where
  head : Octets
  parts : PkgParts
  man : Octets
  m : Manifest
  sig : Octets
deriving DecidableEq, Repr

/-- A read that stops in READING (R247): PKG_FORMAT with no reason code of its own (DESIGN CHOICE, log 153). -/
def readFail (st : BitVec 8) : LoadFail :=
  { st := if st = stStaleEpoch then stStaleEpoch else stPkgFormat, reason := 0, tensor := 0xFF }

/-- READING: header, manifest and signature block (R237 to R242). -/
def readPackage (s : State) (d : Desc) : Except LoadFail Package × State :=
  let part (t : State) (x : Nat × Nat) : Moved × State := dmaRead t { d with addr := d.addr + x.1, len := x.2 }
  match part s (0, min 64 d.len) with
  | (.error (st, _), s1) => (.error (readFail st), s1)
  | (.ok h, s1) => match pkgHeader h d.len with
    | .error f => (.error f, s1)
    | .ok p => match part s1 p.man with
      | (.error (st, _), s2) => (.error (readFail st), s2)
      | (.ok man, s2) => match part s2 p.sig with
        | (.error (st, _), s3) => (.error (readFail st), s3)
        | (.ok sig, s3) => match readManifest man with
          | .error f => (.error f, s3)
          | .ok m => (.ok { head := h, parts := p, man := man, m := m, sig := sig }, s3)

/-- VERIFYING and SIZING: the pages, or the failure. -/
def sizePackage (s : State) (g : Package) (ctx page : Nat) (shared : Bool) : Except LoadFail Nat × State :=
  let lane := (ctxAt s ctx).lane.toNat
  let signers := laneSigners s lane
  let s1 := ownRns s lane (blockJobs signers (g.head ++ g.man) g.sig)
  match blockFails signers (g.head ++ g.man) g.sig with
  | some r => (.error { st := stPkgSignature, reason := r, tensor := 0xFF }, s1)
  | none => match sizeCheck s1 g.m g.parts.pay.2 ctx with
    | .error f => (.error f, s1)
    | .ok (pages, _) => match claimStatus false s1 ctx page pages (loadFlags shared) with
      | (some st, s2) => (.error { st := st, reason := 0, tensor := 0xFF }, s2)
      | (none, s2) => (.ok pages, s2)

/-- A load whose package is read, checked and sized. -/
def newLoad (s : State) (w : Caller) (g : Package) (ctx page pages : Nat) (shared : Bool) (d : Desc) : Load :=
  { caller := w, ctx := ctx, epoch := (ctxAt s ctx).epoch, pkgCtx := d.ctx, pkgEpoch := (ctxAt s d.ctx).epoch, shared := shared
    page := page, pages := pages, done := 0, part := 0
    tensors := g.m.tensors.zipIdx.map (fun x => ({ index := x.2, enc := x.1.enc, csize := x.1.csize, usize := x.1.usize } : LoadTensor))
    payload := d.addr + g.parts.pay.1, pos := 0, off := 0, key := packageKey s g.m, ahead := [], bad := none, plain := []
    digest := BitVec.ofNat 384 (ofBe g.m.digest), measurement := BitVec.ofNat 384 (ofBe (sha384 (g.head ++ g.man)))
    batch := g.m.batch, since := 0 }

/-- The load from READING on (R247). -/
def startLoad (k : Call) (w : Caller) (s : State) : State :=
  let ctx := bits (k.word 0) 0 14
  let page := bits (k.word 1) 0 24
  let shared := bit (k.word 0) 16
  let d := descAt k 2
  let fail (t : State) (f : LoadFail) : State := rejectLoad t w f ctx page 0 0
  match readPackage s d with
  | (.error f, s1) => fail s1 f
  | (.ok g, s1) => match sizePackage s1 g ctx page shared with
    | (.error f, s2) => fail s2 f
    | (.ok pages, s2) =>
      let lane := (ctxAt s2 ctx).lane.toNat
      let s3 := if g.m.wrap.isSome then ownRns s2 lane (1, 0) else ownDigest s2 lane
      loadParts 64 s3 (newLoad s3 w g ctx page pages shared d)

/-- MODEL_LOAD's checks (R246). -/
def loadRefusal (s : State) (k : Call) : Option (BitVec 8) × State :=
  let v := ctxAt s (bits (k.word 0) 0 14)
  match descRefusal s k (descAt k 2) false with
  | (some st, s1) => (some st, s1)
  | (none, s1) =>
    (if v.state ≠ .active then some stCtxState
     else if !k.owner ∧ v.lane.toNat ≠ k.lane then some stDenied
     else if v.model ≠ 0 then some stModelPresent
     else if !bit v.permits 1 then some stClassDenied
     else if (freeModel s1).isNone then some stNoSpace
     else if s1.rcpt.load.isSome then some stBusy
     else none, s1)

/-- MODEL_LOAD (R247). -/
def execModelLoad (bus : Bus) (s : State) : Host.Outcome State Fault Refusal :=
  onBus s bus (fun s => service 0x201 s (fun k t =>
    if !fieldsOk k ([0x13FFF, 0xFFFFFF] ++ descMasks) then reply t k stBadField []
    else match loadRefusal t k with
      | (some st, t1) => reply t1 k st []
      | (none, t1) => ticketed t1 k (startLoad k)))

/-- LOADER_TILE_WAIT_EXPIRE (R247). -/
def execLoaderTileWaitExpire (bus : Bus) (s : State) : Host.Outcome State Fault Refusal :=
  onBus s bus (fun s => match s.rcpt.load with
    | none => s
    | some l =>
      if l.since + 65536 ≤ clock s then
        rejectLoad s l.caller { st := stTileFull, reason := 0, tensor := 0xFF } l.ctx l.page l.done l.part
      else s)

/-- A digest of 48 octets as 12 message words, octet 4k in bits [31:24] of its word. -/
def digestWords (v : BitVec 384) : List W32 := (chunks 4 (beOctets 48 v.toNat)).map (fun o => BitVec.ofNat 32 (ofBe o))

/-- MODEL_QUERY (R254). -/
def execModelQuery (bus : Bus) (s : State) : Host.Outcome State Fault Refusal :=
  onBus s bus (fun s => service 0x202 s (fun k t =>
    if !fieldsOk k [0xFFF] then reply t k stBadField []
    else match tfind t.rcpt.models (bits (k.word 0) 0 12) with
      | none => reply t k stBadField []
      | some m =>
        if !k.owner ∧ m.lane ≠ k.lane then reply t k stDenied []
        else if !modelCurrent t m then reply t k stStaleEpoch []
        else reply t k stDone (digestWords m.measurement ++
          [field 32 0 14 m.ctx ||| field 32 14 6 m.lane ||| field 32 20 5 m.batch ||| field 32 25 7 m.parts, field 32 0 15 m.pages])))

/-- MODEL_SIGNER_SET (R240): the record is written in flash. -/
def execModelSignerSet (bus : Bus) (s : State) : Host.Outcome State Fault Refusal :=
  onBus s bus (fun s => service 0x203 s (fun k t =>
    if !fieldsOk k [0x1033F] then reply t k stBadField []
    else
      let d := ofBe ((List.range 12).flatMap (fun i => beOctets 4 (k.word (1 + i)).toNat))
      ticketed t k (fun w u => nvmEnqueue u (.signer (bits (k.word 0) 0 6) (bits (k.word 0) 8 2)
        (if bit (k.word 0) 16 then none else some (BitVec.ofNat 384 d)) w))))

end Sys2Proof.Machine
end

