-- ==== Sys2Proof/Machine/Receipts.lean ====
section
/-!
DEFINITION. Receipts and sheets (R255 to R275): opening, closing, folding and entering receipts; the sheets of a lane, their signing and
their collection.
-/

namespace Sys2Proof.Machine

open Sys2Proof

/-! ### Slots and regions (R257, R258) -/

/-- The descriptor at word i of a slot record. -/
def slotDesc (w : List W32) (i : Nat) : Desc :=
  { ctx := bits (w.getD i 0) 0 14
    addr := (w.getD (i + 1) 0).toNat + 2 ^ 32 * bits (w.getD (i + 2) 0) 0 4
    len := (w.getD (i + 3) 0).toNat }

/-- PAD of a slot record. -/
def slotPad (w : List W32) : Bool := bit (w.getD 0 0) 0
/-- ROIV of a slot record. -/
def slotRoiv (w : List W32) : Bool := bit (w.getD 0 0) 2

/-- Whether a slot record keeps the rules of R257, but for its descriptors' access. -/
def slotForm (w : List W32) : Bool :=
  let z (i : Nat) : Bool := decide (w.getD i 0 = 0)
  if slotPad w then decide (w.getD 0 0 = 1) && (List.range 15).all (fun i => z (i + 1))
  else
    decide (w.getD 0 0 &&& 0xFFFFFFF8 = 0) && (List.range 4).all (fun i => z (12 + i))
      && decide (w.getD 1 0 &&& 0xFFFFC000 = 0 ∧ w.getD 3 0 &&& 0xFFFFFFF0 = 0 ∧ w.getD 5 0 &&& 0xFFFFC000 = 0
        ∧ w.getD 7 0 &&& 0xFFFFFFF0 = 0)
      && decide ((slotDesc w 1).addr % 64 = 0 ∧ (slotDesc w 1).len % 64 = 0 ∧ 64 ≤ (slotDesc w 1).len ∧ (slotDesc w 5).len ≤ 65536)
      && (slotRoiv w || (z 9 && z 10 && z 11))

/-- The first slot record that breaks R257. -/
def badSlot (s : State) (k : Call) : List (List W32) → Nat → Option Nat × State
  | [], _ => (none, s)
  | w :: ws, i =>
    if !slotForm w then (some i, s)
    else if slotPad w then badSlot s k ws (i + 1)
    else match descRefusal s k (slotDesc w 1) false with
      | (some _, s1) => (some i, s1)
      | (none, s1) => match descRefusal s1 k (slotDesc w 5) false with
        | (some _, s2) => (some i, s2)
        | (none, s2) => badSlot s2 k ws (i + 1)

/-- Whether a region may still be read: its context stands in the epoch of the open and its pages pass R100. -/
def regionStands (s : State) (d : Desc) (epoch : BitVec 24) : Bool × State :=
  let v := ctxAt s d.ctx
  if v.epoch ≠ epoch ∨ (ctxRefusal v).isSome then (false, s)
  else match pagesDenied s d.ctx false (spanPages d.addr d.len) with
    | (none, s1) => (true, s1)
    | (some _, s1) => (false, s1)

/-! ### Receipts (R255 to R259) -/

/-- An open receipt replaced. -/
def setReceipt (s : State) (h : Nat) (r : Receipt) : State :=
  { s with rcpt := { s.rcpt with receipts := tput s.rcpt.receipts h r } }

/-- An open receipt's handle freed. -/
def dropReceipt (s : State) (h : Nat) : State :=
  { s with rcpt := { s.rcpt with receipts := tdel s.rcpt.receipts h } }

/-- Octets of a line string cut into slot records of 16 words. -/
def slotRecords (o : Octets) : List (List W32) := (chunks 64 o).map (wordsOfOctets 16)

/-- A slot at open: a PAD slot has its status at once (R263). -/
def newSlot (s : State) (w : List W32) : RSlot :=
  { words := w, status := if slotPad w then 2 else 0, inEpoch := (ctxAt s (slotDesc w 1).ctx).epoch
    outEpoch := (ctxAt s (slotDesc w 5).ctx).epoch }

/-- The checks 1 to 6 of R256. -/
def openRefusal (s : State) (k : Call) : Except (BitVec 8) Model × State :=
  let c := bits (k.word 0) 0 14
  match tfind s.rcpt.models (bits (k.word 0) 16 12) with
  | none => (.error stBadField, s)
  | some m =>
    if !modelCurrent s m then (.error stStaleEpoch, s)
    else if !k.owner ∧ m.lane ≠ k.lane then (.error stDenied, s)
    else if (ctxAt s c).state ≠ .active then (.error stCtxState, s)
    else if (ctxAt s c).lane.toNat ≠ m.lane then (.error stDenied, s)
    else match descRefusal s k (descAt k 1) false with
      | (some st, s1) => (.error st, s1)
      | (none, s1) =>
        if (descAt k 1).len ≠ 64 * m.batch then (.error stBadLength, s1)
        else if 64 ≤ tcount s1.rcpt.receipts (fun _ r => decide (r.lane = m.lane)) ∨ 1024 ≤ s1.rcpt.receipts.length then
          (.error stNoSpace, s1)
        else (.ok m, s1)

/-- A receipt opened. -/
def openReceipt (s : State) (k : Call) (m : Model) (ws : List (List W32)) (h : Nat) : State :=
  let c := bits (k.word 0) 0 14
  let v := ctxAt s c
  let (f, s1) := drawRandom s
  let n := s1.rcpt.opened + 1
  let serial : W64 := BitVec.ofNat 64 ((vaultView s1).startCount.toNat * 2 ^ 32 + n)
  let r : Receipt :=
    { state := .opened, lane := m.lane, ctx := c, epoch := v.epoch, keyGen := v.keyGen, handle := bits (k.word 0) 16 12
      modelCtx := m.ctx, modelEpoch := m.epoch, measurement := m.measurement, serial := serial
      openPace := BitVec.ofNat 64 s1.pace.now, closePace := 0, foldKey := BitVec.ofNat 128 f.toNat
      slots := ws.map (newSlot s1), verdict := 0, caller := none, tiles := [], order := 0 }
  reply (setReceipt { s1 with rcpt := { s1.rcpt with opened := n } } h r) k stDone
    [BitVec.ofNat 32 h, BitVec.ofNat 32 serial.toNat, BitVec.ofNat 32 (serial.toNat / 2 ^ 32)]

/-- RECEIPT_OPEN (R256). -/
def execReceiptOpen (bus : Bus) (s : State) : Host.Outcome State Fault Refusal :=
  onBus s bus (fun s => service 0x210 s (fun k t =>
    if !fieldsOk k (0x0FFF3FFF :: descMasks) then reply t k stBadField []
    else match openRefusal t k with
      | (.error st, t1) => reply t1 k st []
      | (.ok m, t1) =>
        match dmaRead t1 (descAt k 1) with
        | (.error (st, _), t2) => reply t2 k st []
        | (.ok o, t2) =>
          let ws := slotRecords o
          match badSlot t2 k ws 0 with
          | (some i, t3) => reply t3 k stSlotTable [field 32 0 4 i]
          | (none, t3) =>
            if ws.all slotPad then reply t3 k stSlotTable [0]
            else match firstBelow 1024 (fun h => (tfind t3.rcpt.receipts h).isNone) with
              | none => reply t3 k stNoSpace []
              | some h => openReceipt t3 k m ws h))

/-- The receipt that a request names: it must be in a state and of the request's lane (R254, R259). -/
def namedReceipt (s : State) (k : Call) (h : Nat) : Except (BitVec 8) Receipt :=
  match tfind s.rcpt.receipts h with
  | none => .error stReceiptState
  | some r =>
    if !k.owner ∧ r.lane ≠ k.lane then .error stDenied
    else if r.state ≠ .opened then .error stReceiptState
    else .ok r

/-- A slot made CORRUPT, with zero fold and digest (R260). One that step 4 found UNBOUND and step 5 makes CORRUPT loses that bit: the spec
says only what becomes of fold and digest (DESIGN CHOICE, log 150). -/
def corruptSlot (x : RSlot) (cause : Nat) : RSlot := { x with status := 1, cause := cause, fold := 0, digest := 0, unbound := false }

/-- A receipt that enters ENTERING with its verdict. -/
def toEntering (s : State) (h : Nat) (r : Receipt) (verdict : Nat) : State :=
  let r' : Receipt :=
    { r with state := .entering, verdict := verdict, closePace := BitVec.ofNat 64 s.pace.now, order := s.rcpt.order, tiles := [] }
  let s1 := setReceipt s h r'
  { s1 with rcpt := { s1.rcpt with order := s1.rcpt.order + 1 } }

/-- RECEIPT_ABANDON (R259). -/
def execReceiptAbandon (bus : Bus) (s : State) : Host.Outcome State Fault Refusal :=
  onBus s bus (fun s => service 0x212 s (fun k t =>
    if !fieldsOk k [0x3FF] then reply t k stBadField []
    else
      let h := bits (k.word 0) 0 10
      match namedReceipt t k h with
      | .error st => reply t k st []
      | .ok r =>
        let sl' := r.slots.map (fun x => if x.status = 2 then x else corruptSlot x 1)
        reply (toEntering t h { r with slots := sl' } 2) k stDone []))

/-- Receipts that name a context whose epoch closes become VOID (R259); one in ENTERING stays. -/
def voidReceipts (s : State) (c : Nat) : State :=
  (s.rcpt.receipts.filter (fun e => decide ((e.2.ctx = c ∨ e.2.modelCtx = c) ∧ e.2.state ≠ .entering))).foldl (fun t e =>
    let t1 := count (dropReceipt t e.1) 0x78A8 1
    match e.2.caller with
    | none => t1
    | some w => finish t1 w stStaleEpoch []) s

/-! ### Folds (R172, R260) -/

/-- What the fold of a region comes to. -/
inductive Folded where
  | fold (b : Block)
  | unbound
  | bad
deriving DecidableEq, Repr

/-- The blocks of a region, line by line. -/
def foldLines (s : State) : List Nat → List Block → Except Unit (List Block) × State
  | [], acc => (.ok acc, s)
  | la :: rest, acc =>
    match mapEntry s (pageOfLine la) with
    | (.error _, s1) => (.error (), s1)
    | (.ok e, s1) =>
      match lineMeta s1 (entClass e) (pageIndex s1 (pageOfLine la)) (la % 64) (entAux e) with
      | (.bad b, s2) => (.error (), lineFailed s2 b (dmaExc s2 (entCtx e) la .failed false))
      | (.keys m, s2) => foldLines s2 rest (acc ++ [foldBlock m.sl.toNat la])
      | (_, s2) => foldLines s2 rest (acc ++ [foldBlock 0 la])

/-- Whether every page of a region is VERSIONED or STREAM. -/
def regionBound (s : State) : List Nat → Bool × State
  | [] => (true, s)
  | p :: ps => match mapEntry s p with
    | (.error _, s1) => (false, s1)
    | (.ok e, s1) => if entClass e = .versionedC ∨ entClass e = .streamC then regionBound s1 ps else (false, s1)

/-- The fold of a region under a fold key, a serial and a slot index, with the key of its descriptor's context. -/
def foldRegion (s : State) (d : Desc) (f : Block) (serial slot : Nat) : Folded × State :=
  match regionBound s (spanPages d.addr d.len) with
  | (false, s1) => (.unbound, s1)
  | (true, s1) =>
    match foldLines s1 ((List.range (d.len / 64)).map (fun i => d.addr / 64 + i)) [] with
    | (.error _, s2) => (.bad, s2)
    | (.ok xs, s2) =>
      let s3 := readyKey s2 d.ctx
      (.fold (foldTag f (ctxKey s3 d.ctx) xs serial slot (d.addr / 64)), s3)

/-! ### Closing (R260) -/

/-- Step 2: the ROI check (R258); 0, or the cause. -/
def roiCheck (s : State) (x : RSlot) : Nat × State :=
  let d := slotDesc x.words 1
  let w (i : Nat) : W32 := x.words.getD i 0
  if !slotRoiv x.words then (0, s)
  else match regionStands s d x.inEpoch with
    | (false, s1) => (5, s1)
    | (true, s1) =>
      match dmaReadLine s1 d.ctx (d.addr / 64) with
      | (.error _, s2) => (2, s2)
      | (.ok (l, v), s2) =>
        let o := octetsOfLine l
        let rx := bits (w 9) 0 16
        let ry := bits (w 9) 16 16
        let rw_ := bits (w 10) 0 16
        let rh := bits (w 10) 16 16
        if v ≠ .clean ∨ rw_ = 0 ∨ rh = 0 ∨ bits (wordAt o 0) 0 16 < rx + rw_ ∨ bits (wordAt o 0) 16 16 < ry + rh ∨ wordAt o 4 ≠ w 11 then (2, s2)
        else (0, s2)

/-- Step 4: the fold of a slot's input region. -/
def foldSlot (s : State) (r : Receipt) (x : RSlot) (i : Nat) : RSlot × State :=
  let d := slotDesc x.words 1
  match regionStands s d x.inEpoch with
  | (false, s1) => (corruptSlot x 5, s1)
  | (true, s1) =>
    match foldRegion s1 d r.foldKey r.serial.toNat i with
    | (.unbound, s2) => ({ x with unbound := true, fold := 0 }, s2)
    | (.bad, s2) => (corruptSlot x 3, s2)
    | (.fold b, s2) => ({ x with fold := b }, s2)

/-- Step 5: the digest of a slot's output region. -/
def digestOutput (s : State) (x : RSlot) : RSlot × State :=
  let d := slotDesc x.words 5
  match regionStands s d x.outEpoch with
  | (false, s1) => (corruptSlot x 5, s1)
  | (true, s1) =>
    match dmaRead s1 d with
    | (.error _, s2) => (corruptSlot x 4, s2)
    | (.ok o, s2) => ({ x with digest := BitVec.ofNat 384 (ofBe (sha384 o)) }, ownDigest s2 (ctxAt s2 d.ctx).lane.toNat)

/-- One step of the close over the slots that are not PAD and not CORRUPT. -/
def overSlots (f : State → RSlot → Nat → RSlot × State) : State → List RSlot → Nat → List RSlot × State
  | s, [], _ => ([], s)
  | s, x :: xs, i =>
    let (y, s1) := if x.status = 0 then f s x i else (x, s)
    let (ys, s2) := overSlots f s1 xs (i + 1)
    (y :: ys, s2)

/-- Steps 1 to 5 of the close. -/
def closeSlots (s : State) (h : Nat) (r : Receipt) (declared : W32) : List RSlot × State :=
  let (a, s1) := overSlots (fun t x i => (if bit declared i then corruptSlot x 1 else x, t)) s r.slots 0
  let (b, s2) := overSlots (fun t x _ => match roiCheck t x with
    | (0, t1) => (x, t1)
    | (n, t1) => (corruptSlot x n, t1)) s1 a 0
  let seen : List Bool := match tfind s2.rcpt.receipts h with
    | some q => q.slots.map RSlot.marked
    | none => []
  let (c, s3) := overSlots (fun t x i => (if seen.getD i false then corruptSlot x 3 else x, t)) s2 b 0
  let (d, s4) := overSlots (fun t x i => foldSlot t r x i) s3 c 0
  overSlots (fun t x _ => digestOutput t x) s4 d 0

/-- RECEIPT_CLOSE's job: steps 1 to 5, then the read entries of step 6 go to completion. -/
def closeReceipt (h : Nat) (declared : W32) (w : Caller) (s : State) : State :=
  match tfind s.rcpt.receipts h with
  | none => s
  | some r =>
    let s0 := setReceipt s h { r with state := .closing, caller := some w }
    let (sl', s1) := closeSlots s0 h r declared
    let es := ((tilesOf s1 r.modelCtx ++ tilesOf s1 r.ctx).map TileRead.order).eraseDups
    let rs := s1.tiles.reads.map (fun e => if es.contains e.order then { e with completing := true } else e)
    setReceipt { s1 with tiles := { s1.tiles with reads := rs } } h
      { r with state := .pending, caller := some w, slots := sl', tiles := es }

/-- RECEIPT_CLOSE (R260). -/
def execReceiptClose (bus : Bus) (s : State) : Host.Outcome State Fault Refusal :=
  onBus s bus (fun s => service 0x211 s (fun k t =>
    if !fieldsOk k [0x3FF, 0xFFFF] then reply t k stBadField []
    else
      let h := bits (k.word 0) 0 10
      match namedReceipt t k h with
      | .error st => reply t k st []
      | .ok _ => ticketed t k (closeReceipt h (k.word 1))))

/-- RECEIPT_REFOLD (R264). -/
def execReceiptRefold (bus : Bus) (s : State) : Host.Outcome State Fault Refusal :=
  onBus s bus (fun s => service 0x213 s (fun k t =>
    let d := descAt k 7
    if !fieldsOk k ([0xF, 0xFFFFFFFF, 0xFFFFFFFF, 0xFFFFFFFF, 0xFFFFFFFF, 0xFFFFFFFF, 0xFFFFFFFF] ++ descMasks)
        ∨ d.addr % 64 ≠ 0 ∨ d.len % 64 ≠ 0 ∨ d.len < 64 then reply t k stBadField []
    else match descRefusal t k d false with
      | (some st, t1) => reply t1 k st []
      | (none, t1) =>
        let serial := (k.word 1).toNat + 2 ^ 32 * (k.word 2).toNat
        let f : Block := blockOfOctets ((List.range 4).flatMap (fun i => beOctets 4 (k.word (3 + i)).toNat))
        let words (b : Block) : List W32 := (chunks 4 (octetsOfBlock b)).map (fun o => BitVec.ofNat 32 (ofBe o))
        match foldRegion t1 d f serial (bits (k.word 0) 0 4) with
        | (.fold b, t2) => reply t2 k stDone (words b)
        | (.unbound, t2) => reply t2 k stDone (words 0)
        | (.bad, t2) => reply t2 k stFaulted []))

/-- PENDING receipts whose read entries all have their verdicts, oldest first. -/
def finalReceipt (s : State) : Option (Nat × Receipt) :=
  (s.rcpt.receipts.filter (fun e => e.2.state == .pending
      && e.2.tiles.all (fun o => (tileEntry s o).isNone))).foldl (fun b e => match b with
    | none => some e
    | some d => if e.2.serial < d.2.serial then some e else some d) none

/-- RECEIPT_VERDICTS_FINAL (R259, R260): step 7. -/
def receiptVerdicts (s : State) : State :=
  match finalReceipt s with
  | none => s
  | some (h, r) =>
    let tainted := (ctxAt s r.ctx).taint || (ctxAt s r.modelCtx).taint
    toEntering s h r (if tainted then 1 else 0)

/-- RECEIPT_VERDICTS_FINAL. -/
def execReceiptVerdictsFinal (bus : Bus) (s : State) : Host.Outcome State Fault Refusal := onBus s bus receiptVerdicts

/-! ### The record (R265, R266) -/

/-- A slot's 96 octets. -/
def slotOctets (x : RSlot) : Octets :=
  let w (i : Nat) : W32 := x.words.getD i 0
  let d := slotDesc x.words 1
  let pad := x.status = 2
  let w0 : W32 := field 32 0 2 x.status ||| field 32 8 3 x.cause ||| flag 32 16 (bit (w 0) 1) ||| flag 32 17 (bit (w 0) 2)
    ||| flag 32 18 x.unbound
  if pad then octetsOfWord w0 ++ List.replicate 92 0
  else octetsOfWords [w0, w 9, w 10, w 11] ++ leOctets 8 (d.addr + d.ctx * 2 ^ 50) ++ octetsOfWords [w 4, w 8]
    ++ octetsOfBlock x.fold ++ beOctets 48 x.digest.toNat

/-- A receipt record. -/
def receiptRecord (r : Receipt) : Octets :=
  octetsOfWords [1 ||| field 32 8 5 r.slots.length ||| field 32 16 2 r.verdict, field 32 0 14 r.ctx ||| field 32 16 6 r.lane,
      field 32 0 24 r.epoch.toNat ||| field 32 24 8 r.keyGen.toNat, field 32 0 14 r.modelCtx ||| field 32 16 12 r.handle,
      field 32 0 24 r.modelEpoch.toNat, 0]
    ++ leOctets 8 r.serial.toNat ++ leOctets 8 r.openPace.toNat ++ leOctets 8 r.closePace.toNat
    ++ beOctets 48 r.measurement.toNat ++ octetsOfBlock r.foldKey ++ List.replicate 16 0 ++ r.slots.flatMap slotOctets

/-- The CORRUPT mask of a receipt. -/
def corruptMask (r : Receipt) : Nat :=
  (r.slots.zipIdx).foldl (fun a x => if x.1.status = 1 then a + 2 ^ x.2 else a) 0

/-! ### Sheets (R268 to R271) -/

/-- A sheet slot. -/
def sheetAt (s : State) (l i : Nat) : Sheet := tget {} s.rcpt.sheets (5 * l + i)
/-- A sheet slot written. -/
def setSheet (s : State) (l i : Nat) (v : Sheet) : State :=
  { s with rcpt := { s.rcpt with sheets := tset {} s.rcpt.sheets (5 * l + i) v } }

/-- First byte of a sheet slot in the receipt store (R268). -/
def sheetBase (s : State) (l i : Nat) : Nat := 4096 * bits (fixedReg s 0x1B0C) 0 24 + ((l - 1) * 5 + i) * 458752

/-- The slot of a lane that is in a state, lowest first. -/
def sheetIn (s : State) (l : Nat) (st : SheetState) : Option Nat := firstBelow 5 (fun i => (sheetAt s l i).state == st)

/-- Octets put at any byte of an own region: lines not covered whole are merged; whether every line was stored. -/
def ownPatch (s : State) (addr : Nat) (o : Octets) : Bool × State :=
  let r := (spanLines addr o.length).foldl (fun (x : Bool × Octets × State) c =>
    let (ok, rest, t) := x
    let (la, lo, n) := c
    let old : Except BadLine Line × State := if n = 64 then (.ok 0, t) else readOwnDma t la
    match old with
    | (.error _, t1) => (false, rest.drop n, t1)
    | (.ok l, t1) =>
      let ol := octetsOfLine l
      match writeOwnDma t1 la (lineOfOctets (ol.take lo ++ rest.take n ++ ol.drop (lo + n))) with
      | (.ok _, t2) => (ok, rest.drop n, t2)
      | (.error _, t2) => (false, rest.drop n, t2)) (true, o, s)
  (r.1, r.2.2)

/-- A filling sheet closed and passed to SIGNING; while no other slot of the lane is free it is due (R269, R271). -/
def closeSheet (s : State) (l i cause : Nat) : State :=
  let v := sheetAt s l i
  let c := if v.due then v.cause else cause
  if (sheetIn s l .free).isSome then setSheet s l i { v with state := .signing, due := false, cause := c, attempts := 0, retryAt := none }
  else setSheet s l i { v with due := true, cause := c }

/-- The lane's filling sheet closed for a cause; an empty one is no sheet. -/
def closeFilling (s : State) (l cause : Nat) : State :=
  match sheetIn s l .filling with
  | none => s
  | some i => closeSheet s l i cause

/-- The filling sheet of a lane, or a free slot opened as one; nothing while it is due or no slot is free. -/
def roomFor (s : State) (l : Nat) : Option Nat :=
  match sheetIn s l .filling with
  | some i => if (sheetAt s l i).due then none else some i
  | none => sheetIn s l .free

/-- A receipt appended to a sheet (R268). -/
def enterReceipt (s : State) (h : Nat) (r : Receipt) (i : Nat) : State :=
  let o := receiptRecord r
  let v := sheetAt s r.lane i
  match ownPatch s (sheetBase s r.lane i + 8192 + v.len) o with
  | (false, s1) => s1
  | (true, s1) =>
    let first := v.count = 0
    let v' : Sheet :=
      { v with state := .filling, count := v.count + 1, len := v.len + o.length
               leaves := v.leaves ++ [BitVec.ofNat 384 (ofBe (sha384 (0 :: o)))]
               firstPace := if first then BitVec.ofNat 64 s1.pace.now else v.firstPace
               since := if first then clock s1 else v.since }
    let s2 := dropReceipt (setSheet (ownDigest s1 r.lane) r.lane i v') h
    let corrupt := (r.slots.filter (fun x => decide (x.status = 1))).length
    let s3 := count (count s2 0x7898 1) 0x78B0 corrupt
    let s4 := if r.verdict = 1 then count s3 0x78A0 1 else s3
    let s5 := match r.caller with
      | none => s4
      | some w => finish s4 w stDone [field 32 0 2 r.verdict ||| field 32 16 16 (corruptMask r), BitVec.ofNat 32 r.serial.toNat,
          BitVec.ofNat 32 (r.serial.toNat / 2 ^ 32), field 32 0 8 v.count]
    if v.count + 1 = 256 then closeSheet s5 r.lane i 0 else s5

/-- The receipt in ENTERING that goes first among those whose lane has room. -/
def nextEntry (s : State) : Option (Nat × Receipt) :=
  (s.rcpt.receipts.filter (fun e => e.2.state == .entering && (roomFor s e.2.lane).isSome)).foldl (fun b e => match b with
    | none => some e
    | some d => if e.2.order < d.2.order then some e else some d) none

/-- RECEIPT_ENTER (R268). -/
def receiptEnter (s : State) : State :=
  match nextEntry s with
  | none => s
  | some (h, r) => match roomFor s r.lane with
    | none => s
    | some i => enterReceipt s h r i

/-- RECEIPT_ENTER. -/
def execReceiptEnter (bus : Bus) (s : State) : Host.Outcome State Fault Refusal := onBus s bus receiptEnter

/-! ### Signing (R269, R270) -/

/-- The largest power of two below n, for n at least 2. -/
def splitAt2 (n : Nat) : Nat := 2 ^ (Nat.log2 (n - 1))

/-- The RFC 9162 tree hash over leaf hashes, by fuel (R270). -/
def merkle : Nat → List (BitVec 384) → Octets
  | 0, _ => sha384 []
  | f + 1, ls =>
    match ls with
    | [] => sha384 []
    | [x] => beOctets 48 x.toNat
    | _ =>
      let k := splitAt2 ls.length
      sha384 (1 :: merkle f (ls.take k) ++ merkle f (ls.drop k))

/-- The sheet header. -/
def sheetHeader (s : State) (l : Nat) (v : Sheet) (serial : W64) : Octets :=
  octetsOfWords [1 ||| field 32 8 6 l ||| field 32 16 2 v.cause ||| field 32 20 9 v.count, (laneAt s l).gen]
    ++ leOctets 8 serial.toNat ++ leOctets 8 s.pace.now ++ leOctets 8 v.firstPace.toNat ++ merkle 9 v.leaves ++ identityDigest s

/-- The sheet that is signed next: the lowest of those that are SIGNING and wait for no retry. -/
def nextSigning (s : State) : Option Nat :=
  (s.rcpt.sheets.find? (fun e => e.2.state == .signing && e.2.retryAt.isNone)).map Prod.fst

/-- A failed attempt; the third raises FAULT_NOTICE and waits 65,536 paces. -/
def signFails (s : State) (l i : Nat) : State :=
  let v := sheetAt s l i
  let n := v.attempts + 1
  let s1 := setSheet s l i { v with attempts := n, retryAt := if n % 3 = 0 then some (s.pace.now + 65536) else none }
  if n % 3 = 0 then faultNotice s1 0x08 (some l) 0 n else s1

/-- One attempt to sign a sheet. -/
def signSheet (s : State) (l i : Nat) : State :=
  let v := sheetAt s l i
  let n := tget 0 s.rcpt.signedCount l
  let serial : W64 := BitVec.ofNat 64 ((vaultView s).startCount.toNat * 2 ^ 32 + n)
  match coseSign s (sheetSignKeys s l) "application/vnd.miryar.sheet" (sheetHeader s l v serial) with
  | (none, s1) => signFails s1 l i
  | (some c, s1) =>
    let pre := octetsOfWords [0x54485353, BitVec.ofNat 32 c.length, 8192, BitVec.ofNat 32 v.len]
    match ownPatch s1 (sheetBase s1 l i) (padTo 8192 (pre ++ c)) with
    | (false, s2) => signFails s2 l i
    | (true, s2) =>
      let s3 := setSheet s2 l i { v with state := .signed, serial := serial, imageLen := 8192 + v.len, retryAt := none, callers := [] }
      let s4 := { s3 with rcpt := { s3.rcpt with signedCount := tset 0 s3.rcpt.signedCount l (n + 1) } }
      let s5 := v.callers.foldl (fun t w => finish t w stDone [BitVec.ofNat 32 v.count]) (count s4 0x78B8 1)
      raiseBells s5 (channelsWhere s5 (fun c => isActive s5 c && decide (channelLane s5 c = some l))) bellSheet

/-- A sheet is signed once the RNS engine's credit covers a pace of it: without permits signing stalls (R120). -/
def signWhen (s : State) (l i : Nat) : State :=
  if covers s crRns (rnsUnit s) 1 then signSheet (spendCredit s crRns (rnsUnit s)) l i else s

/-- SHEET_SIGNED (R269). -/
def execSheetSigned (bus : Bus) (s : State) : Host.Outcome State Fault Refusal :=
  onBus s bus (fun s => match nextSigning s with
    | none => s
    | some n => signWhen s (n / 5) (n % 5))

/-- SHEET_SIGN_RETRY (R269): 65,536 paces after three failed attempts. -/
def execSheetSignRetry (bus : Bus) (s : State) : Host.Outcome State Fault Refusal :=
  onBus s bus (fun s =>
    match s.rcpt.sheets.find? (fun e => e.2.state == .signing && (match e.2.retryAt with
        | some p => decide (p ≤ s.pace.now)
        | none => false)) with
    | none => s
    | some (n, v) => signWhen (setSheet s (n / 5) (n % 5) { v with retryAt := none }) (n / 5) (n % 5))

/-- SHEET_AGE_EXPIRE (R269): 1,048,576 paces, fault restarts left out, after a sheet's first entry (R463). -/
def execSheetAgeExpire (bus : Bus) (s : State) : Host.Outcome State Fault Refusal :=
  onBus s bus (fun s =>
    match s.rcpt.sheets.find? (fun e => e.2.state == .filling && !e.2.due && decide (e.2.since + 1048576 ≤ clock s)) with
    | none => s
    | some (n, _) => closeSheet s (n / 5) (n % 5) 2)

/-! ### The sheet commands (R254, R271, R272) -/

/-- LANE of a sheet command, where the request may name it. -/
def sheetLane (k : Call) : Except (BitVec 8) Nat :=
  let l := bits (k.word 0) 0 6
  if !k.owner ∧ l ≠ k.lane then .error stDenied else .ok l

/-- The slot that holds the SIGNED sheet of a serial. -/
def keptSheet (s : State) (l : Nat) (serial : W64) : Option Nat :=
  firstBelow 5 (fun i => (sheetAt s l i).state == .signed && decide ((sheetAt s l i).serial = serial))

/-- A 64-bit value in two message words, low first. -/
def serialAt (k : Call) (a : Nat) : W64 := BitVec.ofNat 64 ((k.word a).toNat + 2 ^ 32 * (k.word (a + 1)).toNat)

/-- SHEET_FLUSH's job. -/
def flushSheet (l : Nat) (w : Caller) (s : State) : State :=
  match sheetIn s l .filling with
  | none => finish s w stDone [0]
  | some i =>
    let v := sheetAt s l i
    closeSheet (setSheet s l i { v with callers := v.callers ++ [w] }) l i 1

/-- SHEET_FLUSH (R269). -/
def execSheetFlush (bus : Bus) (s : State) : Host.Outcome State Fault Refusal :=
  onBus s bus (fun s => service 0x220 s (fun k t =>
    if !fieldsOk k [0x3F] then reply t k stBadField []
    else match sheetLane k with
      | .error st => reply t k st []
      | .ok l => ticketed t k (flushSheet l)))

/-- SHEET_COPY's job. -/
def copySheet (l i : Nat) (d : Desc) (w : Caller) (s : State) : State :=
  match ownRead s (sheetBase s l i / 64) (sheetAt s l i).imageLen with
  | (.error _, s1) => finish s1 w stFaulted [0]
  | (.ok o, s1) =>
    match dmaWrite s1 d.ctx d.addr o with
    | (none, s2) => finish s2 w stDone [BitVec.ofNat 32 o.length]
    | (some (st, n), s2) => finish s2 w st [BitVec.ofNat 32 n]

/-- SHEET_COPY (R254). -/
def execSheetCopy (bus : Bus) (s : State) : Host.Outcome State Fault Refusal :=
  onBus s bus (fun s => service 0x221 s (fun k t =>
    if !fieldsOk k ([0x3F, 0xFFFFFFFF, 0xFFFFFFFF] ++ descMasks) then reply t k stBadField []
    else match sheetLane k with
      | .error st => reply t k st []
      | .ok l =>
        let d := descAt k 3
        match descRefusal t k d true with
        | (some st, t1) => reply t1 k st []
        | (none, t1) => match keptSheet t1 l (serialAt k 1) with
          | none => reply t1 k stReceiptState []
          | some i =>
            if d.len < (sheetAt t1 l i).imageLen then reply t1 k stBadLength []
            else ticketed t1 k (copySheet l i d)))

/-- SHEET_COLLECT (R271): the slot is free; a filling sheet that is due closes. -/
def execSheetCollect (bus : Bus) (s : State) : Host.Outcome State Fault Refusal :=
  onBus s bus (fun s => service 0x222 s (fun k t =>
    if !fieldsOk k [0x3F] then reply t k stBadField []
    else match sheetLane k with
      | .error st => reply t k st []
      | .ok l => match keptSheet t l (serialAt k 1) with
        | none => reply t k stReceiptState []
        | some i =>
          let t1 := setSheet t l i {}
          let t2 := match sheetIn t1 l .filling with
            | some j => if (sheetAt t1 l j).due then closeSheet t1 l j (sheetAt t1 l j).cause else t1
            | none => t1
          reply t2 k stDone []))

/-- The four slots of a lane beside its filling one: where none is filling, beside its lowest free one. -/
def keptSlots (s : State) (l : Nat) : List Nat :=
  let f := (sheetIn s l .filling).getD ((sheetIn s l .free).getD 0)
  (List.range 5).filter (fun i => decide (i ≠ f))

/-- SHEET_STATUS's answer (R272). -/
def sheetStatus (k : Call) (s : State) : State :=
  let l := bits (k.word 0) 0 6
  if !fieldsOk k [0x3F] then reply s k stBadField []
  else
    let kept := keptSlots s l
    let n := match sheetIn s l .filling with
      | some i => (sheetAt s l i).count
      | none => 0
    let mask := (kept.zipIdx).foldl (fun a x => if (sheetAt s l x.1).state == .signed then a + 2 ^ x.2 else a) 0
    let words (i : Nat) : List W32 :=
      let v := sheetAt s l i
      if v.state == .signed then
        [BitVec.ofNat 32 v.serial.toNat, BitVec.ofNat 32 (v.serial.toNat / 2 ^ 32), BitVec.ofNat 32 v.imageLen]
      else [0, 0, if v.state == .signing then BitVec.ofNat 32 (8192 + v.len) else 0]
    reply s k stDone ((field 32 0 9 n ||| field 32 16 4 mask) :: kept.flatMap words)

/-- SHEET_STATUS (R272). -/
def execSheetStatus (bus : Bus) (s : State) : Host.Outcome State Fault Refusal := onBus s bus (fun s => service 0x223 s sheetStatus)

/-- RECEIPT_FETCH's answer (R272). -/
def receiptFetch (k : Call) (s : State) : State :=
  let l := bits (k.word 0) 0 6
  let off := (k.word 3).toNat
  if !fieldsOk k [0x3F] ∨ off % 48 ≠ 0 then reply s k stBadField []
  else match keptSheet s l (serialAt k 1) with
    | none => reply s k stReceiptState []
    | some i =>
      let n := min 48 ((sheetAt s l i).imageLen - off)
      let base := sheetBase s l i + off
      match ownRead s (base / 64) (if n = 0 then 0 else base % 64 + n) with
      | (.error _, s1) => reply s1 k stFaulted []
      | (.ok o, s1) => reply s1 k stDone (field 32 0 6 n :: wordsOfOctets 12 (o.drop (base % 64)))

/-- RECEIPT_FETCH (R272). -/
def execReceiptFetch (bus : Bus) (s : State) : Host.Outcome State Fault Refusal := onBus s bus (fun s => service 0x224 s receiptFetch)

end Sys2Proof.Machine
end

