-- ==== Sys2Proof/Machine/Rns.lean ====
section
/-!
DEFINITION. The residue arithmetic engine's jobs (R312 to R338): their checks and life, the two banks and the lanes, spilling, the
semaphores, aborts.
-/

namespace Sys2Proof.Machine

open Sys2Proof

/-- Engine status codes (R336). -/
def stRnsPoint : BitVec 8 := 0x40
/-- RNS_RANGE -/
def stRnsRange : BitVec 8 := 0x41
/-- RNS_SIG_INVALID -/
def stRnsSigInvalid : BitVec 8 := 0x42
/-- RNS_KEY_TYPE -/
def stRnsKeyType : BitVec 8 := 0x43
/-- RNS_SECRET_OPEN -/
def stRnsSecretOpen : BitVec 8 := 0x44
/-- RNS_ENCODING -/
def stRnsEncoding : BitVec 8 := 0x45
/-- RNS_SELFCHECK -/
def stRnsSelfcheck : BitVec 8 := 0x46
/-- RNS_DEGENERATE -/
def stRnsDegenerate : BitVec 8 := 0x47

/-! ### Operands (R315, R316) -/

/-- The curve of a SET. -/
def curveOf (set : Nat) : Curve := if set = 0 then p256 else p384
/-- The ML-DSA parameters of a SET. -/
def dsaOf (set : Nat) : DsaSet := if set = 2 then dsa65 else dsa87
/-- The ML-KEM parameters of a SET. -/
def kemOf (set : Nat) : KemSet := if set = 4 then kem768 else kem1024

/-- What a descriptor of a request carries: an operand of one size, a digest, a message region, or a result of a size. -/
inductive Operand where
  | exact (n : Nat)
  | digest
  | message
  | out (n : Nat)
  /-- a shared secret -/
  | secret (n : Nat)
deriving DecidableEq, Repr

/-- Octets of a public key of a SET. -/
def pubLen (set : Nat) : Nat :=
  if set ≤ 1 then 1 + 2 * (curveOf set).len else if set ≤ 3 then (dsaOf set).pkLen else (kemOf set).ekLen
/-- Octets of a signature of a SET. -/
def signLen (set : Nat) : Nat := if set ≤ 1 then 2 * (curveOf set).len else (dsaOf set).sigLen

/-- The descriptors of an opcode in word order. -/
def operandsOf (op set : Nat) : List Operand :=
  if op = 0x401 then [.digest, .out (signLen set)]
  else if op = 0x402 then [.exact (pubLen set), .digest, .exact (signLen set)]
  else if op = 0x403 then [.exact (pubLen set), .secret (curveOf set).len]
  else if op = 0x404 then [.message, .out (signLen set)]
  else if op = 0x405 then [.exact (pubLen set), .message, .exact (signLen set)]
  else if op = 0x406 then [.out (pubLen set)]
  else if op = 0x407 then [.exact (pubLen set), .out (kemOf set).ctLen, .secret 32]
  else [.exact (kemOf set).ctLen, .secret 32]

/-- Whether an operand is a result. -/
def Operand.isOut : Operand → Bool
  | .out _ => true
  | .secret _ => true
  | _ => false

/-- Whether a descriptor's LENGTH is allowed. -/
def Operand.lenOk (len : Nat) : Operand → Bool
  | .exact n => decide (len = n)
  | .digest => decide (len = 32 ∨ len = 48 ∨ len = 64)
  | .message => decide (1 ≤ len ∧ len ≤ 65792)
  | .out n => decide (n ≤ len)
  | .secret n => decide (n ≤ len)

/-- Octets of an operand as it is written. -/
def Operand.size : Operand → Nat
  | .out n => n
  | .secret n => n
  | _ => 0

/-- Whether an opcode serves a SET. -/
def setServed (op set : Nat) : Bool :=
  if op ≤ 0x403 then decide (set ≤ 1) else if op ≤ 0x405 then decide (set = 2 ∨ set = 3) else decide (set = 4 ∨ set = 5)

/-- The key TYPE that a SET takes (R317, order 6). -/
def setType (set : Nat) : Nat := if set = 0 then 3 else if set = 1 then 4 else if set = 2 then 7 else if set = 3 then 8 else set + 1

/-- Whether a SET's programs draw on the coupling (R311). -/
def isLattice (set : Nat) : Bool := decide (2 ≤ set)

/-- Live operand bytes of a job (R331). -/
def liveBytes (set : Nat) : Nat :=
  if set = 0 then 4096 else if set = 1 then 6144 else if set = 2 then 40960 else if set = 3 then 49152 else if set = 4 then 20480 else 28672

/-- Paces of a save or a restore. -/
def spillPaces (set : Nat) : Nat := 3 + ceilDiv (liveBytes set) 2048

/-! ### Jobs and banks -/

/-- A job replaced. -/
def setJob (s : State) (j : RnsJob) : State :=
  { s with rns := { s.rns with jobs := s.rns.jobs.map (fun x => if x.id = j.id then j else x) } }

/-- The job in a bank. -/
def bankJob (s : State) (b : Nat) : Option RnsJob := s.rns.jobs.find? (fun j => decide (j.bank = some b))

/-- A free bank, the lower first. -/
def freeBank (s : State) : Option Nat := firstBelow 2 (fun b => (bankJob s b).isNone)

/-- Whether a job waits for a bank. -/
def RnsJob.waits (j : RnsJob) : Bool := j.phase == .queued || j.phase == .spilled

/-- Priorities of the digest slots' loads that wait for the working key register: 1 for the owner's, 2 for a lane's (R353). -/
def loadWaiters (s : State) : List Nat := s.dig.opens.map (fun x => if x.2 then 1 else 2)

/-- Priorities of those that wait for the working key register: keyed jobs without a bank, and digest slots' loads (R286). -/
def keyWaiters (s : State) : List Nat := (s.rns.jobs.filter (fun j => j.waits && j.key.isSome)).map RnsJob.prio ++ loadWaiters s

/-- Priorities of those that wait for the coupling. -/
def couplingWaiters (s : State) : List Nat := (s.rns.jobs.filter RnsJob.phaseDue).map RnsJob.prio

/-- The pace from which a job's lease of a semaphore counts, with the priorities of its waiters (R333). -/
def leases (s : State) (j : RnsJob) : List (Nat × List Nat) :=
  (match s.keys.wkr with
    | some w => if w.job = j.id then [(w.since, keyWaiters s)] else []
    | none => []) ++
  (match s.rns.coupling with
    | some (i, t) => if i = j.id then [(t, couplingWaiters s)] else []
    | none => [])

/-- A job's effective priority: a holder inherits that of its highest waiter for 256 paces (R333). -/
def effective (s : State) (j : RnsJob) : Nat :=
  ((leases s j).filter (fun l => decide (s.pace.now < l.1 + 256))).foldl (fun a l => l.2.foldl min a) j.prio

/-- The coupling given to the highest-priority job that waits for it; the Keccak core switches to it (R350). -/
def grantCoupling (s : State) : State :=
  if s.rns.coupling.isSome then s
  else
    match (s.rns.jobs.filter RnsJob.phaseDue).foldl (fun b j => match b with
        | none => some j
        | some d => if j.prio < d.prio then some j else some d) none with
    | none => s
    | some j =>
      let s1 := setJob s { j with phaseDue := false }
      count { s1 with rns := { s1.rns with coupling := some (j.id, s1.pace.now) } } 0x7908 1

/-- The octets that a phase of the coupling absorbs, counted and charged to its job's lane; the spec states no number: a free value
(R124, R350, R367; log 62). -/
def coupledOctets (s : State) (id : Nat) : State :=
  let (n, s1) := drawFree s
  let lane := ((s1.rns.jobs.find? (fun j => decide (j.id = id))).map RnsJob.payer).getD 0
  chargeEnergy (count s1 0x7900 n.toNat) lane (ceilDiv n.toNat 64 * digestUnit s1)

/-- The coupling given up by a job that holds it. -/
def dropCoupling (s : State) (id : Nat) : State :=
  match s.rns.coupling with
  | some (i, _) => if i = id
      then grantCoupling (count (coupledOctets { s with rns := { s.rns with coupling := none } } id) 0x7908 1) else s
  | none => s

/-- The working key register zeroed where a job holds it. -/
def dropWkr (s : State) (id : Nat) : State :=
  match s.keys.wkr with
  | some w => if w.job = id then { s with keys := { s.keys with wkr := none } } else s
  | none => s

/-- Whether a job off the lanes could have them: it is in its bank and waits for no semaphore (R329, R333). -/
def RnsJob.ready (j : RnsJob) : Bool := (j.phase == .validating || j.phase == .waiting) && !j.phaseDue

/-- Lanes that no job holds go to the ready job of the highest effective priority (R329). -/
def giveLanes (s : State) : State :=
  if s.rns.lanes.isSome then s
  else
    match (s.rns.jobs.filter RnsJob.ready).foldl (fun b j => match b with
        | none => some j
        | some d => if effective s j < effective s d then some j else some d) none with
    | none => s
    | some j =>
      let s1 := { s with rns := { s.rns with lanes := j.bank } }
      if j.phase = .waiting then setJob s1 { j with phase := j.resume, since := s.pace.now } else s1

/-- A job off the lanes, which go to another. -/
def offLanes (s : State) (j : RnsJob) : State :=
  if j.bank.isSome ∧ s.rns.lanes = j.bank then giveLanes { s with rns := { s.rns with lanes := none } } else s

/-- A job goes to CLEARING with the status that ends it (R325). -/
def toClearing (s : State) (j : RnsJob) (st : BitVec 8) (words : List W32) : State :=
  let s1 := setJob s { j with phase := .clearing, since := s.pace.now, status := st, words := words, phaseDue := false }
  offLanes (dropCoupling s1 j.id) j

/-- Result words of a job that ends otherwise than DONE: the descriptor concerned, and WIPED (R324). -/
def failWords (desc : Nat) (wiped : Bool) : List W32 := [field 32 0 8 desc ||| flag 32 8 wiped]

/-- RNS_LANE_ABORTs answered as their last job ends (R334). -/
def settleAborts (s : State) (id : Nat) : State :=
  let as := s.rns.aborts.map (fun a => { a with ids := a.ids.filter (fun i => decide (i ≠ id)) })
  (as.filter (fun a => a.ids.isEmpty)).foldl (fun t a => finish t a.caller stDone [])
    { s with rns := { s.rns with aborts := as.filter (fun a => !a.ids.isEmpty) } }

/-- A job ended and reported: its bank, its slot and its register are free. -/
def endJob (s : State) (j : RnsJob) (st : BitVec 8) (words : List W32) : State :=
  let s1 := offLanes (dropCoupling (dropWkr s j.id) j.id) j
  let s2 := { s1 with rns := { s1.rns with jobs := s1.rns.jobs.filter (fun x => decide (x.id ≠ j.id)) } }
  settleAborts (finish (count s2 (if st = stDone then 0x78D8 else 0x78E0) 1) j.caller st words) j.id

/-! ### The spill area (R331, R332) -/

/-- First line of a slot of the spill area: 52 KiB each. -/
def spillLine (s : State) (i : Nat) : Nat := 64 * (bits (fixedReg s 0x3014) 0 24 + 13 * i)

/-- The lowest slot that no job holds. -/
def freeSpill (s : State) : Option Nat := firstBelow 8 (fun i => !s.rns.jobs.any (fun j => decide (j.slot = some i)))

/-- A line of a saved job; the spec gives no layout of it (log 4). -/
def freeLine (s : State) : Line × State :=
  (List.range 8).foldl (fun (x : Line × State) i =>
    let (v, t) := drawFree x.2
    (x.1 ||| BitVec.ofNat 512 (v.toNat <<< (64 * i)), t)) (0, s)

/-- Lines written from a line on; whether every one was stored. -/
def spillWrite (zero : Bool) : Nat → Nat → State → Bool × State
  | 0, _, s => (true, s)
  | n + 1, la, s =>
    let (l, s1) : Line × State := if zero then (0, s) else freeLine s
    let (r, s2) := writeOwnDma s1 la l
    let (ok, s3) := spillWrite zero n (la + 1) s2
    ((match r with
      | .ok _ => ok
      | .error _ => false), s3)

/-- Lines read from a line on; whether every one was CLEAN. -/
def spillRead : Nat → Nat → State → Bool × State
  | 0, _, s => (true, s)
  | n + 1, la, s =>
    let (r, s1) := readOwnDma s la
    let (ok, s2) := spillRead n (la + 1) s1
    ((match r with
      | .ok _ => ok
      | .error _ => false), s2)

/-- A job leaves its bank for the spill area: the save begins (R331); its semaphores pass on. -/
def spillNow (s : State) (j : RnsJob) : State :=
  let onto : RnsPhase := match j.phase with
    | .loading => .loading
    | .checking => .checking
    | .waiting => j.resume
    | _ => .running
  let j' := { j with phase := .spilling, resume := onto, since := s.pace.now, phaseDue := false, spill := false }
  let s1 := count (setJob s j') 0x78E8 1
  let s2 := if j.spill then rnsEvent s1 (fun r => { r with leaseExpired := true }) else s1
  offLanes (dropCoupling (dropWkr s2 j.id) j.id) j

/-- The job of the lowest effective priority below p that may be spilled (R330). -/
def victimOf (s : State) (p : Nat) : Option RnsJob :=
  (s.rns.jobs.filter (fun j => j.bank.isSome && decide (p < effective s j ∧ j.prio ≠ 0)
      && (j.phase == .loading || j.phase == .validating || j.phase == .running || j.phase == .waiting || j.phase == .checking))).foldl
    (fun b j => match b with
      | none => some j
      | some d =>
        if effective s d < effective s j then some j
        else if effective s j < effective s d then some d
        else if s.rns.lanes = d.bank then some j
        else if s.rns.lanes = j.bank then some d
        else if liveBytes j.set < liveBytes d.set then some j else some d) none

/-- Whether the working key register would serve a waiting job once `v` has left its bank. -/
def keyFree (s : State) (v j : RnsJob) : Bool :=
  j.key.isNone || (match s.keys.wkr with
    | none => true
    | some w => decide (w.job = v.id))

/-- The first of the jobs that wait for a bank, by priority and then in order of arrival. -/
def firstWaiter (ws : List RnsJob) : Option RnsJob := ws.foldl (fun b j => match b with
  | none => some j
  | some d => if j.prio < d.prio then some j else some d) none

/-- The jobs that wait for a bank, without those for which a bank is being vacated: one for each job that is being saved. -/
def unserved (s : State) : List RnsJob :=
  (s.rns.jobs.filter (fun j => j.phase == .spilling)).foldl (fun ws _ => match firstWaiter ws with
    | none => ws
    | some w => ws.filter (fun j => decide (j.id ≠ w.id))) (s.rns.jobs.filter RnsJob.waits)

/-- Pre-emption (R330): a victim that holds no lanes leaves at once, one at a block boundary or at the end of VALIDATING when `at_` names
its bank. -/
def preempt (s : State) (commit : Option Nat) : State :=
  if (freeBank s).isSome then s
  else
    match firstWaiter (unserved s) with
    | none => s
    | some w =>
      match victimOf s w.prio with
      | none => s
      | some v =>
        if !(unserved s).any (fun j => decide (j.prio < effective s v) && keyFree s v j) then s
        else if v.phase = .loading ∨ v.phase = .waiting ∨ v.bank = commit then spillNow s v else s

/-! ### Aborts and stale keys (R334) -/

/-- Whether a job in WRITING may still wipe what it has written: its results' contexts stand in the epochs of the post (R324). -/
def mayWipe (s : State) (j : RnsJob) : Bool :=
  (j.descs.zip (operandsOf j.op j.set)).all (fun x => !x.2.isOut || decide ((ctxAt s x.1.ctx).epoch = x.1.epoch))

/-- A job that ends with a status at its next commit point; `desc` is the descriptor concerned, or 0xFF (R324, R334). -/
def abortJob (s : State) (st : BitVec 8) (desc : Nat) (j : RnsJob) : State :=
  match j.phase with
  | .queued => endJob s j st (failWords desc false)
  | .spilled =>
    if st = stStaleEpoch then setJob s { j with abort := some (j.abort.getD (st, desc)) }
    else
      let s1 := match j.slot with
        | some i => (spillWrite true (liveBytes j.set / 64) (spillLine s i) s).2
        | none => s
      endJob s1 j st (failWords desc false)
  | .loading => toClearing s j st (failWords desc false)
  | .waiting => toClearing s j st (failWords desc false)
  | .writing => toClearing s j st (failWords desc (mayWipe s j))
  | .clearing => s
  | _ => setJob s { j with abort := some (j.abort.getD (st, desc)) }

/-- Every job for which `p` names a descriptor, or none with 0xFF, ends with a status. -/
def abortJobs (s : State) (st : BitVec 8) (p : RnsJob → Option Nat) : State :=
  s.rns.jobs.foldl (fun t j => match p j, t.rns.jobs.find? (fun x => decide (x.id = j.id)) with
    | some d, some x => abortJob t st d x
    | _, _ => t) s

/-- Jobs that pass a test, with no descriptor concerned. -/
def noDesc (p : RnsJob → Bool) (j : RnsJob) : Option Nat := if p j then some 0xFF else none

/-- An epoch of a context closes: jobs with a descriptor under it (R136, R221). -/
def rnsEpochClosed (s : State) (c : Nat) : State :=
  abortJobs s stStaleEpoch (fun j => j.descs.findIdx? (fun d => decide (d.ctx = c)))

/-- Whether a job's key is stale. -/
def staleKeyed (s : State) (j : RnsJob) : Bool := match j.key with
  | some (_, h) => handleStale s h
  | none => false

/-- Jobs whose key's handle is stale end; a working key register that holds such a key is zeroed at once (R281, R295). -/
def rnsKeys (s : State) (st : BitVec 8) : State :=
  let s1 := (s.rns.jobs.filter (staleKeyed s)).foldl (fun t j => dropWkr t j.id) s
  abortJobs s1 st (noDesc (staleKeyed s))

/-- A cancelled job ends ABORTED (R98, R334). -/
def rnsCancel (s : State) (w : Caller) : State := abortJobs s stAborted (noDesc (fun j => decide (j.caller = w)))

/-- A warm restart or fault restart: every job past QUEUED ends RESTARTING; slots are zero-filled (R334). -/
def rnsRestart (s : State) : State :=
  (s.rns.jobs.filter (fun j => j.phase != .queued)).foldl (fun t j =>
    let t1 := match j.slot with
      | some i => (spillWrite true (liveBytes j.set / 64) (spillLine t i) t).2
      | none => t
    endJob t1 j stRestarting (failWords 0xFF false)) s

/-- A tamper event: every job ends ABORTED at once, and banks and working key register are zeroed (R334). -/
def rnsTamper (s : State) : State :=
  if s.rns.jobs.isEmpty then { s with keys := { s.keys with wkr := none } }
  else
    let s1 := s.rns.jobs.foldl (fun t j => endJob t j stAborted (failWords 0xFF false)) s
    rnsEvent { s1 with keys := { s1.keys with wkr := none } } (fun r => { r with tamperAbort := true, lanes := none, coupling := none })

/-! ### Requests (R316, R317) -/

/-- A job's descriptor as the block DMA takes it. -/
def JobDesc.desc (d : JobDesc) : Desc := { ctx := d.ctx, addr := d.addr, len := d.len }

/-- Whether a page of a region is OPEN. -/
def openPage (s : State) : List Nat → Bool × State
  | [] => (false, s)
  | p :: ps => match mapEntry s p with
    | (.error _, s1) => openPage s1 ps
    | (.ok e, s1) => if entClass e = .openC then (true, s1) else openPage s1 ps

/-- Whether a shared secret would go to an OPEN page. -/
def secretOpen (s : State) : List (Desc × Operand) → Bool × State
  | [] => (false, s)
  | (d, .secret _) :: ds => match openPage s (spanPages d.addr d.len) with
    | (true, s1) => (true, s1)
    | (false, s1) => secretOpen s1 ds
  | _ :: ds => secretOpen s ds

/-- Most jobs that one lane may have (R337). -/
def rnsLaneCap (s : State) : Nat := min 56 (bits (plainReg s 0x301C) 0 7)

/-- Checks 4 to 6 of R317 on a keyed request's handle. -/
def keyRefusal (s : State) (k : Call) (set : Nat) : Except (BitVec 8) (Option (W32 × Handle)) :=
  if !opKeyed (opcodeOf k.req.w0) then .ok none
  else match handleOf s (k.word 1) with
    | none => .error stKeyHandle
    | some (_, h) =>
      if handleStale s h then .error stStaleEpoch
      else if h.kind ≠ 4 ∧ h.kind ≠ 5 then .error stKeyHandle
      else if !((k.laneV && decide (h.lane = k.lane)) || (k.owner && decide (h.lane = 0))) then .error stDenied
      else if h.typ ≠ setType set then .error stRnsKeyType
      else .ok (some (k.word 1, h))

/-- The checks of R317, behind those of R100 that R96 places before them: the job's key, or the status of the first failure. -/
def rnsRefusal (s : State) (k : Call) : Except (BitVec 8) (Option (W32 × Handle)) × State :=
  let op := opcodeOf k.req.w0
  let set := bits (k.word 0) 0 4
  let prio := bits (k.word 0) 8 2
  let ds := ((descWords op).map (descAt k)).zip (operandsOf op set)
  match descsRefusal s k (ds.map (fun x => (x.1, x.2.isOut))) with
  | (some st, s1) => (.error st, s1)
  | (none, s1) =>
    if !setServed op set ∨ prio = 0 then (.error stBadField, s1)
    else if prio = 1 ∧ !k.owner then (.error stDenied, s1)
    else if !ds.all (fun x => x.2.lenOk x.1.len) then (.error stBadLength, s1)
    else match keyRefusal s1 k set with
      | .error st => (.error st, s1)
      | .ok key => match secretOpen s1 ds with
        | (true, s2) => (.error stRnsSecretOpen, s2)
        | (false, s2) =>
          if rnsLaneCap s2 ≤ (s2.rns.jobs.filter (fun j => decide (j.lane = k.lane))).length
              ∨ 56 ≤ (s2.rns.jobs.filter (fun j => j.phase == .queued)).length then
            (.error stBusy, rnsEvent s2 (fun r => { r with queueFull := true }))
          else (.ok key, s2)

/-- Reserved bits of a request's words. -/
def rnsFieldsOk (k : Call) : Bool :=
  let op := opcodeOf k.req.w0
  fieldsOk k (if op = 0x406 then 0x30F :: 0xFFFFFFFF :: descMasks
    else if opKeyed op then 0x30F :: 0xFFFFFFFF :: (descMasks ++ descMasks)
    else 0x30F :: (descMasks ++ descMasks ++ descMasks))

/-- A job queued. -/
def rnsPost (k : Call) (key : Option (W32 × Handle)) (w : Caller) (s : State) : State :=
  let op := opcodeOf k.req.w0
  let ds := (descWords op).map (fun i =>
    let d := descAt k i
    ({ ctx := d.ctx, addr := d.addr, len := d.len, epoch := (ctxAt s d.ctx).epoch } : JobDesc))
  let j : RnsJob :=
    { id := s.rns.next, op := op, set := bits (k.word 0) 0 4, prio := bits (k.word 0) 8 2, lane := k.lane, payer := workLane s k
      caller := w, descs := ds, key := key, since := s.pace.now }
  preempt { s with rns := { s.rns with jobs := s.rns.jobs ++ [j], next := s.rns.next + 1 } } none

/-- One engine request (R317). -/
def rnsRequest (op : Nat) (s : State) : State :=
  service op s (fun k t =>
    if !rnsFieldsOk k then reply t k stBadField []
    else match rnsRefusal t k with
      | (.error st, t1) => reply t1 k st []
      | (.ok key, t1) => ticketed t1 k (rnsPost k key))

/-- RNS_ECDSA_SIGN (R316). -/
def execRnsEcdsaSign (bus : Bus) (s : State) : Host.Outcome State Fault Refusal := onBus s bus (rnsRequest 0x401)
/-- RNS_ECDSA_VERIFY (R316). -/
def execRnsEcdsaVerify (bus : Bus) (s : State) : Host.Outcome State Fault Refusal := onBus s bus (rnsRequest 0x402)
/-- RNS_ECDH (R316). -/
def execRnsEcdh (bus : Bus) (s : State) : Host.Outcome State Fault Refusal := onBus s bus (rnsRequest 0x403)
/-- RNS_MLDSA_SIGN (R316). -/
def execRnsMldsaSign (bus : Bus) (s : State) : Host.Outcome State Fault Refusal := onBus s bus (rnsRequest 0x404)
/-- RNS_MLDSA_VERIFY (R316). -/
def execRnsMldsaVerify (bus : Bus) (s : State) : Host.Outcome State Fault Refusal := onBus s bus (rnsRequest 0x405)
/-- RNS_MLKEM_KEYGEN (R316). -/
def execRnsMlkemKeygen (bus : Bus) (s : State) : Host.Outcome State Fault Refusal := onBus s bus (rnsRequest 0x406)
/-- RNS_MLKEM_ENCAPS (R316). -/
def execRnsMlkemEncaps (bus : Bus) (s : State) : Host.Outcome State Fault Refusal := onBus s bus (rnsRequest 0x407)
/-- RNS_MLKEM_DECAPS (R316). -/
def execRnsMlkemDecaps (bus : Bus) (s : State) : Host.Outcome State Fault Refusal := onBus s bus (rnsRequest 0x408)

/-- Code of a bank's state (R337). -/
def phaseOfBank (s : State) (b : Nat) : Nat :=
  match (bankJob s b).map RnsJob.phase with
  | none => 0
  | some .loading => 1
  | some .validating => 2
  | some .running => 3
  | some .waiting => 4
  | some .checking => 5
  | some .writing => 6
  | some .clearing => 7
  | some .spilling => 8
  | some .restoring => 9
  | some _ => 0

/-- `RNS_STATUS`. -/
def rnsStatus (s : State) : W32 :=
  let n (p : RnsPhase) : Nat := (s.rns.jobs.filter (fun j => j.phase == p)).length
  field 32 0 4 (phaseOfBank s 0) ||| field 32 4 4 (phaseOfBank s 1) ||| field 32 8 7 (n .queued) ||| field 32 16 4 (n .spilled)
    ||| field 32 20 1 (s.rns.lanes.getD 0) ||| flag 32 21 s.rns.lanes.isSome

/-- `RNS_PROGRAMS`: the set version of the running firmware; every program is present (R337). -/
def rnsPrograms (s : State) : W32 := field 32 0 16 s.boot.rnsSet.toNat ||| 0xFFFF0000

/-- RNS_INFO (R316). -/
def execRnsInfo (s : State) : Host.Outcome State Fault Refusal :=
  live s (fun s => service 0x410 s (fun k t =>
    let n := (t.rns.jobs.filter (fun j => j.phase == .queued && decide (j.lane = k.lane))).length
    reply t k stDone [rnsPrograms t, rnsStatus t, field 32 0 7 n ||| field 32 8 7 (bits (plainReg t 0x301C) 0 7)]))

/-- RNS_LANE_ABORT's job. -/
def laneAbort (l : Nat) (w : Caller) (s : State) : State :=
  let ids := (s.rns.jobs.filter (fun j => decide (j.lane = l))).map RnsJob.id
  if ids.isEmpty then finish s w stDone []
  else abortJobs { s with rns := { s.rns with aborts := s.rns.aborts ++ [{ ids := ids, caller := w }] } } stAborted
    (noDesc (fun j => decide (j.lane = l)))

/-- RNS_LANE_ABORT (R334). -/
def execRnsLaneAbort (bus : Bus) (s : State) : Host.Outcome State Fault Refusal :=
  onBus s bus (fun s => service 0x420 s (fun k t =>
    if !fieldsOk k [0x3F] then reply t k stBadField [] else ticketed t k (laneAbort (bits (k.word 0) 0 6))))

/-! ### A job's life (R319 to R325) -/

/-- The waiting job that a free bank goes to: the highest priority; SPILLED before QUEUED, then in order of arrival (R329). A keyed job
waits while the working key register is held, or while a digest slot's load of its priority or higher waits for it (R286). -/
def nextJob (s : State) : Option RnsJob :=
  let ok (j : RnsJob) : Bool := j.waits && (j.key.isNone || (s.keys.wkr.isNone && (loadWaiters s).all (fun p => decide (j.prio < p))))
  let better (a b : RnsJob) : Bool :=
    decide (a.prio < b.prio) || (decide (a.prio = b.prio) && a.phase == .spilled && b.phase == .queued)
  (s.rns.jobs.filter ok).foldl (fun b j => match b with
    | none => some j
    | some d => if better j d then some j else some d) none

/-- The working key register loaded for a job: by derivation, from the key store image, or as it was saved with a spilled job; where the
image's lines cannot be read the job ends FAULTED (R286; log 154). -/
def loadWkr (s : State) (j : RnsJob) (w : W32) (h : Handle) : State :=
  let put (t : State) (m : Octets) : State :=
    { t with keys := { t.keys with wkr := some { job := j.id, handle := w, typ := h.typ, material := m, since := t.pace.now } } }
  if j.phase = .restoring then put s j.material
  else withMaterial s h (fun t => toClearing t j stFaulted (failWords 0xFF false)) (fun m t => put t m)

/-- RNS_BANK_GRANT (R329, R332). -/
def bankGrant (s : State) : State :=
  match freeBank s, nextJob s with
  | some b, some j =>
    if j.bad then endJob s j stFaulted (failWords 0xFF false)
    else
      let j1 : RnsJob := { j with bank := some b, since := s.pace.now, phase := if j.phase = .spilled then .restoring else .loading }
      let s1 := setJob s j1
      match j.key with
      | none => s1
      | some (w, h) => loadWkr s1 j1 w h
  | _, _ => s

/-- RNS_BANK_GRANT. -/
def execRnsBankGrant (bus : Bus) (s : State) : Host.Outcome State Fault Refusal := onBus s bus bankGrant

/-- The job in a bank, in a state, acted on; nothing happens where the bank holds no such job. -/
def inBank (s : State) (b : Nat) (p : RnsPhase) (f : RnsJob → State) : State :=
  match bankJob s b with
  | none => s
  | some j => if j.phase = p then f j else s

/-- Whether a job's key may still be used. -/
def jobKeyOk (s : State) (j : RnsJob) : Bool :=
  match j.key with
  | none => true
  | some (_, h) => !handleStale s h

/-- The operands read in order: of a message region its first octet alone. -/
def loadOperands (s : State) : List (JobDesc × Operand) → Nat → List Octets → Except (BitVec 8 × Nat) (List Octets) × State
  | [], _, acc => (.ok acc, s)
  | (d, o) :: ds, i, acc =>
    if o.isOut then loadOperands s ds (i + 1) (acc ++ [[]])
    else match dmaRead s { d.desc with len := if o = .message then 1 else d.len } with
      | (.error (st, _), s1) => (.error (st, i), s1)
      | (.ok x, s1) => loadOperands s1 ds (i + 1) (acc ++ [x])

/-- RNS_LOAD_DONE (R319). -/
def loadDone (s : State) (j : RnsJob) : State :=
  if !jobKeyOk s j then toClearing s j stStaleEpoch (failWords 0xFF false)
  else match loadOperands s (j.descs.zip (operandsOf j.op j.set)) 0 [] with
    | (.error (st, i), s1) => toClearing s1 j st (failWords i false)
    | (.ok xs, s1) =>
      let material := match s1.keys.wkr with
        | some w => if w.job = j.id then w.material else []
        | none => []
      giveLanes (setJob s1 { j with phase := .validating, since := s1.pace.now, ins := xs, material := material, resume := .running })

/-- RNS_LOAD_DONE. -/
def execRnsLoadDone (bank : Fin 2) (bus : Bus) (s : State) : Host.Outcome State Fault Refusal :=
  onBus s bus (fun s => inBank s bank.val .loading (loadDone s))

/-- The checks of a public point (R320, 1 to 3). -/
def pointFails (c : Curve) (o : Octets) : Option (BitVec 8) :=
  let x := ofBe (slice o 1 c.len)
  let y := ofBe (slice o (1 + c.len) c.len)
  if o.headD 0 ≠ 4 then some stRnsPoint
  else if c.p ≤ x ∨ c.p ≤ y then some stRnsRange
  else if !c.onCurve x y then some stRnsPoint
  else none

/-- The first failing check of R320. -/
def validate (j : RnsJob) : Option (BitVec 8) :=
  let c := curveOf j.set
  let x (i : Nat) : Octets := j.ins.getD i []
  let scalar (v : Nat) : Bool := decide (1 ≤ v ∧ v < c.n)
  let point : Option (BitVec 8) := if j.op = 0x402 ∨ j.op = 0x403 then pointFails c (x 0) else none
  match point with
  | some st => some st
  | none =>
    if j.op = 0x402 ∧ !(scalar (ofBe ((x 2).take c.len)) && scalar (ofBe ((x 2).drop c.len))) then some stRnsRange
    else if (j.op = 0x401 ∨ j.op = 0x403) ∧ !scalar (ofBe j.material) then some stRnsRange
    else if j.op = 0x407 ∧ !kemKeyOk (kemOf j.set) (x 0) then some stRnsEncoding
    else if j.op = 0x404 ∧ (j.descs.getD 0 default).len < 1 + ((x 0).headD 0).toNat then some stRnsEncoding
    else if j.op = 0x405 ∧ (j.descs.getD 1 default).len < 1 + ((x 1).headD 0).toNat then some stRnsEncoding
    else none

/-- Whether the engine checks its own result (R322). -/
def selfChecked (op : Nat) : Bool := decide (op = 0x401 ∨ op = 0x403 ∨ op = 0x404 ∨ op = 0x406)

/-- A job that has the lanes, or waits for them; a lattice program, and the check of its result, begin with a phase of the coupling. -/
def runOrWait (s : State) (j : RnsJob) (p : RnsPhase) : State :=
  let due := isLattice j.set && (p == .running || selfChecked j.op)
  if s.rns.lanes = j.bank then grantCoupling (setJob s { j with phase := p, since := s.pace.now, phaseDue := due })
  else grantCoupling (setJob s { j with phase := .waiting, resume := p, since := s.pace.now, phaseDue := due })

/-- RNS_VALIDATION_END (R320): 3 paces after its start. -/
def validationEnd (s : State) (j : RnsJob) : State :=
  if s.pace.now < j.since + 3 then s
  else match j.abort, validate j with
    | some (st, d), _ => toClearing s j st (failWords d false)
    | none, some st => toClearing s j st (failWords 0xFF false)
    | none, none =>
      if j.spill then spillNow s j else preempt (runOrWait s j .running) j.bank

/-- RNS_VALIDATION_END. -/
def execRnsValidationEnd (bank : Fin 2) (s : State) : Host.Outcome State Fault Refusal :=
  live s (fun s => inBank s bank.val .validating (validationEnd s))

/-- The lanes pass to the other bank's ready job where its effective priority is strictly higher, or where the job on them waits for a
semaphore or stalls for a permit (R329). -/
def passLanes (s : State) (j : RnsJob) : State :=
  match bankJob s (1 - j.bank.getD 0) with
  | none => s
  | some o =>
    if o.ready ∧ (effective s o < effective s j ∨ j.phaseDue ∨ !j.covered) then
      let s1 := setJob s { j with phase := .waiting, resume := j.phase }
      let s2 := { s1 with rns := { s1.rns with lanes := o.bank } }
      if o.phase = .waiting then setJob s2 { o with phase := o.resume, since := s.pace.now } else s2
    else s

/-- A commit point of the job on the lanes: a block of its program ends, or it stands stopped at a boundary for want of a permit (R312,
R329, R330, R333, R334). -/
def blockBoundary (s : State) (b : Nat) : State :=
  match bankJob s b with
  | none => s
  | some j =>
    if s.rns.lanes ≠ some b ∨ !(j.phase == .running || j.phase == .checking) then s
    else match j.abort with
      | some (st, d) => toClearing s j st (failWords d false)
      | none =>
        if j.spill then spillNow s j
        else
          let s1 := preempt s (some b)
          match bankJob s1 b with
          | none => s1
          | some j1 => if j1.phase = j.phase then passLanes s1 j1 else s1

/-- RNS_BLOCK_BOUNDARY. -/
def execRnsBlockBoundary (bank : Fin 2) (s : State) : Host.Outcome State Fault Refusal := live s (fun s => blockBoundary s bank.val)

/-- What a program computes: results, whether the engine's own check passes, the status they carry, the iterations. -/
structure Computed where
  outs : List Octets := []
  good : Bool := true
  st : BitVec 8 := 0
  iterations : Nat := 0
deriving DecidableEq, Repr

/-- An elliptic-curve job's result. -/
def computeCurve (s : State) (j : RnsJob) : Computed × State :=
  let c := curveOf j.set
  let x (i : Nat) : Octets := j.ins.getD i []
  let d := ofBe j.material
  if j.op = 0x401 then
    match ecdsaSign c d (x 0) 256 0 s with
    | (none, s1) => ({ st := stRnsDegenerate }, s1)
    | (some (g, n), s1) => ({ outs := [g], good := c.verify (c.public d) (x 0) g, iterations := n }, s1)
  else if j.op = 0x402 then ({ st := if c.verify (x 0) (x 1) (x 2) then stDone else stRnsSigInvalid }, s)
  else match c.dh d (x 0) with
    | none => ({ good := false, st := stRnsDegenerate }, s)
    | some z => ({ outs := [z] }, s)

/-- A lattice job's result; `msg` is its message region. -/
def computeLattice (s : State) (j : RnsJob) (msg : Octets) : Computed × State :=
  let x (i : Nat) : Octets := j.ins.getD i []
  let n := (msg.headD 0).toNat
  let ctx := slice msg 1 n
  let m := msg.drop (1 + n)
  let p := dsaOf j.set
  let q := kemOf j.set
  if j.op = 0x404 then
    match mldsaSign p j.material ctx m s with
    | (none, s1) => ({ st := stRnsDegenerate }, s1)
    | (some (g, i), s1) => ({ outs := [g], good := dsaVerify p (dsaPublic p j.material) ctx m g, iterations := i }, s1)
  else if j.op = 0x405 then ({ st := if dsaVerify p (x 0) ctx m (x 2) then stDone else stRnsSigInvalid }, s)
  else if j.op = 0x406 then
    let ek := kemPublic q j.material
    let (r, s1) := drawOctets s 32
    let e := kemEncaps q ek r
    ({ outs := [ek], good := decide (kemDecaps q j.material e.1 = e.2) }, s1)
  else if j.op = 0x407 then
    let (r, s1) := drawOctets s 32
    let e := kemEncaps q (x 0) r
    ({ outs := [e.1, e.2] }, s1)
  else ({ outs := [kemDecaps q j.material (x 0)] }, s)

/-- The descriptor index of a job's message region. -/
def messageDesc (op : Nat) : Option Nat := if op = 0x404 then some 0 else if op = 0x405 then some 1 else none

/-- RNS_RUN_DONE (R319, R321): the message region streams through the coupling while the program runs. Without a permit for the present pace
the job stands at a boundary and its program does not end (R312, R328). -/
def runDone (s : State) (j : RnsJob) : State :=
  if s.rns.lanes ≠ j.bank ∨ j.phaseDue then s
  else match j.abort with
    | some (st, d) => toClearing s j st (failWords d false)
    | none =>
      if !j.covered then s else
      let (msg, s1) : Except (BitVec 8 × Nat) Octets × State := match messageDesc j.op with
        | none => (.ok [], s)
        | some i => match dmaRead s (j.descs.getD i default).desc with
          | (.ok o, t) => (.ok o, t)
          | (.error (st, _), t) => (.error (st, i), t)
      match msg with
      | .error (st, i) => toClearing s1 j st (failWords i false)
      | .ok m =>
        let (r, s2) := if isLattice j.set then computeLattice s1 j m else computeCurve s1 j
        if r.st = stRnsDegenerate ∧ r.good then toClearing s2 j r.st (failWords 0xFF false)
        else
          let s3 := dropCoupling s2 j.id
          runOrWait s3 { j with outs := r.outs, good := r.good, status := r.st, iterations := r.iterations } .checking

/-- RNS_RUN_DONE. -/
def execRnsRunDone (bank : Fin 2) (bus : Bus) (s : State) : Host.Outcome State Fault Refusal :=
  onBus s bus (fun s => inBank s bank.val .running (runDone s))

/-- Whether a job ends without a result to write. -/
def verifyOp (op : Nat) : Bool := decide (op = 0x402 ∨ op = 0x405)

/-- Result words of a job that ends DONE, or that verified a signature (R323). -/
def doneWords (j : RnsJob) (octets : Nat) : List W32 := [field 32 0 16 octets, field 32 0 9 j.iterations, BitVec.ofNat 32 j.paces]

/-- RNS_CHECK_DONE (R322); without a permit for the present pace the check does not end (R312, R328). -/
def checkDone (s : State) (j : RnsJob) (agrees : Bool) : State :=
  if s.rns.lanes ≠ j.bank ∨ j.phaseDue then s
  else match j.abort with
    | some (st, d) => toClearing s j st (failWords d false)
    | none =>
      if !j.covered then s
      else if selfChecked j.op ∧ !(j.good && agrees) then
        toClearing (selfcheckFails s (programOf j.op j.set)) j (if j.status = stRnsDegenerate then stRnsDegenerate else stRnsSelfcheck) (failWords 0xFF false)
      else if verifyOp j.op then
        toClearing s j j.status (if j.status = stDone then doneWords j 0 else failWords 0xFF false)
      else
        let s1 := setJob s { j with phase := .writing, since := s.pace.now, phaseDue := false }
        offLanes (dropCoupling s1 j.id) j

/-- RNS_CHECK_DONE. -/
def execRnsCheckDone (bank : Fin 2) (agrees : Bool) (s : State) : Host.Outcome State Fault Refusal :=
  live s (fun s => inBank s bank.val .checking (fun j => checkDone s j agrees))

/-- The lines of a result written in ascending order; a shared secret stops at an OPEN page (R318). -/
def writeSecretLines (s : State) (secret : Bool) (ctx : Nat) : List (Nat × Nat × Nat) → Octets → Nat → Option (BitVec 8) × Nat × State
  | [], _, n => (none, n, s)
  | (la, lo, len) :: rest, o, n =>
    let (opn, s1) := if secret then openPage s [pageOfLine la] else (false, s)
    if opn then (some stRnsSecretOpen, n, s1)
    else match dmaWrite s1 ctx (64 * la + lo) (o.take len) with
      | (some (st, _), s2) => (some st, n, s2)
      | (none, s2) => writeSecretLines s2 secret ctx rest (o.drop len) (n + len)

/-- Octets already written overwritten with zeros, where the context's epoch is still current; whether that completed (R324). -/
def wipe (s : State) (d : JobDesc) (n : Nat) : Bool × State :=
  if n = 0 then (true, s)
  else if (ctxAt s d.ctx).epoch ≠ d.epoch then (false, s)
  else match dmaWrite s d.ctx d.addr (List.replicate n 0) with
    | (none, s1) => (true, s1)
    | (some _, s1) => (false, s1)

/-- The results of a job written: nothing, or the status that stopped it with its descriptor and WIPED. -/
def writeResults (s : State) : List (JobDesc × Nat × Bool × Octets) → List (JobDesc × Nat) → Option (BitVec 8 × Nat × Bool) × State
  | [], _ => (none, s)
  | (d, i, secret, o) :: rest, done =>
    match writeSecretLines s secret d.ctx (spanLines d.addr o.length) o 0 with
    | (none, n, s1) => writeResults s1 rest ((d, n) :: done)
    | (some st, n, s1) =>
      let (ok, s2) := ((d, n) :: done).foldl (fun (x : Bool × State) y => let r := wipe x.2 y.1 y.2; (x.1 && r.1, r.2)) (true, s1)
      (some (st, i, ok), s2)

/-- A job's results with the descriptors that take them. -/
def resultsOf (j : RnsJob) : List (JobDesc × Nat × Bool × Octets) :=
  let outs := ((j.descs.zip (operandsOf j.op j.set)).zipIdx).filter (fun x => x.1.2.isOut)
  (outs.zip j.outs).map (fun x => (x.1.1.1, x.1.2, decide (x.1.1.2 = .secret x.1.1.2.size), x.2))

/-- RNS_WRITE_DONE (R323, R324). -/
def writeDone (s : State) (j : RnsJob) : State :=
  match writeResults s (resultsOf j) [] with
  | (none, s1) => toClearing s1 j stDone (doneWords j ((j.outs.map List.length).foldl (· + ·) 0))
  | (some (st, i, w), s1) => toClearing s1 j st (failWords i w)

/-- RNS_WRITE_DONE. -/
def execRnsWriteDone (bank : Fin 2) (bus : Bus) (s : State) : Host.Outcome State Fault Refusal :=
  onBus s bus (fun s => inBank s bank.val .writing (writeDone s))

/-- RNS_CLEAR_DONE (R325): 2 paces after CLEARING began. -/
def clearDone (s : State) (j : RnsJob) : State :=
  if s.pace.now < j.since + 2 then s else endJob s j j.status j.words

/-- RNS_CLEAR_DONE. -/
def execRnsClearDone (bank : Fin 2) (bus : Bus) (s : State) : Host.Outcome State Fault Refusal :=
  onBus s bus (fun s => inBank s bank.val .clearing (clearDone s))

/-- RNS_SPILL_DONE (R331, R332, R334); a pre-emption that has turned to an abort passes through CLEARING (R325). -/
def spillDone (s : State) (j : RnsJob) : State :=
  if s.pace.now < j.since + spillPaces j.set then s
  else match j.abort with
    | some (st, d) => toClearing s j st (failWords d false)
    | none =>
      match freeSpill s with
      | none => s
      | some i =>
        let (ok, s1) := spillWrite false (liveBytes j.set / 64) (spillLine s i) s
        let s2 := setJob s1 { j with phase := .spilled, bank := none, bad := !ok, slot := some i, ins := j.ins }
        if ok then s2 else rnsEvent s2 (fun r => { r with spillFault := true })

/-- RNS_SPILL_DONE. -/
def execRnsSpillDone (bank : Fin 2) (bus : Bus) (s : State) : Host.Outcome State Fault Refusal :=
  onBus s bus (fun s => inBank s bank.val .spilling (spillDone s))

/-- RNS_RESTORE_DONE (R331, R332). -/
def restoreDone (s : State) (j : RnsJob) : State :=
  if s.pace.now < j.since + spillPaces j.set then s
  else
    let j' := { j with slot := none }
    let (ok, s1) : Bool × State := match j.slot with
      | some i => spillRead (liveBytes j.set / 64) (spillLine s i) s
      | none => (true, s)
    if !ok then toClearing (rnsEvent s1 (fun r => { r with spillFault := true })) j' stFaulted (failWords 0xFF false)
    else match j.abort with
      | some (st, d) => toClearing s1 j' st (failWords d false)
      | none =>
        if !jobKeyOk s1 j then toClearing s1 j' stStaleEpoch (failWords 0xFF false)
        else if j.resume = .loading then setJob s1 { j' with phase := .loading, since := s1.pace.now }
        else setJob s1 { j' with phase := .waiting, since := s1.pace.now,
                                 phaseDue := isLattice j.set && (j.resume == .running || selfChecked j.op) }

/-- RNS_RESTORE_DONE. -/
def execRnsRestoreDone (bank : Fin 2) (bus : Bus) (s : State) : Host.Outcome State Fault Refusal :=
  onBus s bus (fun s => inBank s bank.val .restoring (fun j => giveLanes (grantCoupling (restoreDone s j))))

/-- RNS_LEASE_EXPIRE (R333): with a waiter of strictly higher base priority the holder is spilled at its next commit point. -/
def leaseExpire (s : State) (b : Nat) : State :=
  match bankJob s b with
  | none => s
  | some j =>
    if !(leases s j).any (fun l => decide (l.1 + 256 ≤ s.pace.now) && l.2.any (fun p => decide (p < j.prio))) then s
    else match j.phase with
      | .loading => spillNow s { j with spill := true }
      | .waiting => spillNow s { j with spill := true }
      | .validating => setJob s { j with spill := true }
      | .running => setJob s { j with spill := true }
      | .checking => setJob s { j with spill := true }
      | _ => s

/-- RNS_LEASE_EXPIRE. -/
def execRnsLeaseExpire (bank : Fin 2) (s : State) : Host.Outcome State Fault Refusal := live s (fun s => leaseExpire s bank.val)

/-- COUPLING_PHASE_END (R350): the coupling is released and the Keccak core returns to its slot. -/
def execCouplingPhaseEnd (s : State) : Host.Outcome State Fault Refusal :=
  live s (fun s => match s.rns.coupling with
    | none => s
    | some (i, _) => giveLanes (dropCoupling s i))

end Sys2Proof.Machine
end

