-- ==== Sys2Proof/Machine/Digest.lean ====
section
/-!
DEFINITION. The digest engine (R339 to R357, R365) and the milepost unit (R358 to R363): slots, feeds, the two cores, routes, extends.
-/

namespace Sys2Proof.Machine

open Sys2Proof

/-- Digest status codes (R364). -/
def stDigestIncomplete : BitVec 8 := 0x48
/-- DIGEST_EXCESS -/
def stDigestExcess : BitVec 8 := 0x49
/-- DIGEST_SLOT -/
def stDigestSlot : BitVec 8 := 0x4A
/-- DIGEST_KEY_TYPE -/
def stDigestKeyType : BitVec 8 := 0x4B
/-- DIGEST_ROUTE -/
def stDigestRoute : BitVec 8 := 0x4C
/-- MP_BROKEN -/
def stMpBroken : BitVec 8 := 0x4D

/-! ### Algorithms (R339, R343) -/

/-- The rate of an algorithm in octets. -/
def digestRate (alg : Nat) : Nat := if alg = 2 then 104 else if alg = 3 then 168 else if alg = 4 then 136 else 128

/-- The core of an algorithm: 0 SHA-2, 1 Keccak (R340). -/
def digestCore (alg : Nat) : Nat := if alg = 2 ∨ alg = 3 ∨ alg = 4 then 1 else 0

/-- Octets of a result. -/
def resultLen (alg outLen : Nat) : Nat := if alg = 1 then 64 else if alg = 3 ∨ alg = 4 then outLen else 48

/-- P of a declared length (R343). -/
def digestP (alg mlen : Nat) : Nat :=
  if alg ≤ 1 then ceilDiv (mlen + 17) 128 * 128
  else if alg = 5 then ceilDiv (mlen + 145) 128 * 128 - 128
  else ceilDiv (mlen + 1) (digestRate alg) * digestRate alg

/-- A chunk: the most whole blocks in 4 KiB (R349). -/
def digestChunk (alg : Nat) : Nat := 4096 / digestRate alg * digestRate alg

/-- The state in which a message starts; of HMAC after its inner key block. -/
def digestInit (alg : Nat) (key : Octets) : List W64 :=
  if alg = 0 then sha384Init
  else if alg = 1 then sha512Init
  else if alg = 5 then sha512Compress sha384Init ((padTo 128 key).map (· ^^^ 0x36))
  else List.replicate 25 0

/-- The outer chaining value of HMAC after its key block. -/
def digestOuter (alg : Nat) (key : Octets) : List W64 :=
  if alg = 5 then sha512Compress sha384Init ((padTo 128 key).map (· ^^^ 0x5c)) else []

/-- One block absorbed. -/
def digestBlock (alg : Nat) (st : List W64) (b : Octets) : List W64 :=
  if digestCore alg = 1 then keccakAbsorb st b else sha512Compress st b

/-- Big-endian octets of SHA-2 words. -/
def wordsBe (ws : List W64) : Octets := ws.flatMap (fun x => beOctets 8 x.toNat)

/-- The result of a slot that has absorbed P octets. -/
def digestResult (d : DSlot) : Octets :=
  if d.alg = 1 then wordsBe d.words
  else if d.alg = 0 then (wordsBe d.words).take 48
  else if d.alg = 5 then
    let m := (wordsBe d.words).take 48
    (wordsBe (sha512Compress d.outer (padTo 112 (m ++ [0x80]) ++ beOctets 16 (8 * 176)))).take 48
  else (keccakSqueeze (digestRate d.alg) 1 d.words).take (resultLen d.alg d.outLen)

/-! ### Slots and cores -/

/-- A slot. -/
def dslot (s : State) (i : Nat) : DSlot := tget {} s.dig.slots i
/-- A slot written. -/
def setDslot (s : State) (i : Nat) (d : DSlot) : State := { s with dig := { s.dig with slots := tset {} s.dig.slots i d } }

/-- Code of a slot's state (R352). -/
def slotCode : SlotState → Nat
  | .free => 0
  | .opened => 1
  | .complete => 2
  | .expired => 3

/-- An event of `DIGEST_EVENTS` recorded. -/
def digEvent (s : State) (excess expired routeFailed : Bool) : State :=
  { s with dig := { s.dig with seq := s.dig.seq + 1, excess := s.dig.excess || excess, expired := s.dig.expired || expired
                               routeFailed := s.dig.routeFailed || routeFailed } }

/-- A core. -/
def coreAt (s : State) (k : Nat) : DCore := s.dig.cores.getD k {}
/-- A core written. -/
def setCore (s : State) (k : Nat) (c : DCore) : State := { s with dig := { s.dig with cores := setAt {} s.dig.cores k c } }

/-- Whether a slot has a feed ready on a core. -/
def feedReady (s : State) (k i : Nat) : Bool :=
  let d := dslot s i
  decide (digestCore d.alg = k) && (match d.feed with
    | some f => !f.routed
    | none => false)

/-- The core passes to the next slot with a feed ready, in round-robin order (R349). -/
def passCore (s : State) (k : Nat) : State :=
  let c := coreAt s k
  match ((List.range 56).map (fun i => (c.last + 1 + i) % 56)).find? (feedReady s k) with
  | none => setCore s k { c with slot := none }
  | some i =>
    let s1 := setCore s k { slot := some i, last := i }
    if c.slot = some i then s1 else count s1 0x7908 1

/-- The timeout of a slot that has no feed, from now on (R348, R463). -/
def startWait (s : State) (d : DSlot) : DSlot :=
  { d with since := clock s, wait := 1024 * max 1 (bits (plainReg s 0x3404) 8 8) }

/-- A feed ended with a status: its result words (R352). -/
def endFeed (s : State) (i : Nat) (st : BitVec 8) : State :=
  let d := dslot s i
  match d.feed with
  | none => s
  | some f =>
    let r := digestRate d.alg
    let whole := decide (f.done = f.take)
    let s1 := setDslot s i (startWait s { d with feed := none })
    let s2 := finish s1 f.caller st [BitVec.ofNat 32 f.done, BitVec.ofNat 32 (if whole then f.excess else 0),
      BitVec.ofNat 32 (if whole then f.done else f.done / r * r), field 32 0 2 (slotCode d.state)]
    let k := digestCore d.alg
    if (coreAt s2 k).slot = some i then passCore s2 k else s2

/-- A slot freed, its state zeroed; a running feed ends ABORTED first (R351, R354). -/
def freeSlot (s : State) (i : Nat) : State := setDslot (endFeed s i stAborted) i {}

/-- A slot made EXPIRED, its state zeroed. -/
def expireSlot (s : State) (i : Nat) (staleKey : Bool) : State :=
  let d := dslot s i
  setDslot s i { state := .expired, alg := d.alg, lane := d.lane, outLen := d.outLen, route := d.route, mlen := d.mlen, p := d.p
                 staleKey := staleKey }

/-- The status with which a feed whose octets are all absorbed ends. -/
def feedStatus (f : Feed) : BitVec 8 := if f.excess = 0 then stDone else stDigestExcess

/-- A slot whose FED has reached P: finalised, and its route requested (R344, R356). -/
def completeSlot (s : State) (i : Nat) : State :=
  let d := dslot s i
  let res := digestResult d
  let ex := match d.feed with
    | some f => decide (f.excess ≠ 0)
    | none => false
  let s0 := if ex then digEvent s true false false else s
  match d.route with
  | none =>
    let s1 := setDslot s0 i { d with state := .complete, result := res, words := [], outer := [] }
    endFeed s1 i (match d.feed with
      | some f => feedStatus f
      | none => stDone)
  | some mp =>
    let s1 := setDslot s0 i { d with result := res, words := [], outer := [], feed := d.feed.map (fun f => { f with routed := true }) }
    let s2 := { s1 with miles := { s1.miles with queue := s1.miles.queue ++
      [{ mp := mp, d := res, slot := some (i, tget 0 s1.dig.uses i) }] } }
    let k := digestCore d.alg
    if (coreAt s2 k).slot = some i then passCore s2 k else s2

/-! ### Hooks of other units -/

/-- Slots that pass a test. -/
def slotsWhere (s : State) (p : DSlot → Bool) : List Nat := tkeys s.dig.slots (fun _ d => p d)

/-- A lane reaches CLOSED: its slots are freed (R351). -/
def digestLane (s : State) (l : Nat) : State :=
  (slotsWhere s (fun d => d.state != .free && decide (d.lane = l))).foldl freeSlot s

/-- A tamper response or ZEROIZE_ALL: every slot is freed. -/
def digestTamper (s : State) : State := (slotsWhere s (fun d => d.state != .free)).foldl freeSlot s

/-- Slots whose HMAC key is stale become EXPIRED (R281, R295, R351). -/
def digestKeys (s : State) : State :=
  (slotsWhere s (fun d => (d.state == .opened || d.state == .complete) && (match d.key with
    | some h => handleStale s h
    | none => false))).foldl (fun t i => expireSlot (endFeed t i stStaleEpoch) i true) s

/-- An epoch of a context closes: feeds that read under it end STALE_EPOCH (R347). -/
def digestEpoch (s : State) (c : Nat) : State :=
  (slotsWhere s (fun d => match d.feed with
    | some f => decide (f.desc.ctx = c) && !f.routed
    | none => false)).foldl (fun t i => endFeed t i stStaleEpoch) s

/-- A warm restart or fault restart: running feeds end RESTARTING and slots stay (R347, R351); an open that waits for its key ends with its
request (R97). -/
def digestRestart (s0 : State) : State :=
  let s := { s0 with dig := { s0.dig with opens := [] } }
  (slotsWhere s (fun d => match d.feed with
    | some f => !f.routed
    | none => false)).foldl (fun t i => endFeed t i stRestarting) s

/-- A cancelled feed ends ABORTED (R98). -/
def digestCancel (s : State) (w : Caller) : State :=
  (slotsWhere s (fun d => match d.feed with
    | some f => decide (f.caller = w) && !f.routed
    | none => false)).foldl (fun t i => endFeed t i stAborted) s

/-! ### Commands (R352 to R355) -/

/-- Most slots that one lane may hold (R365). -/
def digestLaneCap (s : State) : Nat := min 56 (bits (plainReg s 0x3404) 0 6)

/-- Whether a requester may route to a milepost (R357). -/
def routeAllowed (s : State) (owner laneV : Bool) (lane mp : Nat) : Bool :=
  if owner then decide (mp = 6 ∨ 24 ≤ mp)
  else
    let w := fixedReg s (0x3E80 + 4 * (mp - 24))
    laneV && decide (24 ≤ mp) && bit w 6 && decide (bits w 0 6 = lane)

/-- The key that an HMAC slot takes, or the status of the refusal (R353, orders 3 and 4). -/
def hmacKey (s : State) (k : Call) (alg : Nat) : Except (BitVec 8) (Option Handle) :=
  if alg ≠ 5 then .ok none
  else match handleOf s (k.word 1) with
    | none => .error stKeyHandle
    | some (_, h) =>
      if handleStale s h then .error stStaleEpoch
      else if h.kind ≠ 4 ∧ h.kind ≠ 5 then .error stKeyHandle
      else if !((k.laneV && decide (h.lane = k.lane)) || (k.owner && decide (h.lane = 0))) then .error stDenied
      else if h.typ ≠ 2 then .error stDigestKeyType
      else .ok (some h)

/-- Whether a digest slot's load may have the working key register: it is free, and no keyed job of a higher priority could take it with a
bank now (R286). -/
def loadMayRun (s : State) (p : Nat) : Bool :=
  s.keys.wkr.isNone && !((freeBank s).isSome && s.rns.jobs.any (fun j => j.waits && j.key.isSome && decide (j.prio < p)))

/-- Slot i opened with an algorithm and its lengths, under a key's material (R353). -/
def takeSlot (k : Call) (i : Nat) (key : Option Handle) (m : Octets) (s : State) : State :=
  let w := k.word 0
  let alg := bits w 0 3
  let mlen := (k.word 2).toNat + 2 ^ 32 * (k.word 3).toNat
  let p := digestP alg mlen
  let d : DSlot :=
    { state := .opened, alg := alg, lane := k.lane, outLen := bits w 16 8, route := if bit w 8 then some (bits w 9 5) else none
      mlen := mlen, p := p, words := digestInit alg m, outer := digestOuter alg m, key := key }
  let s1 := setDslot s i (startWait s d)
  let s2 := { s1 with dig := { s1.dig with uses := tset 0 s1.dig.uses i (tget 0 s1.dig.uses i + 1) } }
  reply s2 k stDone [field 32 0 6 i, BitVec.ofNat 32 p, BitVec.ofNat 32 (p / 2 ^ 32)]

/-- A slot opened (R353); a DIGEST_OPEN whose key's load must wait for the working key register runs on until it may have it (R97, R286). -/
def openSlot (k : Call) (s : State) : State :=
  let w := k.word 0
  let alg := bits w 0 3
  let outLen := bits w 16 8
  let mp := bits w 9 5
  let mlen := (k.word 2).toNat + 2 ^ 32 * (k.word 3).toNat
  let xof := decide (alg = 3 ∨ alg = 4)
  let n := resultLen alg outLen
  if !fieldsOk k [0x00FF3F07] ∨ 5 < alg ∨ (if xof then outLen = 0 ∨ digestRate alg < outLen else outLen ≠ 0)
      ∨ (alg ≠ 5 ∧ k.word 1 ≠ 0) then reply s k stBadField []
  else if 2 ^ 47 ≤ mlen then reply s k stBadLength []
  else match hmacKey s k alg with
    | .error st => reply s k st []
    | .ok key =>
      if bit w 8 ∧ !(routeAllowed s k.owner k.laneV k.lane mp && decide (n = 48 ∨ n = 64)) then reply s k stDigestRoute []
      else if digestLaneCap s ≤ (slotsWhere s (fun d => d.state != .free && decide (d.lane = k.lane))).length then reply s k stBusy []
      else match firstBelow 56 (fun i => (dslot s i).state == .free) with
        | none => reply s k stBusy []
        | some i =>
          match key with
          | none => takeSlot k i none [] s
          | some h =>
            if !loadMayRun s (if k.owner then 1 else 2) then { s with dig := { s.dig with opens := s.dig.opens ++ [(k.ch, k.owner)] } }
            else withMaterial s h (fun t => reply t k stFaulted []) (takeSlot k i (some h))

/-- The open that waits longest for the working key register goes on, its request judged as when it started (R97). -/
def serveOpen (s : State) : State :=
  match s.dig.opens with
  | [] => s
  | (c, owner) :: rest =>
    if !loadMayRun s (if owner then 1 else 2) then s
    else
      let s1 := { s with dig := { s.dig with opens := rest } }
      match (chanAt s1 c).running with
      | none => s1
      | some r =>
        if opcodeOf r.w0 ≠ 0x501 then s1
        else openSlot { ch := c, req := r, owner := owner, lane := (stampedLane r.w1).getD 0, laneV := (stampedLane r.w1).isSome } s1

/-- DIGEST_OPEN (R353): the request that the controller starts next, behind the open that waits longest for the working key register, which
goes on where it may (R97). -/
def execDigestOpen (bus : Bus) (s : State) : Host.Outcome State Fault Refusal :=
  onBus s bus (fun s => service 0x501 (serveOpen s) openSlot)

/-- A slot that a request may name: of its lane and not FREE (R351). -/
def namedSlot (s : State) (k : Call) : Option (Nat × DSlot) :=
  let i := bits (k.word 0) 0 6
  let d := dslot s i
  if d.state == .free || decide (d.lane ≠ k.lane) then none else some (i, d)

/-- DIGEST_FEED's job. -/
def startFeed (i payer : Nat) (ds : Desc) (w : Caller) (s : State) : State :=
  let d := dslot s i
  let n := min ds.len (d.p - d.fed)
  let f : Feed :=
    { caller := w, desc := { ctx := ds.ctx, addr := ds.addr, len := ds.len, epoch := (ctxAt s ds.ctx).epoch }, done := 0, take := n
      excess := ds.len - n, payer := payer }
  let s1 := setDslot s i { d with feed := some f }
  if n = 0 then endFeed s1 i stDone
  else
    let k := digestCore d.alg
    if (coreAt s1 k).slot.isNone then setCore s1 k { slot := some i, last := i } else s1

/-- DIGEST_FEED (R345). -/
def execDigestFeed (bus : Bus) (s : State) : Host.Outcome State Fault Refusal :=
  onBus s bus (fun s => service 0x502 s (fun k t =>
    if !fieldsOk k (0x3F :: descMasks) then reply t k stBadField []
    else
      let ds := descAt k 1
      match descRefusal t k ds false with
      | (some st, t1) => reply t1 k st []
      | (none, t1) => match namedSlot t1 k with
        | none => reply t1 k stDigestSlot []
        | some (i, d) =>
          if d.state ≠ .opened then reply t1 k stDigestSlot []
          else if d.feed.isSome then reply t1 k stBusy []
          else if ds.len % digestRate d.alg ≠ 0 ∧ ds.len < d.p - d.fed then reply t1 k stBadLength []
          else ticketed t1 k (startFeed i (workLane t1 k) ds)))

/-- Twelve words of a result from an offset on, octet 4k in bits [31:24], zero-filled (R352, R366). -/
def resultWords (o : Octets) : List W32 := (chunks 4 (padTo 48 o)).map (fun x => BitVec.ofNat 32 (ofBe x))

/-- DIGEST_READ's effect (R355). -/
def digestRead (k : Call) (s : State) : State :=
  let off := bits (k.word 0) 8 8
  let none_ : List W32 := 0 :: resultWords []
  if !fieldsOk k [0x0001FF3F] then reply s k stBadField []
  else match namedSlot s k with
    | none => reply s k stDigestSlot []
    | some (i, d) =>
      match d.state with
      | .complete =>
        if off % 48 ≠ 0 ∨ d.result.length ≤ off then reply s k stBadField none_
        else
          let o := slice d.result off 48
          let s1 := reply s k stDone (field 32 0 8 o.length :: resultWords o)
          if bit (k.word 0) 16 then freeSlot s1 i else s1
      | .opened => reply s k stDigestIncomplete none_
      | _ => reply s k (if d.staleKey then stStaleEpoch else stTimedOut) none_

/-- DIGEST_READ (R355). -/
def execDigestRead (bus : Bus) (s : State) : Host.Outcome State Fault Refusal := onBus s bus (fun s => service 0x503 s digestRead)

/-- DIGEST_CLOSE (R354). -/
def execDigestClose (s : State) : Host.Outcome State Fault Refusal :=
  live s (fun s => service 0x504 s (fun k t =>
    if !fieldsOk k [0x3F] then reply t k stBadField []
    else match namedSlot t k with
      | none => reply t k stDigestSlot []
      | some (i, _) => reply (freeSlot t i) k stDone []))

/-- DIGEST_QUERY (R352). -/
def execDigestQuery (s : State) : Host.Outcome State Fault Refusal :=
  live s (fun s => service 0x505 s (fun k t =>
    if !fieldsOk k [0x3F] then reply t k stBadField []
    else match namedSlot t k with
      | none => reply t k stDigestSlot []
      | some (_, d) =>
        reply t k stDone [field 32 0 3 d.alg ||| field 32 4 2 (slotCode d.state) ||| flag 32 8 d.route.isSome
            ||| field 32 9 5 (d.route.getD 0), BitVec.ofNat 32 d.fed, BitVec.ofNat 32 (d.fed / 2 ^ 32), BitVec.ofNat 32 d.p,
          BitVec.ofNat 32 (d.p / 2 ^ 32)]))

/-! ### Absorbing (R344, R346, R347, R349) -/

/-- Octets of a span as far as they come, with the status that stopped it. -/
def readSome (s : State) (ctx : Nat) : List (Nat × Nat × Nat) → Octets → Octets × Option (BitVec 8) × State
  | [], acc => (acc, none, s)
  | (la, lo, n) :: rest, acc =>
    match dmaReadLine s ctx la with
    | (.ok (l, _), s1) => readSome s1 ctx rest (acc ++ slice (octetsOfLine l) lo n)
    | (.error st, s1) => (acc, some st, s1)

/-- Units of 64 octets of a core's present chunk that no credit has covered yet. -/
def chunkOwed (d : DSlot) (f : Feed) : Nat := ceilDiv (min (digestChunk d.alg) (f.take - f.done)) 64 - f.ready

/-- Units of the chunk that the credit covers now are taken from it (R119). -/
def coverChunk (s : State) (i : Nat) : State :=
  let d := dslot s i
  match d.feed with
  | none => s
  | some f =>
    if f.routed then s
    else
      let n := min (chunkOwed d f) (unitsCovered s crDigest (digestUnit s))
      spendCredit (setDslot s i { d with feed := some { f with ready := f.ready + n } }) crDigest (n * digestUnit s)

/-- Octets absorbed by a slot for its feed, charged to the lane whose work they are (R124, R341). -/
def absorb (s : State) (i : Nat) (o : Octets) : State :=
  let d := dslot s i
  let st := (chunks (digestRate d.alg) o).foldl (digestBlock d.alg) d.words
  let s1 := setDslot s i { d with words := st, fed := d.fed + o.length
                                  feed := d.feed.map (fun f => { f with done := f.done + o.length, ready := 0 }) }
  chargeEnergy (count s1 0x7900 o.length) ((d.feed.map Feed.payer).getD d.lane) (ceilDiv o.length 64 * digestUnit s1)

/-- The end of the chunk of the slot that a core serves; it comes once the engine's credit has covered the chunk (R119). -/
def chunkEnd (s0 : State) (k i : Nat) : State :=
  let s := coverChunk s0 i
  let d := dslot s i
  match d.feed with
  | none => passCore s k
  | some f =>
    if (ctxAt s f.desc.ctx).epoch ≠ f.desc.epoch then endFeed s i stStaleEpoch
    else if chunkOwed d f ≠ 0 then s
    else
      let n := min (digestChunk d.alg) (f.take - f.done)
      let (o, st, s1) := readSome s f.desc.ctx (spanLines (f.desc.addr + f.done) n) []
      match st with
      | some e =>
        let r := digestRate d.alg
        endFeed (absorb s1 i (o.take (o.length / r * r))) i e
      | none =>
        let s2 := absorb s1 i o
        if d.fed + n = d.p then completeSlot s2 i
        else if f.done + n = f.take then endFeed s2 i stDone
        else passCore s2 k

/-- DIGEST_CHUNK_END (R349): the Keccak core serves no slot while it serves the coupling (R350). -/
def execDigestChunkEnd (core : Fin 2) (bus : Bus) (s : State) : Host.Outcome State Fault Refusal :=
  onBus s bus (fun s =>
    if core.val = 1 ∧ s.rns.coupling.isSome then s
    else match (coreAt s core.val).slot with
      | none => s
      | some i => chunkEnd s core.val i)

/-- DIGEST_SLOT_EXPIRE (R348). -/
def execDigestSlotExpire (slot : Fin 64) (s : State) : Host.Outcome State Fault Refusal :=
  live s (fun s =>
    let d := dslot s slot.val
    if d.state = .opened ∧ d.feed.isNone ∧ d.since + d.wait ≤ clock s then
      digEvent (expireSlot s slot.val false) false true false
    else s)

/-! ### The milepost unit (R352, R356, R359, R363) -/

/-- MP_READ (R352). -/
def execMpRead (bus : Bus) (s : State) : Host.Outcome State Fault Refusal :=
  onBus s bus (fun s => service 0x510 s (fun k t =>
    if !fieldsOk k [0x1F] then reply t k stBadField []
    else
      let m := milepost t (bits (k.word 0) 0 5)
      reply t k (if m.broken then stMpBroken else stDone) (m.count :: flag 32 0 m.broken :: resultWords (mileOctets m))))

/-- A slot whose extend has been made or refused: its result is readable, and its feed ends (R356). -/
def routeDone (s : State) (x : Nat × Nat) (made : Bool) : State :=
  let d := dslot s x.1
  if tget 0 s.dig.uses x.1 ≠ x.2 ∨ d.state ≠ .opened ∨ d.result.isEmpty then s
  else
    let s1 := if made then s else digEvent s false false true
    let s2 := setDslot s1 x.1 { d with state := .complete }
    endFeed s2 x.1 (match d.feed with
      | some f => if made ∨ f.excess ≠ 0 then feedStatus f else stDigestRoute
      | none => stDone)

/-- MILEPOST_EXTEND (R359): the request at the head of the queue. -/
def milepostExtend (s : State) : State :=
  match s.miles.queue with
  | [] => s
  | x :: rest =>
    let (made, s1) := extendNow { s with miles := { s.miles with queue := rest } } x.mp x.d
    match x.slot with
    | none => s1
    | some y => routeDone s1 y made

/-- MILEPOST_EXTEND. -/
def execMilepostExtend (s : State) : Host.Outcome State Fault Refusal := live s milepostExtend

/-- A digest slot state that cannot be read: the slot becomes EXPIRED (R351, R465). -/
def digestLost (s : State) (i : Nat) : State :=
  if (dslot s i).state = .opened then expireSlot (endFeed s i stRestarting) i false else s

end Sys2Proof.Machine
end

