-- ==== Sys2Proof/Machine/KeyStore.lean ====
section
/-!
DEFINITION. The key services that change what is kept: destroying stored keys, key update messages, the commit of a store image
(R288 to R295), orderly sleep (R301, R302) and re-enrollment (R303, R304).
-/

namespace Sys2Proof.Machine

open Sys2Proof

/-- NVM_ERROR: a flash operation failed (R399). -/
def stNvmError : BitVec 8 := 0x55

/-! ### Destroying stored keys (R295) -/

/-- Jobs and slots under keys that are no longer good, after keys were destroyed on command. -/
def keysDestroyed (s : State) : State := digestKeys (rnsKeys s stAborted)

/-- A rewrite that destroys stored keys; under a public root the store is empty and is not rewritten (R283). -/
def destroyKeys (r : Rewrite) (w : Caller) (s : State) : State :=
  if s.keys.root = .bedrock then keysDestroyed (askRewrite s r) else finish s w stDone []

/-- KEY_DESTROY's effect. -/
def keyDestroy (k : Call) (s : State) : State :=
  let lane := bits (k.word 0) 8 6
  if !fieldsOk k [0x3F01] then reply s k stBadField []
  else if bit (k.word 0) 0 then
    if !k.owner then reply s k stNotOwner []
    else if lane = 0 then reply s k stBadField []
    else ticketed s k (fun w => destroyKeys (.destroyLane lane w) w)
  else match useHandle s k (k.word 1) with
    | .error st => reply s k st []
    | .ok (_, h) =>
      if h.kind ≠ 5 then reply s k stKeyHandle []
      else if handleStale s h then reply s k stStaleEpoch []
      else ticketed s k (fun w => destroyKeys (.destroySlot h.name.toNat w) w)

/-- KEY_DESTROY (R295, R305). -/
def execKeyDestroy (bus : Bus) (s : State) : Host.Outcome State Fault Refusal :=
  onBus s bus (fun s => service 0x305 s keyDestroy)

/-- The stored keys of a lane that reaches CLOSED: one rewrite, until whose commit the lane cannot be opened (R295). -/
def releaseStoredKeys (s : State) (l : Nat) : State :=
  if s.keys.root = .bedrock ∧ s.keys.store.any (fun e => e.2.valid && decide (e.2.lane = l)) then
    askRewrite (setLane s l { laneAt s l with rewriteDue := true }) (.laneReleased l)
  else s

/-! ### Key update messages (R292, R293) -/

/-- Engine jobs that the check of a message takes: ended DONE, and failed. -/
def kumJobs (s : State) (o : Octets) : Nat × Nat :=
  if !kumForm o ∨ slice o 16 48 ≠ identityDigest s ∨ wordAt o 64 ≠ s.vault.realmId ∨ wordAt o 68 ≠ s.vault.realmEpoch then (0, 0)
  else
    let n := o.length - sigLen
    let b := blockJobs [beOctets 48 s.vault.authority.toNat] (o.take n) (o.drop n)
    if b = (2, 0) ∧ wordAt o 8 = s.vault.kumCount + 1 ∧ ofLe (slice o 6 2) = 1 then (3, 0) else b

/-- What a message came to. -/
inductive Applied where
  | refused (st : BitVec 8)
  /-- its commit waits: for a store image, or for the vault to take its counter after its effect -/
  | waits
deriving DecidableEq, Repr

/-- The slot that a message leaves. -/
def kumSlot (s : State) (m : Kum) : StoreSlot :=
  let v := (slotAt s m.slot).version + 1
  if m.kind = 1 then { valid := true, lane := m.lane, typ := m.typ, version := v, material := m.body } else { version := v }

/-- A message checked and applied: its effect is written first, and its counter later (R292, R293). -/
def kumApply (s : State) (o : Octets) (who : KumCaller) : Applied × State :=
  let s1 := ownRns (count s 0x78C8 1) 0 (kumJobs s o)
  match kumCheck s1 o with
  | .error st => (.refused st, kumRefused s1 st)
  | .ok m =>
    if m.kind ≤ 2 then
      let s2 := askRewrite s1 (.update m.slot (kumSlot s1 m) m.kind m.digest who)
      (.waits, if m.kind = 2 then keysDestroyed s2 else s2)
    else
      let s2 := kumVault s1 m
      (.waits, { s2 with keys := { s2.keys with kumDue := some { kind := m.kind, digest := m.digest, who := who } } })

/-- The counter of a message whose effect stands is written; the job that brought it ends (R293). -/
def kumCounts (s : State) (d : KumDue) : State :=
  let s1 := kumCommitted { s with keys := { s.keys with kumDue := none } } d.digest
  match d.who with
  | .job w => finish s1 w stDone [BitVec.ofNat 32 d.kind, s1.vault.kumCount]
  | .relay _ => s1

/-- KEY_UPDATE's job. -/
def keyUpdate (d : Desc) (w : Caller) (s : State) : State :=
  if 9300 < d.len then finish (kumRefused (count s 0x78C8 1) stKeyFormat) w stKeyFormat []
  else match dmaRead s d with
    | (.error (st, n), s1) => finish s1 w st [BitVec.ofNat 32 n]
    | (.ok o, s1) =>
      match kumApply s1 o (.job w) with
      | (.refused st, s2) => finish s2 w st []
      | (.waits, s2) => s2

/-- KEY_UPDATE (R292, R305). -/
def execKeyUpdate (bus : Bus) (s : State) : Host.Outcome State Fault Refusal :=
  onBus s bus (fun s => service 0x306 s (fun k t =>
    if !fieldsOk k descMasks then reply t k stBadField []
    else match descRefusal t k (descAt k 0) false with
      | (some st, t1) => reply t1 k st []
      | (none, t1) => if kumRuns t1 then reply t1 k stBusy [] else ticketed t1 k (keyUpdate (descAt k 0))))

/-! ### The commit of a store image (R288) -/

/-- Whether a rewrite empties a slot that holds a key. -/
def destroysKeys (t : Table StoreSlot) (r : Rewrite) : Bool := t.any (fun e => e.2.valid && rewriteEmpties e.2 e.1 r)

/-- A rewrite's own vault words, and the events it sets: DESTROYED where the store before it held a key that it empties (R307). -/
def rewriteEvents (s : State) (before : Table StoreSlot) (r : Rewrite) : State :=
  let s1 := match r with
    | .update _ _ _ digest _ => kumCommitted s digest
    | _ => s
  if destroysKeys before r then keyEvent s1 (fun k => { k with destroyed := true }) else s1

/-- The unsealed image of the store copied into the key area, under CTX 0 (R287). -/
def fillKeyArea (s : State) : State :=
  (ownWrite s (keyArea s) (storeHeader s.vault.storeGen s.keys.store
    ++ (List.range 256).flatMap (fun i => storeRecord (tget {} s.keys.store i)) ++ List.replicate 16 0)).2

/-- The answer to the job of a rewrite; what the relay is owed is left to it. -/
def rewriteAnswer (s : State) : Rewrite → State
  | .update _ _ kind _ (.job w) => finish s w stDone [BitVec.ofNat 32 kind, s.vault.kumCount]
  | .update _ _ _ _ (.relay _) => s
  | .destroySlot _ w => finish s w stDone []
  | .destroyLane _ w => finish s w stDone []
  | .laneReleased l => setLane s l { laneAt s l with rewriteDue := false }

/-- The flash region that is not active. -/
def inactiveRegion (s : State) : Region := nvmRegion s (if s.keys.activeRegion then 4 else 5)

/-- The new image stands in the inactive region, and the vault's STORE_GEN word commits it; the copy in the key area follows it
(log 155), and the old region is then erased. -/
def commitStore (s : State) (r : Rewrite) : State :=
  let gen := s.vault.storeGen + 1
  let t := rewritten s.keys.store r
  let s1 := flashProgram s (inactiveRegion s).off (storeImage s gen t)
  let ks := { s1.keys with store := t, activeRegion := !s1.keys.activeRegion, inactiveErased := false, rewrites := s1.keys.rewrites.drop 1 }
  let s2 := { s1 with vault := { s1.vault with storeGen := gen }, keys := ks }
  let s3 := fillKeyArea (digestKeys (rnsKeys (rewriteEvents s2 s.keys.store r) stStaleEpoch))
  nvmEnqueue (rewriteAnswer s3 r) (.eraseStore true)

/-- The old region is erased: the next rewrite may write its image. -/
def storeErased (s : State) : State :=
  let s1 := { s with keys := { s.keys with inactiveErased := true } }
  if s1.keys.rewrites.isEmpty then s1 else nvmEnqueue s1 .store

/-- A rewrite whose image could not be written: its jobs end, and the store stays as it was. -/
def rewriteFails (s : State) (r : Rewrite) : State :=
  let s1 := { s with keys := { s.keys with rewrites := s.keys.rewrites.drop 1, inactiveErased := false } }
  let s2 := match r with
    | .update _ _ _ _ (.job w) => finish (kumRefused s1 stNvmError) w stNvmError []
    | .update _ _ _ _ (.relay _) => kumRefused s1 stNvmError
    | .destroySlot _ w => finish s1 w stNvmError []
    | .destroyLane _ w => finish s1 w stNvmError []
    | .laneReleased l => { s1 with keys := { s1.keys with rewrites := s1.keys.rewrites ++ [.laneReleased l] } }
  nvmEnqueue s2 (.eraseStore true)

/-! ### Orderly sleep (R301) -/

/-- Mileposts that the sleep image holds. -/
def sleepPosts : List Nat := [3, 4, 5, 6, 7, 24, 25, 26, 27, 28, 29, 30, 31]

/-- What the sleep image holds of the present state. -/
def sleepContents (s : State) : SleepImage :=
  { ctxs := s.ctxs, laneTags := s.laneTags, lanes := s.lanes
    quotas := s.cfg.active.filter (fun e => decide (0x1804 ≤ e.1 ∧ e.1 < 0x1900))
    handles := s.keys.handles, uses := s.keys.uses, rcpt := s.rcpt, writes := s.tiles.writes
    miles := sleepPosts.map (fun j => (j, milepost s j)) }

/-- Whether an orderly sleep may begin. -/
def maySleep (s : State) : Bool :=
  (List.range 63).all (fun i => (laneAt s (i + 1)).state == .closed || (laneAt s (i + 1)).state == .drained)
    && s.rcpt.load.isNone && !s.rcpt.receipts.any (fun e => e.2.state == .closing) && decide (s.keys.vaultState = 0)

/-- `n` lines of the sleep image written from its base on; the format is open, so their contents are free values. -/
def writeSleepLines (base : Nat) : Nat → State → State
  | 0, s => s
  | n + 1, s =>
    let (l, s1) := freeLine s
    writeSleepLines (base + 1) n (writeOwnDma s1 base l).2

/-- First line of the sleep image. -/
def sleepBase (s : State) : Nat := 64 * bits (fixedReg s 0x2024) 0 24

/-- Lines of the sleep image: 512 KiB. -/
def sleepLines : Nat := 8192

/-- Step 2 of R301: custody stops, the background engine does no more of its own, and re-key records run to their end. -/
def startSleep (w : Caller) (s : State) : State :=
  let s1 := rekeySteps 4096 (cutCustody s)
  { s1 with keys := { s1.keys with sleeping := some w } }

/-- An orderly sleep that has not reached step 5 given up: the block serves again (R301). -/
def leaveSleep (s : State) : State :=
  if s.keys.sleeping.isSome then { s with keys := { s.keys with sleeping := none }, cust := { s.cust with stopped := s.tamper.restartDue || s.lc.stopped } } else s

/-- Every dirty metadata line written back up to the root, a line whose write-back fails lost, and the pages of those reported (R186, R193). -/
def flushMeta (s : State) : State :=
  let s1 := (settleLost (flushDirty s)).2
  flushDirty s1

/-- Steps 3 to 6 of R301. -/
def goToSleep (w : Caller) (s : State) : State :=
  let s1 := { s with keys := { s.keys with sleeping := none } }
  let s2 := writeSleepLines (sleepBase s1) sleepLines { s1 with sleepImage := some (sleepContents s1) }
  let s3 := match journalNext s2 with
    | (some (off, o), t) => journalWrite t off o
    | (none, t) => t
  let s4 := flushMeta s3
  let v := ({ s4.vault with rootA := s4.tree.root, rootB := s4.tree.root, rootC := s4.tree.root
                            sleepCount := s4.vault.sleepCount + 1 }.setControl 1 true).setControl 2 (s4.keys.root == RootSource.testRoot)
  finish { s4 with vault := v, keys := { s4.keys with asleep := true, sleepReady := true } } w stDone []

/-- An orderly sleep cancelled before step 5 (R301). -/
def cancelSleep (w : Caller) (s : State) : State :=
  if s.keys.sleeping = some w then finish (leaveSleep s) w stAborted [] else s

/-- Whether a JOB_CANCEL of a ticket has been captured and not yet started. -/
def cancelCaptured (s : State) : Caller → Bool
  | .ticket c t => (chanAt s c).waiting.any (fun r => decide (opcodeOf r.w0 = 0x004 ∧ bits (r.payload.headD 0) 0 4 = t))
  | .running _ => false

/-- An orderly sleep under way goes on: to its end, or, where JOB_CANCEL was captured meanwhile, back to service (R301; log 48). -/
def sleepStep (s : State) : State :=
  match s.keys.sleeping with
  | none => s
  | some w => if s.tamper.restartDue then s else if cancelCaptured s w then cancelSleep w s else goToSleep w s

/-- VAULT_SLEEP (R301). -/
def execVaultSleep (bus : Bus) (s : State) : Host.Outcome State Fault Refusal :=
  onBus s bus (fun s => service 0x310 s (fun k t => if maySleep t then ticketed t k startSleep else reply t k stKeyState []))

/-! ### Re-enrollment (R303, R304) -/

/-- REENROLL's job: the input is read, and the next bit of the re-enrollment count is programmed. -/
def startEnroll (k : Call) (w : Caller) (s : State) : State :=
  match dmaRead s (descAt k 0) with
  | (.error (st, _), s1) => finish s1 w st []
  | (.ok o, s1) =>
    otpEnqueue { s1 with keys := { s1.keys with enrolling := some { words := k.req.payload, input := o, caller := w } } }
      [{ user := .reenroll, word := otpReenroll, bits := BitVec.ofNat 32 (2 ^ reenrollments s1) }]

/-- REENROLL (R303). -/
def execReenroll (bus : Bus) (s : State) : Host.Outcome State Fault Refusal :=
  onBus s bus (fun s => service 0x320 s (fun k t =>
    if !fieldsOk k (descMasks ++ descMasks) then reply t k stBadField []
    else match descsRefusal t k [(descAt k 0, false), (descAt k 4, true)] with
      | (some st, t1) => reply t1 k st []
      | (none, t1) =>
        if t1.keys.vaultState ≠ 1 then reply t1 k stKeyState []
        else if t1.keys.enrolling.isSome then reply t1 k stBusy []
        else if 31 ≤ reenrollments t1 then reply t1 k stEnrollExhausted []
        else if (descAt k 0).len ≠ 56 ∨ (descAt k 4).len < 4433 then reply t1 k stBadLength []
        else ticketed t1 k (startEnroll k)))

/-- A new bedrock with its shares and check. -/
def newBedrock (s : State) : State :=
  let (b, s1) := drawRandom s
  let (m, s2) := drawRandom s1
  let bed := BitVec.ofNat 256 b.toNat
  let mask := BitVec.ofNat 256 m.toNat
  let chk := blockOfOctets ((hmacSha384 (keyOctets bed) (ascii "STB7 CHECK")).take 16)
  { s2 with vault := { s2.vault with bedrockMasked := bed ^^^ mask, mask := mask, check := chk } }

/-- A vault written afresh (R303, R438): bedrock, authority and realm from a 56-octet input, START_COUNT as given. -/
def provision (s : State) (input : Octets) (start : Nat) : State :=
  let s1 := newBedrock s
  let v : Vault := { s1.vault with
    authority := BitVec.ofNat 384 (ofBe (input.take 48)), realmId := wordAt input 48, realmEpoch := wordAt input 52
    kumCount := 0, storeGen := 0, startCount := BitVec.ofNat 32 start, mono := [], monoBroken := [] }.withControl 1
  { s1 with vault := v }

/-- The enrollment request (R304), under keys derived from the new bedrock. -/
def enrollRequest (s : State) : Octets :=
  let n := deriveTier1 s (beOctets 32 (bedrock s).toNat)
  let body := octetsOfWords [0x524E4553, BitVec.ofNat 32 (reenrollments s)] ++ deviceSerial s ++ identityDigest n
    ++ beOctets 48 s.vault.authority.toNat ++ octetsOfWords [s.vault.realmId, s.vault.realmEpoch] ++ idPublics n
  body ++ hmacSha384 (otpField s otpEnrollKey 12) (ascii "STB7 ENROLL" ++ body)

/-- The bit is programmed and read back: steps 3 to 6 of R303. -/
def enrollBit (e : Enroll) (s : State) : State :=
  let s1 := provision { s with keys := { s.keys with enrolling := none } } e.input (reenrollments s * 2 ^ 24)
  let o := enrollRequest s1
  let ctx := bits (e.words.getD 4 0) 0 14
  let addr := (e.words.getD 5 0).toNat + 2 ^ 32 * bits (e.words.getD 6 0) 0 4
  match dmaWrite (ownRns s1 0 (3, 0)) ctx addr o with
  | (none, s2) => finish s2 e.caller stDone []
  | (some (st, n), s2) => finish s2 e.caller st [BitVec.ofNat 32 n]

/-- The bit did not program: the job ends FAULTED and nothing else changes. -/
def enrollFails (e : Enroll) (s : State) : State :=
  finish { s with keys := { s.keys with enrolling := none } } e.caller stFaulted []

end Sys2Proof.Machine
end

