-- ==== Sys2Proof/Machine/Jobs.lean ====
section
/-!
DEFINITION. Who waits for a job, over every unit: callers replaced, and what a restart of the firmware ends (R97, R103).
-/

namespace Sys2Proof.Machine

open Sys2Proof

/-- A caller that is not there: channel 128 does not exist. -/
def nobody : Caller := .ticket 128 0

/-- The job that brought a key update message replaced. -/
def KumCaller.mapCaller (f : Caller → Caller) : KumCaller → KumCaller
  | .job w => .job (f w)
  | .relay r => .relay r

/-- A rewrite's caller replaced. -/
def Rewrite.mapCaller (f : Caller → Caller) : Rewrite → Rewrite
  | .update i n k d u => .update i n k d (u.mapCaller f)
  | .destroySlot i w => .destroySlot i (f w)
  | .destroyLane l w => .destroyLane l (f w)
  | .laneReleased l => .laneReleased l

/-- What a directory change is for, its caller replaced. -/
def DirUse.mapCaller (f : Caller → Caller) : DirUse → DirUse
  | .confirmed w => .confirmed (w.map f)
  | u => u

/-- A flash operation's caller replaced. -/
def NvmOp.mapCaller (f : Caller → Caller) : NvmOp → NvmOp
  | .window o l c e a w => .window o l c e a (f w)
  | .signer l i d w => .signer l i d (f w)
  | .cert i d w => .cert i d (f w)
  | .debugStore d w => .debugStore d (f w)
  | .debugErase w => .debugErase (f w)
  | .directory d u => .directory d (u.mapCaller f)
  | op => op

/-- The caller of a flash operation that a mailbox job asked for. -/
def NvmOp.caller : NvmOp → Option Caller
  | .window _ _ _ _ _ w => some w
  | .signer _ _ _ w => some w
  | .cert _ _ w => some w
  | .debugStore _ w => some w
  | .debugErase w => some w
  | _ => none

/-- A remote wait's caller replaced. -/
def RemoteWait.mapCaller (f : Caller → Caller) : RemoteWait → RemoteWait
  | .waybill d x w => .waybill d x (f w)
  | .keySend d w => .keySend d (f w)
  | .peerSend p d n w => .peerSend p d n (f w)

/-- The callers of the receipt unit replaced. -/
def Receipts.mapCallers (f : Caller → Caller) (r : Receipts) : Receipts :=
  { r with
    load := r.load.map (fun l => { l with caller := f l.caller })
    receipts := r.receipts.map (fun e => (e.1, { e.2 with caller := e.2.caller.map f }))
    sheets := r.sheets.map (fun e => (e.1, { e.2 with callers := e.2.callers.map f })) }

/-- The callers of the RNS engine replaced. -/
def Rns.mapCallers (f : Caller → Caller) (r : Rns) : Rns :=
  { r with jobs := r.jobs.map (fun j => { j with caller := f j.caller })
           aborts := r.aborts.map (fun a => { a with caller := f a.caller }) }

/-- The callers of the digest engine replaced. -/
def Dig.mapCallers (f : Caller → Caller) (d : Dig) : Dig :=
  { d with slots := d.slots.map (fun e => (e.1, { e.2 with feed := e.2.feed.map (fun x => { x with caller := f x.caller }) })) }

/-- The callers of start and update replaced. -/
def Boot.mapCallers (f : Caller → Caller) (b : Boot) : Boot :=
  { b with staging := b.staging.map (fun g => { g with source := g.source.map (fun x => { x with caller := f x.caller }) })
           activation := b.activation.map (fun a => { a with caller := f a.caller })
           confirming := b.confirming.map f
           restart := b.restart.map (fun r => { r with caller := r.caller.map f }) }

/-- The callers of the relay replaced. -/
def Relay.mapCallers (f : Caller → Caller) (r : Relay) : Relay :=
  { r with waits := r.waits.map (fun x => (x.1, x.2.mapCaller f))
           bundles := r.bundles.map (fun b => { b with caller := f b.caller })
           segment := r.segment.map (fun g => { g with who := g.who.map (fun x => (f x.1, x.2)) }) }

/-- Whoever waits for a job, replaced everywhere. -/
def mapCallers (f : Caller → Caller) (s : State) : State :=
  { s with
    lanes := s.lanes.map (fun e => (e.1, { e.2 with job := e.2.job.map f }))
    tiles := { s.tiles with fences := s.tiles.fences.map (fun x => { x with caller := f x.caller }) }
    keys := { s.keys with rewrites := s.keys.rewrites.map (Rewrite.mapCaller f)
                          enrolling := s.keys.enrolling.map (fun e => { e with caller := f e.caller })
                          kumDue := s.keys.kumDue.map (fun d => { d with who := d.who.mapCaller f }) }
    pages := s.pages.map (fun j => { j with caller := f j.caller })
    lc := { s.lc with job := s.lc.job.map (fun t => { t with caller := t.caller.map f }) }
    nvm := { s.nvm with ops := s.nvm.ops.map (NvmOp.mapCaller f) }
    boot := s.boot.mapCallers f
    rcpt := s.rcpt.mapCallers f
    rns := s.rns.mapCallers f
    dig := s.dig.mapCallers f
    relay := s.relay.mapCallers f }

/-- The running requests answered and the running tickets ended with a status, but for callers that are kept. -/
def endAll (s : State) (st : BitVec 8) (keep : Caller → Bool) : State :=
  (s.mbox.map Prod.fst).foldl (fun t c =>
    let v := chanAt t c
    let t1 := if v.running.isSome && !keep (.running c) then answerRunning t c st [] else t
    (v.tickets.filter (fun k => k.2.status.isNone && !keep (.ticket c k.1))).foldl (fun u k => endTicket u c k.1 st []) t1) s

/-- Flash work of jobs that have ended, where it is not already in progress, dropped. -/
def dropJobOps (s : State) (keep : Caller → Bool) : State :=
  let gone (o : NvmOp) : Bool := match o.caller with
    | some w => !keep w
    | none => false
  { s with nvm := { s.nvm with ops := s.nvm.ops.take 1 ++ (s.nvm.ops.drop 1).filter (fun o => !gone o) } }

/-- Whether an engine job that has not left its queue waits for a caller (R334). -/
def rnsQueued (s : State) (w : Caller) : Bool := s.rns.jobs.any (fun j => j.phase == .queued && decide (j.caller = w))

/-- A page command ends with its pages done (R205); a loader job ends RESTARTING (R252); a receipt job, a fence, a remote wait, an orderly
sleep that is being prepared end likewise, and what they did stays done. -/
def unitsRestart (s : State) (keep : Caller → Bool) : State :=
  let s1 := digestRestart (rnsRestart (endPages (leaveSleep s) stRestarting (fun _ => true)))
  let s2 := match s1.rcpt.load with
    | some l => rejectLoad s1 l.caller { st := stRestarting, reason := 0, tensor := 0xFF } l.ctx l.page l.done l.part
    | none => s1
  { s2 with
    ctxs := s2.ctxs.map (fun e => (e.1, { e.2 with releaseOn := none }))
    tiles := { s2.tiles with fences := [] }
    relay := { s2.relay with waits := [], bundles := s2.relay.bundles.filter (fun b => keep b.caller)
                             segment := s2.relay.segment.filter (fun g => g.who.isNone) } }

/-- A firmware restart (R97): what ran ends RESTARTING, but for callers that are kept and engine jobs still queued. -/
def restartJobs (s : State) (keep0 : Caller → Bool) : State :=
  let keep (w : Caller) : Bool := keep0 w || rnsQueued s w
  mapCallers (fun w => if keep w then w else nobody) (dropJobOps (endAll (unitsRestart s keep) stRestarting keep) keep)

end Sys2Proof.Machine
end

