-- ==== Sys2Proof/Machine/RelayTx.lean ====
section
/-!
DEFINITION. What a relay port sends (R409 to R416): frames queued by class, sealed as they go out, credits taken and returned; and the
end of a peering (R427, R429).
-/

namespace Sys2Proof.Machine

open Sys2Proof

/-! ### Ports -/

/-- A port's link. -/
def linkOf (s : State) : Dir → Link
  | .up => s.relay.linkUp
  | .dn => s.relay.linkDn

/-- A port's link written. -/
def setLink (s : State) (d : Dir) (l : Link) : State :=
  match d with
  | .up => { s with relay := { s.relay with linkUp := l } }
  | .dn => { s with relay := { s.relay with linkDn := l } }

/-- The other port. -/
def otherPort : Dir → Dir
  | .up => .dn
  | .dn => .up

/-- Whether a session stands on a link: it is UP, or it re-keys (R420). -/
def linkStands (l : Link) : Bool := l.phase == .up || l.live

/-- An event of `RELAY_EVENTS` recorded. -/
def relayEvent (s : State) (f : Relay → Relay) : State :=
  let r := f s.relay
  { s with relay := { r with seq := s.relay.seq + 1 } }

/-! ### Frames (R409, R410) -/

/-- Whether a TYPE takes a credit (R410). -/
def credited (typ : Nat) : Bool := decide (0x10 ≤ typ)

/-- The class of a TYPE (R415). -/
def frameClass (typ : Nat) : Nat :=
  if typ < 0x10 then 0
  else if typ = 0x10 then 4
  else if typ = 0x41 then 3
  else if typ = 0x21 ∨ typ = 0x23 then 2
  else 1

/-- The frame header. -/
def frameHeader (f : OutFrame) (len seq : Nat) : Octets :=
  [BitVec.ofNat 8 f.typ, BitVec.ofNat 8 (16 * f.mode + if f.last then 1 else 0)] ++ beOctets 2 len ++ beOctets 2 f.src ++ beOctets 2 f.dst
    ++ beOctets 8 seq

/-- The IV of a frame (R411). -/
def frameIv (seq : Nat) : Octets := List.replicate 4 0 ++ beOctets 8 seq

/-- Beats of a frame. -/
def frameBeats (len : Nat) : Nat := 2 + ceilDiv len 16

/-- The octets of a frame in order (R409). -/
def frameOctets (f : Frame) : Octets := f.header ++ f.payload ++ f.tag

/-- A frame as its beats (R50): SOF on the first, EOF and BYTES on the last; octets beyond BYTES are zero. -/
def beatsOf (f : Frame) : List RelayBeat :=
  let cs := chunks 16 (frameOctets f)
  cs.zipIdx.map (fun x =>
    { data := padTo 16 x.1, sof := x.2 == 0, eof := x.2 + 1 == cs.length
      bytes := if x.2 + 1 = cs.length then BitVec.ofNat 4 x.1.length else 0 })

/-- The octets that beats carry: 16 each, of the last one as many as BYTES says, 0 meaning 16 (R50). -/
def beatOctets (bs : List RelayBeat) : Octets :=
  bs.flatMap (fun b => if b.eof ∧ b.bytes ≠ 0 then b.data.take b.bytes.toNat else b.data)

/-- The frame that beats bring, or why it is discarded before it is read (R50, R68). -/
def frameOf (bs : List RelayBeat) : Except FrameFault Frame :=
  let o := beatOctets bs
  let body := bs.dropLast
  if !((bs.head?.map RelayBeat.sof).getD false) then .error .badField
  else if (bs.drop 1).any RelayBeat.sof then .error .burstShort
  else if 258 < bs.length then .error .burstExcess
  else if bs.length < 2 ∨ !((bs.getLast?.map RelayBeat.eof).getD false) ∨ body.any RelayBeat.eof ∨ body.any (fun b => b.bytes != 0)
      ∨ o.length < 32 then .error .badField
  else .ok { header := o.take 16, payload := (o.drop 16).take (o.length - 32), tag := o.drop (o.length - 16) }

/-- The VIOLATION_LOG kind of a frame that is discarded. -/
def faultKind : FrameFault → BitVec 8
  | .badField => kBadField
  | .burstExcess => kBurstExcess
  | .burstShort => kBurstShort

/-- The prefix of an object's frame (R410). -/
def objectPrefix (object off : Nat) : Octets := beOctets 4 object ++ beOctets 4 off

/-- The frames of an object, from an offset on. -/
def objectFrames (f : OutFrame) (object : Nat) (o : Octets) : List OutFrame :=
  let ps := chunks 4088 o
  ps.zipIdx.map (fun x => { f with payload := objectPrefix object (4088 * x.2) ++ x.1, last := decide (x.2 + 1 = ps.length) })

/-! ### Sending (R413 to R415) -/

/-- A frame put behind those that wait on a port. -/
def enqueue (s : State) (d : Dir) (f : OutFrame) : State :=
  let l := linkOf s d
  setLink s d { l with queue := l.queue ++ [f] }

/-- Whether a CREDIT frame waits on a link. -/
def creditWaits (l : Link) : Bool := l.queue.any (fun f => decide (f.typ = 0x04))

/-- A CREDIT frame asked for; its count is filled in as it goes out. -/
def askCredit (s : State) (d : Dir) : State :=
  if creditWaits (linkOf s d) then s
  else enqueue s d { typ := 0x04, mode := 0, last := true, src := s.relay.index, dst := 0, payload := [] }

/-- A credited frame leaves a port's receive buffer; every second release is reported at once (R413). -/
def releaseFrame (s : State) (d : Dir) : State :=
  let l := linkOf s d
  let l1 := { l with freed := l.freed + 1, freedAt := some (l.freedAt.getD s.pace.now) }
  let s1 := setLink s d l1
  if l1.reported + 2 ≤ l1.freed then askCredit s1 d else s1

/-- Whether a waiting frame may go out now. -/
def maySendFrame (l : Link) (f : OutFrame) : Bool := !credited f.typ || (l.phase == .up && decide (l.sent < l.released + 8))

/-- The place of the waiting frame that goes out next: by class, then arrival; a BUNDLE at least once in 8 credited frames (R415). -/
def nextFrame (l : Link) : Option Nat :=
  let xs := l.queue.zipIdx.filter (fun x => maySendFrame l x.1)
  let first (p : OutFrame → Bool) : Option Nat := (xs.find? (fun x => p x.1)).map Prod.snd
  match first (fun f => !credited f.typ) with
  | some i => some i
  | none =>
    match (if 7 ≤ l.passed then first (fun f => decide (f.typ = 0x10)) else none) with
    | some i => some i
    | none => [1, 2, 3, 4].findSome? (fun c => first (fun f => decide (frameClass f.typ = c)))

/-- A link whose new sending key comes into force with its FINISHED: SEQ and credits start again (R420). -/
def switchTx (l : Link) : Link :=
  { l with txKey := l.nextTx, nextTx := [], txSeq := 1, sent := 0, released := 0, spentAt := none }

/-- A frame as it goes on the wire: plain with SEQ 0, or sealed under the sending key with the next SEQ (R411). -/
def sealFrame (l : Link) (f : OutFrame) (payload : Octets) : Frame :=
  if f.typ ≤ 0x02 then { header := frameHeader f payload.length 0, payload := payload, tag := List.replicate 16 0 }
  else
    let h := frameHeader f payload.length l.txSeq
    let x := gcmSeal l.txKey (frameIv l.txSeq) h payload
    { header := h, payload := x.1, tag := x.2 }

/-- The link after a frame has gone on the wire. -/
def afterStart (s : State) (l : Link) (f : OutFrame) : Link :=
  let l1 := if f.typ ≤ 0x02 then l else { l with txSeq := l.txSeq + 1 }
  let l2 := if f.typ = 0x04 then { l1 with reported := l1.freed, freedAt := none } else l1
  if credited f.typ then
    let waits := l2.queue.any (fun g => decide (g.typ = 0x10))
    { l2 with sent := l2.sent + 1, spentAt := if l2.released + 8 ≤ l2.sent + 1 then some s.pace.now else none
              passed := if f.typ ≠ 0x10 ∧ waits then l2.passed + 1 else 0 }
  else l2

/-- The beat that stands on a port's wire while its REQ is up. -/
def presentBeat (l : Link) : Option RelayBeat :=
  match l.wire with
  | some w => if w.up then let bs := beatsOf w.frame; bs[bs.length - w.left]? else none
  | none => none

/-- REQ of the present beat rises once the relay's credit covers it; the beat is charged to its frame's lane (R119, R120, R124). -/
def raiseBeat (d : Dir) (s : State) : State :=
  let l := linkOf s d
  match l.wire with
  | none => s
  | some w =>
    if w.up ∨ !covers s crRelay (relayUnit s) 1 then s
    else
      let s1 := chargeEnergy (spendCredit s crRelay (relayUnit s)) w.out.lane (relayUnit s)
      setLink s1 d { l with wire := some { w with up := true, since := clock s1 } }

/-- A waiting frame goes on the wire; a frame that was forwarded leaves the receive buffer that it came from (R414). -/
def startFrame (s : State) (d : Dir) (i : Nat) (f : OutFrame) : State :=
  let l := linkOf s d
  let l1 := if f.typ = 0x03 ∧ !l.nextTx.isEmpty then switchTx l else l
  let l2 := { l1 with queue := l1.queue.eraseIdx i }
  let p := if f.typ = 0x04 then beOctets 4 l2.freed else f.payload
  let beats := frameBeats p.length
  let w : WireFrame := { frame := sealFrame l2 f p, out := { f with payload := p }, left := beats, up := false, since := clock s }
  let s1 := raiseBeat d (setLink s d { afterStart s l2 f with wire := some w })
  match f.hold with
  | some h => releaseFrame s1 h
  | none => s1

/-- A port whose wire is idle takes its next frame. -/
def pumpPort (d : Dir) (s : State) : State :=
  let l := linkOf s d
  if l.wire.isSome then s
  else match nextFrame l with
    | none => s
    | some i => match l.queue[i]? with
      | some f => startFrame s d i f
      | none => s

/-- Both ports moved on; a frame that starts on one may make a CREDIT frame due on the other. -/
def pump (s : State) : State := pumpPort .up (pumpPort .dn (pumpPort .up s))

/-! ### Bundles that the head device sends (R422) -/

/-- Frames of a bundle send that have not left: queued or on the wire. -/
def bundleQueued (s : State) (id : Nat) : Nat :=
  ((linkOf s .dn).queue.filter (fun f => decide (f.bundle = some id))).length + (match (linkOf s .dn).wire with
    | some w => if w.out.bundle = some id then 1 else 0
    | none => 0)

/-- A bundle send ended; its frames that are not sent are discarded. -/
def bundleEnd (s : State) (b : BundleJob) (st : BitVec 8) (ws : List W32) : State :=
  let l := linkOf s .dn
  let s1 := setLink s .dn { l with queue := l.queue.filter (fun f => decide (f.bundle ≠ some b.id)) }
  finish { s1 with relay := { s1.relay with bundles := s1.relay.bundles.filter (fun x => decide (x.id ≠ b.id)) } } b.caller st ws

/-- A context's epoch closes: bundle sends that read under it end (R136, R221). -/
def bundleEpoch (s : State) (c : Nat) : State :=
  (s.relay.bundles.filter (fun b => decide (b.ctx = c))).foldl (fun t b => bundleEnd t b stStaleEpoch []) s

/-! ### Routing (R402, R421) -/

/-- Segment of an INDEX. -/
def segmentOf (i : Nat) : Nat := i / 64
/-- Position of an INDEX. -/
def positionOf (i : Nat) : Nat := i % 64

/-- The port towards another device of the segment, where its link is UP. -/
def routeTo (s : State) (dst : Nat) : Option Dir :=
  if !s.relay.valid ∨ segmentOf dst ≠ segmentOf s.relay.index ∨ dst = s.relay.index then none
  else
    let d : Dir := if positionOf s.relay.index < positionOf dst then .dn else .up
    if linkStands (linkOf s d) then some d else none

/-- Frames sent to a device of the segment; without a way there they are not sent. -/
def sendTo (s : State) (dst : Nat) (fs : List OutFrame) : State :=
  match routeTo s dst with
  | some d => pump (fs.foldl (fun t f => enqueue t d f) s)
  | none => s

/-- A DEVICE frame from this device. -/
def deviceFrame (s : State) (typ dst lane : Nat) (payload : Octets) : OutFrame :=
  { typ := typ, mode := 1, last := true, src := s.relay.index, dst := dst, payload := payload, lane := lane }

/-- A number for an object or a serial that no earlier one had. -/
def nextObject (s : State) : Nat × State :=
  (s.relay.nextObject % 2 ^ 32, { s with relay := { s.relay with nextObject := s.relay.nextObject + 1 } })

/-! ### Peerings (R427, R429) -/

/-- The fields of PEER_OPEN as the end that holds a peering sends them. -/
def peerFields (p : Peering) : Octets :=
  BitVec.ofNat 8 p.lane :: beOctets 2 p.ctx ++ beOctets 1 p.keyGen.toNat ++ beOctets 3 p.epoch.toNat
    ++ BitVec.ofNat 8 p.peerLane :: beOctets 2 p.peerCtx ++ (cmac p.shared (ascii "STB7 KEY ID")).take 8

/-- PEER_OPEN's or PEER_CLOSE's payload: the fields and their CMAC. -/
def peerPayload (label : String) (src dst : Nat) (shared fields : Octets) : Octets :=
  fields ++ cmac shared (ascii label ++ beOctets 2 src ++ beOctets 2 dst ++ fields)

/-- PEER_SENDs of a peering end with a status. -/
def endPeerSends (s : State) (i : Nat) (st : BitVec 8) : State :=
  let mine (w : RemoteWait) : Option Caller := match w with
    | .peerSend p _ _ c => if p = i then some c else none
    | _ => none
  let gone := s.relay.waits.filterMap (fun x => mine x.2)
  gone.foldl (fun t c => finish t c st [])
    { s with relay := { s.relay with waits := s.relay.waits.filter (fun x => (mine x.2).isNone) } }

/-- Queued messages of a peering discarded; none of them has a credit yet. -/
def dropPeerFrames (l : Link) (i : Nat) : Link :=
  { l with queue := l.queue.filter (fun f => !(decide (f.typ = 0x41) && decide (f.peering = some i))) }

/-- A peering ended at this end: its key is dropped, its queued messages discarded, PEER_CLOSE sent, its entry freed. -/
def endPeering (s : State) (i : Nat) (st : BitVec 8) : State :=
  match tfind s.relay.peerings i with
  | none => s
  | some p =>
    let s1 := endPeerSends { s with relay := { s.relay with peerings := tdel s.relay.peerings i } } i st
    let s2 := setLink (setLink s1 .up (dropPeerFrames (linkOf s1 .up) i)) .dn (dropPeerFrames (linkOf s1 .dn) i)
    sendTo s2 p.peer [deviceFrame s2 0x43 p.peer p.lane
      (peerPayload "STB7 CLOSE" s2.relay.index p.peer p.shared (peerFields p))]

/-- A context's epoch closes: every peering of the context ends (R429). -/
def peerEpoch (s : State) (c : Nat) : State :=
  (tkeys s.relay.peerings (fun _ p => decide (p.ctx = c))).foldl (fun t i => endPeering t i stStaleEpoch) s

end Sys2Proof.Machine
end

