-- ==== Sys2Proof/Machine/Release.lean ====
section
/-!
DEFINITION. The close of an epoch over every unit (R136, R221, R252, R281, R347, R429), the commands that close one (R207, R208), and
what follows when a lane reaches CLOSED (R130).
-/

namespace Sys2Proof.Machine

open Sys2Proof

/-! ### Requests that name a context (R221) -/

/-- Whether a waiting request names a context. -/
def namesCtx (c : Nat) (r : Req) : Bool :=
  (ctxsNamed r).contains c

/-- Waiting requests that name a context will answer STALE_EPOCH. -/
def staleRequests (s : State) (c : Nat) : State :=
  { s with mbox := s.mbox.map (fun e =>
      (e.1, { e.2 with waiting := e.2.waiting.map (fun r => if namesCtx c r then { r with stale := true } else r) })) }

/-! ### Flash jobs under a context (R20, R136) -/

/-- Credits of relay frames that staging has held go back (R390). -/
def releaseHeld (s : State) (ds : List Dir) : State := ds.foldl releaseFrame s

/-- Staging ended before the last octet: STAGE returns to EMPTY. -/
def stageEnd (s : State) (st : BitVec 8) : State :=
  match s.boot.staging with
  | none => s
  | some g =>
    let s1 := changeDir { s with boot := { s.boot with staging := none } } .plain (fun d => { d with stage := 0 })
    let s2 := releaseHeld s1 g.held
    match g.source with
    | some x => finish s2 x.caller st []
    | none => s2

/-- Whether a flash operation is a window read into a context. -/
def windowUnder (c : Nat) : NvmOp → Bool
  | .window _ _ x _ _ _ => decide (x = c)
  | _ => false

/-- Window reads into a context whose epoch closes end STALE_EPOCH: those that wait leave the queue, and the one in progress writes
nothing. -/
def windowEpoch (s : State) (c : Nat) : State :=
  let hit := s.nvm.ops.filter (windowUnder c)
  let s1 := (hit.filterMap NvmOp.caller).foldl (fun t w => finish t w stStaleEpoch []) s
  let keep := (s1.nvm.ops.take 1).map (fun o => if windowUnder c o then o.mapCaller (fun _ => nobody) else o)
  { s1 with nvm := { s1.nvm with ops := keep ++ (s1.nvm.ops.drop 1).filter (fun o => !windowUnder c o) } }

/-- Staging that reads its bundle under a context whose epoch closes ends STALE_EPOCH. -/
def stageEpoch (s : State) (c : Nat) : State :=
  match s.boot.staging.bind Staging.source with
  | some x => if x.ctx = c then stageEnd s stStaleEpoch else s
  | none => s

/-! ### The close of an epoch -/

/-- A context's current epoch closes (R136): everything under it ends as R221 states. -/
def closeEpoch (s : State) (c : Nat) : State :=
  let s := endPages s stStaleEpoch (fun j => decide (j.call.ctx = c))
  let v := ctxAt s c
  let s1 := addPending (setCtx s c { v with state := .releasing, closedAt := some s.pace.now }) v.held.toNat
  let s2 := discardTiles (staleFences (staleTraffic (dropKey s1 c) c) c) c
  let s3 := { s2 with tree := { s2.tree with rekeys := s2.tree.rekeys.filter (fun r => decide (r.ctx ≠ c)) } }
  let s4 := stageEpoch (windowEpoch (bundleEpoch (peerEpoch (digestEpoch (rnsEpochClosed (voidReceipts s3 c) c) c) c) c) c) c
  let s5 := match s4.rcpt.load with
    | some l => if l.ctx = c ∨ l.pkgCtx = c then staleLoad s4 l else s4
    | none => s4
  settle (digestKeys (rnsKeys (staleRequests s5 c) stStaleEpoch))

/-- CTX_RELEASE's effect (R207). -/
def ctxRelease (k : Call) (s : State) : State :=
  let c := bits (k.word 0) 0 14
  let v := ctxAt s c
  if !fieldsOk k [0x3FFF] ∨ c = 0 then reply s k stBadField []
  else if v.state ≠ .active then reply s k stCtxState []
  else
    let s1 := closeEpoch s c
    let s2 := setCtx s1 c { ctxAt s1 c with releaseOn := some k.ch }
    if v.held = 0 then s2 else addCompletion s2 k.ch 0x102 (bits k.req.w0 12 8) (BitVec.ofNat 32 c)

/-- CTX_RELEASE (R136, R207): answered at EPOCH_ADVANCE, once its 64 paces are complete. -/
def execCtxRelease (bus : Bus) (s : State) : Host.Outcome State Fault Refusal := onBus s bus (fun s => service 0x102 s ctxRelease)

/-! ### Lanes -/

/-- Lane mileposts bound to a lane (R362). -/
def laneMileposts (s : State) (l : Nat) : List Nat :=
  ((List.range 8).filter (fun i => let w := fixedReg s (0x3E80 + 4 * i); bit w 6 && decide (bits w 0 6 = l))).map (24 + ·)

/-- What follows when a lane reaches CLOSED: its handles and slots are freed, its sheet closed, its stored keys destroyed, its mileposts
extended with the new generation (R269, R285, R295, R351, R360). -/
def laneClosed (s : State) (l : Nat) : State :=
  let s1 := releaseStoredKeys (closeFilling (digestLane (freeLaneHandles s l) l) l 3) l
  (laneMileposts s1 l).foldl (fun t j => requestExtend t j (beOctets 4 (laneAt t l).gen.toNat)) s1

/-- A change of state after which every lane that has reached CLOSED is followed up. -/
def withClosings (f : State → State) (s : State) : State :=
  let s1 := f s
  ((tkeys s.lanes (fun _ v => v.state == .releasing)).filter (fun l => (laneAt s1 l).state == .closed)).foldl laneClosed s1

/-- A lane's generation raised, on chip and, where the vault is read, in the vault (R281, R443). -/
def bumpLaneGen (s : State) (l : Nat) : State :=
  let g := (laneAt s l).gen + 1
  let s1 := setLane s l { laneAt s l with gen := g }
  let s2 := if s1.keys.vaultState = 2 then s1
    else { s1 with vault := { s1.vault with laneGens := tset 0 s1.vault.laneGens l g } }
  deriveLane s2 l

/-- The keys of a lane's last generation go (R281): cached context keys, and what runs under a stale handle. -/
def laneKeysGo (s : State) (l : Nat) : State :=
  digestKeys (rnsKeys ((contextsOf s l).foldl dropKey s) stStaleEpoch)

/-- A lane released (R130). -/
def releaseLane (l : Nat) (w : Caller) (s : State) : State :=
  let s1 := abortDrain s l
  let s2 := laneKeysGo (bumpLaneGen (setLane s1 l { laneAt s1 l with state := .releasing, job := some w }) l) l
  let s3 := ((contextsOf s2 l).filter (fun c => (ctxAt s2 c).state == .active)).foldl closeEpoch s2
  settleRelease s3 l

/-- Pages that a lane's contexts hold under their present epochs. -/
def laneHolds (s : State) (l : Nat) : Bool := (contextsOf s l).any (fun c => (ctxAt s c).state == .active && (ctxAt s c).held != 0)

/-- LANE_RELEASE's effect (R208, R228). -/
def laneRelease (k : Call) (s : State) : State :=
  let l := laneOf k
  let st := (laneAt s l).state
  if !laneFieldOk k then reply s k stBadField []
  else if st ≠ .opened ∧ st ≠ .draining ∧ st ≠ .drained then reply s k stLaneState []
  else ticketed s k (fun w t =>
    let t1 := if laneHolds t l then addCompletion t k.ch 0x113 (bits k.req.w0 12 8) (BitVec.ofNat 32 l) else t
    let t2 := releaseLane l w t1
    if (laneAt t2 l).state = .closed then laneClosed t2 l else t2)

/-- LANE_RELEASE (R208). -/
def execLaneRelease (bus : Bus) (s : State) : Host.Outcome State Fault Refusal := onBus s bus (fun s => service 0x113 s laneRelease)

/-! ### Events that may close a lane -/

/-- EPOCH_ADVANCE (R137). -/
def execEpochAdvance (bus : Bus) (s : State) : Host.Outcome State Fault Refusal := onBus s bus (withClosings epochAdvance)

/-- SWEEP_MAP_LINE (R222). -/
def execSweepMapLine (bus : Bus) (s : State) : Host.Outcome State Fault Refusal := onBus s bus (withClosings (background sweepMapLine))

/-- SWEEP_PAGE (R224). -/
def execSweepPage (bus : Bus) (s : State) : Host.Outcome State Fault Refusal := onBus s bus (withClosings (background sweepPage))

end Sys2Proof.Machine
end

