-- ==== Sys2Proof/Machine/LifeState.lean ====
section
/-!
DEFINITION. The life-cycle words of the OTP (R434, R435, R440, R441) and the state that a start decodes from them (R442).
-/

namespace Sys2Proof.Machine

open Sys2Proof

/-! ### States (R434) -/

/-- BLANK -/
def lcBlank : BitVec 8 := 0x00
/-- TEST_UNLOCKED -/
def lcTestUnlocked : BitVec 8 := 0x11
/-- TEST_LOCKED -/
def lcTestLocked : BitVec 8 := 0x12
/-- PRODUCTION -/
def lcProduction : BitVec 8 := 0x20
/-- RETURN -/
def lcReturn : BitVec 8 := 0x30
/-- END -/
def lcEnd : BitVec 8 := 0x40
/-- UNDECODED -/
def lcUndecoded : BitVec 8 := 0xFF

/-- Whether R434 lists a code. -/
def lcListed (c : BitVec 8) : Bool := [lcBlank, lcTestUnlocked, lcTestLocked, lcProduction, lcReturn, lcEnd, lcUndecoded].contains c

/-- Whether a state is one of those in which the vault reads BLANK (R443). -/
def lcNoVault (c : BitVec 8) : Bool := c == lcTestUnlocked || c == lcTestLocked || c == lcReturn

/-- Whether firmware runs in a state (R443). -/
def lcStarts (c : BitVec 8) : Bool := lcNoVault c || c == lcProduction

/-! ### Slot words (R440, R441) -/

/-- First word of state slot k; of intent slot k. -/
def stateSlot (k : Nat) : Nat := 3 * k
/-- Intent slot. -/
def intentSlot (k : Nat) : Nat := 0x048 + 3 * k

/-- Words that hold the compact groups, TEST first. -/
def compactWord (g : Nat) : Nat := 0x090 + g
/-- First copy of the token used word. -/
def usedWord : Nat := 0x093

/-- A state slot's word. -/
def stateWord (k : Nat) (c : BitVec 8) : W32 :=
  field 32 0 8 c.toNat ||| field 32 8 8 (~~~c).toNat ||| field 32 16 8 k ||| field 32 24 8 0xA5

/-- An intent slot's word. -/
def intentWord (target : BitVec 8) (token : Nat) : W32 :=
  field 32 0 8 target.toNat ||| field 32 8 8 (~~~target).toNat ||| field 32 16 4 token ||| field 32 20 4 (15 - token) ||| field 32 24 8 0x5A

/-- The code that a state slot's word gives, where its fields are consistent. -/
def stateCodeOf (k : Nat) (w : W32) : Option (BitVec 8) :=
  let c := BitVec.ofNat 8 (bits w 0 8)
  if w = stateWord k c then some c else none

/-- The target and token that an intent slot's word gives. -/
def intentOf (w : W32) : Option (BitVec 8 × Nat) :=
  let c := BitVec.ofNat 8 (bits w 0 8)
  if w = intentWord c (bits w 16 4) then some (c, bits w 16 4) else none

/-- The copies of a word that answered their READ. -/
def readCopies (s : State) (silent : List Nat) (base : Nat) : List W32 :=
  (([0, 1, 2].map (fun i => base + i)).filter (fun a => !silent.contains a)).map (otpWord s)

/-- The vote over the copies: a bitwise majority of three, or two that agree. -/
def votedCopies : List W32 → Option W32
  | [a, b, c] => some ((a &&& b) ||| (a &&& c) ||| (b &&& c))
  | [a, b] => if a = b then some a else none
  | _ => none

/-- What state slot k decodes to. -/
def stateSlotOf (s : State) (silent : List Nat) (k : Nat) : Option (BitVec 8) :=
  (votedCopies (readCopies s silent (stateSlot k))).bind (stateCodeOf k)

/-- What intent slot k decodes to. -/
def intentSlotOf (s : State) (silent : List Nat) (k : Nat) : Option (BitVec 8 × Nat) :=
  (votedCopies (readCopies s silent (intentSlot k))).bind intentOf

/-- Whether a state slot has any bit set. -/
def stateSlotUsed (s : State) (silent : List Nat) (k : Nat) : Bool := (readCopies s silent (stateSlot k)).any (fun w => decide (w ≠ 0))

/-- Whether a slot is free: all six of its words are zero. -/
def slotFree (s : State) (k : Nat) : Bool :=
  ([0, 1, 2].map (fun i => stateSlot k + i) ++ [0, 1, 2].map (fun i => intentSlot k + i)).all (fun a => decide (otpWord s a = 0))

/-- Free slots in rising order. -/
def freeSlots (s : State) : List Nat := (List.range 24).filter (slotFree s)

/-- The token used word, voted. -/
def usedTokens (s : State) : W32 := (votedCopies (readCopies s [] usedWord)).getD 0xFFFFFFFF

/-- Unused UNLOCK tokens. -/
def unlocksLeft (s : State) : Nat := ((List.range 7).filter (fun i => !bit (usedTokens s) i)).length

/-- The lowest unused UNLOCK token. -/
def nextUnlock (s : State) : Option Nat := firstBelow 7 (fun i => !bit (usedTokens s) i)

/-- How many bits of a word are set. -/
def onesOf (w : W32) : Nat := ((List.range 32).filter (fun i => bit w i)).length

/-- The compact group of a state: TEST, PRODUCTION or END. -/
def groupOfState (c : BitVec 8) : Option Nat :=
  if c = lcTestUnlocked ∨ c = lcTestLocked then some 0
  else if c = lcProduction ∨ c = lcReturn then some 1
  else if c = lcEnd then some 2
  else none

/-- Whether a group word reads set; nothing where it reads neither set nor clear. -/
def groupReads (s : State) (silent : List Nat) (g : Nat) : Option Bool :=
  let n := onesOf (otpWord s (compactWord g))
  if silent.contains (compactWord g) then none else if 24 ≤ n then some true else if n ≤ 8 then some false else none

/-- The state that the compact copy gives (R442, items 4 and 5). -/
def compactState (s : State) (silent : List Nat) : BitVec 8 :=
  match groupReads s silent 0, groupReads s silent 1, groupReads s silent 2 with
  | some false, some false, some false => lcBlank
  | some true, some false, some false => lcTestLocked
  | some true, some true, some false => lcProduction
  | some true, some true, some true => lcEnd
  | _, _, _ => lcUndecoded

/-! ### Start-time decoding (R442) -/

/-- The highest number below n that passes a test. -/
def lastBelow (n : Nat) (p : Nat → Bool) : Option Nat := (List.range n).reverse.find? p

/-- The highest state slot that decodes. -/
def topState (s : State) (silent : List Nat) : Option Nat := lastBelow 24 (fun k => (stateSlotOf s silent k).isSome)

/-- The intent slot above it whose transition is to be completed (item 3). -/
def openIntent (s : State) (silent : List Nat) : Option Nat :=
  lastBelow 24 (fun k => (intentSlotOf s silent k).isSome && (stateSlotOf s silent k).isNone
    && (match topState s silent with
      | some t => decide (t < k)
      | none => true))

/-- Whether the full reading has failed (item 4). -/
def fullFails (s : State) (silent : List Nat) : Bool :=
  (List.range 24).any (fun k =>
    (stateSlotUsed s silent k && (intentSlotOf s silent k).isNone)
      || (match stateSlotOf s silent k with
        | some c => !lcListed c
        | none => false)
      || (match intentSlotOf s silent k with
        | some (c, _) => !lcListed c
        | none => false))

/-- Bits programmed at three copies. -/
def otpSet3 (s : State) (base : Nat) (b : W32) : State := otpSet (otpSet (otpSet s base b) (base + 1) b) (base + 2) b

/-- Bits of a compact group programmed where it does not read set. -/
def setGroup (s : State) (g : Nat) : State :=
  if groupReads s [] g = some true then s else otpSet s (compactWord g) 0xFFFFFFFF

/-- Whether BEDROCK_CHECK matches the recombined bedrock (R299). -/
def checkMatches (s : State) : Bool :=
  decide (s.vault.check = blockOfOctets ((hmacSha384 (keyOctets (bedrock s)) (ascii "STB7 CHECK")).take 16))

/-- The input of personalisation as the vault holds it. -/
def keptInput (s : State) : Octets :=
  beOctets 48 s.vault.authority.toNat ++ octetsOfWords [s.vault.realmId, s.vault.realmEpoch]

/-- The scramble seed written to OTP, unless a seed stands there. -/
def seedWords (s : State) : List (Nat × W32) × State :=
  if otpWord s otpSeed ≠ 0 ∨ otpWord s (otpSeed + 1) ≠ 0 then ([], s)
  else
    let (v, s1) := drawRandom s
    ([(otpSeed, BitVec.ofNat 32 v.toNat), (otpSeed + 1, BitVec.ofNat 32 (v.toNat / 2 ^ 32))], s1)

/-- The shares, the check and PROVISIONED cleared (R296). -/
def nativeZero (v : Vault) : Vault := { v with bedrockMasked := 0, mask := 0, check := 0 }.setControl 0 false

/-- The keys that a tamper response zeroes on chip (R296). -/
def zeroKeys (s : State) : State :=
  { s with keys := { s.keys with cache := [], inFlight := [], wkr := none, laneKeys := [], custodyRoot := 0, relayRoot := 0
                                 sealingRoot := 0, identitySeed := 0 } }

/-- The effect of a transition before the new state is written, but for the scramble seed (R435, R438). -/
def transitionEffect (s : State) (target : BitVec 8) (input : Octets) : State :=
  if target = lcProduction then provision s input 0
  else if target = lcReturn then zeroKeys { s with vault := nativeZero s.vault }
  else s

/-- A transition completed at start: steps 2 to 5 of R438. -/
def completeTransition (s : State) (k : Nat) (target : BitVec 8) (token : Nat) : State :=
  let s1 := if token < 15 then otpSet3 s usedWord (BitVec.ofNat 32 (2 ^ token)) else s
  let s2 := if target = lcProduction then
      let x := seedWords s1
      let t := x.1.foldl (fun t w => otpSet t w.1 w.2) x.2
      if t.vault.provisioned && checkMatches t then t else provision t (keptInput t) 0
    else transitionEffect s1 target []
  let s3 := otpSet3 s2 (stateSlot k) (stateWord k target)
  match groupOfState target with
  | some g => setGroup s3 g
  | none => s3

/-- Disagreeing copies of decoded slots reprogrammed, and the state's compact group set (item 6). -/
def repairSlots (s : State) (silent : List Nat) (state : BitVec 8) : State :=
  let s1 := (List.range 24).foldl (fun t k =>
    let t1 := match stateSlotOf s silent k with
      | some c => otpSet3 t (stateSlot k) (stateWord k c)
      | none => t
    match intentSlotOf s silent k with
    | some (c, n) => otpSet3 t1 (intentSlot k) (intentWord c n)
    | none => t1) s
  match groupOfState state with
  | some g => setGroup s1 g
  | none => s1

/-- Step 1 of cold start: the life-cycle state, with `FROM_COMPACT` and `COMPLETED` (R442). -/
def decodeLife (s : State) (silent : List Nat) : State :=
  let (done, s1) : Option (BitVec 8) × State := match openIntent s silent with
    | some k => match intentSlotOf s silent k with
      | some (t, n) => (some t, completeTransition s k t n)
      | none => (none, s)
    | none => (none, s)
  if fullFails s1 silent then
    { s1 with lc := { s1.lc with state := compactState s1 silent, fromCompact := true, completed := done.isSome } }
  else
    let st : BitVec 8 := match done, topState s1 silent with
      | some t, _ => t
      | none, some k => (stateSlotOf s1 silent k).getD lcBlank
      | none, none => lcBlank
    let s2 := repairSlots s1 silent st
    { s2 with lc := { s2.lc with state := st, fromCompact := false, completed := done.isSome } }

/-- The life-cycle state as the OTP holds it now. -/
def lifeInOtp (s : State) : BitVec 8 := (decodeLife s []).lc.state

end Sys2Proof.Machine
end

