-- ==== Sys2Proof/Machine/Tamper.lean ====
section
/-!
DEFINITION. Tamper sources and the response to them (R47, R48, R296, R449 to R453, R456), and the beginning of a new tree (R189).
-/

namespace Sys2Proof.Machine

open Sys2Proof

/-! ### A new tree (R189, R190) -/

/-- A lane's generation in a new tree: one more than the last, in the vault where it is read, else on chip (R443). -/
def laneInNewTree (s : State) (l : Nat) : State :=
  let old := if s.keys.vaultState = 2 then (laneAt s l).gen else tget 0 s.vault.laneGens l
  let s1 := setLane s l { laneAt s l with gen := old + 1, held := 0 }
  if s1.keys.vaultState = 2 then s1 else { s1 with vault := { s1.vault with laneGens := tset 0 s1.vault.laneGens l (old + 1) } }

/-- A context in a new tree: no page is held, and none waits for the sweep. -/
def ctxInNewTree (v : Ctx) : Ctx := { v with held := 0, depth := 0, stuckPasses := 0, ledgerHold := none }

/-- A new tree begun: a zero root, nothing cached, every page FREE, every lane generation raised; under the tier-0 key in force every key
of tiers 2 to 4 is derived again. -/
def newTree (s : State) : State :=
  let s1 := (List.range 64).foldl laneInNewTree s
  let m : Meta := { s1.tree with lines := [], root := 0, rekeys := [], failing := [], lost := [], broken := [], dead := [] }
  let b : Bg := { s1.bg with sweepActive := false, begun := s1.bg.passes, cursor := 0, pendingPages := 0, marked := [], lineFaults := [], lastFaults := []
                             reportedFaults := [], completions := [] }
  let s2 := { s1 with tree := m, bg := b, mapc := { s1.mapc with lines := [] }, tiles := { s1.tiles with writes := [] }
                      ctxs := s1.ctxs.map (fun e => (e.1, ctxInNewTree e.2))
                      keys := { s1.keys with cache := [], inFlight := [] } }
  deriveLanes (deriveRealm s2)

/-! ### The response (R296, R450, R452, R456) -/

/-- The 16 octets of a log entry. -/
def tamperEntry (pace : Nat) (start : W32) (src flags : Nat) (life : BitVec 8) (n : W32) : Octets :=
  leOctets 8 pace ++ octetsOfWord start ++ [BitVec.ofNat 8 src, BitVec.ofNat 8 flags, life, BitVec.ofNat 8 n.toNat]

/-- A log entry written at LOG_HEAD, and TAMPER_COUNT raised. -/
def writeTamperLog (s : State) (start : W32) (src : Nat) (absent during : Bool) : Octets × State :=
  let n := s.vault.tamperCount + 1
  let flags := (if absent then 1 else 0) + (if during then 2 else 0) + (if s.tamper.gateHold then 4 else 0)
  let life := if absent then lifeInOtp s else s.lc.state
  let o := tamperEntry (if absent then 0 else s.pace.now) start src flags life n
  let v := { s.vault with tamperCount := n, logHead := s.vault.logHead + 1
                          tlog := tset 0 s.vault.tlog s.vault.logHead.toNat (blockOfOctets o)
                          tlogBroken := s.vault.tlogBroken.filter (fun i => decide (i ≠ s.vault.logHead.toNat)) }
  (o, { s with vault := v })

/-- What the vault loses: all of it to ZEROIZE_ALL, the shares, the check and PROVISIONED to any other source (R296). -/
def tamperVault (src : Nat) (v : Vault) : Vault := if src = 8 then {} else nativeZero v

/-- Steps 1 to 3 of R450: the vault domain, and with VDD_CORE the keys and engines. -/
def tamperZero (s : State) (src : Nat) (absent during : Bool) : Octets × State :=
  let start := s.vault.startCount
  let s1 := { s with pins := { s.pins with tamperOut := true }, vault := tamperVault src s.vault }
  writeTamperLog (if powered s1 then digestTamper (rnsTamper (zeroKeys s1)) else s1) start src absent during

/-- The cause of tampered mode that a source gives; once ZEROIZE it stays so. -/
def tamperCause (s : State) (src : Nat) : BitVec 2 := if src = 8 ∨ s.tamper.cause = 2 then 2 else 1

/-- Steps 4 and 5 of R450: custody is cut, gates fall, the entry is extended and every active channel is told. Outside PRODUCTION step 4 is
not taken, and the gates keep their levels; custody is cut all the same (R452). -/
def tamperTell (s : State) (o : Octets) : State :=
  let s1 := cutCustody s
  let s2 := if s1.tamper.gateHold ∨ s1.lc.state ≠ lcProduction then s1 else { s1 with pins := { s1.pins with gates := 0 } }
  let s3 := requestExtend { s2 with tamper := { s2.tamper with event := true, seq := s2.tamper.seq + 1 } } 5 o
  raiseBells s3 (channelsWhere s3 (isActive s3)) bellTamper

/-- A source recognised while the block runs: in PRODUCTION a tampered restart follows, and OTP programs beyond the one in progress
stop; in every other state nothing is served until PORST_N (R451, R452). -/
def tamperRunning (s : State) (src : Nat) : State :=
  let (o, s1) := tamperZero s src false false
  let s2 := tamperTell s1 o
  if s2.lc.state = lcProduction then
    { s2 with tamper := { s2.tamper with restartDue := true, cause := tamperCause s2 src }
              lc := { s2.lc with job := none }, keys := { s2.keys with enrolling := none }
              otp := { s2.otp with queue := s2.otp.queue.take 1 } }
  else restartJobs { s2 with lc := { s2.lc with stopped := true } } (fun _ => false)

/-- A recognised source (R450 to R452); in sleep, and while the core is off or in reset, the vault domain acts alone (log 161). -/
def tamperSource (s : State) (src : Nat) : State :=
  if powered s && !s.keys.asleep then tamperRunning s src else (tamperZero s src true false).2

/-! ### Sources (R449) -/

/-- An event of the VDD_VAULT domain, which acts in every power state in which that supply is present (R47). -/
def vaultDomain (s : State) (f : State → State) : Host.Outcome State Fault Refusal :=
  .next (if s.pins.vddVault then ended s (f s) else s)

/-- TAMPER_IN (R449, R450): the level is recorded, and an armed input acts once an episode. -/
def tamperInput (n : Nat) (s : State) : State :=
  if bit s.tamper.inputs n then s
  else
    let s1 := { s with tamper := { s.tamper with inputs := s.tamper.inputs ||| BitVec.ofNat 8 (2 ^ n) } }
    if bit s1.tamper.arm n then tamperSource s1 n else s1

/-- TAMPER_IN (R450). -/
def execTamperIn (n : Fin 8) (s : State) : Host.Outcome State Fault Refusal := vaultDomain s (tamperInput n.val)

/-- An input that returns low: its episode ends (R47, R449). Input 8 is ZEROIZE_ALL. -/
def tamperInputFalls (n : Nat) (s : State) : State :=
  if n = 8 then { s with tamper := { s.tamper with zeroize := false } }
  else { s with tamper := { s.tamper with inputs := s.tamper.inputs &&& ~~~(BitVec.ofNat 8 (2 ^ n)) } }

/-- TAMPER_IN_FALL (R449). -/
def execTamperInFall (n : Fin 9) (s : State) : Host.Outcome State Fault Refusal := vaultDomain s (tamperInputFalls n.val)

/-- ZEROIZE_ALL (R47, R48, R296, R449): its level is recorded, and it acts once an episode. -/
def zeroizeInput (s : State) : State :=
  if s.tamper.zeroize then s else tamperSource { s with tamper := { s.tamper with zeroize := true } } 8

/-- ZEROIZE_ALL (R48, R296). -/
def execZeroizeAll (s : State) : Host.Outcome State Fault Refusal := vaultDomain s zeroizeInput

/-- SUPPLY_GLITCH (R449): the monitor needs VDD_CORE, and acts while armed. -/
def execSupplyGlitch (s : State) : Host.Outcome State Fault Refusal :=
  live s (fun s =>
    let s1 := { s with tamper := { s.tamper with glitch := true } }
    if s1.tamper.sensors then tamperSource s1 9 else s1)

/-- VDD_VAULT below its limit: it acts while armed (R449). -/
def vaultSupplyLow (s : State) : State :=
  let s1 := { s with tamper := { s.tamper with vaultUv := true } }
  if s1.tamper.sensors then tamperSource s1 10 else s1

/-- VAULT_UNDERVOLTAGE (R449). -/
def execVaultUndervoltage (s : State) : Host.Outcome State Fault Refusal := vaultDomain s vaultSupplyLow

/-- VDD_VAULT_RISE (R449): the vault holds nothing, and the copies of ARM and GATE_HOLD read 0xFF and 0 until they are loaded. -/
def execVddVaultRise (s : State) : Host.Outcome State Fault Refusal :=
  .next { s with pins := { s.pins with vddVault := true, tamperOut := false }, vault := {}
                 tamper := { s.tamper with arm := 0xFF, gateHold := false } }

end Sys2Proof.Machine
end

