-- ==== Sys2Proof/Machine/Lifecycle.lean ====
section
/-!
DEFINITION. Life-cycle transitions (R435 to R439), the test access port (R57, R58, R443 to R446), debug certificates (R447, R448) and
the commands of family 0x8__ (R457, R458).
-/

namespace Sys2Proof.Machine

open Sys2Proof

/-! ### Status codes (R458) -/

/-- LC_DENIED -/
def stLcDenied : BitVec 8 := 0x60
/-- LC_TOKEN -/
def stLcToken : BitVec 8 := 0x61
/-- LC_PREREQUISITE -/
def stLcPrerequisite : BitVec 8 := 0x62
/-- LC_DECODE -/
def stLcDecode : BitVec 8 := 0x63
/-- LC_OTP -/
def stLcOtp : BitVec 8 := 0x64
/-- DEBUG_CERT -/
def stDebugCert : BitVec 8 := 0x65
/-- TAMPER_LOG -/
def stTamperLog : BitVec 8 := 0x66

/-! ### Transitions (R435 to R439) -/

/-- The state that a transition leaves: the one last written, which is the running one unless a transition is pending. -/
def lcFrom (s : State) : BitVec 8 := if s.lc.pending then s.lc.target else s.lc.state

/-- The token that a pair of states takes: 0 to 6 UNLOCK, 7 PRODUCTION, 8 RETURN, 14 RAW, 15 none; 9 where every UNLOCK token is used.
Nothing where R435 has no such pair. -/
def tokenOf (s : State) (src dst : BitVec 8) : Option Nat :=
  if dst = lcEnd then (if src = lcEnd then none else some 15)
  else if src = lcBlank ∧ dst = lcTestUnlocked then some 14
  else if src = lcTestUnlocked ∧ dst = lcTestLocked then some 15
  else if src = lcTestLocked ∧ dst = lcTestUnlocked then some ((nextUnlock s).getD 9)
  else if src = lcTestLocked ∧ dst = lcProduction then some 7
  else if src = lcProduction ∧ dst = lcReturn then some 8
  else none

/-- The digest of token i that the OTP or the boot ROM holds. -/
def tokenDigest (s : State) (i : Nat) : Octets :=
  if i = 14 then beOctets 16 Config.rawDigest.toNat else if i < 9 then otpField s (0x098 + 4 * i) 4 else []

/-- Whether a token opens index i: unused, with a digest, and matching (R436). -/
def tokenOpens (s : State) (i : Nat) (token : Octets) : Bool :=
  let label := if i = 14 then ascii "STB7 RAW" ++ token else ascii "STB7 TOKEN" ++ token ++ deviceSerial s
  decide (i ≤ 8 ∨ i = 14) && !bit (usedTokens s) i && (tokenDigest s i).any (fun b => decide (b ≠ 0))
    && decide (tokenDigest s i = (sha384 label).take 16)

/-- Whether a field of the OTP has any bit set. -/
def otpFilled (s : State) (a n : Nat) : Bool := (otpField s a n).any (fun b => decide (b ≠ 0))

/-- The fields that PRODUCTION needs (R437, check 5). -/
def productionFields (s : State) : Bool :=
  otpFilled s otpSerial 4 && otpFilled s otpCardAuth 12 && otpFilled s otpDebugAuth 12 && otpFilled s otpEnrollKey 12
    && otpFilled s (0x098 + 28) 4 && otpFilled s (0x098 + 32) 4

/-- Checks 1 to 6 of R437: the status of the first that fails, or the token index. -/
def transitionRefusal (s : State) (target : BitVec 8) (token : Octets) : Except (BitVec 8) Nat :=
  if s.lc.job.isSome then .error stBusy
  else match tokenOf s (lcFrom s) target with
    | none => .error stLcDenied
    | some i =>
      if (s.lc.fromCompact || s.lc.state == lcUndecoded) && target != lcEnd then .error stLcDecode
      else if (freeSlots s).length < (if target = lcEnd then 1 else 2) then .error stLcPrerequisite
      else if target = lcProduction ∧ !productionFields s then .error stLcPrerequisite
      else if i ≠ 15 ∧ !tokenOpens s i token then .error stLcToken
      else .ok i

/-- The same word programmed in its three copies. -/
def tripleOps (base : Nat) (w : W32) : List (Nat × W32) := [(base, w), (base + 1, w), (base + 2, w)]

/-- The OTP programs of a step of R438. -/
def stepPrograms (s : State) (t : Transition) (step : Nat) : List (Nat × W32) × State :=
  if step = 1 then (tripleOps (intentSlot t.slot) (intentWord t.target t.token), s)
  else if step = 2 then (if t.token < 15 then tripleOps usedWord (BitVec.ofNat 32 (2 ^ t.token)) else [], s)
  else if step = 3 then (if t.target = lcProduction then seedWords s else ([], s))
  else if step = 4 then (tripleOps (stateSlot t.slot) (stateWord t.slot t.target), s)
  else match groupOfState t.target with
    | some g => (if groupReads s [] g = some true then [] else [(compactWord g, 0xFFFFFFFF)], s)
    | none => ([], s)

/-- Custody answers as R27 and mailboxes answer RESTARTING until PORST_N. -/
def stopServices (s : State) : State := cutCustody { s with lc := { s.lc with stopped := true } }

/-- Step 6 of R438, and the stop of R439. -/
def endTransition (s : State) (t : Transition) : State :=
  let s1 := requestExtend s 0 [lcFrom s, t.target]
  let s2 := { s1 with lc := { s1.lc with job := none, pending := true, target := t.target } }
  let s3 := match t.caller with
    | some w => finish s2 w stDone [field 32 0 8 t.target.toNat, field 32 0 5 t.slot]
    | none => s2
  if t.target = lcReturn ∨ t.target = lcEnd then stopServices s3 else s3

/-- The next step of R438 that programs anything; fuel bounds the steps. -/
def enterStep : Nat → State → Transition → Nat → State
  | 0, s, t, _ => endTransition s t
  | f + 1, s, t, n =>
    if 6 ≤ n then endTransition s t
    else
      let (ws, s1) := stepPrograms s t n
      let t1 := { t with step := n }
      if ws.isEmpty then
        let s2 := if n = 3 then transitionEffect s1 t.target t.input else s1
        enterStep f s2 t1 (n + 1)
      else otpEnqueue { s1 with lc := { s1.lc with job := some t1 } }
        (ws.map (fun w => { user := .transition, word := w.1, bits := w.2 }))

/-- A transition begun with the lowest free slot. -/
def startTransition (s : State) (target : BitVec 8) (token : Nat) (input : Octets) (w : Option Caller) : State :=
  enterStep 6 s { target := target, token := token, slot := (freeSlots s).headD 0, step := 1, input := input, caller := w } 1

/-- A program of the running transition has ended; the last one of its step moves it on, a failed one ends it (R438). -/
def transitionProgram (s : State) (ok : Bool) : State :=
  match s.lc.job with
  | none => s
  | some t =>
    if !ok then
      let s1 := otpDrop { s with lc := { s.lc with job := none } } .transition
      match t.caller with
      | some w => finish s1 w stLcOtp []
      | none => s1
    else if otpWaits s .transition then s
    else enterStep 6 (if t.step = 3 then transitionEffect s t.target t.input else s) t (t.step + 1)

/-- The token of LC_TRANSITION: octet 0 in bits [31:24] of word 3. -/
def callToken (k : Call) : Octets := (List.range 4).flatMap (fun i => beOctets 4 (k.word (1 + i)).toNat)

/-- LC_TRANSITION's job: the input is read before anything is programmed. -/
def runTransition (k : Call) (target : BitVec 8) (token : Nat) (w : Caller) (s : State) : State :=
  if target = lcProduction then
    match dmaRead s (descAt k 5) with
    | (.error (st, _), s1) => finish s1 w st []
    | (.ok o, s1) => startTransition s1 target token o (some w)
  else startTransition s target token [] (some w)

/-- LC_TRANSITION's effect (R437, R457). -/
def lcTransition (k : Call) (s : State) : State :=
  let target := BitVec.ofNat 8 (bits (k.word 0) 0 8)
  let masks := [0xFF, 0xFFFFFFFF, 0xFFFFFFFF, 0xFFFFFFFF, 0xFFFFFFFF] ++ (if k.len = 9 then descMasks else [])
  if k.len ≠ (if target = lcProduction then 9 else 5) then reply s k stBadLength []
  else if !fieldsOk k masks then reply s k stBadField []
  else
    let d : Option (BitVec 8) × State := if target = lcProduction then descRefusal s k (descAt k 5) false else (none, s)
    match d with
    | (some st, s1) => reply s1 k st []
    | (none, s1) =>
      if target = lcProduction ∧ (descAt k 5).len ≠ 56 then reply s1 k stBadLength []
      else match transitionRefusal s1 target (callToken k) with
        | .error st => reply s1 k st []
        | .ok i =>
          if i = 15 ∧ (callToken k).any (fun b => decide (b ≠ 0)) then reply s1 k stBadField []
          else ticketed s1 k (runTransition k target i)

/-- LC_TRANSITION (R438). -/
def execLcTransition (bus : Bus) (s : State) : Host.Outcome State Fault Refusal := onBus s bus (fun s => service 0x801 s lcTransition)

/-! ### The test access port (R57, R58, R443 to R446) -/

/-- `LC_STATUS` (R459); what comes from the OTP is loaded in step 1 of cold start (R487). -/
def lcStatus (s : State) : W32 :=
  let target : BitVec 8 := match s.lc.job with
    | some j => j.target
    | none => if s.lc.pending then s.lc.target else 0
  field 32 0 8 s.lc.state.toNat ||| flag 32 8 s.lc.pending ||| flag 32 9 s.lc.fromCompact ||| flag 32 10 s.lc.completed
    ||| flag 32 11 s.lc.job.isSome ||| field 32 12 3 ((s.lc.job.map Transition.step).getD 0) 
    ||| (if s.pins.porstN then field 32 16 3 (unlocksLeft s) ||| field 32 19 5 (freeSlots s).length else 0) ||| field 32 24 8 target.toNat

/-- IDCODE: version 0x1, part 0x0071, the integrator's manufacturer identity (R57). -/
def idcode : W32 := field 32 28 4 1 ||| field 32 12 16 0x0071 ||| field 32 1 11 Config.manufacturer.toNat ||| 1

/-- What the data register of a TAP instruction captures: IDCODE, LC_STATUS; BYPASS captures 0 (R57, R444). -/
def tapCapture (s : State) (ir : BitVec 8) : W32 := if ir = 0x01 then idcode else if ir = 0x10 then lcStatus s else 0

/-- Whether a right of the certificate in force is held: 0 CORE, 1 SCAN, 2 MEM_TEST, 3 OTP_READ. -/
def debugRight (s : State) (r : Nat) : Bool := s.lc.inForce && bit s.lc.rights r

/-- Whether the state opens every debug facility: TEST_UNLOCKED or RETURN. -/
def lcOpenTest (c : BitVec 8) : Bool := c == lcTestUnlocked || c == lcReturn

/-- Whether a TAP instruction is permitted (R443, R444). -/
def tapPermitted (s : State) (ir : BitVec 8) : Bool :=
  let st := s.lc.state
  if ir = 0x01 ∨ ir = 0xFF ∨ ir = 0x10 then true
  else if ir = 0x11 then st != lcEnd
  else if ir = 0x20 then st == lcBlank || lcOpenTest st || debugRight s 3
  else if ir = 0x30 then lcOpenTest st || debugRight s 0
  else if ir = 0x31 then lcOpenTest st || debugRight s 1
  else if ir = 0x40 then st == lcBlank || lcOpenTest st || debugRight s 2
  else false

/-- The controller and the custody path stop until PORST_N; what waits in the mailboxes answers RESTARTING (R444, R445). -/
def haltServices (s : State) : State := restartJobs (stopServices s) (fun _ => false)

/-- A context record as an SRAM leaves it whose contents are lost: its words are free values. -/
def lostCtx (a b : W64) : Ctx :=
  { lane := BitVec.ofNat 6 (bits a 0 6), epoch := BitVec.ofNat 24 (bits a 6 24)
    state := (if bits a 30 2 = 0 then .free else if bits a 30 2 = 1 then .active else if bits a 30 2 = 2 then .releasing else .retired)
    taint := bit a 32, permits := BitVec.ofNat 4 (bits a 33 4), quota := BitVec.ofNat 24 (bits a 37 24)
    held := BitVec.ofNat 24 (bits b 0 24), sealGroup := BitVec.ofNat 6 (bits b 24 6), sealFull := bit b 30
    model := BitVec.ofNat 12 (bits b 31 12), depth := BitVec.ofNat 4 (bits b 43 4), keyGen := BitVec.ofNat 8 (bits b 47 8) }

/-- One context record lost. -/
def loseCtx (s : State) (c : Nat) : State :=
  let (a, s1) := drawFree s
  let (b, s2) := drawFree s1
  setCtx s2 c (lostCtx a b)

/-- What the march test destroys: the contents of every SRAM (R445). -/
def loseSrams (s : State) : State :=
  let s1 := (List.range 16384).foldl loseCtx s
  { s1 with tree := { s1.tree with lines := [] }, mapc := { s1.mapc with lines := [] }, keys := { s1.keys with cache := [] }
            rns := { s1.rns with jobs := [] }, dig := { s1.dig with slots := [] } }

/-- A TAP instruction loaded: one that is not permitted is replaced by BYPASS (R58, R444). -/
def tapLoad (s : State) (ir : BitVec 8) : State :=
  if !tapPermitted s ir then violate { s with lc := { s.lc with ir := 0xFF, tapData := 0 } } pTap kAccessDenied none
  else
    let s1 := { s with lc := { s.lc with ir := ir, tapData := tapCapture s ir } }
    if ir = 0x31 then haltServices s1
    else if ir = 0x40 then
      let s2 := loseSrams (haltServices s1)
      { s2 with lc := { s2.lc with memTesting := true, memTest := 0 } }
    else s1

/-- TAP_INSTRUCTION (R58). -/
def execTapInstruction (ir : BitVec 8) (s : State) : Host.Outcome State Fault Refusal := live s (fun s => tapLoad s ir)

/-- SCAN (R444). -/
def execScan (s : State) : Host.Outcome State Fault Refusal := live s (fun s => tapLoad s 0x31)

/-- MEM_TEST (R445). -/
def execMemTest (s : State) : Host.Outcome State Fault Refusal := live s (fun s => tapLoad s 0x40)

/-- MEM_TEST_COMPLETE (R445): the PASS bits and counts are the SRAMs' own, so the result is a free value. -/
def execMemTestComplete (s : State) : Host.Outcome State Fault Refusal :=
  live s (fun s =>
    if s.lc.memTesting then
      let (v, s1) := drawFree s
      { s1 with lc := { s1.lc with memTesting := false, memTest := v } }
    else s)

/-- An access to the TAP refused (R58, R443, R446). -/
def tapRefused (s : State) : State := violate s pTap kAccessDenied none

/-- LC_ACCESS's effect (R437, R443, R444); a request refused under R437 programs nothing. -/
def lcAccess (dr : BitVec 144) (s : State) : State :=
  let target := BitVec.ofNat 8 (bits dr 0 8)
  if s.lc.ir ≠ 0x11 ∨ !bit dr 136 ∨ bits dr 137 7 ≠ 0 then s
  else if s.lc.state = lcUndecoded ∧ target ≠ lcEnd then tapRefused s
  else if target = lcProduction then s
  else match transitionRefusal s target (beOctets 16 (bits dr 8 128)) with
    | .error _ => s
    | .ok i => startTransition s target i [] none

/-- LC_ACCESS (R444). -/
def execLcAccess (dr : BitVec 144) (s : State) : Host.Outcome State Fault Refusal := live s (lcAccess dr)

/-- Words that OTP_ACCESS reads as zero in every state (R446). -/
def otpHidden (a : Nat) : Bool := decide (a = 0x0F0 ∨ a = 0x0F1 ∨ 0x100 ≤ a ∧ a ≤ 0x10B)

/-- OTP_ACCESS_READ's effect; a READ that the macro does not answer in time gives no word (R68). -/
def otpAccessRead (a : Nat) (ans : OtpAnswer) (s : State) : State :=
  if s.lc.ir ≠ 0x20 then s
  else if otpHidden a then { s with lc := { s.lc with tapData := 0 } }
  else match ans with
    | .silent =>
      let (v, s1) := drawFree (violate s pOtp kAckTimeout none)
      { s1 with lc := { s1.lc with tapData := BitVec.ofNat 32 v.toNat } }
    | _ => { s with lc := { s.lc with tapData := otpWord s a } }

/-- OTP_ACCESS_READ (R446). -/
def execOtpAccessRead (addr : BitVec 10) (ans : OtpAnswer) (s : State) : Host.Outcome State Fault Refusal :=
  live s (otpAccessRead addr.toNat ans)

/-- The fields that R440 marks "TAP, in TEST_UNLOCKED": first word and words. -/
def tapFields : List (Nat × Nat) :=
  ((List.range 9).map (fun i => (0x098 + 4 * i, 4)))
    ++ [(otpSerial, 4), (otpCardAuth, 12), (otpDebugAuth, 12), (otpTamperCfg, 1), (otpEnrollKey, 12)]

/-- The field that a word belongs to. -/
def tapField (a : Nat) : Option (Nat × Nat) := tapFields.find? (fun x => decide (x.1 ≤ a ∧ a < x.1 + x.2))

/-- Whether OTP_ACCESS may program a word. -/
def tapPrograms (s : State) (a : Nat) : Bool :=
  s.lc.state == lcTestUnlocked && (match tapField a with
    | some x => !otpFilled s x.1 x.2
    | none => false)

/-- OTP_ACCESS_PROGRAM's effect. -/
def otpAccessProgram (a : Nat) (data : W32) (ans : OtpAnswer) (s : State) : State :=
  if s.lc.ir ≠ 0x20 then s
  else if !tapPrograms s a then tapRefused s
  else match ans with
    | .ok => otpSet s a data
    | .fail => s
    | .silent => violate s pOtp kAckTimeout none

/-- OTP_ACCESS_PROGRAM (R446). -/
def execOtpAccessProgram (addr : BitVec 10) (data : W32) (ans : OtpAnswer) (s : State) : Host.Outcome State Fault Refusal :=
  live s (otpAccessProgram addr.toNat data ans)

/-- CORE_DEBUG's effect: what a read gives is the firmware's own state, which the spec leaves open. -/
def coreDebug (op : DebugOp) (s : State) : State :=
  if s.lc.ir ≠ 0x30 then s
  else match op with
    | .halt => { s with lc := { s.lc with halted := true } }
    | .resume => { s with lc := { s.lc with halted := false } }
    | .step => s
    | .read _ =>
      let (v, s1) := drawFree s
      { s1 with lc := { s1.lc with tapData := BitVec.ofNat 32 v.toNat } }

/-- CORE_DEBUG (R444). -/
def execCoreDebug (op : DebugOp) (s : State) : Host.Outcome State Fault Refusal := live s (coreDebug op)

/-! ### Debug certificates (R447, R448) -/

/-- Octets of a debug certificate. -/
def debugCertLen : Nat := 7540

/-- Flash offset and octets of the debug sectors. -/
def debugSectors : Nat × Nat := (0x20000, 0x2000)

/-- Whether a certificate passes R447, apart from its START_COUNT range. -/
def debugCertOk (s : State) (o : Octets) : Bool :=
  let h := o.take 128
  decide (o.length = debugCertLen) && decide (wordAt h 0 = 0x43424453) && decide (wordAt h 4 = 0x00800001)
    && decide (wordAt h 8 >>> 4 = 0) && decide (wordAt h 20 = BitVec.ofNat 32 (reenrollments s))
    && decide (slice h 24 16 = deviceSerial s) && (h.drop 40).all (fun b => decide (b = 0))
    && (blockFails [otpField s otpDebugAuth 12] h (o.drop 128)).isNone

/-- DEBUG_INSTALL's job. -/
def debugInstall (k : Call) (w : Caller) (s : State) : State :=
  match dmaRead s (descAt k 0) with
  | (.error (st, _), s1) => finish s1 w st []
  | (.ok o, s1) =>
    let s2 := ownRns s1 0 (blockJobs [otpField s1 otpDebugAuth 12] (o.take 128) (o.drop 128))
    if debugCertOk s2 o then nvmEnqueue s2 (.debugStore o w) else finish s2 w stDebugCert []

/-- DEBUG_INSTALL (R448). -/
def execDebugInstall (bus : Bus) (s : State) : Host.Outcome State Fault Refusal :=
  onBus s bus (fun s => service 0x802 s (fun k t =>
    if !fieldsOk k descMasks then reply t k stBadField []
    else match descRefusal t k (descAt k 0) false with
      | (some st, t1) => reply t1 k st []
      | (none, t1) =>
        if (descAt k 0).len ≠ debugCertLen then reply t1 k stBadLength [] else ticketed t1 k (debugInstall k)))

/-- DEBUG_REMOVE (R448). -/
def execDebugRemove (bus : Bus) (s : State) : Host.Outcome State Fault Refusal :=
  onBus s bus (fun s => service 0x803 s (fun k t => ticketed t k (fun w u => nvmEnqueue u (.debugErase w))))

/-- The certificate written to the debug sectors: milepost 0 and the answer. -/
def debugStored (s : State) (o : Octets) (w : Caller) : State :=
  let s1 := flashProgram (flashErase s debugSectors.1 debugSectors.2 2) debugSectors.1 o
  let s2 := requestExtend { s1 with lc := { s1.lc with installed := true, stored := true } } 0 (sha384 o)
  finish s2 w stDone [wordAt o 8]

/-- The debug sectors erased. -/
def debugErased (s : State) (w : Caller) : State :=
  let s1 := flashErase s debugSectors.1 debugSectors.2 2
  finish { s1 with lc := { s1.lc with stored := false } } w stDone []

/-! ### The tamper log (R456, R457) -/

/-- TAMPER_LOG_READ (R457): an entry whose vault word could not be corrected is not readable and returns zeros (R299). -/
def execTamperLogRead (s : State) : Host.Outcome State Fault Refusal :=
  live s (fun s => service 0x804 s (fun k t =>
    if !fieldsOk k [0xF] then reply t k stBadField []
    else
      let i := bits (k.word 0) 0 4
      let e := tget 0 (vaultView t).tlog i
      if (vaultView t).tlogBroken.contains i then reply t k stTamperLog [0, 0, 0, 0, 0]
      else reply t k stDone (wordsOfOctets 4 (octetsOfBlock e) ++ [flag 32 0 (decide (e ≠ 0)) ||| 2])))

end Sys2Proof.Machine
end

