-- ==== Sys2Proof/Machine/Waybill.lean ====
section
/-!
DEFINITION. The relay identity (R404) and waybills: claims sets, signing, and what one says when it is read (R406, R407).
-/

namespace Sys2Proof.Machine

open Sys2Proof

/-! ### The relay identity (R404) -/

/-- RELAY_ROOT as octets. -/
def relayRootOctets (s : State) : Octets := keyOctets s.keys.relayRoot

/-- The relay ECDH P-384 scalar. -/
def relayScalar (s : State) : Nat := p384.scalar (kdf (relayRootOctets s) (ascii "STB7 RELAY P384") [] 56)
/-- The seed d ‖ z of the relay ML-KEM-1024 key. -/
def relayKemSeed (s : State) : Octets := kdf (relayRootOctets s) (ascii "STB7 RELAY MLKEM1024") [] 64
/-- The relay P-384 public key. -/
def relayPublic (s : State) : Octets := p384.public (relayScalar s)
/-- The relay ML-KEM-1024 encapsulation key. -/
def relayEk (s : State) : Octets := kemPublic kem1024 (relayKemSeed s)

/-! ### Claims (R407) -/

/-- Content type of a waybill. -/
def waybillType : String := "application/vnd.miryar.waybill+cbor"

/-- The root source octet of milepost 0 and claim 6: 0 bedrock, 1 TEST_ROOT, 2 TAMPER_ROOT. -/
def rootSource (s : State) : Nat :=
  match s.keys.root with
  | .testRoot => 1
  | .tamperRoot => 2
  | _ => 0

/-- A claim with its key. -/
def claim (k : Nat) (v : Octets) : Octets × Octets := (cborUint k, v)

/-- Claim 4. -/
def claimIdentity (s : State) : Octets × Octets := claim 4 (cborBytes (identityDigest s))

/-- Claim 5. -/
def claimPosition (s : State) : Octets × Octets :=
  claim 5 (cborArray [cborUint (vaultView s).realmId.toNat, cborUint (vaultView s).realmEpoch.toNat, cborUint s.relay.index,
    cborBool s.relay.valid])

/-- Claim 11. -/
def claimPace (s : State) : Octets × Octets := claim 11 (cborUint (s.pace.now % 2 ^ 64))

/-- Code of a lane's state (R159). -/
def laneStateCode : LaneState → Nat
  | .closed => 0
  | .opened => 1
  | .draining => 2
  | .drained => 3
  | .releasing => 4

/-- One entry of claim 10. -/
def claimLane (s : State) (l : Nat) : Octets :=
  cborArray [cborUint l, cborUint (laneStateCode (laneAt s l).state), cborUint (laneAt s l).gen.toNat, cborUint (laneContexts s l),
    cborUint (laneAt s l).held.toNat, cborBytes (sha384 (sheetPublic s l 0 ++ sheetPublic s l 1))]

/-- Claims 6 to 10. -/
def claimsDevice (s : State) : List (Octets × Octets) := [
  claim 6 (cborArray [cborUint s.lc.state.toNat, cborUint (rootSource s),
    cborBytes (if s.lc.inForce then beOctets 48 s.lc.certDigest.toNat else [])]),
  claim 7 (cborArray ((List.range 32).map (fun j =>
    let m := milepost s j
    cborArray [cborBytes (mileOctets m), cborUint m.count.toNat, cborBool m.broken]))),
  claim 8 (cborArray [cborUint (vaultView s).tamperCount.toNat, cborUint (reenrollments s), cborUint (vaultView s).startCount.toNat,
    cborUint (vaultView s).sleepCount.toNat]),
  claim 9 (cborArray [cborUint 0x00070001, cborUint s.boot.fwVersion.toNat, cborUint s.boot.cardVersion.toNat,
    cborUint s.boot.cardFormat.toNat, cborUint s.boot.rnsSet.toNat, cborUint s.boot.fwArb.toNat, cborUint s.boot.cardArb.toNat,
    cborUint s.boot.fwOtp.toNat, cborUint s.boot.cardOtp.toNat]),
  claim 10 (cborArray ((((List.range 64).drop 1).filter (fun l => (laneAt s l).state != .closed)).map (claimLane s)))]

/-- The claims set of a DEVICE waybill, with a lane's sheet keys where they are asked for. -/
def deviceClaims (s : State) (nonce : Octets) (sheet : Option Nat) : Octets :=
  cborMap ([claim 1 (cborUint 1), claim 2 (cborUint 0), claim 3 (cborBytes nonce), claimIdentity s, claimPosition s] ++ claimsDevice s
    ++ [claimPace s, claim 12 (cborArray [cborBool s.tamper.mode, cborUint s.tamper.cause.toNat])]
    ++ (match sheet with
      | some l => [claim 13 (cborArray [cborUint l, cborBytes (sheetPublic s l 0), cborBytes (sheetPublic s l 1)])]
      | none => []))

/-- The claims set of a SEGMENT waybill: encoded entries, and why the list ends. -/
def segmentClaims (s : State) (nonce : Octets) (entries : List Octets) (ending : Octets) : Octets :=
  cborMap [claim 1 (cborUint 1), claim 2 (cborUint 1), claim 3 (cborBytes nonce), claimIdentity s, claimPosition s, claimPace s,
    claim 20 (cborArray entries), claim 21 ending]

/-- The claims set of the BINDING. -/
def bindingClaims (s : State) : Octets :=
  cborMap [claim 1 (cborUint 1), claim 2 (cborUint 2), claimIdentity s, claimPosition s, claimPace s,
    claim 30 (cborArray [cborBytes (relayPublic s), cborBytes (relayEk s)])]

/-- A claims set signed as a waybill for a lane's request (R124, R406). -/
def signWaybill (s : State) (lane : Nat) (claims : Octets) : Option Octets × State := coseSign s (idSignKeys s lane) waybillType claims

/-- The binding signed (R404). -/
def signBinding (s : State) : State :=
  let (o, s1) := signWaybill s 0 (bindingClaims s)
  { s1 with relay := { s1.relay with binding := o.getD [] } }

/-- The claims of a waybill whose two signatures verify under a device's keys. -/
def openWaybill (o p384Key dsaKey : Octets) : Option Cbor :=
  match coseRead o with
  | some c => if coseVerifies c waybillType p384Key dsaKey then cborDecode c.payload else none
  | none => none

/-- A claim as a number. -/
def claimNat (c : Cbor) (k : Int) : Option Nat := (c.at k).bind Cbor.nat
/-- A claim as octets. -/
def claimOctets (c : Cbor) (k : Int) : Option Octets := (c.at k).bind Cbor.octets
/-- A claim as a list. -/
def claimItems (c : Cbor) (k : Int) : Option (List Cbor) := (c.at k).bind Cbor.items

end Sys2Proof.Machine
end

