-- ==== Sys2Proof/Machine/Images.lean ====
section
/-!
DEFINITION. The images that a start checks: firmware (R371), route card (R373 to R380), gate images (R372, R379, R384).
-/

namespace Sys2Proof.Machine

open Sys2Proof

/-! ### Firmware images (R371) -/

/-- What a firmware image's header says. -/
structure Firmware where
  version : W32
  arb : Nat
  cardFormat : Nat
  startLen : Nat
  servicesLen : Nat
  rnsSet : Nat
  startDigest : Octets
  servicesDigest : Octets
  meas : Octets
deriving DecidableEq, Repr, Inhabited

/-- Octets of a firmware header and its signature block. -/
def fwHeadLen : Nat := 128 + sigLen

/-- Offset and size of firmware slot k; of card slot k. -/
def fwSlot (s : State) (k : Nat) : Nat × Nat := (theDir s).slots.getD k (0, 0)
/-- Card slot k. -/
def cardSlot (s : State) (k : Nat) : Nat × Nat := (theDir s).slots.getD (2 + k) (0, 0)

/-- A firmware header read, where its format rules hold for a slot of `size` octets. -/
def fwHeader (h : Octets) (size : Nat) : Option Firmware :=
  let w (i : Nat) : W32 := wordAt h (4 * i)
  let f : Firmware := { version := w 2, arb := bits (w 3) 0 8, cardFormat := bits (w 3) 8 16, startLen := (w 4).toNat
                        servicesLen := (w 5).toNat, rnsSet := bits (w 6) 0 16, startDigest := slice h 32 48
                        servicesDigest := slice h 80 48, meas := sha384 h }
  let ok := decide (h.length = 128) && decide (w 0 = 0x49574653) && decide (w 1 = 0x00800001) && decide (bits (w 3) 24 8 = 0)
    && decide (64 ≤ f.startLen ∧ f.startLen ≤ 16384 ∧ f.startLen % 64 = 0)
    && decide (64 ≤ f.servicesLen ∧ f.servicesLen ≤ 393216 ∧ f.servicesLen % 64 = 0)
    && decide (bits (w 6) 16 16 = 0) && decide (w 7 = 0) && decide (fwHeadLen + f.startLen + f.servicesLen ≤ size)
  if ok then some f else none

/-- Fall-back reasons (R393). -/
def whyFwSignature : Nat := 0x04
/-- Firmware ARB -/
def whyFwArb : Nat := 0x05
/-- Firmware format -/
def whyFwFormat : Nat := 0x06
/-- Card signature or signer -/
def whyCardSignature : Nat := 0x07
/-- Card ARB -/
def whyCardArb : Nat := 0x08
/-- Card format or contents -/
def whyCardFormat : Nat := 0x09
/-- Services digest -/
def whyServices : Nat := 0x0A

/-- The firmware of slot k read as far as its start stage and checked: the reason of its failure, or the image. -/
def checkFirmware (s : State) (k : Nat) : Except Nat Firmware × State :=
  let (off, size) := fwSlot s k
  let (o, s1) := flashRead s off fwHeadLen
  match fwHeader (o.take 128) size with
  | none => (.error whyFwFormat, s1)
  | some f =>
    let (st, s2) := flashRead s1 (off + fwHeadLen) f.startLen
    let signers := [beOctets 48 Config.fwSigner.toNat]
    let s3 := ownRns s2 0 (blockJobs signers (o.take 128) (o.drop 128))
    if (blockFails signers (o.take 128) (o.drop 128)).isSome then (.error whyFwSignature, s3)
    else if f.arb < s3.boot.fwOtp.toNat then (.error whyFwArb, s3)
    else if sha384 st ≠ f.startDigest then (.error whyFwSignature, s3)
    else (.ok f, s3)

/-- The services stage of slot k read and compared. -/
def checkServices (s : State) (k : Nat) (f : Firmware) : Bool × State :=
  let (o, s1) := flashRead s ((fwSlot s k).1 + fwHeadLen + f.startLen) f.servicesLen
  (decide (sha384 o = f.servicesDigest), ownDigest s1 0)

/-! ### The route card (R373 to R380) -/

/-- A route card: its header's fields and its sections. -/
structure Card where
  format : Nat
  length : Nat
  arb : Nat
  version : W32
  realm : W32
  sections : List (Nat × Octets)
  meas : Octets
deriving DecidableEq, Repr, Inhabited

/-- Sections read to the end; fuel bounds their number. -/
def readSections : Nat → Octets → Option (List (Nat × Octets))
  | 0, _ => none
  | n + 1, o =>
    if o.isEmpty then some []
    else if o.length < 4 then none
    else
      let t := bits (wordAt o 0) 0 16
      let len := bits (wordAt o 0) 16 16
      if len % 4 ≠ 0 ∨ o.length < 4 + len then none
      else (readSections n (o.drop (4 + len))).map (fun l => (t, slice o 4 len) :: l)

/-- Whether a list of numbers rises strictly. -/
def rising : List Nat → Bool
  | a :: b :: t => decide (a < b) && rising (b :: t)
  | _ => true

/-- Whether a list repeats no element. -/
def distinct (l : List Nat) : Bool := decide l.Nodup

/-- The value of a section; an absent one is empty. -/
def sectionOf (c : Card) (t : Nat) : Octets := ((c.sections.find? (fun x => decide (x.1 = t))).map Prod.snd).getD []

/-- Whether a card has a section. -/
def hasSection (c : Card) (t : Nat) : Bool := c.sections.any (fun x => decide (x.1 = t))

/-- Words of a section. -/
def sectionWords (c : Card) (t : Nat) : List W32 := wordsOf (sectionOf c t)

/-- Register pairs of a list of words. -/
def pairsOf : List W32 → Option (List (Nat × W32))
  | [] => some []
  | a :: v :: t => (pairsOf t).map (fun l => (a.toNat, v) :: l)
  | [_] => none

/-- Words before the register pairs of a section (R376, R377). -/
def pairsFrom (c : Card) (t : Nat) : Nat :=
  if t = 3 then 1 + bits ((sectionWords c 3).getD 0 0) 0 8 else if t = 4 then 2 else 0

/-- Sections that hold register pairs. -/
def pairSections : List Nat := [3, 4, 5, 6, 7, 9, 10]

/-- The register pairs of a section. -/
def sectionPairs (c : Card) (t : Nat) : Option (List (Nat × W32)) :=
  if hasSection c t then pairsOf ((sectionWords c t).drop (pairsFrom c t)) else some []

/-- Whether a section may set a register (R375). -/
def maySet (t off : Nat) : Bool :=
  decide (off % 4 = 0) &&
  (if t = 3 then decide (0x0204 ≤ off ∧ off ≤ 0x02FC ∨ 0x3E80 ≤ off ∧ off ≤ 0x3E9C)
   else if t = 4 then
     decide (0x1000 ≤ off ∧ off ≤ 0x1010 ∨ off = 0x1018 ∨ off = 0x101C ∨ off = 0x1028 ∨ 0x1100 ≤ off ∧ off ≤ 0x11FC
       ∨ 0x1804 ≤ off ∧ off ≤ 0x18FC ∨ off = 0x1B0C ∨ off = 0x2020 ∨ off = 0x2024 ∨ off = 0x3014)
   else if t = 5 then decide (off = 0x0440)
   else if t = 6 then decide (0x1400 ≤ off ∧ off ≤ 0x17F0 ∧ off % 16 = 0)
   else if t = 7 then decide (off = 0x6000 ∨ off = 0x6004)
   else if t = 9 then decide (off = 0x0418)
   else if t = 10 then decide (off = 0x103C ∨ off = 0x1044 ∨ off = 0x0860 ∨ off = 0x0870 ∨ off = 0x087C)
   else false)

/-- Bits of a register that a card may set. -/
def cardMask (off : Nat) : W32 :=
  if off = 0x1000 ∨ off = 0x100C ∨ off = 0x1018 ∨ off = 0x1028 ∨ off = 0x1B0C ∨ off = 0x2020 ∨ off = 0x2024 ∨ off = 0x3014 then 0x00FFFFFF
  else if off = 0x1004 then 0x01FFFFFF
  else if off = 0x1010 then 0x0000001F
  else if off = 0x101C then 0x000FFFF1
  else if off = 0x0418 then 0x0003FFFF
  else if off = 0x6000 then 0x0000FFC7
  else if 0x3E80 ≤ off ∧ off ≤ 0x3E9C then 0x000000FF
  else writeMask off

/-- A register set by the card, active value and shadow alike (R375). -/
def setByCard (s : State) (x : Nat × W32) : State := if (groupOf x.1).isSome then setBoth s x.1 x.2 else setFixed s x.1 x.2

/-- Every register pair of a card. -/
def cardPairs (c : Card) : List (Nat × W32) := pairSections.flatMap (fun t => (sectionPairs c t).getD [])

/-- The registers as a card sets them. -/
def withCard (s : State) (c : Card) : State := (cardPairs c).foldl setByCard s

/-- The form of the register pairs (R375). -/
def pairsOk (c : Card) : Bool :=
  pairSections.all (fun t => match sectionPairs c t with
    | none => false
    | some l => l.all (fun x => maySet t x.1 && decide (x.2 &&& ~~~(cardMask x.1) = 0)))
  && distinct ((cardPairs c).map Prod.fst)

/-- Candidate words (R69, R376). -/
def candidates (c : Card) : List (Mid × Nat) :=
  (sectionWords c 2).map (fun w => (BitVec.ofNat 8 (bits w 0 8), bits w 8 3))

/-- OWNER_CANDIDATES (R69, R376). -/
def candidatesOk (c : Card) : Bool :=
  let l := candidates c
  decide (l.length ≤ 8) && (sectionWords c 2).all (fun w => decide (bits w 11 21 = 0))
    && distinct (l.map (fun x => x.1.toNat)) && distinct (l.map Prod.snd)

/-- Channel words (R376). -/
def channelWords (c : Card) : List W32 := ((sectionWords c 3).drop 1).take (bits ((sectionWords c 3).getD 0 0) 0 8)

/-- CHANNEL_BINDINGS's channel words (R376). -/
def channelsOk (c : Card) : Bool :=
  let n := (sectionWords c 3).getD 0 0
  !hasSection c 3 || (decide (1 ≤ (sectionWords c 3).length) && decide (n.toNat ≤ 128)
    && decide ((channelWords c).length = n.toNat)
    && (channelWords c).all (fun w => decide (bits w 7 1 = 0 ∧ bits w 30 2 = 0)
        && decide (16 ≤ bits w 0 7 ∨ bits w 16 8 = 0 ∧ bits w 24 6 = 0))
    && distinct ((channelWords c).map (fun w => bits w 0 7)))

/-- Registers that CUSTODY_LAYOUT must set (R377). -/
def layoutRegisters : List Nat := [0x1000, 0x1004, 0x1008, 0x100C, 0x1010, 0x1018, 0x1028, 0x1B0C, 0x2020, 0x2024, 0x3014]

/-- One line past the metadata region (R162). -/
def metaEnd (s : State) : Nat := levelSeals s (treeDepth s) + ceilDiv (levelSize (winMax s) (treeDepth s)) 8

/-- Whether the four way reservations fit 16 ways (R196). -/
def waysOk (s : State) : Bool :=
  let w := fixedReg s 0x101C
  decide (bits w 4 4 + bits w 8 4 + bits w 12 4 + bits w 16 4 ≤ 16)

/-- The ranges of registers as a card leaves them (R156, R158, R162, R196, R377, R403). -/
def layoutOk (s : State) : Bool :=
  let own := ownRegions s
  let base := winBase s
  let pages := winPages s
  decide (1 ≤ pages ∧ pages ≤ winMax s ∧ base + winMax s ≤ 2 ^ 24)
    && decide (bits (fixedReg s 0x1010) 0 4 ≤ 14) && waysOk s
    && own.all (fun r => decide (base ≤ r.1 ∧ r.1 + r.2 ≤ base + pages)) && disjoint own
    && decide (metaEnd s ≤ 2 ^ 30) && decide (metaEnd s ≤ 64 * base ∨ base + winMax s ≤ metaBase s)
    && (List.range 256).all (fun m =>
        let b := activeReg s (0x1100 + 4 * (m / 4)) >>> (8 * (m % 4))
        !bit b 7 || decide (bits b 0 6 ≠ 0))
    && !(bit (activeReg s 0x6000) 2 && bit (activeReg s 0x6000) 0)

/-- TEMPO_NOMINAL's range (R113). -/
def tempoOk (s : State) : Bool :=
  let f := bits (fixedReg s 0x0418) 0 18
  decide (f = 0 ∨ 1000 ≤ f ∧ f ≤ 200000)

/-- CUSTODY_LAYOUT sets every register that it must (R377). -/
def layoutSets (c : Card) : Bool :=
  let l := ((sectionPairs c 4).getD []).map Prod.fst
  decide (2 ≤ (sectionWords c 4).length) && layoutRegisters.all (fun r => l.contains r)

/-- Region records of NVM_LAYOUT (R378). -/
def cardRegions (c : Card) : List Region :=
  (chunks 12 ((sectionOf c 8).drop 4)).map (fun o =>
    { kind := (wordAt o 0).toNat, off := (wordAt o 4).toNat, len := (wordAt o 8).toNat })

/-- A card's region of a kind. -/
def cardRegion (c : Card) (k : Nat) : Option Region := (cardRegions c).find? (fun r => decide (r.kind = k))

/-- Least length of a region by TYPE (R378, R483). -/
def regionMin (k : Nat) : Nat :=
  if k = 1 then 0x100000 else if k = 4 ∨ k = 5 ∨ k = 7 then 0x8000 else if k = 6 then 0x4000 else if k = 8 then 0x10000 else 0

/-- NVM_LAYOUT (R378, R448). -/
def nvmOk (s : State) (c : Card) : Bool :=
  let rs := cardRegions c
  let spans := rs.map (fun r => (r.off, r.len)) ++ fixedSectors ++ (theDir s).slots
  let len (k : Nat) : Nat := ((cardRegion c k).map Region.len).getD 0
  decide ((sectionOf c 8).length % 12 = 4) && decide ((wordAt (sectionOf c 8) 0).toNat ≤ 3)
    && rs.all (fun r => decide (1 ≤ r.kind ∧ r.kind ≤ 8 ∧ r.off % 4096 = 0 ∧ r.len % 4096 = 0 ∧ regionMin r.kind ≤ r.len))
    && distinct (rs.map Region.kind) && [1, 4, 5, 6, 7, 8].all (fun k => (cardRegion c k).isSome)
    && decide (len 1 % 0x10000 = 0)
    && ((sectionOf c 1).isEmpty || ((cardRegion c 2).isSome && (cardRegion c 3).isSome && decide (len 2 = len 3)))
    && disjoint spans

/-- GATES entries (R379). -/
def cardGates (c : Card) : List Gate :=
  (chunks 64 (sectionOf c 1)).map (fun o =>
    { gate := bits (wordAt o 0) 0 4, off := (wordAt o 4).toNat, len := (wordAt o 8).toNat, minVersion := wordAt o 12
      signer := BitVec.ofNat 384 (ofBe (slice o 16 48)), result := 0, version := 0 })

/-- Whether a gate entry lies within a bank. -/
def inBankRegion (r : Option Region) (g : Gate) : Bool :=
  match r with
  | some r => decide (r.off ≤ g.off ∧ g.off + g.len ≤ r.off + r.len)
  | none => false

/-- GATES (R379). -/
def gatesOk (c : Card) : Bool :=
  decide ((sectionOf c 1).length % 64 = 0)
    && (chunks 64 (sectionOf c 1)).all (fun o => decide (bits (wordAt o 0) 4 28 = 0))
    && distinct ((cardGates c).map Gate.gate)
    && ((cardGates c).all (inBankRegion (cardRegion c 2)) || (cardGates c).all (inBankRegion (cardRegion c 3)))

/-- Checks 5 and 6 of R380: the sections. -/
def cardContents (s : State) (c : Card) : Bool :=
  let t := withCard { s with cfg := {} } c
  rising (c.sections.map Prod.fst) && c.sections.all (fun x => decide (1 ≤ x.1 ∧ x.1 ≤ 10))
    && hasSection c 4 && hasSection c 8 && channelsOk c && pairsOk c && candidatesOk c && layoutSets c
    && layoutOk t && tempoOk t && nvmOk s c && gatesOk c

/-- Check 1 of R380: the header, for a slot and the running firmware's CARD_FORMAT; the card without its sections. -/
def cardHeader (h : Octets) (size fmt : Nat) : Option Card :=
  let w (i : Nat) : W32 := wordAt h (4 * i)
  let len := (w 2).toNat
  if w 0 = 0x37425453 ∧ bits (w 1) 0 16 = fmt ∧ bits (w 1) 16 16 = 32 ∧ len ≤ 32768 ∧ len ≤ size ∧ 32 + sigLen ≤ len then
    some { format := fmt, length := len, arb := bits (w 3) 0 8, version := w 4, realm := w 5, sections := [], meas := [] }
  else none

/-- The card of slot k read and checked (R380): the reason of its failure, or the card. -/
def checkCard (s : State) (k fmt : Nat) : Except Nat Card × State :=
  let (off, size) := cardSlot s k
  let (h, s1) := flashRead s off 32
  match cardHeader h size fmt with
  | none => (.error whyCardFormat, s1)
  | some c =>
    let (rest, s2) := flashRead s1 (off + 32) (c.length - 32)
    let o := h ++ rest
    let n := c.length - sigLen
    let signers := [otpField s2 otpCardAuth 12]
    let s3 := ownRns s2 0 (blockJobs signers (o.take n) (o.drop n))
    if (blockFails signers (o.take n) (o.drop n)).isSome then (.error whyCardSignature, s3)
    else if c.arb < s3.boot.cardOtp.toNat then (.error whyCardArb, s3)
    else if c.realm ≠ 0 ∧ c.realm ≠ (vaultView s3).realmId then (.error whyCardFormat, s3)
    else match readSections 12 (slice o 32 (n - 32)) with
      | none => (.error whyCardFormat, s3)
      | some l =>
        let c1 := { c with sections := l, meas := sha384 o }
        let reserved := decide (bits (wordAt h 12) 8 24 = 0 ∧ wordAt h 24 = 0 ∧ wordAt h 28 = 0)
        if reserved && cardContents s3 c1 then (.ok c1, s3) else (.error whyCardFormat, s3)

/-! ### Gate images (R372, R384) -/

/-- Results of `GATE_STATUS` (R400). -/
def gateReleased : Nat := 2
/-- HALTED -/
def gateHalted : Nat := 9

/-- The checks of a gate image in the order of R384: a result of R400, the version, the measurement. -/
def checkGate (g : Gate) (o : Octets) : Nat × W32 × Octets :=
  let w (i : Nat) : W32 := wordAt o (4 * i)
  let n := 64 + (w 4).toNat
  if w 0 ≠ 0x49544753 ∨ w 1 ≠ 0x00400001 ∨ (w 3).toNat ≠ g.gate ∨ (slice o 20 44).any (fun b => decide (b ≠ 0)) then (3, 0, [])
  else if g.len ≠ n + sigLen then (7, w 2, [])
  else match blockFails [beOctets 48 g.signer.toNat] (o.take n) (o.drop n) with
    | some 0x10 => (4, w 2, [])
    | some _ => (5, w 2, [])
    | none => if (w 2).toNat < g.minVersion.toNat then (6, w 2, []) else (gateReleased, w 2, sha384 (o.take n))

/-- A gate entry verified, and its gate raised where it passes (R384). -/
def verifyGate (s : State) (g : Gate) : Gate × State :=
  let (o, s1) := flashRead s g.off g.len
  let (r, v, m) := checkGate g o
  let n := g.len - sigLen
  let s2 := if r = 3 ∨ r = 7 then s1 else ownRns s1 0 (blockJobs [beOctets 48 g.signer.toNat] (o.take n) (o.drop n))
  let g1 := { g with result := r, version := v }
  if r = gateReleased then
    let s3 := (extendNow s2 (8 + g.gate) m).2
    (g1, { s3 with pins := { s3.pins with gates := s3.pins.gates ||| BitVec.ofNat 16 (2 ^ g.gate) } })
  else (g1, s2)

/-- The gate entries in gate-table order. -/
def verifyGates : List Gate → State → List Gate × State
  | [], s => ([], s)
  | g :: t, s =>
    let (g1, s1) := verifyGate s g
    let (l, s2) := verifyGates t s1
    (g1 :: l, s2)

end Sys2Proof.Machine
end

