-- ==== Sys2Proof/Machine/Start.lean ====
section
/-!
DEFINITION. Cold start (R26, R381 to R385): the life-cycle and vault reading, the pair that runs, the card's application, the tree and
the key store, the gates, and the election window.
-/

namespace Sys2Proof.Machine

open Sys2Proof

/-! ### Step 1: life cycle, debug certificate, vault, tamper -/

/-- Spare words in use, from the repair fuses (R487). -/
def loadSpares (s : State) : List (Nat × BitVec 4) → State
  | [] => s
  | (i, n) :: t =>
    let h : SramHealth := { tget {} s.flt.health i with spares := n }
    loadSpares { s with flt := { s.flt with health := tset {} s.flt.health i h } } t

/-- PORST_N rises, and NVM_RESET_N 16 paces after it (R45): the fuses, the tamper configuration, the life-cycle state (R442, R449); an OTP
word that is not read within 4,096 paces is logged (R67, R68). -/
def readLife (env : StartEnv) (s : State) : State :=
  let w := otpWord s otpTamperCfg
  let s0 := passPaces s 16
  let s1 := { s0 with pins := { s.pins with porstN := true, vddCore := true, nvmResetN := true }
                      tamper := { s.tamper with arm := BitVec.ofNat 8 (bits w 0 8), gateHold := bit w 8 }
                      nvm := { s.nvm with rates := [env.mhz111.toNat, env.mhz144.toNat, env.mhz888.toNat, env.mhz8d.toNat] } }
  let s2 := loadSpares s1 ((env.spares.take 9).zipIdx.map (fun x => (x.2, x.1)))
  let s3 := decodeLife s2 (env.otpSilent.map BitVec.toNat)
  let s4 := env.otpSilent.foldl (fun t _ => violate (passPaces t 4096) pOtp kAckTimeout none) s3
  { s4 with
    tamper := { s4.tamper with sensors := s4.lc.state != lcBlank && s4.lc.state != lcTestUnlocked }
    boot := { s4.boot with fwOtp := BitVec.ofNat 8 (otpCounter s4 otpFwCounter 8)
                           cardOtp := BitVec.ofNat 8 (otpCounter s4 otpCardCounter 8) } }

/-- The START_COUNT that this start will take (R299). -/
def startTaken (s : State) : Nat := (s.vault.startCount + (if s.vault.provisioned then 1 else 0)).toNat

/-- The debug certificate read and judged, in PRODUCTION (R448). -/
def loadDebug (s : State) : State :=
  if s.lc.state ≠ lcProduction then s
  else
    let (h, s1) := flashRead s debugSectors.1 16
    if wordAt h 0 ≠ 0x43424453 then s1
    else
      let (o, s2) := flashRead s1 debugSectors.1 debugCertLen
      let s3 := ownRns s2 0 (blockJobs [otpField s2 otpDebugAuth 12] (o.take 128) (o.drop 128))
      let n := startTaken s3
      let good := debugCertOk s3 o && decide ((wordAt o 12).toNat ≤ n ∧ n ≤ (wordAt o 16).toNat)
      { s3 with lc := { s3.lc with stored := true, inForce := good, rights := if good then BitVec.ofNat 4 (bits (wordAt o 8) 0 4) else 0
                                   certDigest := if good then BitVec.ofNat 384 (ofBe (sha384 o)) else 0 } }

/-- The sources that a start recognises: armed inputs that are still high, and ZEROIZE_ALL, which is always armed (R449). -/
def startSources (s : State) : List Nat :=
  (List.range 8).filter (fun n => bit s.tamper.inputs n && bit s.tamper.arm n) ++ (if s.tamper.zeroize then [8] else [])

/-- One source recognised during start (R450 to R452). -/
def startTamper (s : State) (n : Nat) : State :=
  let (o, s1) := tamperZero s n false true
  let s2 := tamperTell s1 o
  if s2.lc.state = lcProduction then { s2 with tamper := { s2.tamper with mode := true, cause := 1 } }
  else { s2 with lc := { s2.lc with stopped := true } }

/-- The sources recognised; without one TAMPER_OUT falls (R453). -/
def startTampers (s : State) : State :=
  if (startSources s).isEmpty then { s with pins := { s.pins with tamperOut := false } } else (startSources s).foldl startTamper s

/-- One vault word that reads otherwise than as written (R298, R299): corrected it is rewritten, and otherwise an entry of the log is
unreadable, a word of the monotonic counters breaks two of them, and any other word loses the vault. Whether it does. -/
def vaultWordRead (x : Bool × State) (r : Fin 64 × SramWord) : Bool × State :=
  let (lost, s) := x
  let i := r.1.val
  match decodeWord r.2 with
  | some (b, fixed) =>
    let s1 := { s with vault := putVaultWord s.vault i b }
    (lost, if fixed then keyEvent s1 (fun k => { k with vaultFixed := true }) else s1)
  | none =>
    if 48 ≤ i then (lost, { s with vault := { s.vault with tlogBroken := s.vault.tlogBroken.insert (i - 48) } })
    else if 24 ≤ i ∧ i < 32 then
      (lost, { s with vault := { s.vault with
        monoBroken := (s.vault.monoBroken.insert (2 * (i - 24))).insert (2 * (i - 24) + 1) } })
    else (true, s)

/-- The copies of CONTROL voted: one that disagrees is rewritten, and no two in agreement lose the vault (R86, R297; log 156). -/
def voteControl (s : State) : Bool × State :=
  let v := s.vault
  if !agree3 v.controlA v.controlB v.controlC then (true, s)
  else if v.controlA = v.controlB ∧ v.controlB = v.controlC then (false, s)
  else (false, keyEvent { s with vault := v.withControl v.control } (fun k => { k with vaultFixed := true }))

/-- Every word of the vault read, but for the shares where a public root takes their place, and in a life-cycle state without a vault
none (R283, R299, R443). Whether the vault is lost by it. -/
def readVaultWords (env : StartEnv) (s : State) : Bool × State :=
  if s.lc.state ≠ lcProduction then (false, s)
  else
    let (lost, s1) := (env.vaultReads.filter (fun r => !s.lc.inForce || decide (4 ≤ r.1.val))).foldl vaultWordRead (false, s)
    let (split, s2) := voteControl s1
    (lost || split, s2)

/-- State of the vault (R299, R443): under TEST_ROOT the shares are not read, so the check is not made. -/
def vaultStateOf (s : State) (lost : Bool) : Nat :=
  if s.lc.state ≠ lcProduction then 2
  else if !lost && s.vault.provisioned && (s.lc.inForce || checkMatches s) then 0
  else 1

/-- Whether deciding the vault's state reads the shares. -/
def sharesRead (s : State) (lost : Bool) : Bool := s.lc.state == lcProduction && !lost && s.vault.provisioned && !s.lc.inForce

/-- TAMPER_ROOT (R454). -/
def tamperRoot : Octets := (sha384 (ascii "STB7 TAMPER ROOT")).take 32

/-- Tier 0 chosen and tier 1 derived (R276, R283, R443, R454). -/
def chooseRoot (s : State) : State :=
  if lcNoVault s.lc.state then deriveTier1 { s with keys := { s.keys with root := .testRoot } } testRoot
  else if s.lc.state ≠ lcProduction then s
  else if s.tamper.mode then deriveTier1 { s with keys := { s.keys with root := .tamperRoot, tamperRoot := true } } tamperRoot
  else if s.lc.inForce then deriveTier1 { s with keys := { s.keys with root := .testRoot } } testRoot
  else deriveTier1 { s with keys := { s.keys with root := .bedrock } } (keyOctets (bedrock s))

/-- A pending realm made current: the flag cleared, the store's generation raised, so that no image of before is the store's any more, and
any saved root ignored from here on, all before tier 2 is derived (R294). -/
def moveRealm (v : Vault) : Vault :=
  ({ v with realmId := v.nextRealmId, realmEpoch := v.nextRealmEpoch, storeGen := v.storeGen + 1 }.setControl 3 false).setControl 1 false

/-- The vault read (R299): its state, START_COUNT, and a pending realm made current (R294); reading the shares refreshes them (R298).
Whether the realm moved. -/
def readVault (env : StartEnv) (s : State) : Bool × State :=
  let (lost, s0) := readVaultWords env s
  let st := vaultStateOf s0 lost
  let s0 := if sharesRead s0 lost then refreshShares s0 else s0
  let s1 := { s0 with keys := { s0.keys with vaultState := st } }
  if s1.keys.vaultState = 1 then
    (false, { s1 with tamper := { s1.tamper with mode := true, cause := if s1.tamper.mode then s1.tamper.cause else 3 } })
  else if s1.keys.vaultState = 2 then (false, s1)
  else
    let v := { s1.vault with startCount := s1.vault.startCount + 1 }
    (v.realmPending, { s1 with vault := if v.realmPending then moveRealm v else v })

/-- Milepost 0 at a cold start (R360). -/
def lifeExtend (s : State) : State :=
  (extendNow s 0 (s.lc.state :: BitVec.ofNat 8 (rootSource s) :: beOctets 48 s.lc.certDigest.toNat)).2

/-- Step 1 of cold start. Whether the realm moved. -/
def startStep1 (env : StartEnv) (s : State) : Bool × State :=
  let s1 := startTampers (loadDebug (readLife env s))
  let (moved, s2) := readVault env s1
  (moved, lifeExtend (chooseRoot s2))

/-! ### Steps 2 to 6: directory and pair -/

/-- Both directory copies read and one chosen (R370); a bundle that was RECEIVING, or was staged under another root source, counts as
EMPTY (R389, R397). -/
def readDirectory (s : State) : Option Directory × State :=
  let (a, s1) := flashRead s 0 512
  let (b, s2) := flashRead s1 (dirOffset true) 512
  let d := match dirParse a, dirParse b with
    | some x, some y => some (if x.seq.toNat < y.seq.toNat then y else x)
    | some x, none => some x
    | none, y => y
  (d.map (fun x => if x.stage = 2 ∧ x.stageTest = (s2.keys.root == .testRoot) then x else { x with stage := 0 }), s2)

/-- Where a pair failed: its firmware, its card, its services stage. -/
inductive PairFails where
  | firmware (why : Nat)
  | card (why : Nat)
  | services
deriving DecidableEq, Repr

/-- The reason of a failure (R393). -/
def PairFails.why : PairFails → Nat
  | .firmware w => w
  | .card w => w
  | .services => whyServices

/-- A pair tried: firmware, card, services, each milepost as its check passes (R381, R382). -/
def tryPair (s : State) (k : Nat) : Except PairFails (Firmware × Card) × State :=
  match checkFirmware s k with
  | (.error w, s1) => (.error (.firmware w), s1)
  | (.ok f, s1) =>
    let s2 := (extendNow s1 1 f.meas).2
    match checkCard s2 k f.cardFormat with
    | (.error w, s3) => (.error (.card w), s3)
    | (.ok c, s3) =>
      let s4 := (extendNow s3 2 c.meas).2
      match checkServices s4 k f with
      | (true, s5) => (.ok (f, c), s5)
      | (false, s5) => (.error .services, s5)

/-- What pairs came to: the one that runs, and the failures in order. -/
structure Tried where
  runs : Option (Nat × Firmware × Card)
  fails : List PairFails
deriving DecidableEq, Repr

/-- Pairs tried in an order. -/
def tryPairs : List Nat → State → Tried × State
  | [], s => ({ runs := none, fails := [] }, s)
  | k :: ks, s => match tryPair s k with
    | (.ok (f, c), s1) => ({ runs := some (k, f, c), fails := [] }, s1)
    | (.error e, s1) =>
      let (t, s2) := tryPairs ks s1
      ({ t with fails := e :: t.fails }, s2)

/-- What a start leaves to be done once the election window is open. -/
inductive Deferred where
  | nothing
  /-- PREPARED becomes SETTLED (R382) -/
  | settled
  /-- the confirmation completes (R395) -/
  | confirmed
  /-- a fall-back with its reason (R394) -/
  | fellBack (why : Nat)
deriving DecidableEq, Repr

/-- Number of a pair. -/
def pairNo (b : Bool) : Nat := if b then 1 else 0

/-- Whether the confirmed pair's firmware ARB or card ARB lies below its OTP counter, as their headers stand in flash. -/
def confirmedBelow (s : State) (d : Directory) : Bool :=
  let k := pairNo d.pair
  decide (bits (wordAt (flashPeek s ((fwSlot s k).1 + 12) 4) 0) 0 8 < s.boot.fwOtp.toNat)
    || decide (bits (wordAt (flashPeek s ((cardSlot s k).1 + 12) 4) 0) 0 8 < s.boot.cardOtp.toNat)

/-- A trial pair tried under its count, then the confirmed pair (R382, R394). -/
def tryTrial (s : State) (d : Directory) : Tried × Deferred × State :=
  let c := pairNo d.pair
  let t := pairNo (!d.pair)
  if d.trialBoots < 3 then
    let d1 := { d with trialBoots := d.trialBoots + 1 }
    let s1 := writeDir { s with boot := { s.boot with dir := some d1 } } d1
    let (r, s2) := tryPairs [t, c] s1
    match r.fails with
    | [] => (r, .nothing, s2)
    | e :: _ => (r, .fellBack e.why, s2)
  else
    let (r, s1) := tryPairs [c] s
    (r, .fellBack 0x0B, s1)

/-- The pair that runs, by the directory's UPDATE (R382). -/
def selectPair (s : State) (d : Directory) : Tried × Deferred × State :=
  let c := pairNo d.pair
  let t := pairNo (!d.pair)
  if d.update ≠ 2 then
    let (r, s1) := tryPairs [c, t] s
    (r, if d.update = 1 then .settled else .nothing, s1)
  else if confirmedBelow s d then
    match tryPair s t with
    | (.ok (f, k), s1) => ({ runs := some (t, f, k), fails := [] }, .confirmed, s1)
    | (.error _, s1) => tryTrial s1 d
  else tryTrial s d

/-- HALT of a start whose pairs all failed (R383). -/
def haltOf (l : List PairFails) : Nat :=
  if l.any (fun e => match e with
    | .card _ => true
    | _ => false) then 3 else 2

/-- The running pair recorded (R400). -/
def recordPair (s : State) (t : Tried) (k : Nat) (f : Firmware) (c : Card) : State :=
  { s with boot := { s.boot with
      pair := decide (k = 1), fallback := !t.fails.isEmpty, reason := (t.fails.head?.map PairFails.why).getD 0
      fwVersion := f.version, fwArb := BitVec.ofNat 8 f.arb, fwMeas := BitVec.ofNat 384 (ofBe f.meas)
      rnsSet := BitVec.ofNat 16 f.rnsSet, cardVersion := c.version, cardFormat := BitVec.ofNat 16 c.format
      cardArb := BitVec.ofNat 8 c.arb, regions := cardRegions c, gates := cardGates c
      bank := !(cardGates c).isEmpty && !((cardGates c).all (inBankRegion (cardRegion c 2))) } }

/-! ### Step 5: the card applied -/

/-- A channel word applied (R90, R91). -/
def bindChannel (s : State) (w : W32) : State :=
  let c := bits w 0 7
  let m : Mid := BitVec.ofNat 8 (bits w 8 8)
  if c < 16 then setChan s c { chanAt s c with pinned := true, sender := m }
  else setChan s c { chanAt s c with bound := true, sender := m, watcher := BitVec.ofNat 8 (bits w 16 8)
                                     lane := BitVec.ofNat 6 (bits w 24 6) }

/-- Lanes that the card opens, and buckets filled (R130, R235, R377). -/
def openLanes (s : State) (c : Card) : State :=
  let m (l : Nat) : Bool := bit ((sectionWords c 4).getD (l / 32) 0) (l % 32)
  (List.range 64).foldl (fun t l =>
    setLane t l { laneAt t l with state := if l = 0 ∨ m l then .opened else .closed
                                  reg := activeReg t (0x1400 + 16 * l)
                                  tokens := bits (activeReg t (0x1400 + 16 * l)) 16 16 }) s

/-- The highest mode that SFDP reports and MODE_MAX permits (R385); without transitions of NVM_DQS in the reads that follow, the flash is
used in 1-1-1 (R45). NVM_SCK rises when a calibration has ended (R44). -/
def raiseFlash (env : StartEnv) (s : State) (modeMax : Nat) : State :=
  let m := if env.flash8d ∧ 3 ≤ modeMax then 3 else if env.flash888 ∧ 2 ≤ modeMax then 2 else if env.flash144 ∧ 1 ≤ modeMax then 1 else 0
  let s1 := { s with nvm := { s.nvm with mode := m, eraseSuspend := env.eraseSuspend } }
  if m = 3 ∧ env.dqsAbsent then dqsLost s1 else s1

/-- The sections applied (R375 to R378, R385). -/
def applyCard (env : StartEnv) (c : Card) (s : State) : State :=
  let s1 := withCard s c
  let s2 := (channelWords c).foldl bindChannel { s1 with own := { s1.own with cands := candidates c } }
  let s3 := triggerCalibration (openLanes s2 c)
  raiseFlash env s3 (wordAt (sectionOf c 8) 0).toNat

/-! ### The tree, the sleep image and tiers 2 to 4 (R189, R302, R361) -/

/-- Whether this start restores the saved root. -/
def mayRestore (s : State) (moved : Bool) : Bool :=
  s.keys.vaultState == 0 && s.vault.rootValid && (s.vault.rootTest == (s.keys.root == .testRoot)) && !moved

/-- A lane as a sleep image brings it back; its regulator is as the card sets it. -/
def wakeLane (now v : Lane) : Lane := { v with reg := now.reg, tokens := now.tokens, regSeq := 0, throttled := false, hol := false, job := none }

/-- Every lane as a sleep image brings it back. -/
def wakeLanes (s : State) (i : SleepImage) : State :=
  (List.range 64).foldl (fun t l => setLane t l (wakeLane (laneAt t l) (tget (laneReset l) i.lanes l))) s

/-- The receipt unit as a sleep image brings it back: nobody waits, what waited for tiles waits no more, and serials count from this
start (R267, R270). -/
def wakeReceipts (r : Receipts) (now : Nat) : Receipts :=
  let r1 := r.mapCallers (fun _ => nobody)
  { r1 with receipts := r1.receipts.map (fun e => (e.1, { e.2 with tiles := [] }))
            sheets := r1.sheets.map (fun e => (e.1, { e.2 with since := now, callers := [] }))
            opened := 0, signedCount := [], loadSeq := 0, loadStatus := 0, loadReason := 0, loadTensor := 0 }

/-- Pages that still wait for the sweep after a restore: held by a lane and not by an ACTIVE context's current epoch. -/
def unsweptPages (s : State) : Nat :=
  (s.lanes.map (fun e => e.2.held.toNat)).sum
    - (s.ctxs.map (fun e => if e.2.state = .active then e.2.held.toNat else 0)).sum

/-- A context record as a sleep image brings it back: its times count from this start, its passes from the first one after it. -/
def wakeCtx (now : Nat) (v : Ctx) : Ctx :=
  { v with releaseOn := none, closedAt := v.closedAt.map (fun _ => now), ledgerHold := v.ledgerHold.map (fun _ => 1), stuckPasses := 0 }

/-- The tables of a sleep image in place. -/
def wake (s : State) (i : SleepImage) : State :=
  let s1 := { wakeLanes s i with
                     ctxs := i.ctxs.map (fun e => (e.1, wakeCtx s.pace.now e.2)), laneTags := i.laneTags
                     keys := { s.keys with handles := i.handles, uses := i.uses }
                     rcpt := wakeReceipts i.rcpt s.pace.now
                     tiles := { s.tiles with writes := i.writes } }
  let s2 := i.quotas.foldl (fun t x => setBoth t x.1 x.2) s1
  let s3 := { s2 with bg := { s2.bg with pendingPages := BitVec.ofNat 25 (unsweptPages s2) } }
  extendAll s3 (i.miles.map (fun x => (x.1, beOctets 48 x.2.value.toNat ++ beOctets 4 x.2.count.toNat)))

/-- The saved root tried: the sleep image must read through it. -/
def restoreTree (root : Line) (s : State) : State :=
  let s1 := { s with tree := { s.tree with root := root, restored := true }, vault := s.vault.setControl 1 false }
  match s1.sleepImage with
  | some i =>
    let w := { wakeLanes s1 i with ctxs := [] }
    let (o, t) := ownRead (deriveLanes (deriveRealm w)) (sleepBase s1) sleepLines
    match o with
    | .ok _ => wake t i
    | .error _ => faultNotice (newTree { s1 with tree := { s1.tree with restored := false } }) 0x0A none 0 0
  | none => faultNotice (newTree { s1 with tree := { s1.tree with restored := false } }) 0x0A none 0 0

/-- The tree of this start: the saved root's where it is valid and its copies decode, else a new one (R189). -/
def startTree (s : State) (moved : Bool) : State :=
  match mayRestore s moved, s.vault.savedRoot with
  | true, some root => restoreTree root s
  | _, _ => newTree (if s.keys.vaultState = 0 then { s with vault := s.vault.setControl 1 false } else s)

/-! ### Key store and journal (R287, R294, R483) -/

/-- Whether no unit of a region has been written since it was erased. -/
def regionErased (s : State) (r : Region) : Bool := !s.nvm.flash.any (fun e => decide (r.off ≤ 64 * e.1 ∧ 64 * e.1 < r.off + r.len))

/-- The active store region found, with its slots (R287). -/
def findStore (s : State) : Option (Bool × Table StoreSlot) × State :=
  let (a, s1) := flashRead s (nvmRegion s 4).off 20512
  match unsealStore s1 a with
  | some t => (some (false, t), s1)
  | none =>
    let (b, s2) := flashRead s1 (nvmRegion s1 5).off 20512
    ((unsealStore s2 b).map (fun t => (true, t)), s2)

/-- The image of the empty store that the realm's move has committed written to the region that did not hold the last one, with the event
of the keys it destroyed (R294, R307). -/
def commitEmpty (s : State) : State :=
  let (f, s0) := findStore { s with vault := { s.vault with storeGen := s.vault.storeGen - 1 } }
  let active := (f.map Prod.fst).getD false
  let s1 := { s0 with vault := s.vault, keys := { s0.keys with activeRegion := active } }
  let r := inactiveRegion s1
  let s2 := if regionErased s1 r then s1 else flashErase s1 r.off r.len (r.len / 4096)
  let s3 := flashProgram s2 r.off (storeImage s2 s2.vault.storeGen [])
  let s4 := { s3 with keys := { s3.keys with store := [], activeRegion := !active } }
  if (f.map (fun x => x.2.any (fun e => e.2.valid))).getD false then keyEvent s4 (fun k => { k with destroyed := true }) else s4

/-- The key store of this start; under a public root it is empty and stays as it is. -/
def loadStore (s : State) (moved : Bool) : State :=
  if s.keys.root ≠ .bedrock then s
  else
    let (f, s1) := if moved then (none, s) else findStore s
    let s2 := if moved then commitEmpty s1
      else match f with
        | some (a, t) => { s1 with keys := { s1.keys with activeRegion := a, store := t } }
        | none => faultNotice (keyEvent s1 (fun k => { k with storeLost := true })) 0x09 none 0 0
    if regionErased s2 (inactiveRegion s2) then s2
    else nvmEnqueue { s2 with keys := { s2.keys with inactiveErased := false } } (.eraseStore true)

/-- The lanes whose sheet public keys the key area keeps: those not CLOSED, as many as its 64 KiB take after the image and the identity
keys (log 157). -/
def sheetLanes (s : State) : List Nat := ((List.range 64).filter (fun l => (laneAt s l).state != .closed)).take 19

/-- The identity public keys and the sheet public keys computed and written to the key area, behind the image (R276, R279). -/
def writePublics (s : State) : State :=
  let ls := sheetLanes s
  let s1 := (ownWrite (ownRns s 0 (3 + 2 * ls.length, 0)) (keyArea s + 321) (idPublics s)).2
  ls.zipIdx.foldl (fun t x => (ownWrite t (keyArea t + 388 + 33 * x.2) (sheetPublic t x.1 0 ++ sheetPublic t x.1 1)).2) s1

/-- The key area filled: the store's image, and the public keys (R279, R287). -/
def writeKeyArea (s : State) : State := writePublics (fillKeyArea s)

/-- The newest record of the counter journal whose tag verifies, with its place. -/
def newestRecord (s : State) : List Octets → Nat → Option (Nat × Octets)
  | [], _ => none
  | o :: t, i =>
    let rest := newestRecord s t (i + 1)
    let good := decide (wordAt o 0 = 0x4E524A53) && decide (o.drop 48 = journalTag s (o.take 48))
    match rest with
    | some (j, p) => if good ∧ (wordAt p 4).toNat < (wordAt o 4).toNat then some (i, o) else some (j, p)
    | none => if good then some (i, o) else none

/-- The counter journal loaded. -/
def loadJournal (s : State) : State :=
  if s.keys.root ≠ .bedrock then s
  else
    let r := nvmRegion s 8
    let (o, s1) := flashRead s r.off (64 * journalSlots s)
    match newestRecord s1 (chunks 64 o) 0 with
    | none => s1
    | some (i, p) =>
      { s1 with bg := { s1.bg with journalSeq := wordAt p 4, restartsTotal := wordAt p 24, lostTotal := wordAt p 28
                                   uncorrTotal := wordAt p 32, repairsTotal := wordAt p 36
                                   journalSlot := (i + 1) % max 1 (journalSlots s1) } }

/-! ### Steps 7 and 8 -/

/-- Whether a start verifies and raises gates (R384, R451, R454). -/
def gatesRise (s : State) : Bool :=
  (startSources s).isEmpty && !s.lc.stopped && (!s.tamper.mode || (s.tamper.cause == 3 && s.tamper.gateHold))

/-- The gates (R384). -/
def startGates (s : State) : State :=
  if gatesRise s then
    let (l, s1) := verifyGates s.boot.gates s
    let first : W32 := if l.any (fun g => decide (g.result = gateReleased)) then nowWord s1 else 0
    { s1 with boot := { s1.boot with gates := l, firstGate := first } }
  else { s with boot := { s.boot with gates := s.boot.gates.map (fun g => { g with result := gateHalted }) } }

/-- INDEX of a head device, and the binding (R403, R404). -/
def startRelay (s : State) : State :=
  let w := activeReg s 0x6000
  signBinding (if bit w 2 then { s with relay := { s.relay with index := 64 * bits w 6 10, valid := true } } else s)

/-- The octets that milepost 4 takes (R360). -/
def updateDigest (s : State) (code : Nat) : Octets := BitVec.ofNat 8 code :: beOctets 48 (theDir s).bundleMeas.toNat

/-- A fall-back recorded: directory, event, milepost 4 (R392, R394). -/
def fellBack (s : State) (why : Nat) : State :=
  let s1 := requestExtend (bundleEvent s (.fellBack why)) 4 (updateDigest s 0x04)
  changeDir s1 .plain (fun d => { d with update := 0, lastFallback := true, stage := 0 })

/-- Step 2 of a confirmation (R395). -/
def confirmDir (s : State) (w : Option Caller) : State :=
  changeDir s (.confirmed w) (fun d =>
    { d with pair := !d.pair, update := 0, trialBoots := 0, stage := 0, lastFallback := false })

/-- What the start left for later. -/
def runDeferred (s : State) : Deferred → State
  | .nothing => s
  | .settled => changeDir s .plain (fun d => { d with update := 0 })
  | .confirmed => confirmDir s none
  | .fellBack why => fellBack s why

/-- Steps 5 to 8 of cold start with the pair that runs. -/
def finishStart (env : StartEnv) (moved : Bool) (c : Card) (d : Deferred) (s : State) : State :=
  let s1 := applyCard env c s
  let s2 := loadJournal (writeKeyArea (loadStore (startTree s1 moved) moved))
  let s3 := startRelay { s2 with cust := { s2.cust with enabled := true } }
  let s4 := startGates s3
  let halt := if (startSources s4).isEmpty then 0 else 4
  runDeferred (openWindow { s4 with boot := { s4.boot with phase := 6, halt := halt, started := nowWord s4 } }) d

/-- A start that halts (R383). -/
def haltStart (s : State) (halt : Nat) : State := { s with boot := { s.boot with phase := 7, halt := halt } }

/-- COLD_START's effect. -/
def coldStart (env : StartEnv) (s : State) : State :=
  let (moved, s1) := startStep1 env s
  if !lcStarts s1.lc.state then s1
  else if !env.erase4k then haltStart s1 1
  else match readDirectory (count s1 0x7918 256) with
    | (none, s2) => haltStart s2 1
    | (some d, s2) =>
      let (t, later, s3) := selectPair { s2 with boot := { s2.boot with dir := some d } } d
      match t.runs with
      | none => haltStart s3 (haltOf t.fails)
      | some (k, f, c) => finishStart env moved c later (recordPair s3 t k f c)

/-- COLD_START (R26, R381). -/
def execColdStart (env : StartEnv) (bus : Bus) (s : State) : Host.Outcome State Fault Refusal :=
  .next (if s.pins.porstN then s
    else ended { s with pins := { s.pins with porstN := true, vddCore := true } } (coldStart env { s with bus := bus }))

end Sys2Proof.Machine
end

