-- ==== Sys2Proof/Machine/Update.lean ====
section
/-!
DEFINITION. Update bundles (R388 to R390), activation and the warm restart (R391 to R394), confirmation and revert (R395, R396), and the
host read window (R386).
-/

namespace Sys2Proof.Machine

open Sys2Proof

/-! ### Status codes (R399) -/

/-- UPDATE_STATE -/
def stUpdateState : BitVec 8 := 0x50
/-- BUNDLE_FORMAT -/
def stBundleFormat : BitVec 8 := 0x51
/-- STAGING_FULL -/
def stStagingFull : BitVec 8 := 0x52
/-- UPDATE_FALLBACK -/
def stUpdateFallback : BitVec 8 := 0x53
/-- GATE_EXTENT -/
def stGateExtent : BitVec 8 := 0x54
/-- ROLLBACK_LIMIT -/
def stRollbackLimit : BitVec 8 := 0x56
/-- STAGE_ABORTED -/
def stStageAborted : BitVec 8 := 0x57

/-! ### Staging (R389, R390) -/

/-- Octets of a ring block, and of the loader buffer. -/
def blockLen : Nat := 0x10000

/-- Octets of a flash sector, the unit in which staging and activation write (R368, R387). -/
def sectorLen : Nat := 0x1000

/-- The staging ring. -/
def ring (s : State) : Region := nvmRegion s 1

/-- Octets of a header and an item table. -/
def tableLen (o : Octets) : Nat := 64 + 64 * bits (wordAt o 20) 0 8

/-- The key of a staged bundle. -/
def stagingKey (s : State) (start n : W32) : Octets :=
  kdf (keyOctets s.keys.sealingRoot) (ascii "STB7 STAGING") (beOctets 4 start.toNat ++ beOctets 4 n.toNat) 32

/-- The header of an arriving bundle: why it is not staged, or its TOTAL_LENGTH. -/
def arrivingHeader (s : State) (h : Octets) : Except (BitVec 8) Nat :=
  let total := (wordAt h 8).toNat
  let n := bits (wordAt h 20) 0 8
  if h.length ≠ 64 ∨ wordAt h 0 ≠ 0x42505553 ∨ wordAt h 4 ≠ 0x00400001 ∨ 0x1000000 < total ∨ total < tableLen h + sigLen ∨ n = 0 ∨ 18 < n then
    .error stBundleFormat
  else if (ring s).len < total + blockLen then .error stStagingFull
  else .ok total

/-- Whether a bundle may be staged now, by the directory alone. -/
def stageFree (s : State) : Bool :=
  decide ((theDir s).update = 0 ∧ (theDir s).stage ≠ 1) && s.boot.staging.isNone && s.boot.activation.isNone

/-- Whether a bundle of a BUNDLE_SEQ may be staged now. -/
def mayStage (s : State) (seq : W32) : Bool :=
  stageFree s && !decide ((theDir s).stage = 2 ∧ seq.toNat ≤ (theDir s).bundleSeq.toNat)

/-- STAGE becomes RECEIVING: the header has arrived. -/
def stageBegin (s : State) (h : Octets) (total : Nat) (src : Option StageSource) : State :=
  let g : Staging := { buffer := h, done := 0, total := total, source := src, meas := 0, head := h, lastAt := s.pace.now }
  let start := (vaultView s).startCount
  let s1 := { s with boot := { s.boot with staging := some g, keyN := s.boot.keyN + 1, progress := 0 } }
  changeDir s1 .plain (fun d =>
    { d with stage := 1, stageTest := s.keys.root == .testRoot, stageStart := d.ringNext, stageLength := total, keyStart := start
             keyN := s.boot.keyN, bundleSeq := wordAt h 12 })

/-- Whether a sector of staging waits for the flash. -/
def stageQueued (s : State) : Bool := s.nvm.ops.any (fun o => decide (o = .stage))

/-- Whether the loader holds the 64 KiB buffer (R253). -/
def loaderHolds (s : State) : Bool := s.rcpt.load.isSome

/-- A sector asked for once one is full or the bundle is complete, unless the loader holds the buffer (R390). -/
def stageKick (s : State) (g : Staging) : State :=
  let s1 := { s with boot := { s.boot with staging := some g } }
  if !loaderHolds s1 ∧ !stageQueued s1 ∧ (sectorLen ≤ g.buffer.length ∨ g.done + g.buffer.length = g.total) then nvmEnqueue s1 .stage
  else s1

/-- Octets of the bundle that have arrived. -/
def stagePut (s : State) (o : Octets) : State :=
  match s.boot.staging with
  | none => s
  | some g =>
    let o1 := o.take (g.total - (g.done + g.buffer.length))
    stageKick s { g with buffer := g.buffer ++ o1, head := (g.head ++ o1).take 1216, lastAt := s.pace.now }

/-- The next part of an UPDATE_STAGE request's bundle read from memory, while the buffer is staging's. -/
def stageRefill (s : State) : State :=
  match s.boot.staging with
  | none => s
  | some g =>
    match g.source with
    | none => stageKick s g
    | some x =>
      let at0 := g.done + g.buffer.length
      let n := min (blockLen - g.buffer.length) (g.total - at0)
      if loaderHolds s then s
      else if x.ctx ≠ 0 ∧ (ctxAt s x.ctx).epoch ≠ x.epoch then stageEnd s stStaleEpoch
      else match dmaRead s { ctx := x.ctx, addr := x.addr + at0, len := n } with
      | (.ok o, s1) => stagePut s1 o
      | (.error (st, _), s1) => stageEnd s1 st

/-- The whole bundle is in the ring: STAGED. -/
def stageComplete (s : State) (g : Staging) : State :=
  let m := sha384 (g.head.take (tableLen g.head))
  let next := ((theDir s).stageStart + ceilDiv g.total blockLen * blockLen) % (ring s).len
  let s1 := changeDir (ownDigest { s with boot := { s.boot with staging := none } } 0) .plain (fun d =>
    { d with stage := 2, bundleMeas := BitVec.ofNat 384 (ofBe m), ringNext := next })
  let s2 := requestExtend (bundleEvent s1 .staged) 4 (updateDigest s1 0x01)
  let s3 := releaseHeld (raiseBells s2 (channelsWhere s2 (fun c => isActive s2 c && isOwnerChannel s2 c)) bellStage) g.held
  match g.source with
  | some x => finish s3 x.caller stDone [wordAt g.head 12]
  | none => s3

/-- The sector that staging writes next, as a flash offset. -/
def stageBlock (s : State) (g : Staging) : Nat := (ring s).off + ((theDir s).stageStart + g.done) % (ring s).len

/-- Whether staging's job is to be cancelled. -/
def stageCancelled (s : State) (g : Staging) : Bool :=
  match g.source with
  | some x => cancelled s x.caller
  | none => false

/-- The loader takes the buffer at a sector boundary: what is read from memory is read again, and what has come from the relay is kept, so
that no octet is lost (R253, R390; log 158). -/
def stageYields (s : State) (g : Staging) : Staging :=
  if loaderHolds s && g.source.isSome then { g with buffer := [] } else g

/-- A sector of staging has been erased and programmed, or has failed (R390). -/
def stageDone (s : State) (ok : Bool) : State :=
  match s.boot.staging with
  | none => s
  | some g =>
    let off := stageBlock s g
    if !ok then stageEnd (bundleEvent (bundleEvent (flashSpoil s off sectorLen) .nvmError) .aborted) stStageAborted
    else
      let o := g.buffer.take sectorLen
      let c := aesCtr (stagingKey s (theDir s).keyStart (theDir s).keyN) (BitVec.ofNat 128 (g.done / 16)) o
      let s1 := flashProgram (flashErase s off sectorLen 1) off c
      let g1 := stageYields s { g with buffer := g.buffer.drop sectorLen, done := g.done + o.length, lastAt := s.pace.now }
      let s2 := { s1 with boot := { s1.boot with staging := some g1, progress := BitVec.ofNat 32 g1.done } }
      if stageCancelled s2 g1 then stageEnd s2 stAborted
      else if g1.done = g1.total then stageComplete s2 g1
      else if sectorLen ≤ g1.buffer.length then stageKick s2 g1
      else stageRefill s2

/-- Staging that has the loader buffer again: the credits that waited go back, and it goes on (R390). -/
def stageResume (s : State) : State :=
  match s.boot.staging with
  | none => s
  | some g =>
    if loaderHolds s ∨ stageQueued s then s
    else
      let s1 := releaseHeld { s with boot := { s.boot with staging := some { g with held := [] } } } g.held
      if g.source.isSome && g.buffer.isEmpty then stageRefill s1 else stageKick s1 { g with held := [] }

/-- UPDATE_STAGE's job: the header first. -/
def updateStage (d : Desc) (w : Caller) (s : State) : State :=
  match dmaRead s { d with len := min 64 d.len } with
  | (.error (st, _), s1) => finish s1 w st []
  | (.ok h, s1) =>
    match arrivingHeader s1 h with
    | .error st => finish s1 w st []
    | .ok total =>
      if d.len ≠ total then finish s1 w stBadLength []
      else if !mayStage s1 (wordAt h 12) then finish s1 w stUpdateState []
      else stageRefill (stageBegin s1 h total
        (some { caller := w, ctx := d.ctx, epoch := (ctxAt s1 d.ctx).epoch, addr := d.addr }))

/-- UPDATE_STAGE (R389, R398). -/
def execUpdateStage (bus : Bus) (s : State) : Host.Outcome State Fault Refusal :=
  onBus s bus (fun s => service 0x601 s (fun k t =>
    if !fieldsOk k descMasks then reply t k stBadField []
    else match descRefusal t k (descAt k 0) false with
      | (some st, t1) => reply t1 k st []
      | (none, t1) =>
        if !stageFree t1 then reply t1 k stUpdateState []
        else if t1.rcpt.load.isSome then reply t1 k stBusy []
        else ticketed t1 k (updateStage (descAt k 0))))

/-- STAGE_ABORTED (R390): no progress for 16,777,216 paces. -/
def execStageAborted (s : State) : Host.Outcome State Fault Refusal :=
  live s (fun s => match s.boot.staging with
    | some g => if g.lastAt + 16777216 ≤ s.pace.now then stageEnd (bundleEvent s .aborted) stStageAborted else s
    | none => s)

/-! ### The staged bundle (R388) -/

/-- A run of staged octets, decrypted. -/
def stagedOctets (s : State) (off n : Nat) : Octets × State :=
  let d := theDir s
  let a := off / 16 * 16
  let span := off + n - a
  let pos := (d.stageStart + a) % (ring s).len
  let n1 := min span ((ring s).len - pos)
  let (x, s1) := flashRead s ((ring s).off + pos) n1
  let (y, s2) := flashRead s1 (ring s1).off (span - n1)
  ((aesCtr (stagingKey s2 d.keyStart d.keyN) (BitVec.ofNat 128 (a / 16)) (x ++ y)).drop (off - a), s2)

/-- An item of a bundle. -/
structure Item where
  kind : Nat
  gate : Nat
  off : Nat
  len : Nat
  bankOff : Nat
  digest : Octets
deriving DecidableEq, Repr, Inhabited

/-- A bundle's header and item table. -/
structure Bundle where
  total : Nat
  realm : W32
  items : List Item
  head : Octets
deriving DecidableEq, Repr, Inhabited

/-- The staged bundle's header and table read. -/
def readBundle (s : State) : Bundle × State :=
  let (h, s1) := stagedOctets s 0 64
  let (t, s2) := stagedOctets s1 64 (tableLen h - 64)
  let items := (chunks 64 t).map (fun o =>
    { kind := bits (wordAt o 0) 0 8, gate := bits (wordAt o 0) 8 4, off := (wordAt o 4).toNat, len := (wordAt o 8).toNat
      bankOff := (wordAt o 12).toNat, digest := slice o 16 48 })
  ({ total := (wordAt h 8).toNat, realm := wordAt h 16, items := items, head := h ++ t }, s2)

/-- The items of a kind. -/
def itemsOf (b : Bundle) (k : Nat) : List Item := b.items.filter (fun i => decide (i.kind = k))

/-- The bank of a pair's card: true where its gates lie in bank B. -/
def cardBank (s : State) (k : Nat) : Bool :=
  let (off, size) := cardSlot s k
  let h := flashPeek s off 32
  let n := (wordAt h 8).toNat
  match cardHeader h size (bits (wordAt h 4) 0 16) with
  | none => false
  | some c => match readSections 12 (flashPeek s (off + 32) (n - 32 - sigLen)) with
    | none => false
    | some l =>
      let gs := cardGates { c with sections := l }
      !gs.isEmpty && !gs.all (inBankRegion (some (nvmRegion s 2)))

/-- The bank that activation writes gate images into: the one that the confirmed card does not use. -/
def otherBank (s : State) : Region := nvmRegion s (if cardBank s (pairNo (theDir s).pair) then 2 else 3)

/-- Whether the running card has a gate image in a bank; its extents are never written (R386). -/
def bankRuns (s : State) (r : Region) : Bool := s.boot.gates.any (inBankRegion (some r))

/-- The rules of R388 and the fit of each item (R391, step 1). -/
def bundleOk (s : State) (b : Bundle) : Bool :=
  let t := pairNo (!(theDir s).pair)
  let first := b.head.length + sigLen
  let bank := otherBank s
  decide (wordAt b.head 0 = 0x42505553) && decide (wordAt b.head 4 = 0x00400001) && decide (b.total = (theDir s).stageLength)
    && decide (1 ≤ b.items.length ∧ b.items.length ≤ 18) && decide (b.head.length = tableLen b.head)
    && b.items.all (fun i => decide (1 ≤ i.kind ∧ i.kind ≤ 3 ∧ first ≤ i.off ∧ i.off + i.len ≤ b.total))
    && decide ((itemsOf b 1).length ≤ 1 ∧ (itemsOf b 2).length ≤ 1) && ((itemsOf b 3).isEmpty || !(itemsOf b 2).isEmpty)
    && disjoint (b.items.map (fun i => (i.off, i.len)))
    && (itemsOf b 1).all (fun i => decide (i.len ≤ (fwSlot s t).2)) && (itemsOf b 2).all (fun i => decide (i.len ≤ (cardSlot s t).2))
    && (itemsOf b 3).all (fun i => decide (i.bankOff + i.len ≤ bank.len) && !bankRuns s bank)

/-! ### Activation (R391) -/

/-- The sectors of a slot and what each receives. -/
def slotSectors (slot : Nat × Nat) (o : Octets) : List Sector :=
  (List.range (ceilDiv slot.2 4096)).map (fun i => { off := slot.1 + 4096 * i, data := slice o (4096 * i) 4096 })

/-- The sectors of a gate image. -/
def imageSectors (off : Nat) (o : Octets) : List Sector :=
  (chunks 4096 o).zipIdx.map (fun x => { off := off + 4096 * x.2, data := x.1 })

/-- The items read from staging. -/
def readItems : List Item → State → List Octets × State
  | [], s => ([], s)
  | i :: t, s =>
    let (o, s1) := stagedOctets s i.off i.len
    let (l, s2) := readItems t s1
    (o :: l, s2)

/-- What a slot of the trial pair receives: the item of a kind, or a copy of the confirmed pair's image. -/
def slotContents (s : State) (xs : List (Item × Octets)) (kind : Nat) (own : Nat × Nat) : Octets × State :=
  match xs.find? (fun x => decide (x.1.kind = kind)) with
  | some x => (x.2, s)
  | none => flashRead s own.1 own.2

/-- The next sector of activation asked for, unless the loader holds the buffer (R390), or, after the last one, PREPARED. -/
def activateNext (s : State) (a : Activation) : State :=
  let s1 := { s with boot := { s.boot with activation := some a } }
  if a.sectors.isEmpty then
    changeDir { s1 with boot := { s1.boot with activation := some { a with prepared := true } } } .prepared (fun d => { d with update := 1 })
  else if loaderHolds s1 then s1
  else nvmEnqueue s1 .activate

/-- An activation that has the loader buffer again goes on (R390). -/
def activateResume (s : State) : State :=
  match s.boot.activation with
  | some a =>
    if a.prepared ∨ loaderHolds s ∨ s.nvm.ops.any (fun o => decide (o = .activate)) then s else activateNext s a
  | none => s

/-- UPDATE_ACTIVATE's job: step 1, then the first sector. -/
def updateActivate (w : Caller) (s : State) : State :=
  let (b, s1) := readBundle s
  if !bundleOk s1 b then finish s1 w stBundleFormat []
  else
    let c := pairNo (theDir s1).pair
    let t := pairNo (!(theDir s1).pair)
    let (os, s2) := readItems b.items s1
    let xs := b.items.zip os
    let (fw, s3) := slotContents s2 xs 1 (fwSlot s2 c)
    let (card, s4) := slotContents s3 xs 2 (cardSlot s3 c)
    let gs := (xs.filter (fun x => decide (x.1.kind = 3))).flatMap (fun x => imageSectors ((otherBank s4).off + x.1.bankOff) x.2)
    activateNext (ownDigest { s4 with boot := { s4.boot with progress := 0 } } 0)
      { caller := w, sectors := slotSectors (fwSlot s4 t) fw ++ slotSectors (cardSlot s4 t) card ++ gs
        digests := os.map (fun o => BitVec.ofNat 384 (ofBe (sha384 o))), prepared := false }

/-- Activation ended without a warm restart. -/
def activateEnd (s : State) (w : Caller) (st : BitVec 8) : State :=
  finish { s with boot := { s.boot with activation := none } } w st []

/-- The sectors that an image's span touches erased, what lies outside the span kept; the span programmed. -/
def rewriteSpan (s : State) (x : Sector) : State :=
  let n := ceilDiv (x.off % 4096 + x.data.length) 4096
  flashProgram (count s 0x7928 (max 1 n)) x.off x.data

/-- A slot's sector erased whole and programmed, or a gate image's span rewritten. -/
def writeSector (s : State) (x : Sector) : State :=
  if x.off % 4096 = 0 ∧ (x.data.length = 4096 ∨ x.data.isEmpty) then flashProgram (flashErase s x.off 4096 1) x.off x.data
  else rewriteSpan s x

/-- A sector of activation has been written, or has failed (R391). -/
def activateDone (s : State) (ok : Bool) : State :=
  match s.boot.activation with
  | none => s
  | some a =>
    match a.sectors with
    | [] => s
    | x :: rest =>
      if !ok then activateEnd (bundleEvent (flashSpoil s (x.off / 4096 * 4096) 4096) .nvmError) a.caller stNvmError
      else
        let s1 := writeSector s x
        let s2 := { s1 with boot := { s1.boot with progress := s1.boot.progress + BitVec.ofNat 32 x.data.length } }
        if cancelled s2 a.caller then activateEnd s2 a.caller stAborted else activateNext s2 { a with sectors := rest }

/-- UPDATE_ACTIVATE (R391). -/
def execUpdateActivate (bus : Bus) (s : State) : Host.Outcome State Fault Refusal :=
  onBus s bus (fun s => service 0x602 s (fun k t =>
    if (theDir t).update ≠ 0 ∨ (theDir t).stage ≠ 2 then reply t k stUpdateState []
    else if t.rcpt.load.isSome ∨ t.boot.activation.isSome then reply t k stBusy []
    else ticketed t k updateActivate))

/-! ### The warm restart (R392 to R394, R396) -/

/-- Steps 2 to 5 of R392 for the trial pair: the reason of a failure, or the trial's firmware and card. -/
def tryTrialWarm (s : State) (digests : List (BitVec 384)) : Except Nat (Firmware × Card) × State :=
  let (b, s1) := readBundle s
  let (sig, s2) := stagedOctets s1 b.head.length sigLen
  let signers := [otpField s2 otpCardAuth 12]
  let s3 := ownRns s2 0 (blockJobs signers b.head sig)
  if (blockFails signers b.head sig).isSome then (.error 0x01, s3)
  else if b.realm ≠ 0 ∧ b.realm ≠ (vaultView s3).realmId then (.error 0x02, s3)
  else if b.items.map (fun i => BitVec.ofNat 384 (ofBe i.digest)) ≠ digests then (.error 0x03, s3)
  else match tryPair s3 (pairNo (!(theDir s3).pair)) with
    | (.ok x, s4) => (.ok x, s4)
    | (.error e, s4) => (.error e.why, s4)

/-- The firmware that runs recorded; the card's configuration stands until the next cold start. -/
def recordFirmware (s : State) (k : Nat) (f : Firmware) : State :=
  { s with boot := { s.boot with
      pair := decide (k = 1), fwVersion := f.version, fwArb := BitVec.ofNat 8 f.arb, fwMeas := BitVec.ofNat 384 (ofBe f.meas)
      rnsSet := BitVec.ofNat 16 f.rnsSet } }

/-- Whoever waits for a warm restart answered. -/
def restartAnswer (s : State) (r : Restart) (st : BitVec 8) (ws : List W32) : State :=
  match r.caller with
  | some w => finish s w st ws
  | none => s

/-- The confirmed pair loaded and checked; where it fails too the block halts with custody running (R392). -/
def warmFallback (s : State) (r : Restart) (why : Nat) : State :=
  let c := pairNo (theDir s).pair
  match checkFirmware s c with
  | (.error _, s1) => restartAnswer (haltStart s1 2) r stRestarting []
  | (.ok f, s1) =>
    let s2 := (extendNow s1 1 f.meas).2
    match checkServices s2 c f with
    | (false, s3) => restartAnswer (haltStart s3 2) r stRestarting []
    | (true, s3) =>
      let s4 := fellBack (recordFirmware s3 c f) why
      restartAnswer { s4 with boot := { s4.boot with fallback := r.trial, reason := if r.trial then why else 0 } } r stUpdateFallback
        [BitVec.ofNat 32 why]

/-- A calibration that a restart abandons starts again once it ends; a trigger that was held stays held (R109). -/
def calibrateAgain (s : State) : State :=
  if s.pace.running then
    let t := startCalibration s
    { t with pace := { t.pace with calHeld := s.pace.calHeld } }
  else s

/-- The callers that a warm restart keeps: its own, and update staging's (R97). -/
def warmKeeps (s : State) (r : Restart) (w : Caller) : Bool :=
  decide (r.caller = some w) || (match s.boot.staging with
    | some g => match g.source with
      | some x => decide (x.caller = w)
      | none => false
    | none => false)

/-- A warm restart (R392). -/
def warmRestart (s : State) (r : Restart) : State :=
  let digests := (s.boot.activation.map Activation.digests).getD []
  let s0 := restartJobs s (warmKeeps s r)
  let s1 := { s0 with boot := { s0.boot with restart := none, activation := none, confirming := none, warm := true } }
  let s2 := if r.trial then
      match tryTrialWarm s1 digests with
      | (.error why, t) => warmFallback t r why
      | (.ok (f, c), t) =>
        let t1 := recordFirmware t (pairNo (!(theDir t).pair)) f
        let t2 := requestExtend { t1 with boot := { t1.boot with fallback := false, reason := 0 } } 4 (updateDigest t1 0x02)
        restartAnswer (changeDir t2 .plain (fun d => { d with update := 2, trialBoots := 0 })) r stDone [f.version, c.version]
    else warmFallback s1 r r.reason
  calibrateAgain s2

/-- WARM_RESTART (R392). -/
def execWarmRestart (bus : Bus) (s : State) : Host.Outcome State Fault Refusal :=
  onBus s bus (fun s => match s.boot.restart with
    | some r => warmRestart s r
    | none => s)

/-- UPDATE_REVERT (R396). -/
def execUpdateRevert (bus : Bus) (s : State) : Host.Outcome State Fault Refusal :=
  onBus s bus (fun s => service 0x604 s (fun k t =>
    if (theDir t).update ≠ 2 then reply t k stUpdateState []
    else if t.boot.confirming.isSome then reply t k stBusy []
    else ticketed t k (fun w u =>
      { u with boot := { u.boot with restart := some { trial := false, reason := 0x0C, caller := some w } } })))

/-- UPDATE_DISCARD (R396). -/
def execUpdateDiscard (bus : Bus) (s : State) : Host.Outcome State Fault Refusal :=
  onBus s bus (fun s => service 0x605 s (fun k t =>
    if (theDir t).update ≠ 0 then reply t k stUpdateState []
    else if t.boot.activation.isSome then reply t k stBusy []
    else reply (if t.boot.staging.isSome then stageEnd t stStageAborted else changeDir t .plain (fun d => { d with stage := 0 })) k stDone []))

/-! ### Confirmation (R395) -/

/-- The programs that raise a counter from its value to an ARB. -/
def raiseCounter (base value arb : Nat) : List OtpOp :=
  (List.range (arb - value)).map (fun i =>
    { user := .confirm, word := base + (value + i) / 32, bits := BitVec.ofNat 32 (2 ^ ((value + i) % 32)) })

/-- ARB of the trial pair's firmware and card, as their headers stand in flash. -/
def trialArbs (s : State) : Nat × Nat :=
  let t := pairNo (!(theDir s).pair)
  (bits (wordAt (flashPeek s ((fwSlot s t).1 + 12) 4) 0) 0 8, bits (wordAt (flashPeek s ((cardSlot s t).1 + 12) 4) 0) 0 8)

/-- Step 1: the counters raised bit by bit; without a bit to program, step 2 follows. -/
def confirmStep1 (s : State) (w : Caller) : State :=
  let (a, b) := trialArbs s
  let ops := raiseCounter otpFwCounter s.boot.fwOtp.toNat a ++ raiseCounter otpCardCounter s.boot.cardOtp.toNat b
  if 255 < a ∨ 255 < b then finish { s with boot := { s.boot with confirming := none } } w stRollbackLimit []
  else if ops.isEmpty then confirmDir s (some w) else otpEnqueue s ops

/-- Whether a directory change is queued or in progress. -/
def dirWriting (s : State) : Bool := s.nvm.ops.any (fun o => match o with
  | .directory _ _ => true
  | _ => false)

/-- Whether a running confirmation still waits for step 1. -/
def confirmWaits (s : State) : Bool := s.boot.confirming.isSome && !otpWaits s .confirm && !dirWriting s

/-- A confirmation begun once no directory write is in progress. -/
def confirmBegin (s : State) : State :=
  match s.boot.confirming with
  | some w => if confirmWaits s then confirmStep1 s w else s
  | none => s

/-- UPDATE_CONFIRM (R395). -/
def execUpdateConfirm (bus : Bus) (s : State) : Host.Outcome State Fault Refusal :=
  onBus s bus (fun s => service 0x603 s (fun k t =>
    if (theDir t).update ≠ 2 then reply t k stUpdateState []
    else if t.boot.confirming.isSome ∨ t.boot.restart.isSome then reply t k stBusy []
    else ticketed t k (fun w u => confirmBegin { u with boot := { u.boot with confirming := some w } })))

/-- A counter bit has been programmed, or has failed. -/
def confirmProgram (s : State) (ok : Bool) : State :=
  let s1 := { s with boot := { s.boot with fwOtp := BitVec.ofNat 8 (otpCounter s otpFwCounter 8)
                                           cardOtp := BitVec.ofNat 8 (otpCounter s otpCardCounter 8) } }
  match s1.boot.confirming with
  | none => s1
  | some w =>
    if !ok then finish (otpDrop { s1 with boot := { s1.boot with confirming := none } } .confirm) w stFaulted []
    else if otpWaits s1 .confirm then s1 else confirmDir s1 (some w)

/-! ### Directory changes (R370) -/

/-- What follows a directory change. -/
def dirChanged (s : State) : DirUse → State
  | .plain => s
  | .prepared => match s.boot.activation with
    | some a => { s with boot := { s.boot with restart := some { trial := true, reason := 0, caller := some a.caller } } }
    | none => s
  | .confirmed w =>
    let s1 := requestExtend (bundleEvent { s with boot := { s.boot with confirming := none } } .confirmed) 4 (updateDigest s 0x03)
    match w with
    | some c => finish s1 c stDone [field 32 0 8 s1.boot.fwOtp.toNat ||| field 32 8 8 s1.boot.cardOtp.toNat]
    | none => s1

/-- A directory change that failed: the copy written first holds open contents, and what waited for the change ends NVM_ERROR. -/
def dirFailed (s : State) (use : DirUse) : State :=
  let s1 := bundleEvent (flashSpoil s (if firstCopy s then dirOffset true else 0) 4096) .nvmError
  match use with
  | .plain => s1
  | .prepared => match s1.boot.activation with
    | some a => activateEnd { s1 with boot := { s1.boot with dir := some { theDir s1 with update := 0 } } } a.caller stNvmError
    | none => s1
  | .confirmed w =>
    let d := theDir s1
    let s2 := { s1 with boot := { s1.boot with confirming := none, dir := some { d with pair := !d.pair, update := 2 } } }
    match w with
    | some c => finish s2 c stNvmError []
    | none => s2

/-- DIRECTORY_CHANGE (R370). -/
def execDirectoryChange (ok : Bool) (bus : Bus) (s : State) : Host.Outcome State Fault Refusal :=
  onBus s bus (fun s => match s.nvm.ops with
    | .directory d use :: _ => confirmBegin (if ok then dirChanged (writeDir (nvmPop s) d) use else dirFailed (nvmPop s) use)
    | _ => s)

/-! ### The host read window (R386) -/

/-- A gate entry that is released. -/
def releasedGate (s : State) (n : Nat) : Option Gate :=
  s.boot.gates.find? (fun g => decide (g.gate = n ∧ g.result = gateReleased))

/-- NVM_WINDOW_READ (R386, R398). -/
def execNvmWindowRead (bus : Bus) (s : State) : Host.Outcome State Fault Refusal :=
  onBus s bus (fun s => service 0x610 s (fun k t =>
    if !fieldsOk k ([0xF, 0xFFFFFFFF] ++ descMasks) then reply t k stBadField []
    else
      let d := descAt k 2
      match descRefusal t k d true with
      | (some st, t1) => reply t1 k st []
      | (none, t1) => match releasedGate t1 (bits (k.word 0) 0 4) with
        | none => reply t1 k stGateExtent []
        | some g =>
          let off := (k.word 1).toNat
          if g.len - 64 - sigLen < off + d.len then reply t1 k stGateExtent []
          else ticketed t1 k (fun w u =>
            nvmEnqueue u (.window (g.off + 64 + off) d.len d.ctx (ctxAt u d.ctx).epoch d.addr w))))

/-- The octets of a window read copied into memory. -/
def windowDone (s : State) (off len ctx addr : Nat) (w : Caller) (ok : Bool) : State :=
  if !ok then finish (bundleEvent s .nvmError) w stNvmError []
  else
    let (o, s1) := flashRead s off len
    match dmaWrite s1 ctx addr o with
    | (none, s2) => finish s2 w stDone [BitVec.ofNat 32 len]
    | (some (st, n), s2) => finish s2 w st [BitVec.ofNat 32 n]

end Sys2Proof.Machine
end

