-- ==== Sys2Proof/Machine/RelayLink.lean ====
section
/-!
DEFINITION. A relay link: its bring-up with HELLO, KEM and FINISHED (R417 to R419), the re-key (R420), and a link that goes down.
-/

namespace Sys2Proof.Machine

open Sys2Proof

/-! ### When a port works -/

/-- Whether the relay runs: the start has reached its end and no orderly sleep is complete (R301, R383). -/
def relayRuns (s : State) : Bool := decide (s.boot.phase = 6) && !s.keys.asleep

/-- Whether a port is enabled (R432). -/
def portEnabled (s : State) (d : Dir) : Bool :=
  bit (activeReg s 0x6000) (match d with
    | .up => 0
    | .dn => 1)

/-- Whether the device is a head device (R403). -/
def isHead (s : State) : Bool := bit (activeReg s 0x6000) 2

/-- Whether a port brings its link up (R403, R417). -/
def mayBringUp (s : State) (d : Dir) : Bool :=
  relayRuns s && portEnabled s d && (linkOf s d).level && (match d with
    | .up => true
    | .dn => s.relay.valid && decide (positionOf s.relay.index < 63))

/-- Paces of REMOTE_WAIT (R432). -/
def remoteWait (s : State) : Nat := max 1 (bits (activeReg s 0x6004) 0 8) * 4096

/-- Paces of HELLO_RETRY (R432). -/
def helloRetry (s : State) : Nat := max 1 (bits (activeReg s 0x6004) 8 8) * 1024

/-- A LINK frame from this device. -/
def linkFrame (s : State) (typ : Nat) (payload : Octets) : OutFrame :=
  { typ := typ, mode := 0, last := true, src := s.relay.index, dst := 0, payload := payload }

/-! ### A link that goes down (R420) -/

/-- Frames of the other port that were received on this one no longer hold a credit of it. -/
def dropHolds (s : State) (d : Dir) : State :=
  let o := linkOf s (otherPort d)
  setLink s (otherPort d) { o with queue := o.queue.map (fun f => if f.hold = some d then { f with hold := none } else f) }

/-- The device that a wait expects its answer from. -/
def RemoteWait.dst : RemoteWait → Nat
  | .waybill d _ _ => d
  | .keySend d _ => d
  | .peerSend _ d _ _ => d

/-- The caller of a wait. -/
def RemoteWait.caller : RemoteWait → Caller
  | .waybill _ _ w => w
  | .keySend _ w => w
  | .peerSend _ _ _ w => w

/-- RELAY_DOWN: a link that a command needs is not UP (R431). -/
def stRelayDown : BitVec 8 := 0x58

/-- Jobs that needed a link end RELAY_DOWN. -/
def endLinkJobs (s : State) (d : Dir) : State :=
  let mine (w : RemoteWait) : Bool := decide ((positionOf s.relay.index < positionOf w.dst) = (d = .dn))
  let gone := (s.relay.waits.filter (fun x => mine x.2)).map (fun x => x.2.caller)
  let sends := if d = .dn then s.relay.bundles.map BundleJob.caller else []
  let seg := match d, s.relay.segment with
    | .dn, g :: _ => (match g.who with
      | some x => [x.1]
      | none => [])
    | _, _ => []
  let r := { s.relay with
    waits := s.relay.waits.filter (fun x => !mine x.2)
    bundles := if d = .dn then [] else s.relay.bundles
    segment := match d with
      | .dn => if seg.isEmpty then s.relay.segment else s.relay.segment.drop 1
      | .up => s.relay.segment.filter (fun g => g.who.isSome) }
  (gone ++ sends ++ seg).foldl (fun t w => finish t w stRelayDown []) { s with relay := r }

/-- One port's link taken down: its queued frames are discarded and their credits returned. -/
def dropLink (s : State) (d : Dir) : State :=
  let l := linkOf s d
  let holds := l.queue.filterMap OutFrame.hold
  let s1 := setLink s d { level := l.level, cause := l.cause }
  let s2 := if linkStands l then endLinkJobs (relayEvent s1 (fun r => { r with linkLost := true })) d else s1
  holds.foldl releaseFrame (dropHolds s2 d)

/-- A link taken down; with the upstream link goes the INDEX, and with it the downstream link (R403). -/
def linkDown (s : State) (d : Dir) : State :=
  let s1 := dropLink s d
  if d = .up ∧ s1.relay.valid ∧ !isHead s1 then dropLink { s1 with relay := { s1.relay with valid := false, index := 0 } } .dn else s1

/-- A bring-up refused, with its cause (R417, R432). -/
def refuseLink (s : State) (d : Dir) (cause : Nat) : State :=
  let s1 := relayEvent (linkDown s d) (fun r => { r with refused := true })
  setLink s1 d { linkOf s1 d with phase := .refused, cause := cause, refusedAt := some s1.pace.now }

/-! ### HELLO (R417, R418) -/

/-- The HELLO object of this side. -/
def helloObject (s : State) (eph : Octets) (rnd : Octets) : Octets :=
  idPublics s ++ eph ++ rnd ++ beOctets 2 s.relay.index ++ (if s.relay.valid then [1, 0, 0, 0] else [0, 0, 0, 0])
    ++ beOctets 4 s.relay.binding.length ++ s.relay.binding

/-- What a checked HELLO says. -/
structure HelloSays where
  digest : Octets
  relayKey : Octets
  relayEk : Octets
  index : Nat
deriving DecidableEq, Repr

/-- Whether a HELLO object is laid out as R418 says. -/
def helloForm (o : Octets) : Bool :=
  decide (4396 ≤ o.length ∧ o.length ≤ 16384 ∧ o.length = 4396 + ofBe (slice o 4392 4)) && decide ((o.getD 4388 0).toNat ≤ 1)
    && decide (slice o 4389 3 = [0, 0, 0])

/-- The neighbour's HELLO checked (R417, step 3): the cause of a refusal, or what it says. -/
def checkHello (s : State) (d : Dir) (o : Octets) : Except Nat HelloSays :=
  let digest := sha384 (o.take 4257)
  let index := ofBe (slice o 4386 2)
  if !helloForm o ∨ (p384.decode (slice o 4257 97)).isNone then .error 1
  else match openWaybill (o.drop 4396) (o.take 97) (slice o 97 2592) with
    | none => .error 3
    | some c =>
      match claimOctets c 4, claimItems c 5, claimItems c 30 with
      | some ident, some [rid, rep, _, _], some [.bytes p, .bytes ek] =>
        if claimNat c 1 ≠ some 1 ∨ claimNat c 2 ≠ some 2 ∨ ident ≠ digest ∨ (p384.decode p).isNone ∨ !kemKeyOk kem1024 ek then .error 3
        else if rid.nat ≠ some (vaultView s).realmId.toNat ∨ rep.nat ≠ some (vaultView s).realmEpoch.toNat then .error 2
        else if d = .up ∧ ((o.getD 4388 0).toNat = 0 ∨ 63 ≤ positionOf index) then .error 4
        else .ok { digest := digest, relayKey := p, relayEk := ek, index := index }
      | _, _, _ => .error 3

/-- The neighbour's HELLO checked, and KEM sent (R417, steps 3 and 4). -/
def helloArrives (s : State) (d : Dir) (o : Octets) : State :=
  match checkHello s d o with
  | .error cause => refuseLink s d cause
  | .ok y =>
    let (m, s1) := drawOctets (ownRns s 0 (3, 0)) 32
    let (ct, ss) := kemEncaps kem1024 y.relayEk m
    let l := linkOf s1 d
    let l1 : Link := { l with
      phase := .keying, peer := BitVec.ofNat 384 (ofBe y.digest), peerP384 := o.take 97, peerDsa := slice o 97 2592
      peerIndex := y.index, peerHello := o, peerRelay := y.relayKey, kem := ct, kemSs := ss }
    enqueue (setLink s1 d l1) d (linkFrame s1 0x02 ct)

/-- Steps 1 and 2 of the bring-up; a HELLO that the neighbour sent before is checked then. -/
def startBringUp (s : State) (d : Dir) : State :=
  let (e, s1) := drawScalar p384 64 s
  let (r, s2) := drawOctets (ownRns s1 0 (1, 0)) 32
  let h := helloObject s2 (p384.public e) r
  let (n, s3) := nextObject s2
  let l := linkOf s3 d
  let held := if l.peerRelay.isEmpty then l.peerHello else []
  let l1 : Link := { l with
    phase := .hello, eph := e, hello := h, peerHello := [], peerRelay := [], kem := [], kemSs := [], fin := [], nextTx := [], nextRx := []
    refusedAt := none }
  let s4 := (objectFrames (linkFrame s3 0x01 []) n h).foldl (fun t f => enqueue t d f) (setLink s3 d l1)
  if held.isEmpty then s4 else helloArrives s4 d held

/-- A bring-up begun where the port allows it. -/
def bringUp (s : State) (d : Dir) : State :=
  if mayBringUp s d ∧ (linkOf s d).phase = .down then startBringUp s d else s

/-- A link down and, where the port allows it, up again (R412, R430). -/
def relink (s : State) (d : Dir) : State := bringUp (bringUp (linkDown s d) d) .dn

/-! ### Keys (R419) -/

/-- What both ends derive: the upstream end's and the downstream end's directions. -/
structure LinkKeys where
  down : Octets
  up : Octets
  finDown : Octets
  finUp : Octets
deriving DecidableEq, Repr

/-- The session keys and the FINISHED payloads, from the transcript hash and the four secrets. -/
def linkKeys (t secrets : Octets) : LinkKeys :=
  let prk := hmacSha384 t secrets
  let fin (b : Byte) : Octets := hmacSha384 prk (ascii "STB7 LINK FIN" ++ [b] ++ t)
  { down := (hmacSha384 prk (ascii "STB7 LINK DOWN")).take 32, up := (hmacSha384 prk (ascii "STB7 LINK UP")).take 32
    finDown := fin 0, finUp := fin 1 }

/-- The neighbour's KEM (R417, steps 5 and 6): the keys, and FINISHED sent under them. -/
def kemArrives (s : State) (d : Dir) (ct : Octets) : State :=
  let l := linkOf s d
  if l.phase ≠ .hello ∧ l.phase ≠ .keying then s
  else if l.kem.isEmpty ∨ ct.length ≠ 1568 then refuseLink s d 1
  else match p384.dh (relayScalar s) l.peerRelay, p384.dh l.eph (slice l.peerHello 4257 97) with
    | some zss, some zee =>
      let own := kemDecaps kem1024 (relayKemSeed s) ct
      let upper := decide (d = .dn)
      let t := sha384 (if upper then l.hello ++ l.peerHello ++ l.kem ++ ct else l.peerHello ++ l.hello ++ ct ++ l.kem)
      let k := linkKeys t (zss ++ zee ++ (if upper then own ++ l.kemSs else l.kemSs ++ own))
      let l1 : Link := { l with
        eph := 0, kemSs := [], fin := if upper then k.finUp else k.finDown
        nextTx := if upper then k.down else k.up, nextRx := if upper then k.up else k.down }
      enqueue (setLink (ownRns s 0 (3, 0)) d l1) d (linkFrame s 0x03 (if upper then k.finDown else k.finUp))
    | _, _ => refuseLink s d 1

/-- The link is UP (R417, step 7): the receiving key is in force, the INDEX is taken, and the downstream link may follow (R403). -/
def linkUp (s : State) (d : Dir) (seq : Nat) : State :=
  let l := linkOf s d
  let l1 : Link := { l with
    phase := .up, live := false, rxKey := l.nextRx, nextRx := [], rxSeq := seq, finishedAt := s.pace.now, fin := []
    hello := [], peerHello := [], kem := [], freed := 0, reported := 0, freedAt := none }
  let s1 := dropHolds (setLink s d l1) d
  if d = .up ∧ !isHead s1 then
    bringUp { s1 with relay := { s1.relay with index := 64 * segmentOf l.peerIndex + positionOf l.peerIndex + 1, valid := true } } .dn
  else s1

/-- The neighbour's FINISHED checked, once its tag has verified. -/
def finishedArrives (s : State) (d : Dir) (seq : Nat) (p : Octets) : State :=
  let l := linkOf s d
  if l.nextRx.isEmpty then s else if p = l.fin then linkUp s d seq else refuseLink s d 5

/-! ### Re-key (R420) -/

/-- A new key exchange on a live link. -/
def rekeyLink (s : State) (d : Dir) : State := startBringUp (setLink s d { linkOf s d with live := true }) d

/-- This end asks for a re-key: REKEY, then step 1. -/
def askRekeyLink (s : State) (d : Dir) : State := rekeyLink (enqueue s d (linkFrame s 0x05 [])) d

/-! ### The events of a link -/

/-- LINK_RISE (R417). -/
def execLinkRise (d : Dir) (s : State) : Host.Outcome State Fault Refusal :=
  live s (fun s => if (linkOf s d).level then s else pump (bringUp (setLink s d { linkOf s d with level := true }) d))

/-- HELLO_RETRY_EXPIRE (R417). -/
def execHelloRetryExpire (d : Dir) (s : State) : Host.Outcome State Fault Refusal :=
  live s (fun s => match (linkOf s d).refusedAt with
    | some t => if (linkOf s d).phase = .refused ∧ t + helloRetry s ≤ s.pace.now ∧ mayBringUp s d then pump (startBringUp s d) else s
    | none => s)

/-- LINK_REKEY_DUE (R420): 1,073,741,824 paces after FINISHED. -/
def execLinkRekeyDue (d : Dir) (s : State) : Host.Outcome State Fault Refusal :=
  live s (fun s =>
    if (linkOf s d).phase = .up ∧ (linkOf s d).finishedAt + 1073741824 ≤ s.pace.now then pump (askRekeyLink s d) else s)

/-- CREDIT_DUE (R413): 16 paces after a release that no CREDIT frame has reported. -/
def execCreditDue (d : Dir) (s : State) : Host.Outcome State Fault Refusal :=
  live s (fun s =>
    let l := linkOf s d
    match l.freedAt with
    | some t => if t + 16 ≤ s.pace.now ∧ l.reported < l.freed ∧ linkStands l then pump (askCredit s d) else s
    | none => s)

/-- Ports enabled or disabled by a strobe (R420, R432). -/
def relayEnables (s : State) : State :=
  let off (t : State) (d : Dir) : State := if portEnabled t d ∨ (linkOf t d).phase = .down then t else linkDown t d
  pump (bringUp (bringUp (off (off s .up) .dn) .up) .dn)

end Sys2Proof.Machine
end

