-- ==== Sys2Proof/Machine/Relay.lean ====
section
/-!
DEFINITION. What the relay does for its own and for remote requesters: waybills and certificates (R408, R423, R430), the segment job
(R424), bundles and key update messages (R422), and the commands of the family 0x7__ (R430).
-/

namespace Sys2Proof.Machine

open Sys2Proof

/-! ### Status codes (R431) -/

/-- RELAY_UNREACHABLE -/
def stUnreachable : BitVec 8 := 0x59
/-- PEERING_STATE -/
def stPeeringState : BitVec 8 := 0x5A
/-- PEER_REFUSED -/
def stPeerRefused : BitVec 8 := 0x5B
/-- REMOTE_TIMEOUT -/
def stRemoteTimeout : BitVec 8 := 0x5C
/-- SEGMENT_SHORT -/
def stSegmentShort : BitVec 8 := 0x5D
/-- WAYBILL_SIZE -/
def stWaybillSize : BitVec 8 := 0x5E

/-- Octets that a DEVICE waybill and a SEGMENT waybill never exceed (R408). -/
def waybillMax : Nat := 16384
/-- SEGMENT waybill -/
def segmentMax : Nat := 12288

/-! ### Requests with a nonce (R430) -/

/-- The nonce of a request. -/
def callNonce (k : Call) : Octets :=
  ((k.req.payload.drop 5).flatMap (fun w => beOctets 4 w.toNat)).take (bits (k.word 0) 16 8)

/-- Why a request with a nonce is refused for its form: its fields, its NONCE_LEN, its length. -/
def nonceRefusal (k : Call) (mask : W32) : Option (BitVec 8) :=
  let n := bits (k.word 0) 16 8
  if n < 8 ∨ 32 < n then some stBadField
  else if k.len ≠ 5 + ceilDiv n 4 then some stBadLength
  else if !fieldsOk k (mask :: descMasks) then some stBadField
  else none

/-- Octets of a waybill put where its requester asked for them. -/
def deliver (s : State) (w : Caller) (d : JobDesc) (o : Octets) (st : BitVec 8) (ws : List W32) : State :=
  if d.ctx ≠ 0 ∧ (ctxAt s d.ctx).epoch ≠ d.epoch then finish s w stStaleEpoch []
  else if d.len < o.length then finish s w stWaybillSize []
  else match dmaWrite s d.ctx d.addr o with
    | (none, s1) => finish s1 w st (BitVec.ofNat 32 o.length :: ws)
    | (some (e, n), s1) => finish s1 w e [BitVec.ofNat 32 n]

/-- A descriptor kept by a job, with its context's epoch. -/
def jobDesc (s : State) (d : Desc) : JobDesc := { ctx := d.ctx, addr := d.addr, len := d.len, epoch := (ctxAt s d.ctx).epoch }

/-- A waybill signed and counted (R433). -/
def issueWaybill (s : State) (lane : Nat) (claims : Octets) : Option Octets × State :=
  match signWaybill s lane claims with
  | (some o, s1) => (some o, count s1 0x7958 1)
  | (none, s1) => (none, s1)

/-- WAYBILL_GET's job. -/
def waybillJob (k : Call) (w : Caller) (s : State) : State :=
  let sheet := if bit (k.word 0) 8 then some (bits (k.word 0) 0 6) else none
  match issueWaybill s (ctxAt s (descAt k 1).ctx).lane.toNat (deviceClaims s (callNonce k) sheet) with
  | (none, s1) => finish s1 w stFaulted []
  | (some o, s1) => deliver s1 w (jobDesc s1 (descAt k 1)) o stDone (digestWords (BitVec.ofNat 384 (ofBe (sha384 o))))

/-- Waybill jobs that run on the device: those that wait for a remote waybill, and the segment job; a waybill of this device alone is signed
inside its own row (R408; DEDUCED, log 163). -/
def waybillJobs (s : State) : Nat :=
  (s.relay.waits.filter (fun x => match x.2 with
    | .waybill _ _ _ => true
    | _ => false)).length + min 1 s.relay.segment.length

/-- A request for a waybill whose form, output and size have passed; at most 4 waybill jobs run at once (R408). -/
def waybillCall (k : Call) (s : State) (mask : W32) (size : Nat) (go : State → State) : State :=
  match nonceRefusal k mask with
  | some st => reply s k st []
  | none => match descRefusal s k (descAt k 1) true with
    | (some st, s1) => reply s1 k st []
    | (none, s1) =>
      if (descAt k 1).len < size then reply s1 k stWaybillSize [] else if 4 ≤ waybillJobs s1 then reply s1 k stBusy [] else go s1

/-- WAYBILL_GET (R407, R430). -/
def execWaybillGet (bus : Bus) (s : State) : Host.Outcome State Fault Refusal :=
  onBus s bus (fun s => service 0x701 s (fun k t => waybillCall k t 0x00FF013F waybillMax (fun u =>
    let l := bits (k.word 0) 0 6
    if bit (k.word 0) 8 ∧ (l = 0 ∨ (laneAt u l).state = .closed) then reply u k stBadField [] else ticketed u k (waybillJob k))))

/-- Whether a DST is this device's own, or outside its segment. -/
def unreachable (s : State) (dst : Nat) : Bool :=
  s.relay.valid && decide (dst = s.relay.index ∨ segmentOf dst ≠ segmentOf s.relay.index)

/-- Why a DST cannot be sent to: nothing, or the status. -/
def dstRefusal (s : State) (dst : Nat) : Option (BitVec 8) :=
  if unreachable s dst then some stUnreachable else if (routeTo s dst).isNone then some stRelayDown else none

/-- A job that waits for a remote answer, as long as REMOTE_WAIT says now (R88, R430). -/
def addWait (s : State) (w : RemoteWait) : State :=
  { s with relay := { s.relay with waits := s.relay.waits ++ [(s.pace.now + remoteWait s, w)] } }

/-- REMOTE_WAYBILL_GET (R425, R430). -/
def execRemoteWaybillGet (bus : Bus) (s : State) : Host.Outcome State Fault Refusal :=
  onBus s bus (fun s => service 0x703 s (fun k t => waybillCall k t 0x00FFFFFF waybillMax (fun u =>
    let dst := bits (k.word 0) 0 16
    match dstRefusal u dst with
    | some st => reply u k st []
    | none => ticketed u k (fun w v =>
      let n := callNonce k
      sendTo (addWait v (.waybill dst (jobDesc v (descAt k 1)) w)) dst
        [deviceFrame v 0x20 dst (workLane v k) (BitVec.ofNat 8 n.length :: n)]))))

/-- CERT_READ (R280, R430). -/
def execCertRead (bus : Bus) (s : State) : Host.Outcome State Fault Refusal :=
  onBus s bus (fun s => service 0x704 s (fun k t =>
    let d := descAt k 1
    if !fieldsOk k (0x3 :: descMasks) || decide (bits (k.word 0) 0 2 = 3) then reply t k stBadField []
    else match descRefusal t k d true with
      | (some st, t1) => reply t1 k st []
      | (none, t1) => ticketed t1 k (fun w u =>
        let o := certOctets u (bits (k.word 0) 0 2)
        if d.len < o.length then finish u w stBadLength []
        else match dmaWrite (count u 0x7918 o.length) d.ctx d.addr o with
          | (none, u1) => finish u1 w stDone [BitVec.ofNat 32 o.length]
          | (some (st, n), u1) => finish u1 w st [BitVec.ofNat 32 n])))

/-! ### Remote waybills (R423) -/

/-- A nonce as WAYBILL_REQ and SEGMENT_REQ carry it. -/
def payloadNonce (p : Octets) : Option Octets :=
  let n := (p.headD 0).toNat
  if 8 ≤ n ∧ n ≤ 32 ∧ p.length = 1 + n then some (p.drop 1) else none

/-- A WAYBILL_REQ for this device: the waybill goes back as an object; one that finds 4 waybill jobs running is dropped (R408, R423). -/
def remoteWaybill (s : State) (src : Nat) (p : Octets) : State :=
  match payloadNonce p with
  | none => s
  | some n =>
    if 4 ≤ waybillJobs s then s
    else match issueWaybill s 0 (deviceClaims s n none) with
    | (none, s1) => s1
    | (some o, s1) =>
      let (x, s2) := nextObject s1
      sendTo s2 src (objectFrames (deviceFrame s2 0x21 src 0 []) x o)

/-- The oldest wait that passes a test taken out. -/
def takeWait (s : State) (p : RemoteWait → Bool) : Option RemoteWait × State :=
  match s.relay.waits.find? (fun x => p x.2) with
  | none => (none, s)
  | some x => (some x.2, { s with relay := { s.relay with waits := s.relay.waits.erase x } })

/-- A WAYBILL object for this device. -/
def waybillArrives (s : State) (src : Nat) (o : Octets) : State :=
  match takeWait s (fun w => match w with
    | .waybill d _ _ => decide (d = src)
    | _ => false) with
  | (some (.waybill _ d w), s1) => deliver s1 w d o stDone []
  | (_, s1) => s1

/-! ### The segment job (R424) -/

/-- An entry of claim 20. -/
def segmentEntry (index : Nat) (ident digest : Octets) (verdict : Nat) : Octets :=
  cborArray [cborUint index, cborBytes ident, cborBytes digest, cborUint verdict]

mutual

/-- A data item encoded. -/
def cborEncode : Cbor → Octets
  | .uint n => cborHead 0 n
  | .nint n => cborHead 1 n
  | .bytes o => cborHead 2 o.length ++ o
  | .text o => cborHead 3 o.length ++ o
  | .array l => cborHead 4 l.length ++ cborEncodeList l
  | .map l => cborHead 5 l.length ++ cborEncodePairs l
  | .tag n v => cborHead 6 n ++ cborEncode v
  | .simple n => cborHead 7 n

/-- Items one after another. -/
def cborEncodeList : List Cbor → Octets
  | [] => []
  | v :: t => cborEncode v ++ cborEncodeList t

/-- Pairs one after another. -/
def cborEncodePairs : List (Cbor × Cbor) → Octets
  | [] => []
  | (k, v) :: t => cborEncode k ++ cborEncode v ++ cborEncodePairs t

end

/-- SW(p) signed over the entries of p and below, and given to the requester; the job is done. -/
def segmentDone (s : State) (g : SegmentJob) (below : List Octets) (ending : Nat) : State :=
  let own := segmentEntry s.relay.index (identityDigest s) (sha384 g.own) 0
  let n := 1 + below.length
  let s0 := { s with relay := { s.relay with segment := s.relay.segment.drop 1 } }
  match issueWaybill s0 g.lane (segmentClaims s0 g.nonce (own :: below) (cborUint ending)) with
  | (none, s1) => (match g.who with
    | some (w, _) => finish s1 w stFaulted []
    | none => s1)
  | (some sw, s1) => match g.who with
    | some (w, d) =>
      deliver s1 w d sw (if ending = 0 then stDone else stSegmentShort) [field 32 0 7 n ||| field 32 8 3 ending]
    | none =>
      let (x, s2) := nextObject s1
      if linkStands (linkOf s2 .up) then
        (objectFrames (linkFrame s2 0x23 []) x (sw ++ g.own)).foldl (fun t f => enqueue t .up f) s2
      else s2

/-- The first job of the queue begun: SEGMENT_REQ downstream, then W(p); without a link below, the list ends here. -/
def segmentBegin (s : State) : State :=
  match s.relay.segment with
  | [] => s
  | g :: rest =>
    let l := linkOf s .dn
    let up := linkStands l
    let s1 := if up then enqueue s .dn (linkFrame s 0x22 (BitVec.ofNat 8 g.nonce.length :: g.nonce)) else s
    match issueWaybill s1 g.lane (deviceClaims s1 g.nonce none) with
    | (none, s2) =>
      let s3 := { s2 with relay := { s2.relay with segment := rest } }
      (match g.who with
        | some (w, _) => finish s3 w stFaulted []
        | none => s3)
    | (some o, s2) =>
      let g1 := { g with own := o, due := s2.pace.now + g.wait }
      let s3 := { s2 with relay := { s2.relay with segment := g1 :: rest } }
      if up then s3 else segmentDone s3 g1 [] (if portEnabled s3 .dn ∧ l.level then 1 else 0)

/-- Jobs begun until one waits for its answer; at most 3 are queued. -/
def segmentNext : Nat → State → State
  | 0, s => s
  | n + 1, s => match s.relay.segment with
    | g :: _ => if g.own.isEmpty then segmentNext n (segmentBegin s) else s
    | [] => s

/-- A segment job queued: one runs and two wait. -/
def segmentAsk (s : State) (g : SegmentJob) : State :=
  segmentNext 3 { s with relay := { s.relay with segment := s.relay.segment ++ [{ g with wait := remoteWait s }] } }

/-- SEGMENT_WAYBILL_GET (R424, R430). -/
def execSegmentWaybillGet (bus : Bus) (s : State) : Host.Outcome State Fault Refusal :=
  onBus s bus (fun s => service 0x702 s (fun k t => waybillCall k t 0x00FF0000 segmentMax (fun u =>
    if 3 ≤ u.relay.segment.length then reply u k stBusy []
    else ticketed u k (fun w v =>
      pump (segmentAsk v { who := some (w, jobDesc v (descAt k 1)), nonce := callNonce k, lane := workLane v k })))))

/-- SEGMENT_REQ from upstream. -/
def segmentRequest (s : State) (d : Dir) (p : Octets) : State :=
  match d, payloadNonce p with
  | .up, some n => if 3 ≤ s.relay.segment.length then s else segmentAsk s { who := none, nonce := n }
  | _, _ => s

/-- The two waybills that SEGMENT_ANSWER carries: SW(p + 1), then W(p + 1). -/
def splitAnswer (o : Octets) : Octets × Octets :=
  match cborRead (2 * o.length + 2) o with
  | some (_, rest) => (o.take (o.length - rest.length), rest)
  | none => (o, [])

/-- The verdict on W(p + 1) and SW(p + 1) (R424), with the claims of SW(p + 1). -/
def segmentVerdict (l : Link) (nonce sw w : Octets) : Nat × Option Cbor :=
  match openWaybill sw l.peerP384 l.peerDsa, openWaybill w l.peerP384 l.peerDsa with
  | some a, some b =>
    let ident := beOctets 48 l.peer.toNat
    if (claimItems a 20).isNone ∨ (claimNat a 21).isNone then (1, none)
    else if claimOctets a 3 ≠ some nonce ∨ claimOctets b 3 ≠ some nonce then (2, none)
    else if claimOctets a 4 ≠ some ident ∨ claimOctets b 4 ≠ some ident then (3, none)
    else (0, some a)
  | _, _ => (1, none)

/-- SEGMENT_ANSWER from downstream: checked, and SW(p) signed. -/
def segmentAnswer (s : State) (d : Dir) (o : Octets) : State :=
  match d, s.relay.segment with
  | .dn, g :: _ =>
    let l := linkOf s .dn
    let (sw, w) := splitAnswer o
    let s1 := ownRns s 0 (4, 0)
    segmentNext 3 (match segmentVerdict l g.nonce sw w with
      | (_, some c) =>
        segmentDone s1 g (((claimItems c 20).getD []).map cborEncode) ((claimNat c 21).getD 0)
      | (v, none) => segmentDone s1 g [segmentEntry (s1.relay.index + 1) (beOctets 48 l.peer.toNat) (sha384 w) v] 3)
  | _, _ => s

/-- REMOTE_WAIT_EXPIRE (R424, R430): the oldest job whose answer has not come in time ends; a segment list ends NO_ANSWER. -/
def execRemoteWaitExpire (bus : Bus) (s : State) : Host.Outcome State Fault Refusal :=
  onBus s bus (fun s =>
    match s.relay.waits.find? (fun x => decide (x.1 ≤ s.pace.now)) with
    | some x => finish { s with relay := { s.relay with waits := s.relay.waits.erase x } } x.2.caller stRemoteTimeout []
    | none => match s.relay.segment with
      | g :: _ => if !g.own.isEmpty ∧ g.due ≤ s.pace.now then pump (segmentNext 3 (segmentDone s g [] 2)) else s
      | [] => s)

/-! ### Bundles (R422) -/

/-- The next frame of a bundle read and queued, while it holds fewer than two (R414); the job ends with its last frame sent. -/
def bundleFeed : Nat → State → BundleJob → State
  | 0, s, _ => s
  | n + 1, s, b =>
    if cancelled s b.caller then bundleEnd s b stAborted []
    else if b.ctx ≠ 0 ∧ (ctxAt s b.ctx).epoch ≠ b.epoch then bundleEnd s b stStaleEpoch []
    else if b.done = b.total then (if bundleQueued s b.id = 0 then bundleEnd s b stDone [BitVec.ofNat 32 b.total] else s)
    else if 2 ≤ bundleQueued s b.id then s
    else
      let len := min 4088 (b.total - b.done)
      match dmaRead s { ctx := b.ctx, addr := b.addr + b.done, len := len } with
      | (.error (st, _), s1) => bundleEnd s1 b st []
      | (.ok o, s1) =>
        let f : OutFrame := { typ := 0x10, mode := 2, last := decide (b.done + len = b.total), src := s1.relay.index, dst := 0
                              payload := objectPrefix b.object b.done ++ o, bundle := some b.id, lane := (ctxAt s1 b.ctx).lane.toNat }
        let b1 := { b with done := b.done + len }
        let s2 := enqueue s1 .dn f
        bundleFeed n { s2 with relay := { s2.relay with bundles := s2.relay.bundles.map (fun x => if x.id = b.id then b1 else x) } } b1

/-- RELAY_BUNDLE_SEND's job. -/
def bundleSend (d : Desc) (w : Caller) (s : State) : State :=
  match dmaRead s { d with len := min 64 d.len } with
  | (.error (st, _), s1) => finish s1 w st []
  | (.ok h, s1) =>
    if d.len < 64 ∨ (wordAt h 8).toNat ≠ d.len then finish s1 w stBadLength []
    else
      let (x, s2) := nextObject s1
      let b : BundleJob := { id := s2.relay.nextJob, caller := w, ctx := d.ctx, epoch := (ctxAt s2 d.ctx).epoch
                             addr := d.addr, total := d.len, done := 0, object := x }
      pump (bundleFeed 3 { s2 with relay := { s2.relay with nextJob := s2.relay.nextJob + 1, bundles := s2.relay.bundles ++ [b] } } b)

/-- RELAY_BUNDLE_SEND (R422, R430). -/
def execRelayBundleSend (bus : Bus) (s : State) : Host.Outcome State Fault Refusal :=
  onBus s bus (fun s => service 0x710 s (fun k t =>
    if !fieldsOk k descMasks then reply t k stBadField []
    else match descRefusal t k (descAt k 0) false with
      | (some st, t1) => reply t1 k st []
      | (none, t1) =>
        if !isHead t1 then reply t1 k stDenied []
        else if !linkStands (linkOf t1 .dn) then reply t1 k stRelayDown []
        else ticketed t1 k (bundleSend (descAt k 0))))

/-- A part of a relayed bundle consumed: its header decides whether it is staged (R389, R422, R455). -/
def stageRelayed (s : State) (d : Dir) (x : RxObject) (p : Octets) : RxObject × State :=
  if x.next = 0 then
    match arrivingHeader s (p.take 64) with
    | .error _ => (x, s)
    | .ok total =>
      if s.tamper.mode || !mayStage s (wordAt p 12) then (x, s)
      else
        let clear (t : State) (e : Dir) : State :=
          setLink t e { linkOf t e with objects := (linkOf t e).objects.map (fun y => { y with staged := false }) }
        ({ x with staged := true }, stagePut (stageBegin (clear (clear s d) (otherPort d)) (p.take 64) total none) (p.drop 64))
  else if x.staged && (match s.boot.staging with
      | some g => g.source.isNone
      | none => false) then (x, stagePut s p)
  else (x, s)

/-- Whether a BUNDLE frame just taken keeps its credit: its octets stand in staging while the loader holds the buffer (R390). -/
def creditHeld (s : State) (d : Dir) : Bool :=
  loaderHolds s && (match s.boot.staging with
    | some g => g.source.isNone && (linkOf s d).objects.any (fun x => x.staged)
    | none => false)

/-- A BUNDLE frame's credit put with those that wait for staging. -/
def holdCredit (s : State) (d : Dir) : State :=
  match s.boot.staging with
  | some g => { s with boot := { s.boot with staging := some { g with held := g.held ++ [d] } } }
  | none => s

/-! ### Key update messages (R422) -/

/-- KEY_RESULT sent to the device that a message came from. -/
def keyResultTo (s : State) (src : Nat) (st : BitVec 8) : State :=
  sendTo s src [deviceFrame s 0x31 src 0 (BitVec.ofNat 8 st.toNat :: beOctets 4 s.vault.kumCount.toNat)]

/-- A KEY_MSG object for this device, applied as KEY_UPDATE applies a message. -/
def keyMsgArrives (s : State) (src : Nat) (o : Octets) : State :=
  if s.tamper.mode ∨ s.keys.root = .testRoot then keyResultTo s src stLifecycle
  else if kumRuns s then keyResultTo s src stBusy
  else if 9300 < o.length then keyResultTo (kumRefused (count s 0x78C8 1) stKeyFormat) src stKeyFormat
  else match kumApply s o (.relay src) with
    | (.refused st, s1) => keyResultTo s1 src st
    | (.waits, s1) => s1

/-- KEY_RESULT for this device ends the sender's job. -/
def keyResultArrives (s : State) (src : Nat) (p : Octets) : State :=
  match takeWait s (fun w => match w with
    | .keySend d _ => decide (d = src)
    | _ => false) with
  | (some w, s1) =>
    if p.length ≠ 5 then s else finish s1 w.caller stDone [field 32 0 8 (p.headD 0).toNat, BitVec.ofNat 32 (ofBe (p.drop 1))]
  | (none, s1) => s1

/-- RELAY_KEY_SEND (R422, R430). -/
def execRelayKeySend (bus : Bus) (s : State) : Host.Outcome State Fault Refusal :=
  onBus s bus (fun s => service 0x711 s (fun k t =>
    let d := descAt k 1
    let dst := bits (k.word 0) 0 16
    if !fieldsOk k (0xFFFF :: descMasks) then reply t k stBadField []
    else match descRefusal t k d false with
      | (some st, t1) => reply t1 k st []
      | (none, t1) => match dstRefusal t1 dst with
        | some st => reply t1 k st []
        | none => ticketed t1 k (fun w u =>
          if d.len = 0 ∨ 32768 < d.len then finish u w stBadLength []
          else match dmaRead u d with
          | (.error (st, n), u1) => finish u1 w st [BitVec.ofNat 32 n]
          | (.ok o, u1) =>
            let (x, u2) := nextObject u1
            sendTo (addWait u2 (.keySend dst w)) dst (objectFrames (deviceFrame u2 0x30 dst (workLane u2 k) []) x o))))

/-- RELAY_LINK_RESET (R430). -/
def execRelayLinkReset (s : State) : Host.Outcome State Fault Refusal :=
  live s (fun s => service 0x730 s (fun k t =>
    if !fieldsOk k [0x1] then reply t k stBadField []
    else reply (pump (segmentNext 3 (relink t (if bit (k.word 0) 0 then .dn else .up)))) k stDone []))

/-! ### Links that fall (R413, R420) -/

/-- LINK_FALL (R420). -/
def execLinkFall (d : Dir) (s : State) : Host.Outcome State Fault Refusal :=
  live s (fun s =>
    if (linkOf s d).level then pump (segmentNext 3 (linkDown (setLink s d { linkOf s d with level := false }) d)) else s)

/-- CREDIT_TIMEOUT (R413): the link is down until its level falls and rises again (R68). -/
def execCreditTimeout (d : Dir) (s : State) : Host.Outcome State Fault Refusal :=
  live s (fun s => match (linkOf s d).spentAt with
    | some t => if t + 65536 ≤ s.pace.now then pump (segmentNext 3 (linkDown s d)) else s
    | none => s)

/-- A transmit beat that the PHY does not acknowledge in time, from the rise of its REQ (R68). -/
def relayAckTimeout (s : State) (d : Dir) : State :=
  match (linkOf s d).wire with
  | some w => if w.up ∧ w.since + 65536 ≤ clock s then pump (segmentNext 3 (linkDown (violate s (pRelay d) kAckTimeout none) d)) else s
  | none => s

/-- A frame that has gone out whole. -/
def frameSent (s : State) (d : Dir) (w : WireFrame) : State :=
  let s1 := count (setLink s d { linkOf s d with wire := none }) 0x7938 w.out.payload.length
  let s2 := match w.out.bundle with
    | some id => (match s1.relay.bundles.find? (fun b => decide (b.id = id)) with
      | some b => bundleFeed 3 s1 b
      | none => s1)
    | none => s1
  if (linkOf s2 d).phase = .up ∧ 2 ^ 31 ≤ (linkOf s2 d).txSeq then askRekeyLink s2 d else s2

/-- A beat acknowledged (R50): the next beat goes out, once its energy is covered, or the next frame. -/
def beatAcked (s : State) (d : Dir) : State :=
  match (linkOf s d).wire with
  | none => s
  | some w =>
    if !w.up then s
    else if w.left ≤ 1 then pump (frameSent s d w)
    else raiseBeat d (setLink s d { linkOf s d with wire := some { w with left := w.left - 1, up := false } })

/-- RELAY_TX_ACK (R50): without a beat whose REQ is up nothing is acknowledged. -/
def execRelayTxAck (d : Dir) (s : State) : Host.Outcome State Fault Refusal := live s (fun s => beatAcked s d)

end Sys2Proof.Machine
end

