-- ==== Sys2Proof/Machine/RelayRx.lean ====
section
/-!
DEFINITION. What a relay port receives: the checks of R412, objects (R410), routing (R421), and the frames of R410 by TYPE; peerings
(R427 to R429) with their commands.
-/

namespace Sys2Proof.Machine

open Sys2Proof

/-! ### Frames received (R409, R412) -/

/-- A frame's header read. -/
structure RxHead where
  typ : Nat
  mode : Nat
  rsv : Nat
  last : Bool
  len : Nat
  src : Nat
  dst : Nat
  seq : Nat
deriving DecidableEq, Repr

/-- The header of a frame. -/
def rxHead (f : Frame) : RxHead :=
  let b1 := (f.header.getD 1 0).toNat
  { typ := (f.header.getD 0 0).toNat, mode := b1 / 16, rsv := b1 / 2 % 8, last := decide (b1 % 2 = 1), len := ofBe (slice f.header 2 2)
    src := ofBe (slice f.header 4 2), dst := ofBe (slice f.header 6 2), seq := ofBe (slice f.header 8 8) }

/-- The MODE of a TYPE (R410). -/
def typeMode (t : Nat) : Option Nat :=
  if (1 ≤ t ∧ t ≤ 5) ∨ t = 0x22 ∨ t = 0x23 then some 0
  else if t = 0x10 then some 2
  else if t = 0x20 ∨ t = 0x21 ∨ t = 0x30 ∨ t = 0x31 ∨ (0x40 ≤ t ∧ t ≤ 0x43) then some 1
  else none

/-- Checks 1 and 2 of R412. -/
def rxFormOk (h : RxHead) (f : Frame) : Bool :=
  decide (f.header.length = 16 ∧ f.tag.length = 16 ∧ f.payload.length = h.len ∧ h.len ≤ 4096 ∧ typeMode h.typ = some h.mode ∧ h.rsv = 0)
    && (decide (h.mode = 1) || decide (h.dst = 0))

/-- A frame discarded at one of the checks; a credited one leaves the receive buffer (R413). -/
def discardFrame (s : State) (d : Dir) (typ : Nat) : State :=
  let s1 := count s 0x7950 1
  if credited typ ∧ linkStands (linkOf s1 d) then releaseFrame s1 d else s1

/-- Whether check 3 of R412 passes: nothing unprotected on a session that stands and does not re-key; before UP only bring-up frames. -/
def rxTimely (l : Link) (typ : Nat) : Bool :=
  if l.phase == .up then decide (2 < typ) else if l.live then true else decide (typ ≤ 3)

/-- The receiving key and the last SEQ that a frame is checked against: FINISHED comes under the new key (R420). -/
def rxSession (l : Link) (typ : Nat) : Octets × Nat := if typ = 3 ∧ !l.nextRx.isEmpty then (l.nextRx, 0) else (l.rxKey, l.rxSeq)

/-- A failure at check 5; with the sixteenth in 1,048,576 paces the link goes down and up again. -/
def authFails (s : State) (d : Dir) (typ : Nat) : State :=
  let s1 := discardFrame (relayEvent s (fun r => { r with authFail := true })) d typ
  let l := linkOf s1 d
  let fs := s1.pace.now :: l.fails.filter (fun t => decide (s1.pace.now < t + 1048576))
  let s2 := setLink s1 d { l with fails := fs }
  if 16 ≤ fs.length then relink s2 d else s2

/-- Checks 1 to 5 of R412: the payload of a frame that passes. -/
def rxCheck (s : State) (d : Dir) (h : RxHead) (f : Frame) : Option Octets × State :=
  let l := linkOf s d
  if !rxFormOk h f then (none, discardFrame (violate s (pRelay d) kBadField none) d h.typ)
  else if !rxTimely l h.typ then (none, discardFrame (relayEvent s (fun r => { r with stale := true })) d h.typ)
  else if h.typ ≤ 2 then (some f.payload, s)
  else
    let (key, last) := rxSession l h.typ
    if h.seq ≤ last then (none, discardFrame (relayEvent s (fun r => { r with stale := true })) d h.typ)
    else match (if key.isEmpty then none else gcmOpen key (frameIv h.seq) f.header f.payload f.tag) with
      | none => (none, authFails s d h.typ)
      | some p => (some p, if h.typ = 3 ∧ !l.nextRx.isEmpty then s else setLink s d { l with rxSeq := h.seq })

/-! ### Objects (R410, R418) -/

/-- Whether a frame's object is another one's. -/
def sameObject (x : RxObject) (h : RxHead) (object : Nat) : Bool := decide (x.typ = h.typ ∧ x.src = h.src ∧ x.object = object)

/-- A frame of an object: the object once it is complete. `keep` follows what an object that is not reassembled does with a part. -/
def rxObject (s : State) (d : Dir) (h : RxHead) (p : Octets) (keep : State → RxObject → Octets → RxObject × State) :
    Option Octets × State :=
  let object := ofBe (p.take 4)
  let off := ofBe (slice p 4 4)
  let part := p.drop 8
  let l := linkOf s d
  let others := l.objects.filter (fun x => !sameObject x h object)
  let x : Option RxObject := match l.objects.find? (fun x => sameObject x h object) with
    | some x => if x.next = off then some x else none
    | none => if off = 0 ∧ l.objects.length < 4 then some { typ := h.typ, src := h.src, object := object, next := 0, octets := [] } else none
  match x with
  | none => (none, setLink s d { l with objects := others })
  | some x =>
    let (x1, s1) := keep s x part
    let x2 := { x1 with next := x1.next + part.length }
    let l1 := linkOf s1 d
    if p.length < 8 ∨ (h.typ ≠ 0x10 ∧ 32768 < x2.next) then (none, setLink s1 d { l1 with objects := others })
    else if h.last then (some x2.octets, setLink s1 d { l1 with objects := others })
    else (none, setLink s1 d { l1 with objects := others ++ [x2] })

/-- A part kept in reassembly. -/
def keepPart (s : State) (x : RxObject) (p : Octets) : RxObject × State := ({ x with octets := x.octets ++ p }, s)

/-- A whole object given to whoever it is for. -/
def onObject (s : State) (d : Dir) (h : RxHead) (p : Octets) (f : State → Octets → State) : State :=
  match rxObject s d h p keepPart with
  | (some o, s1) => f s1 o
  | (none, s1) => s1

/-- A HELLO frame that does not fit (R418): it ends a bring-up with cause FORMAT. -/
def helloBad (s : State) (d : Dir) : State :=
  let l := linkOf s d
  if l.phase = .hello ∨ l.phase = .keying then refuseLink s d 1 else setLink s d { l with helloObject := none }

/-- A HELLO frame (R418). A HELLO that is complete before this side's own bring-up has begun is kept for it. -/
def helloFrame (h : RxHead) (p : Octets) (s : State) (d : Dir) : State :=
  let l := linkOf s d
  let object := ofBe (p.take 4)
  let x := l.helloObject.getD { typ := 1, src := h.src, object := object, next := 0, octets := [] }
  let o := x.octets ++ p.drop 8
  if p.length < 8 ∨ x.object ≠ object ∨ ofBe (slice p 4 4) ≠ x.next ∨ 16384 < o.length then helloBad s d
  else if !h.last then setLink s d { l with helloObject := some { x with next := o.length, octets := o } }
  else
    let s1 := setLink s d { l with helloObject := none }
    if l.phase = .hello ∨ l.phase = .keying then helloArrives s1 d o
    else setLink s1 d { linkOf s1 d with peerHello := o, peerRelay := [] }

/-! ### Routing (R421) -/

/-- Where a frame goes. -/
inductive Route where
  | consumed
  | forwarded (d : Dir)
  | both
  | unroutable
deriving DecidableEq, Repr

/-- Check 6 of R412. -/
def rxRoute (s : State) (d : Dir) (h : RxHead) : Route :=
  if h.mode = 0 then .consumed
  else if h.mode = 2 then (if d = .up then .both else .unroutable)
  else if !s.relay.valid then .unroutable
  else if h.dst = s.relay.index then .consumed
  else match routeTo s h.dst, d with
    | some .dn, _ => .forwarded .dn
    | some .up, .dn => .forwarded .up
    | _, _ => .unroutable

/-- A frame queued for the other session; its credit is held until it goes out (R414). -/
def forwardFrame (s : State) (d out : Dir) (h : RxHead) (p : Octets) : State :=
  enqueue (count s 0x7948 1) out
    { typ := h.typ, mode := h.mode, last := h.last, src := h.src, dst := h.dst, payload := p, hold := some d }

/-- The credit of a consumed frame given back, at once or when staging has the loader buffer again (R390, R413). -/
def consumed (s : State) (d : Dir) (typ : Nat) : State :=
  if credited typ ∧ linkStands (linkOf s d) then (if typ = 0x10 ∧ creditHeld s d then holdCredit s d else releaseFrame s d) else s

/-- What every received frame ends with: a segment job that may begin, and frames that may go out. -/
def relaySettle (s : State) : State := pump (segmentNext 3 s)

/-- A received frame of a TYPE: checked, routed, and, where it is for this device, given to its consumer. -/
def takeFrame (typ : Nat) (d : Dir) (f : Frame) (s : State) (consumer : RxHead → Octets → State → State) : State :=
    let h := rxHead f
    if h.typ ≠ typ then s
    else match rxCheck s d h f with
      | (none, s1) => relaySettle s1
      | (some p, s1) => relaySettle (match rxRoute s1 d h with
        | .unroutable => discardFrame (relayEvent s1 (fun r => { r with unroutable := true })) d typ
        | .forwarded out => forwardFrame (count s1 0x7940 p.length) d out h p
        | .consumed => consumed (consumer h p (count s1 0x7940 p.length)) d typ
        | .both =>
          let s2 := consumer h p (count s1 0x7940 p.length)
          if linkStands (linkOf s2 .dn) then forwardFrame s2 d .dn h p else consumed s2 d typ)

/-- A frame that its beats alone show to be broken: discarded, logged and counted (R68). -/
def frameBroken (s : State) (d : Dir) (e : FrameFault) : State := count (violate s (pRelay d) (faultKind e) none) 0x7950 1

/-- Whether a port takes frames. -/
def portTakes (s : State) (d : Dir) : Bool := relayRuns s && portEnabled s d && (linkOf s d).level

/-- What every bundle of a port shows: REQ has fallen since the last one (R68). -/
def relayFell (s : State) (d : Dir) : State := reqFell s (pRelay d)

/-- Beats received that bring a frame of a TYPE. -/
def receive (typ : Nat) (d : Dir) (bs : List RelayBeat) (bus : Bus) (s : State) (consumer : RxHead → Octets → State → State) :
    Host.Outcome State Fault Refusal :=
  onBus s bus (fun s =>
    if !portTakes s d then s
    else match frameOf bs with
      | .error e => frameBroken (relayFell s d) d e
      | .ok f => takeFrame typ d f (relayFell s d) consumer)

/-! ### Link frames -/

/-- HELLO (R418). -/
def execHello (d : Dir) (bs : List RelayBeat) (bus : Bus) (s : State) : Host.Outcome State Fault Refusal :=
  receive 0x01 d bs bus s (fun h p t => helloFrame h p t d)

/-- KEM (R417). -/
def execKem (d : Dir) (bs : List RelayBeat) (bus : Bus) (s : State) : Host.Outcome State Fault Refusal :=
  receive 0x02 d bs bus s (fun _ p t => kemArrives t d p)

/-- FINISHED (R417). -/
def execFinished (d : Dir) (bs : List RelayBeat) (bus : Bus) (s : State) : Host.Outcome State Fault Refusal :=
  receive 0x03 d bs bus s (fun h p t => finishedArrives t d h.seq p)

/-- A CREDIT frame's count: the neighbour's released frames, modulo 2^32 (R413). -/
def creditArrives (s : State) (d : Dir) (p : Octets) : State :=
  let l := linkOf s d
  let r := l.released + (ofBe p + 2 ^ 32 - l.released % 2 ^ 32) % 2 ^ 32
  if p.length ≠ 4 ∨ l.sent < r then s
  else setLink s d { l with released := r, spentAt := if r + 8 ≤ l.sent then some s.pace.now else none }

/-- CREDIT (R413). -/
def execCredit (d : Dir) (bs : List RelayBeat) (bus : Bus) (s : State) : Host.Outcome State Fault Refusal :=
  receive 0x04 d bs bus s (fun _ p t => creditArrives t d p)

/-- REKEY (R420). -/
def execRekey (d : Dir) (bs : List RelayBeat) (bus : Bus) (s : State) : Host.Outcome State Fault Refusal :=
  receive 0x05 d bs bus s (fun _ _ t => if (linkOf t d).phase = .up then rekeyLink t d else t)

/-! ### Frames that serve a request -/

/-- BUNDLE (R422). -/
def execBundle (d : Dir) (bs : List RelayBeat) (bus : Bus) (s : State) : Host.Outcome State Fault Refusal :=
  receive 0x10 d bs bus s (fun h p t => (rxObject t d h p (fun u x o => stageRelayed u d x o)).2)

/-- WAYBILL_REQ (R423). -/
def execWaybillReq (d : Dir) (bs : List RelayBeat) (bus : Bus) (s : State) : Host.Outcome State Fault Refusal :=
  receive 0x20 d bs bus s (fun h p t => remoteWaybill t h.src p)

/-- WAYBILL (R423). -/
def execWaybill (d : Dir) (bs : List RelayBeat) (bus : Bus) (s : State) : Host.Outcome State Fault Refusal :=
  receive 0x21 d bs bus s (fun h p t => onObject t d h p (fun u o => waybillArrives u h.src o))

/-- SEGMENT_REQ (R424). -/
def execSegmentReq (d : Dir) (bs : List RelayBeat) (bus : Bus) (s : State) : Host.Outcome State Fault Refusal :=
  receive 0x22 d bs bus s (fun _ p t => segmentRequest t d p)

/-- SEGMENT_ANSWER (R424). -/
def execSegmentAnswer (d : Dir) (bs : List RelayBeat) (bus : Bus) (s : State) : Host.Outcome State Fault Refusal :=
  receive 0x23 d bs bus s (fun h p t => onObject t d h p (fun u o => segmentAnswer u d o))

/-- KEY_MSG (R422). -/
def execKeyMsg (d : Dir) (bs : List RelayBeat) (bus : Bus) (s : State) : Host.Outcome State Fault Refusal :=
  receive 0x30 d bs bus s (fun h p t => onObject t d h p (fun u o => keyMsgArrives u h.src o))

/-- KEY_RESULT (R422). -/
def execKeyResult (d : Dir) (bs : List RelayBeat) (bus : Bus) (s : State) : Host.Outcome State Fault Refusal :=
  receive 0x31 d bs bus s (fun h p t => keyResultArrives t h.src p)

/-! ### Peerings (R427) -/

/-- One end's part of the peering key's context. -/
def peerEnd (index lane ctx keyGen epoch : Nat) : Octets :=
  beOctets 2 index ++ beOctets 1 lane ++ beOctets 2 ctx ++ beOctets 1 keyGen ++ beOctets 3 epoch

/-- A PEER_OPEN's or PEER_CLOSE's payload read. -/
structure PeerSays where
  lane : Nat
  ctx : Nat
  keyGen : Nat
  epoch : Nat
  peerLane : Nat
  peerCtx : Nat
  keyId : Octets
  fields : Octets
  mac : Octets
deriving DecidableEq, Repr

/-- The payload of PEER_OPEN and PEER_CLOSE. -/
def readPeer (o : Octets) : Option PeerSays :=
  if o.length ≠ 34 then none
  else some { lane := ofBe (o.take 1), ctx := ofBe (slice o 1 2), keyGen := ofBe (slice o 3 1), epoch := ofBe (slice o 4 3)
              peerLane := ofBe (slice o 7 1), peerCtx := ofBe (slice o 8 2), keyId := slice o 10 8, fields := o.take 18, mac := o.drop 18 }

/-- Whether a message from a device is for a peering, and its CMAC and KEY_ID hold under its key. -/
def peerMatches (s : State) (label : String) (src : Nat) (y : PeerSays) (p : Peering) : Bool :=
  decide (p.peer = src ∧ p.peerLane = y.lane ∧ p.peerCtx = y.ctx ∧ p.lane = y.peerLane ∧ p.ctx = y.peerCtx)
    && decide (y.keyId = (cmac p.shared (ascii "STB7 KEY ID")).take 8)
    && decide (y.mac = cmac p.shared (ascii label ++ beOctets 2 src ++ beOctets 2 s.relay.index ++ y.fields))

/-- The peering key. -/
def peeringKey (s : State) (p : Peering) (y : PeerSays) : Octets :=
  let own := peerEnd s.relay.index p.lane p.ctx p.keyGen.toNat p.epoch.toNat
  let other := peerEnd p.peer y.lane y.ctx y.keyGen y.epoch
  kdf p.shared (ascii "STB7 PEERING") (if s.relay.index < p.peer then own ++ other else other ++ own) 32

/-- A peering that opens and has heard the other's PEER_OPEN is UP. -/
def peerUp (s : State) (i : Nat) (p : Peering) (y : PeerSays) : State :=
  { s with relay := { s.relay with peerings := tput s.relay.peerings i { p with state := .up, key := peeringKey s p y } } }

/-- The peering that a PEER_OPEN completes. -/
def peerOpening (s : State) (src : Nat) (y : PeerSays) : Option (Nat × Peering) :=
  s.relay.peerings.find? (fun e => e.2.state == .opening && peerMatches s "STB7 OPEN" src y e.2)

/-- A PEER_OPEN frame: it completes a peering, or is kept until this end opens one. -/
def peerOpenArrives (s : State) (src : Nat) (o : Octets) : State :=
  match readPeer o with
  | none => s
  | some y => match peerOpening s src y with
    | some (i, p) => peerUp s i p y
    | none =>
      let others := s.relay.heard.filter (fun h => !(decide (h.src = src) && decide (h.payload.take 18 = y.fields)))
      let all : List HeardOpen := others ++ [{ src := src, payload := o }]
      { s with relay := { s.relay with heard := all.drop (all.length - 64) } }

/-- PEER_OPEN_FRAME (R427). -/
def execPeerOpenFrame (d : Dir) (bs : List RelayBeat) (bus : Bus) (s : State) : Host.Outcome State Fault Refusal :=
  receive 0x40 d bs bus s (fun h p t => peerOpenArrives t h.src p)

/-- A PEER_OPEN heard before, which a new peering completes. -/
def peerHeard (s : State) (i : Nat) (p : Peering) : State :=
  match s.relay.heard.find? (fun h => match readPeer h.payload with
      | some y => peerMatches s "STB7 OPEN" h.src y p
      | none => false) with
  | none => s
  | some h => match readPeer h.payload with
    | some y => peerUp { s with relay := { s.relay with heard := s.relay.heard.erase h } } i p y
    | none => s

/-- A peering's ring (R428): 8 KiB to 1 MiB in whole pages. -/
def ringOk (d : Desc) : Bool := decide (8192 ≤ d.len ∧ d.len ≤ 1048576 ∧ d.len % 4096 = 0 ∧ d.addr % 4096 = 0)

/-- PEER_OPEN's job, with the key that its handle names. -/
def peerOpenWith (k : Call) (w : Caller) (m : Octets) (s : State) : State :=
  let c := bits (k.word 0) 0 14
  let d := descAt k 4
  let v := ctxAt s c
  match firstBelow 64 (fun i => (tfind s.relay.peerings i).isNone) with
  | none => finish s w stPeeringState []
  | some i =>
    let p : Peering := { state := .opening, lane := v.lane.toNat, ctx := c, epoch := v.epoch, keyGen := v.keyGen
                         peer := bits (k.word 1) 0 16, peerLane := bits (k.word 1) 16 6, peerCtx := bits (k.word 2) 0 14
                         shared := m, ringAddr := d.addr, ringLen := d.len }
    let s1 := { s with relay := { s.relay with peerings := tput s.relay.peerings i p } }
    let s2 := sendTo s1 p.peer
      [deviceFrame s1 0x40 p.peer p.lane (peerPayload "STB7 OPEN" s1.relay.index p.peer p.shared (peerFields p))]
    finish (peerHeard s2 i p) w stDone [BitVec.ofNat 32 i]

/-- PEER_OPEN's job: the key is read, and one whose lines cannot be read ends it FAULTED (log 154). -/
def peerOpenJob (k : Call) (h : Handle) (w : Caller) (s : State) : State :=
  withMaterial s h (fun t => finish t w stFaulted []) (peerOpenWith k w)

/-- PEER_OPEN (R427, R430). -/
def execPeerOpen (bus : Bus) (s : State) : Host.Outcome State Fault Refusal :=
  onBus s bus (fun s => service 0x720 s (fun k t =>
    let c := bits (k.word 0) 0 14
    let d := descAt k 4
    let lane := (ctxAt t c).lane.toNat
    if !fieldsOk k ([0x3FFF, 0x003FFFFF, 0x3FFF, 0xFFFFFFFF] ++ descMasks) || decide (c = 0) || decide (d.ctx ≠ c) then reply t k stBadField []
    else match descRefusal t k d true with
      | (some st, t1) => reply t1 k st []
      | (none, t1) => match useHandle t1 k (k.word 3) with
        | .error st => reply t1 k st []
        | .ok (_, h) =>
          if h.kind ≠ 5 ∨ h.typ ≠ 1 then reply t1 k stKeyHandle []
          else if handleStale t1 h then reply t1 k stStaleEpoch []
          else if !ringOk d then reply t1 k stBadLength []
          else match dstRefusal t1 (bits (k.word 1) 0 16) with
            | some st => reply t1 k st []
            | none =>
              if 64 ≤ t1.relay.peerings.length ∨ 16 ≤ tcount t1.relay.peerings (fun _ p => decide (p.lane = lane)) then
                reply t1 k stPeeringState []
              else ticketed t1 k (peerOpenJob k h)))

/-- The peering that a call names, where its lane has it. -/
def callPeering (s : State) (k : Call) : Option (Nat × Peering) :=
  let i := bits (k.word 0) 0 6
  match tfind s.relay.peerings i with
  | some p => if k.owner || decide (p.lane = k.lane) then some (i, p) else none
  | none => none

/-! ### Messages (R428) -/

/-- The IV of a message. -/
def messageIv (src serial : Nat) : Octets := beOctets 2 src ++ [0, 0] ++ beOctets 8 serial

/-- The AAD of a message: octets 4 to 7 of the frame header. -/
def messageAad (src dst : Nat) : Octets := beOctets 2 src ++ beOctets 2 dst

/-- PEER_SEND's job. -/
def peerSendJob (d : Desc) (i : Nat) (p : Peering) (w : Caller) (s : State) : State :=
  match dmaRead s d with
  | (.error (st, n), s1) => finish s1 w st [BitVec.ofNat 32 n]
  | (.ok o, s1) =>
    let n := s1.relay.nextSerial % 2 ^ 64
    let s2 := { s1 with relay := { s1.relay with nextSerial := s1.relay.nextSerial + 1 } }
    let x := gcmSeal p.key (messageIv s2.relay.index n) (messageAad s2.relay.index p.peer) o
    let f : OutFrame := { deviceFrame s2 0x41 p.peer p.lane (beOctets 8 n ++ x.1 ++ x.2) with peering := some i }
    sendTo (addWait s2 (.peerSend i p.peer n w)) p.peer [f]

/-- PEER_SEND (R428, R430). -/
def execPeerSend (bus : Bus) (s : State) : Host.Outcome State Fault Refusal :=
  onBus s bus (fun s => service 0x721 s (fun k t =>
    let d := descAt k 1
    if !fieldsOk k (0x3F :: descMasks) then reply t k stBadField []
    else match descRefusal t k d false with
      | (some st, t1) => reply t1 k st []
      | (none, t1) => match callPeering t1 k with
        | none => reply t1 k stPeeringState []
        | some (i, p) =>
          if p.state ≠ .up then reply t1 k stPeeringState []
          else if d.len = 0 ∨ 4072 < d.len then reply t1 k stBadLength []
          else if (routeTo t1 p.peer).isNone then reply t1 k stRelayDown []
          else ticketed t1 k (peerSendJob d i p)))

/-- PEER_ACK sent. -/
def sendAck (s : State) (dst st serial : Nat) : State :=
  sendTo s dst [deviceFrame s 0x42 dst 0 (BitVec.ofNat 8 st :: beOctets 8 serial)]

/-- An opened message put into its ring: 0, 1 where the ring is full, 2 where the context's memory does not take it. -/
def ringPut (s : State) (i : Nat) (p : Peering) (serial : Nat) (o : Octets) : Nat × State :=
  let slots := p.ringLen / 4096 - 1
  match dmaRead s { ctx := p.ctx, addr := p.ringAddr + 4, len := 4 } with
  | (.error _, s1) => (2, s1)
  | (.ok c, s1) =>
    let used := (p.produced + 2 ^ 32 - (ofLe c) % 2 ^ 32) % 2 ^ 32
    if used = slots then (1, s1)
    else
      let slot := leOctets 4 o.length ++ leOctets 8 serial ++ [0, 0, 0, 0] ++ o
      match dmaWrite s1 p.ctx (p.ringAddr + 4096 * (1 + p.produced % slots)) slot with
      | (some _, s2) => (2, s2)
      | (none, s2) =>
        let n := (p.produced + 1) % 2 ^ 32
        match dmaWrite s2 p.ctx p.ringAddr (leOctets 4 n) with
        | (some _, s3) => (2, s3)
        | (none, s3) =>
          let s4 := { s3 with relay := { s3.relay with peerings := tput s3.relay.peerings i { p with produced := n } } }
          let cs := channelsWhere s4 (fun ch => isActive s4 ch && decide (channelLane s4 ch = some p.lane))
          (0, cs.foldl (fun t ch => queueNotice t ch [BitVec.ofNat 32 i, BitVec.ofNat 32 n]) s4)

/-- The peering whose key opens a message, with what it says. -/
def openMessage (s : State) (src : Nat) (m : Octets) : Option (Nat × Peering × Octets) :=
  let n := ofBe (m.take 8)
  let body := m.drop 8
  let ct := body.take (body.length - 16)
  (s.relay.peerings.filter (fun e => e.2.state == .up && decide (e.2.peer = src))).findSome? (fun e =>
    (gcmOpen e.2.key (messageIv src n) (messageAad src s.relay.index) ct (body.drop (body.length - 16))).map (fun o => (e.1, e.2, o)))

/-- A message for this device. -/
def messageArrives (s : State) (src : Nat) (m : Octets) : State :=
  let n := ofBe (m.take 8)
  if m.length < 25 then s
  else match openMessage s src m with
    | some (i, p, o) => (let x := ringPut s i p n o; sendAck x.2 src x.1 n)
    | none => sendAck s src (if s.relay.peerings.any (fun e => e.2.state == .up && decide (e.2.peer = src)) then 3 else 2) n

/-- PEER_MSG (R428). -/
def execPeerMsg (d : Dir) (bs : List RelayBeat) (bus : Bus) (s : State) : Host.Outcome State Fault Refusal :=
  receive 0x41 d bs bus s (fun h p t => messageArrives t h.src p)

/-- An acknowledgement for this device ends the PEER_SEND of its serial. -/
def ackArrives (s : State) (src : Nat) (p : Octets) : State :=
  let n := ofBe (p.drop 1)
  let st := (p.headD 0).toNat
  if p.length ≠ 9 then s
  else match takeWait s (fun w => match w with
      | .peerSend _ d m _ => decide (d = src ∧ m = n)
      | _ => false) with
    | (some w, s1) => finish s1 w.caller (if st = 0 then stDone else stPeerRefused) [field 32 0 8 st]
    | (none, s1) => s1

/-- PEER_ACK (R428). -/
def execPeerAck (d : Dir) (bs : List RelayBeat) (bus : Bus) (s : State) : Host.Outcome State Fault Refusal :=
  receive 0x42 d bs bus s (fun h p t => ackArrives t h.src p)

/-- A PEER_CLOSE whose CMAC checks marks the peering CLOSED (R429). -/
def closeArrives (s : State) (src : Nat) (o : Octets) : State :=
  match readPeer o with
  | none => s
  | some y => match s.relay.peerings.find? (fun e => e.2.state != .closed && peerMatches s "STB7 CLOSE" src y e.2) with
    | some (i, p) => { s with relay := { s.relay with peerings := tput s.relay.peerings i { p with state := .closed, key := [] } } }
    | none => s

/-- PEER_CLOSE_FRAME (R429). -/
def execPeerCloseFrame (d : Dir) (bs : List RelayBeat) (bus : Bus) (s : State) : Host.Outcome State Fault Refusal :=
  receive 0x43 d bs bus s (fun h p t => closeArrives t h.src p)

/-- PEER_CLOSE (R429, R430). -/
def execPeerClose (bus : Bus) (s : State) : Host.Outcome State Fault Refusal :=
  onBus s bus (fun s => service 0x722 s (fun k t =>
    if !fieldsOk k [0x3F] then reply t k stBadField []
    else match callPeering t k with
      | none => reply t k stPeeringState []
      | some (i, _) => reply (endPeering t i stPeeringState) k stDone []))

/-- A frame that is to be discarded: broken by its beats, or by its header (R412, checks 1 and 2). -/
def frameDiscarded (s : State) (d : Dir) (bs : List RelayBeat) : State :=
  match frameOf bs with
  | .error e => frameBroken (relayFell s d) d e
  | .ok f =>
    let h := rxHead f
    if rxFormOk h f then s else discardFrame (violate (relayFell s d) (pRelay d) kBadField none) d h.typ

/-- RELAY_FRAME_DISCARD (R68, R412). -/
def execRelayFrameDiscard (d : Dir) (beats : List RelayBeat) (s : State) : Host.Outcome State Fault Refusal :=
  live s (fun s => frameDiscarded s d beats)

end Sys2Proof.Machine
end

