-- ==== Sys2Proof/Machine/Storage.lean ====
section
/-!
DEFINITION. What the flash and the OTP macro have completed: the operation in progress, and the job that it belongs to (R46, R387).
-/

namespace Sys2Proof.Machine

open Sys2Proof

/-! ### The flash (R387) -/

/-- A flash operation failed: what it wrote to holds open contents, and NVM_ERROR is recorded (R400). -/
def flashFails (s : State) (off len : Nat) : State := bundleEvent (flashSpoil s off len) .nvmError

/-- `n` open octets. -/
def freeOctets : Nat → State → Octets × State
  | 0, s => ([], s)
  | n + 1, s =>
    let (v, s1) := drawFree s
    let (o, s2) := freeOctets n s1
    (leOctets 8 v.toNat ++ o, s2)

/-- A signer record put in its place in the area that the card names, or taken out (R240): its sector is erased and programmed again. The spec
gives no form of a record; 16 KiB for 256 of them leave 64 octets each, whose sealed contents are free (log 39). -/
def putSigner (s : State) (i : Nat) (d : Option (BitVec 384)) : State :=
  let r := nvmRegion s 6
  let s1 := count (count (spoilUnit s (r.off / 64 + i)) 0x7928 1) 0x7920 4096
  { s1 with nvm := { s1.nvm with signers := match d with
    | some x => tput s1.nvm.signers i { area := r.off, root := s1.keys.sealingRoot, digest := x }
    | none => tdel s1.nvm.signers i } }

/-- MODEL_SIGNER_SET's record written or not (R240, R254). -/
def signerDone (s : State) (i : Nat) (d : Option (BitVec 384)) (w : Caller) (ok : Bool) : State :=
  if ok then finish (putSigner s i d) w stDone []
  else
    let (o, s1) := freeOctets 6 s
    finish (bundleEvent (putSigner s1 i (some (BitVec.ofNat 384 (ofBe o)))) .nvmError) w stNvmError []

/-- CERT_INSTALL's certificate written to its place, whose two sectors are erased first, or not (R280, R360). -/
def certDone (s : State) (sel : Nat) (data : Octets) (w : Caller) (ok : Bool) : State :=
  if ok then
    let s1 := flashProgram (flashErase s (certPlace s sel) 8192 2) (certPlace s sel) data
    finish (requestExtend s1 3 (BitVec.ofNat 8 sel :: sha384 data)) w stDone []
  else finish (flashFails s (certPlace s sel) 8192) w stNvmError []

/-- What a rewrite of the key store owes a device of the relay (R422). -/
def relayOwed (r : Rewrite) (st : BitVec 8) (s : State) : State :=
  match r with
  | .update _ _ _ _ (.relay src) => keyResultTo s src st
  | _ => s

/-- The counter of a key update message that waits for it (R293). -/
def kumStep (s : State) : State :=
  match s.keys.kumDue with
  | none => s
  | some d => if s.tamper.restartDue then s else match d.who with
    | .job _ => kumCounts s d
    | .relay src => keyResultTo (kumCounts s d) src stDone

/-- A store image that could not be written. -/
def storeFails (s : State) : State :=
  match s.keys.rewrites with
  | r :: _ =>
    let g := inactiveRegion s
    relayOwed r stNvmError (rewriteFails (flashFails s g.off g.len) r)
  | [] => s

/-- The old store region erased, or to be erased again. -/
def storeEraseDone (s : State) (ok : Bool) : State :=
  let g := inactiveRegion s
  if ok then storeErased (flashErase s g.off g.len (g.len / 4096)) else nvmEnqueue (flashFails s g.off g.len) (.eraseStore false)

/-- A window read's octets copied, unless its job is to be cancelled. -/
def windowEnds (s : State) (off len ctx : Nat) (epoch : BitVec 24) (addr : Nat) (w : Caller) (ok : Bool) : State :=
  if cancelled s w then finish s w stAborted []
  else if (ctxAt s ctx).epoch ≠ epoch then finish s w stStaleEpoch []
  else windowDone s off len ctx addr w ok

/-- The operation in progress has ended: the job that it belongs to goes on, and the next user proceeds. A directory change and the
commit of a store image have rows of their own. -/
def nvmDone (ok : Bool) (s : State) : State :=
  match s.nvm.ops with
  | [] => s
  | .window off len ctx epoch addr w :: _ => windowEnds (nvmPop s) off len ctx epoch addr w ok
  | .signer lane slot d w :: _ => signerDone (nvmPop s) (4 * lane + slot) d w ok
  | .cert sel data w :: _ => certDone (nvmPop s) sel data w ok
  | .debugStore data w :: _ =>
    if ok then debugStored (nvmPop s) data w
    else finish (flashFails (nvmPop s) debugSectors.1 debugSectors.2) w stNvmError []
  | .debugErase w :: _ =>
    if ok then debugErased (nvmPop s) w else finish (flashFails (nvmPop s) debugSectors.1 debugSectors.2) w stNvmError []
  | .journal off data :: _ => if ok then journalWrite (nvmPop s) off data else flashFails (nvmPop s) off data.length
  | .directory _ _ :: _ => s
  | .store :: _ => if ok then s else storeFails (nvmPop s)
  | .eraseStore _ :: _ => storeEraseDone (nvmPop s) ok
  | .stage :: _ => stageDone (nvmPop s) ok
  | .activate :: _ => activateDone (nvmPop s) ok

/-- Reads in 8D-8D-8D mode in which NVM_DQS made no transition: the flash is used in 1-1-1 from here on (R45). -/
def dqsSeen (dqs : Bool) (s : State) : State := if !dqs && s.nvm.mode == 3 && !s.nvm.ops.isEmpty then dqsLost s else s

/-- NVM_OPERATION_DONE (R45, R387). -/
def execNvmOperationDone (how : FlashEnd) (bus : Bus) (s : State) : Host.Outcome State Fault Refusal :=
  onBus s bus (fun s => nvmDone how.ok (dqsSeen how.dqs s))

/-- Who waits for a rewrite. -/
def Rewrite.caller : Rewrite → Option Caller
  | .update _ _ _ _ (.job w) => some w
  | .update _ _ _ _ (.relay _) => none
  | .destroySlot _ w => some w
  | .destroyLane _ w => some w
  | .laneReleased _ => none

/-- A rewrite cancelled at its commit (R98): the store stays as it was, and the image written is erased. -/
def rewriteAborts (s : State) (w : Caller) : State :=
  nvmEnqueue (finish { s with keys := { s.keys with rewrites := s.keys.rewrites.drop 1, inactiveErased := false } } w stAborted [])
    (.eraseStore true)

/-- The image of the first waiting rewrite stands in flash: its commit point. -/
def storeCommits (s : State) (r : Rewrite) : State :=
  match r.caller with
  | some w => if cancelled s w then rewriteAborts s w else commitStore s r
  | none => relayOwed r stDone (commitStore s r)

/-- KEY_STORE_COMMIT (R288). -/
def execKeyStoreCommit (bus : Bus) (s : State) : Host.Outcome State Fault Refusal :=
  onBus s bus (fun s => match s.nvm.ops, s.keys.rewrites with
    | .store :: _, r :: _ => storeCommits (nvmPop s) r
    | .store :: _, [] => nvmPop s
    | _, _ => s)

/-! ### The OTP macro (R46, R68) -/

/-- The job that an OTP user's programs belong to, where it is to be cancelled (R98). -/
def otpCancelled (s : State) (u : OtpUser) : Option Caller :=
  let w : Option Caller := match u with
    | .transition => s.lc.job.bind Transition.caller
    | .confirm => s.boot.confirming
    | .reenroll => s.keys.enrolling.map Enroll.caller
  match w with
  | some c => if cancelled s c then some c else none
  | none => none

/-- An OTP user's job ended ABORTED; what has been programmed stays. -/
def otpAborts (s : State) (u : OtpUser) (w : Caller) : State :=
  let s1 := otpDrop s u
  finish (match u with
    | .transition => { s1 with lc := { s1.lc with job := none } }
    | .confirm => { s1 with boot := { s1.boot with confirming := none } }
    | .reenroll => { s1 with keys := { s1.keys with enrolling := none } }) w stAborted []

/-- The program in progress has ended: its bits are set or it counts as failed, and the job that it belongs to goes on. -/
def otpDone (s : State) (ok : Bool) : State :=
  match s.otp.queue with
  | [] => s
  | o :: _ =>
    let s1 := otpPop (if ok then otpSet s o.word o.bits else s)
    match otpCancelled s1 o.user, o.user with
    | some w, u => otpAborts s1 u w
    | none, .transition => transitionProgram s1 ok
    | none, .confirm => confirmProgram s1 ok
    | none, .reenroll => match s1.keys.enrolling with
      | some e => if ok then enrollBit e s1 else enrollFails e s1
      | none => s1

/-- OTP_ACK (R46). -/
def execOtpAck (fail : Bool) (bus : Bus) (s : State) : Host.Outcome State Fault Refusal := onBus s bus (fun s => otpDone s (!fail))

/-- OTP_ACK that does not come in 262,144 paces: the program counts as failed (R68). -/
def otpAckTimeout (s : State) : State :=
  if !s.otp.queue.isEmpty ∧ s.otp.since + 262144 ≤ clock s then otpDone (violate s pOtp kAckTimeout none) false else s

end Sys2Proof.Machine
end

