-- ==== Sys2Proof/Machine/Cleanup.lean ====
section
/-!
DEFINITION. Jobs cancelled on command (R98) and by a master reset (R53, R75, R103), and BLOCK_INFO (R98).
-/

namespace Sys2Proof.Machine

open Sys2Proof

/-! ### Cancelling a job (R98, R208, R252, R334) -/

/-- LANE_DRAIN and LANE_RELEASE end at once; the lane's move stands (R208). -/
def cancelLane (w : Caller) (s : State) : State :=
  let mine (v : Lane) : Bool := decide (v.job = some w)
  if s.lanes.any (fun e => mine e.2) then
    finish { s with lanes := s.lanes.map (fun e => if mine e.2 then (e.1, { e.2 with job := none }) else e) } w stAborted []
  else s

/-- VERDICT_FENCE waits for read entries only: it ends at once. -/
def cancelFence (w : Caller) (s : State) : State :=
  if s.tiles.fences.any (fun f => decide (f.caller = w)) then
    finish { s with tiles := { s.tiles with fences := s.tiles.fences.filter (fun f => decide (f.caller ≠ w)) } } w stAborted []
  else s

/-- A page command ends at the page boundary where it stands (R205). -/
def cancelPages (w : Caller) (s : State) : State := endPages s stAborted (fun j => decide (j.caller = w))

/-- MODEL_LOAD ends through REJECTING (R252). -/
def cancelLoad (w : Caller) (s : State) : State :=
  match s.rcpt.load with
  | some l => if l.caller = w then rejectLoad s w { st := stAborted, reason := 0, tensor := 0xFF } l.ctx l.page l.done l.part else s
  | none => s

/-- A receipt or a flush goes on without the job that waits for it. -/
def cancelReceipts (w : Caller) (s : State) : State :=
  let r := s.rcpt
  if r.receipts.any (fun e => decide (e.2.caller = some w)) || r.sheets.any (fun e => e.2.callers.contains w) then
    let r1 : Receipts := { r with
      receipts := r.receipts.map (fun e => if e.2.caller = some w then (e.1, { e.2 with caller := none }) else e)
      sheets := r.sheets.map (fun e => (e.1, { e.2 with callers := e.2.callers.filter (fun c => decide (c ≠ w)) })) }
    finish { s with rcpt := r1 } w stAborted []
  else s

/-- RNS_LANE_ABORT's own job. -/
def cancelAborts (w : Caller) (s : State) : State :=
  if s.rns.aborts.any (fun a => decide (a.caller = w)) then
    finish { s with rns := { s.rns with aborts := s.rns.aborts.filter (fun a => decide (a.caller ≠ w)) } } w stAborted []
  else s

/-- Whether a segment job is one that a caller waits for. -/
def segmentFor (w : Caller) (g : SegmentJob) : Bool := match g.who with
  | some x => decide (x.1 = w)
  | none => false

/-- A job that waits for a remote answer ends at once. -/
def cancelRelay (w : Caller) (s : State) : State :=
  if s.relay.waits.any (fun x => decide (x.2.caller = w)) || s.relay.segment.any (segmentFor w) then
    let r : Relay := { s.relay with waits := s.relay.waits.filter (fun x => decide (x.2.caller ≠ w))
                                    segment := s.relay.segment.filter (fun g => !segmentFor w g) }
    relaySettle (finish { s with relay := r } w stAborted [])
  else s

/-- Flash work that waits its turn is dropped. -/
def cancelFlash (w : Caller) (s : State) : State :=
  let mine (o : NvmOp) : Bool := decide (o.caller = some w)
  if (s.nvm.ops.drop 1).any mine then
    finish { s with nvm := { s.nvm with ops := s.nvm.ops.take 1 ++ (s.nvm.ops.drop 1).filter (fun o => !mine o) } } w stAborted []
  else s

/-- UPDATE_REVERT's warm restart that has not begun is given up. -/
def cancelRevert (w : Caller) (s : State) : State :=
  match s.boot.restart with
  | some r => if !r.trial ∧ r.caller = some w then finish { s with boot := { s.boot with restart := none } } w stAborted [] else s
  | none => s

/-- A job marked for its next commit point. -/
def markCancel (w : Caller) (s : State) : State :=
  match w with
  | .ticket c t => match tfind (chanAt s c).tickets t with
    | some k => if k.status.isNone then setChan s c { chanAt s c with tickets := tput (chanAt s c).tickets t { k with cancel := true } } else s
    | none => s
  | .running _ => s

/-- A job cancelled: it ends ABORTED at its next commit point, at once where it only waits. -/
def cancelJob (s : State) (w : Caller) : State :=
  let s1 := cancelReceipts w (cancelLoad w (cancelFence w (cancelPages w (cancelLane w (cancelSleep w s)))))
  let s2 := digestCancel (rnsCancel (cancelAborts w s1) w) w
  markCancel w (cancelRevert w (cancelFlash w (cancelRelay w s2)))

/-- JOB_CANCEL's effect. -/
def jobCancel (k : Call) (s : State) : State :=
  let t := bits (k.word 0) 0 4
  if !ticketWordOk (k.word 0) false then reply s k stBadField []
  else match tfind (chanAt s k.ch).tickets t with
    | none => reply s k stBadField []
    | some j => reply (if j.status.isSome then s else cancelJob s (.ticket k.ch t)) k stDone []

/-- JOB_CANCEL (R98). -/
def execJobCancel (bus : Bus) (s : State) : Host.Outcome State Fault Refusal := onBus s bus (fun s => service 0x004 s jobCancel)

/-- IDENT (R487). -/
def identWord : W32 := 0x00070001

/-- BLOCK_INFO (R98). -/
def execBlockInfo (s : State) : Host.Outcome State Fault Refusal :=
  live s (fun s => service 0x002 s (fun k t =>
    reply t k stDone [identWord, t.boot.fwVersion, t.boot.cardVersion, ownerWord t, k.req.w1]))

/-! ### A master reset (R53, R75, R103) -/

/-- Whether a caller belongs to a channel. -/
def ofChannel (c : Nat) : Caller → Bool
  | .ticket d _ => decide (d = c)
  | .running d => decide (d = c)

/-- A channel of the master that is reset: what it asked for is aborted, and its results are discarded. The message being composed goes, and
with it DISCARDING, which R103 does not name; OVERRUN and NOTICE_LOST, which it does not name either, stay (DESIGN CHOICE, log 147). -/
def resetChannel (s : State) (c : Nat) : State :=
  let ts := ((chanAt s c).tickets.filter (fun e => e.2.status.isNone)).map Prod.fst
  let s1 := cancelPages (.running c) (ts.foldl (fun t i => cancelJob t (.ticket c i)) s)
  let s1 := { s1 with dig := { s1.dig with opens := s1.dig.opens.filter (fun x => decide (x.1 ≠ c)) } }
  let s2 := mapCallers (fun w => if ofChannel c w then gone else w) s1
  let s3 := { s2 with ctxs := s2.ctxs.map (fun e => if e.2.releaseOn = some c then (e.1, { e.2 with releaseOn := none }) else e) }
  let v := chanAt s3 c
  setChan s3 c { v with
    compose := [], discarding := false, waiting := [], running := none, responses := [], notices := [], tickets := [], latched := 0, mask := 0
    holder := none, lastLane := if isDirect c && !v.pinned then none else v.lastLane }

/-- A channel of which the master that is reset is only the watcher. -/
def resetWatched (s : State) (c : Nat) : State :=
  setChan s c { chanAt s c with responses := [], notices := [], latched := 0, mask := 0 }

/-- Right of way after a master's reset (R75). -/
def resetOwner (s : State) (m : Mid) : State :=
  if isOwner s m then vacate s
  else if s.own.phase == .handover && decide (s.own.successor = m) then
    { s with own := { s.own with phase := .owned, successor := 0, remaining := 0 } }
  else if s.own.phase == .window then { s with own := { s.own with claims := s.own.claims.filter (fun x => decide (x ≠ m)) } }
  else s

/-- The effect of RESET_ASSERTED for a MID. -/
def masterReset (s : State) (m : Mid) : State :=
  let s1 := disarm { s with own := { s.own with inReset := s.own.inReset.filter (fun x => decide (x ≠ m)) ++ [m] } } m
  let s2 := resetOwner s1 m
  let mine (c : Nat) : Bool :=
    if isDirect c then decide (directHolder (chanAt s2 c) = some m) else (chanAt s2 c).bound && decide ((chanAt s2 c).sender = m)
  let watched (c : Nat) : Bool := !isDirect c && (chanAt s2 c).bound && decide ((chanAt s2 c).watcher = m) && !mine c
  (channelsWhere s2 watched).foldl resetWatched ((channelsWhere s2 mine).foldl resetChannel s2)

/-- RESET_ASSERTED (R75, R103). -/
def execResetAsserted (mid : Mid) (s : State) : Host.Outcome State Fault Refusal := live s (fun s => masterReset (reqFell s pMasterEvent) mid)

end Sys2Proof.Machine
end

