-- ==== Sys2Proof/Machine/RegRead.lean ====
section
/-!
DEFINITION. What every register of the window reads as (R486 to R503), and the latching reads (R107, R160, R366, R489).
-/

namespace Sys2Proof.Machine

open Sys2Proof

/-! ### Global registers (R63, R64, R78, R88, R89, R490) -/

/-- Word w of an entry of `VIOLATION_LOG`. -/
def vWord (e : VEntry) (w : Nat) : W32 :=
  if w = 0 then field 32 0 8 e.port.toNat ||| field 32 8 8 e.kind.toNat ||| field 32 16 8 e.mid.toNat ||| flag 32 24 e.midv
    ||| field 32 25 7 e.rep.toNat
  else e.pace

/-- `VIOLATION_STATUS`. -/
def violationStatus (s : State) : W32 :=
  field 32 0 8 s.vlog.seq.toNat ||| field 32 8 5 s.vlog.head.toNat ||| flag 32 13 s.vlog.wrapped ||| field 32 16 16 s.vlog.total.toNat

/-- `OWNER_TIMER`. -/
def ownerTimer (s : State) : W32 :=
  let lead : Option (Mid × Nat) := if s.own.phase = .window then bestClaim s else none
  field 32 0 14 s.own.remaining.toNat ||| field 32 16 8 ((lead.map (fun c => c.1.toNat)).getD 0) ||| flag 32 24 lead.isSome
    ||| field 32 25 3 ((lead.map Prod.snd).getD 0)

/-- `UPDATE_STATUS`. -/
def updateStatus (s : State) : W32 :=
  field 32 0 8 s.cfg.genTaken.toNat ||| field 32 8 8 s.cfg.genApplied.toNat ||| flag 32 16 s.cfg.strobeHeld
    ||| flag 32 17 (!(dirtyOffsets s).isEmpty) ||| field 32 24 8 s.cfg.refused.toNat

/-- `SNAPSHOT`. -/
def snapshotWord (s : State) : W32 := field 32 8 8 s.cfg.snapSeq.toNat ||| flag 32 16 s.cfg.takeHeld

/-- Word w of `DB_SUMMARY`. -/
def dbSummary (s : State) (w : Nat) : W32 :=
  (List.range 32).foldl (fun a i => a ||| flag 32 i (dbLine s (32 * w + i))) 0

/-- Registers below 0x0400. -/
def regGlobal (s : State) (off : Nat) : W32 :=
  if off = 0x0000 then identWord
  else if off = 0x0010 then ownerWord s
  else if off = 0x001C then ownerTimer s
  else if off = 0x0024 then snapshotWord s
  else if off = 0x0028 then updateStatus s
  else if off = 0x0030 then violationStatus s
  else if 0x0040 ≤ off ∧ off < 0x0050 then dbSummary s ((off - 0x0040) / 4)
  else if 0x0100 ≤ off ∧ off < 0x0200 then vWord (vEntry s.vlog ((off - 0x0100) / 8)) ((off / 4) % 2)
  else if 0x0204 ≤ off ∧ off < 0x0300 then shadowReg s off
  else 0

/-! ### Paces and power (R113, R122, R491) -/

/-- `PACE_STATUS`. -/
def paceStatus (s : State) : W32 :=
  field 32 0 8 s.pace.seq.toNat ||| flag 32 8 s.pace.calibrated ||| flag 32 9 s.pace.running ||| flag 32 10 s.pace.stepPending
    ||| flag 32 11 s.pace.discarded ||| flag 32 12 s.pace.tempoAbsent ||| field 32 16 16 s.pace.calCount.toNat

/-- `POWER_EVENTS`. -/
def powerEvents (s : State) : W32 :=
  field 32 0 8 s.power.seq.toNat ||| flag 32 8 s.power.capLowered ||| flag 32 9 s.power.throttled ||| flag 32 10 s.power.floorShort

/-- Registers 0x0400 to 0x07FF. -/
def regPace (s : State) (off : Nat) : W32 :=
  if off = 0x0400 then nowWord s
  else if off = 0x0404 then BitVec.ofNat 32 (s.pace.now / 2 ^ 32)
  else if off = 0x0408 then paceStatus s
  else if off = 0x040C then field 32 0 12 s.pace.periods.toNat ||| field 32 16 16 s.pace.rawPace.toNat
  else if off = 0x0410 then s.pace.calAt
  else if off = 0x0418 then fixedReg s off
  else if off = 0x0420 then field 32 0 10 s.pace.vddMv.toNat ||| field 32 20 9 s.pace.tj.toNat
  else if off = 0x0440 then shadowReg s off
  else if off = 0x0444 then field 32 0 10 s.power.effective.toNat ||| field 32 10 10 s.power.granted.toNat
    ||| field 32 20 8 s.power.cap.toNat
  else if off = 0x0448 then field 32 0 10 s.power.standing.toNat ||| field 32 10 10 s.power.custody.toNat
    ||| field 32 20 10 s.power.pool.toNat
  else if off = 0x044C then powerEvents s
  else 0

/-! ### Faults and background work (R476, R484, R492) -/

/-- `FAULT_STATUS`. -/
def faultStatus (s : State) : W32 :=
  field 32 0 8 s.flt.seq.toNat ||| flag 32 8 s.flt.restart ||| flag 32 9 s.flt.storm ||| flag 32 10 s.flt.overflow
    ||| flag 32 11 s.flt.spareUsed ||| field 32 16 16 s.flt.restarts.toNat

/-- `SRAM_HEALTH` of one SRAM. -/
def healthWord (h : SramHealth) : W32 :=
  field 32 0 16 h.corrected.toNat ||| field 32 16 4 h.spares.toNat ||| field 32 24 8 h.uncorrectable.toNat

/-- Word w of an exception record. -/
def excWord (e : Exc) (w : Nat) : W32 := if w = 0 then e.w0 else if w = 1 then e.w1 else if w = 2 then e.w2 else e.w3

/-- Whether a journal record or erase is being written. -/
def journalBusy (s : State) : Bool := match s.nvm.ops with
  | .journal _ _ :: _ => true
  | _ => false

/-- `BG_STATUS`; a scrub's page and an internal scrub's pass are each one step. -/
def bgStatus (s : State) : W32 := flag 32 2 s.bg.sweepActive ||| flag 32 3 (journalBusy s) ||| field 32 16 16 s.bg.scrubPass.toNat

/-- Registers 0x0800 to 0x0BFF. -/
def regFault (s : State) (off : Nat) : W32 :=
  if off = 0x0800 then faultStatus s
  else if off = 0x0804 then field 32 0 4 s.flt.lastSram.toNat ||| field 32 8 11 s.flt.lastHold.toNat ||| flag 32 19 s.flt.reloaded
    ||| field 32 20 12 s.flt.lostPages.toNat
  else if off = 0x0808 then s.flt.lastPace
  else if off = 0x080C then field 32 0 9 s.flt.queue.length ||| field 32 9 4 s.flt.logHead.toNat ||| field 32 16 16 s.flt.excOverflow.toNat
  else if 0x0820 ≤ off ∧ off < 0x0844 then healthWord (tget {} s.flt.health ((off - 0x0820) / 4))
  else if off = 0x0850 then field 32 0 8 s.flt.voteSeq.toNat ||| field 32 8 6 s.flt.voteGroups.toNat
  else if off = 0x0860 ∨ off = 0x0870 ∨ off = 0x087C then shadowReg s off
  else if off = 0x0874 then bgStatus s
  else if off = 0x0878 then field 32 0 25 s.bg.scrubCursor.toNat ||| flag 32 31 (s.cust.enabled && decide (bits (activeReg s 0x0870) 0 12 ≠ 0))
  else if off = 0x0880 then s.bg.journalSeq
  else if off = 0x0884 then s.bg.restartsTotal
  else if off = 0x0888 then s.bg.lostTotal
  else if off = 0x088C then s.bg.uncorrTotal
  else if 0x0900 ≤ off ∧ off < 0x0A00 then excWord (tget ⟨0, 0, 0, 0⟩ s.flt.log ((off - 0x0900) / 16)) ((off / 4) % 4)
  else 0

/-! ### Life cycle and tamper (R459, R493) -/

/-- Registers 0x0C00 to 0x0FFF. -/
def regLife (s : State) (off : Nat) : W32 :=
  if off = 0x0C00 then lcStatus s
  else if off = 0x0C04 then flag 32 0 s.lc.inForce ||| flag 32 1 s.lc.stored ||| flag 32 2 s.lc.installed ||| field 32 4 4 s.lc.rights.toNat
  else if off = 0x0C08 then field 32 0 8 s.tamper.seq.toNat ||| flag 32 8 s.tamper.event ||| flag 32 9 s.tamper.mode
    ||| field 32 10 2 s.tamper.cause.toNat ||| flag 32 12 s.pins.tamperOut ||| field 32 16 4 (vaultView s).logHead.toNat
  else if off = 0x0C0C then field 32 0 8 (s.tamper.inputs &&& s.tamper.arm).toNat ||| flag 32 8 s.tamper.zeroize ||| flag 32 9 s.tamper.glitch
    ||| flag 32 10 s.tamper.vaultUv ||| flag 32 11 s.tamper.temp
  else if off = 0x0C10 then field 32 0 8 s.tamper.arm.toNat ||| flag 32 8 s.tamper.gateHold ||| flag 32 9 s.tamper.sensors
  else if off = 0x0C14 then (vaultView s).tamperCount
  else 0

/-! ### Custody (R156, R158 to R160, R195 to R198, R235, R274, R494) -/

/-- `LANE_STATE` of a lane. -/
def laneStateWord (s : State) (l : Nat) : W32 :=
  field 32 0 3 (laneStateCode (laneAt s l).state) ||| field 32 4 13 (sat 8191 (laneOutstanding s l)) ||| field 32 17 14 (laneContexts s l)

/-- TOKENS of a lane: BURST while it is not regulated (R230). -/
def tokensNow (s : State) (l : Nat) : Int := if regulated s l then (laneAt s l).tokens else (bits (laneAt s l).reg 16 16 : Nat)

/-- The regulator's registers of a lane, by word. -/
def regulatorWord (s : State) (l w : Nat) : W32 :=
  let v := laneAt s l
  if w = 0 then shadowReg s (0x1400 + 16 * l)
  else if w = 1 then (BitVec.ofInt 17 (tokensNow s l)).zeroExtend 32
  else if w = 2 then field 32 0 8 v.regSeq.toNat ||| flag 32 8 v.throttled ||| flag 32 9 v.hol ||| field 32 16 11 (laneWaiting s l none)
  else 0

/-- `TREE_STATUS`. -/
def treeStatus (s : State) : W32 :=
  field 32 0 8 s.tree.seq.toNat ||| flag 32 8 s.tree.restored ||| field 32 9 2 (if winMax s = 0 then 0 else treeDepth s)
    ||| flag 32 11 s.tree.rootFixed ||| flag 32 12 s.tree.newTree ||| field 32 16 11 (dirtyLines s)

/-- The context that `CTX_SELECT` chooses. -/
def selectedCtx (s : State) : Nat := bits (plainReg s 0x1A00) 0 14

/-- `LOADER_STATUS`; a load that stands between steps is in CLAIMING, where it waits for tile write entries (R247). -/
def loaderStatus (s : State) : W32 := match s.rcpt.load with
  | some l => 5 ||| field 32 4 7 l.part ||| field 32 16 15 l.done
  | none => 0

/-- `SHEET_STATE` of a lane. -/
def sheetWord (s : State) (l : Nat) : W32 :=
  if l = 0 then 0
  else
    let st (i : Nat) : SheetState := (sheetAt s l i).state
    let fill : Option Sheet := (sheetIn s l .filling).map (sheetAt s l)
    field 32 0 9 ((fill.map Sheet.count).getD 0) ||| field 32 9 3 ((List.range 5).filter (fun i => st i == .signed)).length
      ||| flag 32 12 ((List.range 5).any (fun i => st i == .signing))
      ||| flag 32 13 (s.rcpt.receipts.any (fun e => decide (e.2.lane = l) && e.2.state == .entering))
      ||| field 32 16 11 (sat 1024 ((fill.map (fun v => (clock s - v.since) / 1024)).getD 0))

/-- Registers 0x1000 to 0x10FF. -/
def regCustody (s : State) (off : Nat) : W32 :=
  if off = 0x1008 ∨ off = 0x103C ∨ off = 0x1044 then shadowReg s off
  else if off = 0x1014 then field 32 0 8 s.cfg.layoutSeq.toNat ||| flag 32 8 s.cfg.layoutRefused ||| field 32 16 8 s.cfg.layoutReason.toNat
  else if off = 0x1020 then treeStatus s
  else if off = 0x1024 then field 32 0 5 s.tree.rekeys.length ||| flag 32 5 (s.cust.reqs.any (fun r => r.stage == .rekey))
  else if off = 0x1030 then field 32 0 25 s.bg.cursor.toNat ||| flag 32 31 s.bg.sweepActive
  else if off = 0x1034 then field 32 0 8 s.bg.seq.toNat ||| flag 32 8 s.bg.faults ||| field 32 16 16 s.bg.passes
  else if off = 0x1038 then field 32 0 25 s.bg.pendingPages.toNat
  else if off = 0x1040 then field 32 0 10 s.tiles.reads.length ||| field 32 16 9 s.tiles.writes.length
    ||| flag 32 25 (s.cust.reqs.any (fun r => r.stage == .tile))
  else if off ∈ [0x1000, 0x1004, 0x100C, 0x1010, 0x1018, 0x101C, 0x1028] then fixedReg s off
  else 0

/-- Registers 0x1800 to 0x1FFF. -/
def regTables (s : State) (off : Nat) : W32 :=
  if off = 0x1800 then 0
  else if off < 0x1900 then shadowReg s off
  else if off < 0x1A00 then field 32 0 25 (laneAt s ((off - 0x1900) / 4)).held.toNat
  else if off = 0x1A00 then plainReg s off
  else if 0x1A04 ≤ off ∧ off < 0x1A14 then ctxWord (ctxAt s (selectedCtx s)) ((off - 0x1A04) / 4)
  else if off = 0x1B00 then loaderStatus s
  else if off = 0x1B04 then field 32 0 8 s.rcpt.loadSeq.toNat ||| field 32 8 8 s.rcpt.loadStatus.toNat ||| field 32 16 8 s.rcpt.loadReason.toNat
    ||| field 32 24 8 s.rcpt.loadTensor.toNat
  else if off = 0x1B08 then field 32 0 11 s.rcpt.receipts.length
    ||| field 32 16 11 (s.rcpt.receipts.filter (fun e => e.2.state == .entering)).length
  else if off = 0x1B0C then fixedReg s off
  else if 0x1C00 ≤ off ∧ off < 0x1D00 then sheetWord s ((off - 0x1C00) / 4)
  else 0

/-! ### Keys (R307, R495) -/

/-- `KEY_STATUS`. -/
def keyStatus (s : State) : W32 :=
  flag 32 0 (s.keys.root == .testRoot || s.keys.root == .tamperRoot) ||| field 32 1 2 s.keys.vaultState
    ||| flag 32 3 (vaultView s).realmPending ||| flag 32 4 s.keys.sleepReady ||| flag 32 5 s.keys.wkr.isSome
    ||| flag 32 6 (s.keys.root == .tamperRoot) ||| field 32 16 10 s.keys.handles.length ||| field 32 26 6 (sat 63 (keyWaiters s).length)

/-- `KEY_EVENTS`. -/
def keyEvents (s : State) : W32 :=
  field 32 0 8 s.keys.seq.toNat ||| flag 32 8 s.keys.vaultFixed ||| flag 32 9 s.keys.updateApplied ||| flag 32 10 s.keys.updateRefused
    ||| flag 32 11 s.keys.destroyed ||| flag 32 12 s.keys.storeLost ||| field 32 16 8 s.keys.lastRefusal.toNat

/-- Key cache entries whose tags are current (R282). -/
def cacheValid (s : State) : Nat := (s.keys.cache.filter (fun e => (cachedKey s e.1).isSome)).length

/-- Registers 0x2000 to 0x2FFF. -/
def regKeys (s : State) (off : Nat) : W32 :=
  if off = 0x2000 then keyStatus s
  else if off = 0x2004 then keyEvents s
  else if off = 0x2008 then (vaultView s).realmId
  else if off = 0x200C then (vaultView s).realmEpoch
  else if off = 0x2010 then (vaultView s).kumCount
  else if off = 0x2014 then (vaultView s).storeGen
  else if off = 0x2018 then (vaultView s).startCount
  else if off = 0x201C then field 32 0 5 (reenrollments s)
  else if off = 0x2020 ∨ off = 0x2024 then fixedReg s off
  else if off = 0x2028 then field 32 0 11 (cacheValid s) ||| field 32 11 3 (min 4 s.keys.inFlight.length)
  else if 0x2040 ≤ off ∧ off < 0x2080 then plainReg s off
  else 0

/-! ### The RNS engine, digests and mileposts (R337, R365, R366, R496, R497) -/

/-- `RNS_BANK0` and `RNS_BANK1`. -/
def bankWord (s : State) (b : Nat) : W32 := match bankJob s b with
  | none => 0
  | some j => field 32 0 12 j.op ||| field 32 12 6 j.payer ||| field 32 18 2 j.prio ||| field 32 20 2 (effective s j)
    ||| flag 32 23 (match s.keys.wkr with
      | some w => decide (w.job = j.id)
      | none => false)

/-- Live operand bytes of a bank (R331). -/
def bankLive (s : State) (b : Nat) : Nat := ((bankJob s b).map (fun j => liveBytes j.set)).getD 0

/-- Registers 0x3000 to 0x33FF. -/
def regRns (s : State) (off : Nat) : W32 :=
  if off = 0x3000 then rnsStatus s
  else if off = 0x3004 then bankWord s 0
  else if off = 0x3008 then bankWord s 1
  else if off = 0x300C then field 32 0 16 (bankLive s 0) ||| field 32 16 16 (bankLive s 1)
  else if off = 0x3010 then field 32 0 8 s.rns.seq.toNat ||| flag 32 8 s.rns.selfcheck ||| flag 32 9 s.rns.tamperAbort
    ||| flag 32 10 s.rns.spillFault ||| flag 32 11 s.rns.leaseExpired ||| flag 32 12 s.rns.queueFull
  else if off = 0x3014 then fixedReg s off
  else if off = 0x3018 then (if s.boot.fwMeas = 0 then 0 else rnsPrograms s)
  else if off = 0x301C then plainReg s off
  else 0

/-- Code of a digest slot's state (R352). -/
def dslotCode : SlotState → Nat
  | .free => 0
  | .opened => 1
  | .complete => 2
  | .expired => 3

/-- Slots in a state. -/
def dslotsIn (s : State) (st : SlotState) : Nat := tcount s.dig.slots (fun _ v => v.state == st)

/-- Registers 0x3400 to 0x37FF. -/
def regDigest (s : State) (off : Nat) : W32 :=
  let busy (i : Nat) : Bool := ((s.dig.cores.getD i {}).slot).isSome
  if off = 0x3400 then field 32 0 7 (dslotsIn s .opened) ||| field 32 8 7 (dslotsIn s .complete) ||| field 32 16 7 (dslotsIn s .expired)
    ||| flag 32 24 (busy 0) ||| flag 32 25 (busy 1) ||| flag 32 26 s.rns.coupling.isSome
  else if off = 0x3404 then plainReg s off
  else if off = 0x3408 then field 32 0 8 s.dig.seq.toNat ||| flag 32 8 s.dig.excess ||| flag 32 9 s.dig.expired ||| flag 32 10 s.dig.routeFailed
  else if 0x3410 ≤ off ∧ off < 0x3420 then
    (List.range 16).foldl (fun a i => a ||| field 32 (2 * i) 2 (dslotCode (tget {} s.dig.slots (4 * (off - 0x3410) + i)).state)) 0
  else 0

/-- Words 0 to 11 of a milepost's value. -/
def mileWords (s : State) (j : Nat) : List W32 :=
  (chunks 4 (mileOctets (milepost s j))).map (fun o => BitVec.ofNat 32 (ofBe o))

/-- `MP_EVENTS`. -/
def mpEvents (s : State) : W32 :=
  field 32 0 8 s.miles.seq.toNat ||| flag 32 8 s.miles.fixed ||| flag 32 9 s.miles.broke ||| flag 32 10 s.miles.refused
    ||| field 32 16 5 (min 16 s.miles.queue.length)

/-- Registers 0x3800 to 0x3FFF. -/
def regMiles (s : State) (off : Nat) : W32 :=
  if off < 0x3E00 then (mileWords s ((off - 0x3800) / 48)).getD (((off - 0x3800) % 48) / 4) 0
  else if off < 0x3E80 then (milepost s ((off - 0x3E00) / 4)).count
  else if off < 0x3EA0 then fixedReg s off
  else if off = 0x3EA0 then (List.range 32).foldl (fun a j => a ||| flag 32 j (milepost s j).broken) 0
  else if off = 0x3EA4 then mpEvents s
  else 0

/-! ### Channels (R92, R498); a read of MSG_OUT has its own command -/

/-- Registers 0x4000 to 0x5FFF. -/
def regChannel (s : State) (off : Nat) : W32 :=
  let c := (off - 0x4000) / 64
  let o := off % 64
  if o = 0x08 then chStatus (chanAt s c)
  else if o = 0x0C then doorbell (chanAt s c)
  else if o = 0x14 then (chanAt s c).mask
  else if o = 0x1C then chBinding s c
  else 0

/-! ### The relay (R432, R499) -/

/-- Code of a link's STATE; during a re-key the port stays UP (R420). -/
def linkCode (l : Link) : Nat := match l.phase with
  | .down => 0
  | .hello => if l.live then 3 else 1
  | .keying => if l.live then 3 else 2
  | .up => 3
  | .refused => 4

/-- `RELAY_LINK` of a port. -/
def linkWord (l : Link) : W32 :=
  field 32 0 3 (linkCode l) ||| flag 32 3 l.level ||| field 32 4 4 (if linkCode l = 3 then l.released + 8 - l.sent else 0)
    ||| field 32 8 3 l.objects.length ||| field 32 16 8 l.cause

/-- Words of a neighbour's IDENTITY_DIGEST: zero unless the link is UP. -/
def peerWord (l : Link) (w : Nat) : W32 := if linkCode l = 3 then (digestWords l.peer).getD w 0 else 0

/-- `RELAY_EVENTS`. -/
def relayEvents (s : State) : W32 :=
  field 32 0 8 s.relay.seq.toNat ||| flag 32 8 s.relay.linkLost ||| flag 32 9 s.relay.refused ||| flag 32 10 s.relay.authFail
    ||| flag 32 11 s.relay.stale ||| flag 32 12 s.relay.unroutable

/-- Registers 0x6000 to 0x63FF. -/
def regRelay (s : State) (off : Nat) : W32 :=
  if off = 0x6000 ∨ off = 0x6004 then shadowReg s off
  else if off = 0x6008 then field 32 0 16 s.relay.index ||| flag 32 16 s.relay.valid
  else if off = 0x6010 then linkWord s.relay.linkUp
  else if off = 0x6014 then linkWord s.relay.linkDn
  else if off = 0x6018 then relayEvents s
  else if off = 0x6020 then field 32 0 7 s.relay.peerings.length ||| field 32 8 7 (tcount s.relay.peerings (fun _ p => p.state == .up))
  else if 0x6040 ≤ off ∧ off < 0x6070 then peerWord s.relay.linkUp ((off - 0x6040) / 4)
  else if 0x6070 ≤ off ∧ off < 0x60A0 then peerWord s.relay.linkDn ((off - 0x6070) / 4)
  else 0

/-! ### Start, update and gates (R400, R500) -/

/-- Whether a program or erase is in progress; a window copy is neither. -/
def nvmWriting (s : State) : Bool := match s.nvm.ops with
  | [] => false
  | .window _ _ _ _ _ _ :: _ => false
  | _ => true

/-- `GATE_STATUS` of a gate. -/
def gateWord (s : State) (n : Nat) : W32 := match s.boot.gates.find? (fun g => decide (g.gate = n)) with
  | some g => field 32 0 4 g.result ||| field 32 16 16 g.version.toNat
  | none => 0

/-- Registers 0x6400 to 0x67FF. -/
def regStart (s : State) (off : Nat) : W32 :=
  let b := s.boot
  if off = 0x6400 then field 32 0 4 b.phase ||| field 32 4 4 b.halt ||| flag 32 8 b.warm ||| flag 32 9 b.fallback ||| flag 32 10 b.pair
    ||| flag 32 11 b.bank ||| field 32 16 8 b.reason
  else if off = 0x6404 then b.firstGate
  else if off = 0x6408 then b.started
  else if off = 0x640C then b.fwVersion
  else if off = 0x6410 then b.cardVersion
  else if off = 0x6414 then field 32 0 16 b.cardFormat.toNat
  else if off = 0x6418 then field 32 0 8 b.fwOtp.toNat ||| field 32 8 8 b.cardOtp.toNat ||| field 32 16 8 b.fwArb.toNat
    ||| field 32 24 8 b.cardArb.toNat
  else if off = 0x641C then field 32 0 2 s.nvm.mode ||| flag 32 3 s.nvm.eraseSuspend ||| flag 32 4 s.nvm.dqsFailed
    ||| field 32 8 8 s.nvm.sckMhz ||| flag 32 16 (nvmWriting s) ||| flag 32 17 s.nvm.suspended
  else if off = 0x6420 then field 32 0 2 (theDir s).update ||| field 32 2 2 (theDir s).stage ||| field 32 4 2 (theDir s).trialBoots
    ||| flag 32 6 (theDir s).lastFallback ||| flag 32 7 (dirWriting s)
  else if off = 0x6424 then b.progress
  else if off = 0x6428 then (theDir s).bundleSeq
  else if off = 0x642C then field 32 0 8 b.seq.toNat ||| flag 32 8 b.staged ||| flag 32 9 b.aborted ||| flag 32 10 b.fellBack
    ||| flag 32 11 b.confirmed ||| flag 32 12 b.nvmError ||| field 32 16 8 b.eventReason.toNat
  else if 0x6440 ≤ off ∧ off < 0x6480 then gateWord s ((off - 0x6440) / 4)
  else if off = 0x6480 then field 32 0 16 s.pins.gates.toNat
  else 0

/-! ### The window -/

/-- A word of HOLDING (R89, R502). -/
def regHolding (s : State) (off : Nat) : W32 :=
  let v := tget 0 s.cfg.holding (off - off % 8)
  if off % 8 = 0 then BitVec.ofNat 32 v.toNat else BitVec.ofNat 32 (v.toNat / 2 ^ 32)

/-- The live value of a register, by byte offset; reserved offsets read zero (R8, R486). -/
def readReg (s : State) (off : Nat) : W32 :=
  if off % 4 ≠ 0 then 0
  else if off < 0x0400 then regGlobal s off
  else if off < 0x0800 then regPace s off
  else if off < 0x0C00 then regFault s off
  else if off < 0x1000 then regLife s off
  else if off < 0x1100 then regCustody s off
  else if off < 0x1200 then shadowReg s off
  else if off < 0x1300 then laneStateWord s ((off - 0x1200) / 4)
  else if off < 0x1400 then (laneAt s ((off - 0x1300) / 4)).gen
  else if off < 0x1800 then regulatorWord s ((off - 0x1400) / 16) ((off % 16) / 4)
  else if off < 0x2000 then regTables s off
  else if off < 0x3000 then regKeys s off
  else if off < 0x3400 then regRns s off
  else if off < 0x3800 then regDigest s off
  else if off < 0x4000 then regMiles s off
  else if off < 0x6000 then regChannel s off
  else if off < 0x6400 then regRelay s off
  else if off < 0x6800 then regStart s off
  else if off < 0x7000 then 0
  else if off < 0x8000 then regHolding s off
  else 0

/-! ### Latching reads (R489) -/

/-- A holding set of a latching register taken by a MID: one of eight, the least recent one replaced. -/
def latch (s : State) (reg : Nat) (mid : Mid) (words : List W32) : State :=
  let mine := (s.cfg.latches.filter (fun l => decide (l.reg = reg) && decide (l.mid ≠ mid))).take 7
  let others := s.cfg.latches.filter (fun l => decide (l.reg ≠ reg))
  { s with cfg := { s.cfg with latches := { reg := reg, mid := mid, words := words } :: (mine ++ others) } }

/-- The words that a MID's holding set keeps. -/
def latched (s : State) (reg : Nat) (mid : Mid) : Option (List W32) :=
  (s.cfg.latches.find? (fun l => decide (l.reg = reg) && decide (l.mid = mid))).map Latch.words

/-- The latching register whose holding set an offset reads from, with the word's place in the set. -/
def latchedBy (off : Nat) : Option (Nat × Nat) :=
  if off = 0x0404 then some (0x0400, 0)
  else if 0x1A08 ≤ off ∧ off < 0x1A14 then some (0x1A04, (off - 0x1A08) / 4)
  else if 0x3800 ≤ off ∧ off < 0x3E00 ∧ (off - 0x3800) % 48 ≠ 0 then
    some (off - (off - 0x3800) % 48, ((off - 0x3800) % 48) / 4 - 1)
  else if 0x3E00 ≤ off ∧ off < 0x3E80 then some (0x3800 + 12 * (off - 0x3E00), 11)
  else none

/-- What a MID reads at an offset: the word its holding set keeps, else the live value (R489). -/
def readFor (s : State) (mid : Mid) (off : Nat) : W32 :=
  match latchedBy off with
  | some (reg, i) => match latched s reg mid with
    | some ws => ws.getD i (readReg s off)
    | none => readReg s off
  | none => readReg s off

/-- The read of PACE_COUNT_LO: it latches PACE_COUNT_HI. -/
def readPaceCount (s : State) (mid : Mid) : State := latch (ctlRead s (readReg s 0x0400)) 0x0400 mid [readReg s 0x0404]

/-- The read of word 0 of MP_VALUE: it latches the other words and MP_COUNT. -/
def readMilepost (s : State) (mid : Mid) (j : Nat) : State :=
  latch (ctlRead s (readReg s (0x3800 + 48 * j))) (0x3800 + 48 * j) mid ((mileWords s j).drop 1 ++ [readReg s (0x3E00 + 4 * j)])

/-- The read of CTX_RECORD0: it latches the other record words. -/
def readCtxRecord (s : State) (mid : Mid) : State :=
  latch (ctlRead s (readReg s 0x1A04)) 0x1A04 mid [readReg s 0x1A08, readReg s 0x1A0C, readReg s 0x1A10]

/-- A CTL read (R42, R80, R92): any master may read any register; MSG_OUT pops, and three registers latch. -/
def registerRead (s : State) (mid : Mid) (off : Nat) : State :=
  if 0x4000 ≤ off ∧ off < 0x6000 ∧ off % 64 = 4 then (let p := popWord s mid ((off - 0x4000) / 64); ctlRead p.2 p.1)
  else if off = 0x0400 then readPaceCount s mid
  else if 0x3800 ≤ off ∧ off < 0x3E00 ∧ (off - 0x3800) % 48 = 0 then readMilepost s mid ((off - 0x3800) / 48)
  else if off = 0x1A04 then readCtxRecord s mid
  else ctlRead s (readFor s mid off)

/-- PACE_COUNT_LO (R107). -/
def execPaceCountLo (mid : Mid) (s : State) : Host.Outcome State Fault Refusal :=
  live s (fun s => if canAct s mid then readPaceCount s mid else s)

/-- MP_VALUE (R366): word 0 of milepost j. -/
def execMpValue (mid : Mid) (j : Fin 32) (s : State) : Host.Outcome State Fault Refusal :=
  live s (fun s => if canAct s mid then readMilepost s mid j.val else s)

/-- CTX_RECORD0 (R160). -/
def execCtxRecord0 (mid : Mid) (s : State) : Host.Outcome State Fault Refusal :=
  live s (fun s => if canAct s mid then readCtxRecord s mid else s)

end Sys2Proof.Machine
end

