-- ==== Sys2Proof/Machine/Registers.lean ====
section
/-!
DEFINITION. Register writes (R9, R80), sequence clears (R85), the strobe and its groups (R55, R56, R88, R157), snapshots (R89),
counter clears (R127).
-/

namespace Sys2Proof.Machine

open Sys2Proof

/-! ### Sequence clears (R85) -/

/-- The SEQ of an SC register, by offset; none where the offset is no SC register. -/
def seqOf (s : State) (off : Nat) : Option (BitVec 8) :=
  if off = 0x0030 then some s.vlog.seq
  else if off = 0x0408 then some s.pace.seq
  else if off = 0x044C then some s.power.seq
  else if off = 0x0800 then some s.flt.seq
  else if off = 0x0850 then some s.flt.voteSeq
  else if off = 0x0C08 then some s.tamper.seq
  else if off = 0x1014 then some s.cfg.layoutSeq
  else if off = 0x1020 then some s.tree.seq
  else if off = 0x1034 then some s.bg.seq
  else if 0x1400 ≤ off ∧ off < 0x1800 ∧ off % 16 = 8 then some (laneAt s ((off - 0x1400) / 16)).regSeq
  else if off = 0x1B04 then some s.rcpt.loadSeq
  else if off = 0x2004 then some s.keys.seq
  else if off = 0x3010 then some s.rns.seq
  else if off = 0x3408 then some s.dig.seq
  else if off = 0x3EA4 then some s.miles.seq
  else if off = 0x6018 then some s.relay.seq
  else if off = 0x642C then some s.boot.seq
  else none

/-- The event fields of an SC register cleared. -/
def clearEvents (s : State) (off : Nat) : State :=
  if off = 0x0030 then { s with vlog := { s.vlog with wrapped := false, total := 0 } }
  else if off = 0x0408 then { s with pace := { s.pace with discarded := false, tempoAbsent := false } }
  else if off = 0x044C then { s with power := { s.power with capLowered := false, throttled := false, floorShort := false } }
  else if off = 0x0800 then { s with flt := { s.flt with restart := false, storm := false, overflow := false, spareUsed := false } }
  else if off = 0x0850 then { s with flt := { s.flt with voteGroups := 0 } }
  else if off = 0x0C08 then { s with tamper := { s.tamper with event := false } }
  else if off = 0x1014 then { s with cfg := { s.cfg with layoutRefused := false, layoutReason := 0 } }
  else if off = 0x1020 then { s with tree := { s.tree with rootFixed := false, newTree := false } }
  else if off = 0x1034 then { s with bg := { s.bg with faults := false } }
  else if 0x1400 ≤ off ∧ off < 0x1800 ∧ off % 16 = 8 then
    setLane s ((off - 0x1400) / 16) { laneAt s ((off - 0x1400) / 16) with throttled := false, hol := false }
  else if off = 0x1B04 then { s with rcpt := { s.rcpt with loadStatus := 0, loadReason := 0, loadTensor := 0 } }
  else if off = 0x2004 then { s with keys := { s.keys with
    vaultFixed := false, updateApplied := false, updateRefused := false, destroyed := false, storeLost := false, lastRefusal := 0 } }
  else if off = 0x3010 then { s with rns := { s.rns with
    selfcheck := false, tamperAbort := false, spillFault := false, leaseExpired := false, queueFull := false } }
  else if off = 0x3408 then { s with dig := { s.dig with excess := false, expired := false, routeFailed := false } }
  else if off = 0x3EA4 then { s with miles := { s.miles with fixed := false, broke := false, refused := false } }
  else if off = 0x6018 then { s with relay := { s.relay with
    linkLost := false, refused := false, authFail := false, stale := false, unroutable := false } }
  else if off = 0x642C then { s with boot := { s.boot with
    staged := false, aborted := false, fellBack := false, confirmed := false, nvmError := false, eventReason := 0 } }
  else s

/-- A write to an SC register: the current SEQ clears, any other is ignored. -/
def seqWrite (s : State) (off : Nat) (seq : BitVec 8) : State := if seqOf s off = some seq then clearEvents s off else s

/-! ### The strobe (R55, R56, R88, R157, R158) -/

/-- Shadowed registers of group g whose shadow differs from the active value. -/
def dirtyIn (s : State) (g : Nat) : List Nat := (dirtyOffsets s).filter (fun o => decide (groupOf o = some g))

/-- Whether every lane from 1 to 63 is CLOSED or DRAINED. -/
def lanesQuiet (s : State) : Bool := (List.range 64).all (fun l => decide (l = 0) || (laneAt s l).state == .closed || (laneAt s l).state == .drained)

/-- Pages from `lo` on, up to the largest window, whose map line memory holds something of: every other entry there reads FREE (R143). -/
def mappedPages (s : State) (lo : Nat) : List Nat :=
  let ns := (s.dram.map Prod.fst).filter (fun la => decide (mapLineAddr s 0 ≤ la ∧ la < mapLineAddr s (ceilDiv (winMax s) 16)))
  (ns.flatMap (fun la => pageSpan (winBase s + 16 * (la - mapLineAddr s 0)) 16)).filter (fun p => decide (lo ≤ p ∧ p < winBase s + winMax s))

/-- Why group 0 is refused: its REASON (R156, R157), with the state after the map was read. -/
def layoutRefusal (s : State) : Option (BitVec 8) × State :=
  let n := bits (shadowReg s 0x1008) 0 25
  if n = 0 ∨ winMax s < n then (some stBadField, s)
  else if (ownRegions s).any (fun r => decide (winBase s + n < r.1 + r.2)) then (some stBadField, s)
  else if !lanesQuiet s then (some stNotDrained, s)
  else match entriesOf s (pageSpan (winBase s + n) (winPages s - n) ++ mappedPages s (winBase s + max n (winPages s))) 0 with
    | (.error _, s1) => (some stNotDrained, s1)
    | (.ok es, s1) => (if es.all (fun e => entState e == .free) then none else some stNotDrained, s1)

/-- Whether a binding of the shadow lane table is valid and names lane 0. -/
def bindsLane0 (s : State) : Bool :=
  (List.range 256).any (fun m =>
    let b := shadowReg s (0x1100 + 4 * (m / 4)) >>> (8 * (m % 4))
    bit b 7 && decide (bits b 0 6 = 0))

/-- Group g refused: its shadows return, REFUSED shows it, and group 0 records its reason. -/
def refuseGroup (s : State) (g : Nat) (reason : BitVec 8) (offs : List Nat) : State :=
  let s1 := offs.foldl (fun t o => setShadow t o (activeReg t o)) s
  let c := { s1.cfg with refused := s1.cfg.refused ||| BitVec.ofNat 8 (2 ^ g) }
  { s1 with cfg := if g = 0 then { c with layoutSeq := c.layoutSeq + 1, layoutRefused := true, layoutReason := reason } else c }

/-- Group g applied. -/
def acceptGroup (s : State) (g : Nat) (offs : List Nat) : State :=
  let s1 := offs.foldl (fun t o => setBoth t o (shadowReg t o)) s
  let s2 := { s1 with cfg := { s1.cfg with refused := s1.cfg.refused &&& ~~~(BitVec.ofNat 8 (2 ^ g)) } }
  if g = 6 then relayEnables s2 else s2

/-- Group g at a strobe. -/
def applyGroup (s : State) (g : Nat) : State :=
  let offs := dirtyIn s g
  if offs.isEmpty then s
  else if g = 0 then
    match layoutRefusal s with
    | (some r, s1) => refuseGroup s1 0 r offs
    | (none, s1) => acceptGroup s1 0 offs
  else if g = 2 ∧ bindsLane0 s then refuseGroup s 2 0 offs
  else acceptGroup s g offs

/-- A strobe taken: mirrored, counted, and every group with a difference applied (R56, R88). -/
def takeStrobe (s : State) : State :=
  (List.range 8).foldl applyGroup
    { s with cfg := { s.cfg with genTaken := s.cfg.genTaken + 1 }, pins := { s.pins with strobeOutAt := some s.pace.now } }

/-- Whether an earlier strobe is still being applied. -/
def applying (s : State) : Bool := decide (s.cfg.genApplied ≠ s.cfg.genTaken)

/-- A strobe taken, or held while an earlier one is being applied (R55). -/
def strobe (s : State) : State := if applying s then { s with cfg := { s.cfg with strobeHeld := true } } else takeStrobe s

/-- Whether a strobe on the pin is an echo of the block's own pulse (R56): no later than 5 paces after that pulse's start, with no
pending shadow change. -/
def isEcho (s : State) : Bool :=
  (match s.pins.strobeOutAt with
    | some t => decide (s.pace.now ≤ t + 5)
    | none => false) && (dirtyOffsets s).isEmpty

/-- Every engine has switched; a held strobe is taken. -/
def strobeApplied (s : State) : State :=
  let s1 := { s with cfg := { s.cfg with genApplied := s.cfg.genTaken, strobeHeld := false } }
  if s.cfg.strobeHeld then takeStrobe s1 else s1

/-! ### Snapshots (R89, R126) -/

/-- A copy begun: every captured counter in one step. -/
def beginCopy (s : State) : State :=
  { s with cfg := { s.cfg with backBuffer := some (tset 0 s.cnt 0x7800 (BitVec.ofNat 64 s.pace.now)) } }

/-- TAKE: a copy, held while one runs. -/
def takeSnapshot (s : State) : State := if s.cfg.backBuffer.isSome then { s with cfg := { s.cfg with takeHeld := true } } else beginCopy s

/-- The back buffer becomes visible; a held TAKE begins a new copy. -/
def snapshotVisible (s : State) : State :=
  match s.cfg.backBuffer with
  | none => s
  | some b =>
    let s1 := { s with cfg := { s.cfg with holding := b, snapSeq := s.cfg.snapSeq + 1, backBuffer := none, takeHeld := false } }
    if s.cfg.takeHeld then beginCopy s1 else s1

/-! ### Clearing counters (R127) -/

/-- The four counters of a lane. -/
def laneCounters (l : Nat) : List Nat := [0x7000 + 32 * l, 0x7008 + 32 * l, 0x7010 + 32 * l, 0x7018 + 32 * l]

/-- What a completed value of ACCT_CLEAR clears. -/
def acctCleared (v : W32) : List Nat :=
  if bit v 8 then (List.range 64).flatMap laneCounters ++ [0x7808, 0x7810] else laneCounters (bits v 0 6)

/-- The complement half of ACCT_CLEAR. -/
def acctComplement (s : State) (mid : Mid) (v : W32) : State :=
  if mayPair s mid 0x6800 then
    match completePair s mid 0x6800 v with
    | (some w, s1) => (acctCleared w).foldl clearCounter s1
    | (none, s1) => s1
  else refuseAction s mid

/-- A row of one kind of clear; a half armed for the other kind belongs to the other row (log 1). -/
def acctRow (all : Bool) (mid : Mid) (v : W32) (s : State) : State :=
  let mine : Bool := match tfind s.cfg.armed mid.toNat with
    | some a => decide (a.off ≠ 0x6800) || (bit a.value 8 == all)
    | none => true
  if canAct s mid && mine then ctlWrote (acctComplement s mid v) else s

/-! ### Writes (R8, R9, R80, R87) -/

/-- RW registers that are not shadowed and lie outside the channel windows. -/
def isPlain (off : Nat) : Bool := decide (off = 0x1A00 ∨ (0x2040 ≤ off ∧ off < 0x2080 ∧ off % 4 = 0) ∨ off = 0x301C ∨ off = 0x3404)

/-- A value with the bits of a mask replaced. -/
def merged (old new mask : W32) : W32 := (old &&& ~~~mask) ||| (new &&& mask)

/-- A write in a channel window (R80, R92, R101). -/
def windowWrite (s : State) (mid : Mid) (off : Nat) (v : W32) : State :=
  let c := (off - 0x4000) / 64
  let o := off % 64
  if o = 0 then pushWord s mid c v
  else channelWrite s mid c (fun t =>
    if o = 0x10 then clearBells t c v
    else if o = 0x14 then setChan t c { chanAt t c with mask := v }
    else if o = 0x18 then controlWrite t c v
    else t)

/-- A write of the owner outside the channel windows; RO fields and reserved offsets ignore it. -/
def ownerWrite (s : State) (off : Nat) (v : W32) : State :=
  if (groupOf off).isSome then setShadow s off (merged (shadowReg s off) v (writeMask off))
  else if isPlain off then setPlain s off (merged (plainReg s off) v (writeMask off))
  else if off = 0x0020 then (if bit v 0 then strobe s else s)
  else if off = 0x0024 then (if bit v 0 then takeSnapshot s else s)
  else if off = 0x0414 then (if bit v 0 then triggerCalibration s else s)
  else seqWrite s off (BitVec.ofNat 8 (bits v 0 8))

/-- A CTL write. -/
def registerWrite (s : State) (mid : Mid) (off : Nat) (v : W32) : State :=
  if 0x4000 ≤ off ∧ off < 0x6000 then windowWrite s mid off v
  else if isPaired off then (if mayPair s mid off then armHalf s mid off v else refuseAction s mid)
  else if off = 0x0018 then ownerClaimComplement s mid v
  else if off = 0x6804 then acctComplement s mid v
  else if isOwner s mid then ownerWrite s off v
  else refuseAction s mid

/-- A write that only the owner may make (R80). -/
def ownerOnly (mid : Mid) (f : State → State) (s : State) : State :=
  if canAct s mid then ctlWrote (if isOwner s mid then f s else refuseAction s mid) else s

/-! ### The commands -/

/-- REGISTER_WRITE (R80), and the read of such a register (R42): the table has no row of its own for it (DESIGN CHOICE, log 151). -/
def execRegisterWrite (mid : Mid) (off : BitVec 14) (data : Option W32) (s : State) : Host.Outcome State Fault Refusal :=
  live s (fun s =>
    if !canAct s mid then s
    else match data with
      | some v => ctlWrote (registerWrite s mid (4 * off.toNat) v)
      | none => registerRead s mid (4 * off.toNat))

/-- STROBE (R88). -/
def execStrobe (mid : Mid) (bus : Bus) (s : State) : Host.Outcome State Fault Refusal := onBus s bus (ownerOnly mid strobe)

/-- UPDATE_STROBE_IN (R55, R56). -/
def execUpdateStrobeIn (bus : Bus) (s : State) : Host.Outcome State Fault Refusal :=
  onBus s bus (fun s => if isEcho s then s else strobe s)

/-- STROBE_APPLIED (R88). -/
def execStrobeApplied (s : State) : Host.Outcome State Fault Refusal := live s (fun s => if applying s then strobeApplied s else s)

/-- SNAPSHOT_TAKE (R89). -/
def execSnapshotTake (mid : Mid) (s : State) : Host.Outcome State Fault Refusal := live s (ownerOnly mid takeSnapshot)

/-- SNAPSHOT_VISIBLE (R89). -/
def execSnapshotVisible (s : State) : Host.Outcome State Fault Refusal := live s snapshotVisible

/-- CALIBRATE (R109). -/
def execCalibrate (mid : Mid) (s : State) : Host.Outcome State Fault Refusal := live s (ownerOnly mid triggerCalibration)

/-- SEQ_CLEAR (R85). -/
def execSeqClear (mid : Mid) (off : BitVec 14) (seq : BitVec 8) (s : State) : Host.Outcome State Fault Refusal :=
  live s (fun s => if (seqOf s (4 * off.toNat)).isSome then ownerOnly mid (fun t => seqWrite t (4 * off.toNat) seq) s else s)

/-- ACCT_CLEAR_LANE (R127). -/
def execAcctClearLane (mid : Mid) (data : W32) (s : State) : Host.Outcome State Fault Refusal := live s (acctRow false mid data)

/-- ACCT_CLEAR_ALL (R127). -/
def execAcctClearAll (mid : Mid) (data : W32) (s : State) : Host.Outcome State Fault Refusal := live s (acctRow true mid data)

end Sys2Proof.Machine
end

