-- ==== Sys2Proof/Machine/Ports.lean ====
section
/-!
DEFINITION. Violations of the handshake (R62, R66 to R68): bundles withdrawn or changed, edges of ACK without REQ, REQ that stays high,
timeouts.
-/

namespace Sys2Proof.Machine

open Sys2Proof

/-- The MID of the request whose answer stands on a response bundle. -/
def answeredMid (s : State) (ch : Fin 4) : Option Mid := (inChan s ch.val).rsp.head?.map RspBeat.mid

/-- The port of a bundle that the block receives, and the MID of a request on it. -/
def recvPort : RecvBundle → BitVec 8 × Option Mid
  | .custIn ch mid => (pCustIn ch, some mid)
  | .custOut ch => (pCustOut ch, none)
  | .ctl mid => (pCtl, some mid)
  | .relayRx d => (pRelay d, none)
  | .masterEvent => (pMasterEvent, none)
  | .budgetCap => (pBudgetCap, none)

/-- The port of a bundle withdrawn or changed. -/
def withdrawnPort : Withdrawn → BitVec 8
  | .custIn ch _ => pCustIn ch
  | .custOut ch => pCustOut ch
  | .ctl _ _ => pCtl
  | .relayRx d => pRelay d
  | .masterEvent => pMasterEvent
  | .budgetCap => pBudgetCap

/-- A bundle that the block receives, withdrawn or changed before ACK: ACK is completed and nothing is performed (R68). -/
def withdrawn (s : State) (kind : BitVec 8) : Withdrawn → State
  | .custIn ch b => settle (beatWithdrawn s ch b kind)
  | .custOut ch => violate s (pCustOut ch) kind none
  | .ctl mid _ => ctlRead (violate s pCtl kind (some mid)) 0
  | .relayRx d => violate s (pRelay d) kind none
  | .masterEvent => violate s pMasterEvent kind none
  | .budgetCap => violate s pBudgetCap kind none

/-- REQ_WITHDRAWN, and BUNDLE_CHANGED where the bundle changed instead (R66). -/
def execReqWithdrawn (bundle : Withdrawn) (changed : Bool) (s : State) : Host.Outcome State Fault Refusal :=
  live s (fun s => withdrawn (reqFell s (withdrawnPort bundle)) (if changed then kBundleChanged else kReqWithdrawn) bundle)

/-- An edge of ACK that no REQ calls for is ignored and logged (R66). -/
def earlyAck (s : State) : SentBundle → State
  | .custResponse ch => violate s (pCustIn ch) kEarlyAck (answeredMid s ch)
  | .custRequest ch => violate s (pCustOut ch) kEarlyAck none
  | .otp => violate s pOtp kEarlyAck none
  | .relayTx d => violate s (pRelay d) kEarlyAck none

/-- EARLY_ACK (R66). -/
def execEarlyAck (bundle : SentBundle) (s : State) : Host.Outcome State Fault Refusal := live s (fun s => earlyAck s bundle)

/-- A REQ that stays high 4,096 paces after ACK is logged once; the bundle starts no new cycle until it falls, which the next bundle on the
port shows (R66, R68). -/
def reqStuck (s : State) (b : RecvBundle) : State :=
  let (port, mid) := recvPort b
  if s.vlog.stuck.contains port then s else violate { s with vlog := { s.vlog with stuck := port :: s.vlog.stuck } } port kReqStuck mid

/-- REQ_STUCK (R66). -/
def execReqStuck (bundle : RecvBundle) (s : State) : Host.Outcome State Fault Refusal := live s (fun s => reqStuck s bundle)

/-- A bundle that the block sends, not acknowledged within its port's timeout (R67, R68). -/
def ackTimeout (s : State) : SentBundle → State
  | .custResponse ch => ingressAckTimeout s ch
  | .custRequest ch => egressAckTimeout s ch
  | .otp => otpAckTimeout s
  | .relayTx d => relayAckTimeout s d

/-- ACK_TIMEOUT (R68). -/
def execAckTimeout (bundle : SentBundle) (s : State) : Host.Outcome State Fault Refusal := live s (fun s => ackTimeout s bundle)

/-- Whether beats are those of an open frame: they begin with SOF and have not come to EOF. -/
def frameOpen (bs : List RelayBeat) : Bool := (bs.head?.map RelayBeat.sof).getD false && bs.all (fun b => !b.eof)

/-- A relay frame whose next beat does not arrive within 1,024 paces: discarded; it has changed nothing yet (R67, R68). -/
def frameTimeout (s : State) (d : Dir) (bs : List RelayBeat) (last : Nat) : State :=
  if portTakes s d && frameOpen bs && decide (last + 1024 ≤ clock s) then count (violate s (pRelay d) kBurstTimeout none) 0x7950 1 else s

/-- A burst, frame or message whose next beat does not arrive in time (R67, R68, R93). -/
def burstTimeout (s : State) : OpenBurst → State
  | .custIn ch => settle (writeBurstTimeout s ch)
  | .custOut ch => settle (responseTimeout s ch)
  | .relayRx d bs last => frameTimeout s d bs last
  | .message c => if composeLate s c.val then dropCompose s c.val (composer (chanAt s c.val) c.val) else s

/-- BURST_TIMEOUT (R68). -/
def execBurstTimeout (burst : OpenBurst) (s : State) : Host.Outcome State Fault Refusal := live s (fun s => burstTimeout s burst)

end Sys2Proof.Machine
end

