-- ==== Sys2Proof/Machine/Paces.lean ====
section
/-!
DEFINITION. One pace (R107): the power arbiter (R114 to R119), the regulators (R230, R232), the engines' occupancy (R123); and the
sensors (R112).
-/

namespace Sys2Proof.Machine

open Sys2Proof

/-! ### Demand (R115, R116) -/

/-- Permits that cover an energy. -/
def permitsFor (s : State) (e : Nat) : Nat := ceilDiv e (permitEnergy s)

/-- Energy that an engine owes for work that one step moved ahead of its credit. -/
def owedEnergy (s : State) (i : Nat) : Nat := (-(creditOf s i)).toNat

/-- The custody demand in permits: the energy of the lines that wait, and of those that the block's own work has moved ahead of its credit
(R115; log 27). -/
def custodyDemand (s : State) : Nat :=
  permitsFor s (energyScale * ((s.cust.reqs.filter awaitsIssue).map (reqEnergy s)).sum + owedEnergy s crCustody)

/-- Units of 64 octets that the slot of a core still waits to absorb. -/
def unitsDue (s : State) (c : DCore) : Nat := match c.slot with
  | some k => match (dslot s k).feed with
    | some f => if f.routed then 0 else ceilDiv (f.take - f.done) 64 - f.ready
    | none => 0
  | none => 0

/-- Relay beats of a port's frame that wait. -/
def beatsDue (l : Link) : Nat := match l.wire with
  | some w => if w.up then w.left - 1 else w.left
  | none => 0

/-- Permits that the RNS engine, the digest engine and the relay request (R116); a sheet that is to be signed is work of the RNS engine. -/
def poolRequests (s : State) : Nat × Nat × Nat :=
  (if s.rns.lanes.isSome ∨ (nextSigning s).isSome then permitsFor s (energyScale * rnsUnit s) else 0,
   permitsFor s (energyScale * digestUnit s * ((s.dig.cores.map (unitsDue s)).sum)),
   permitsFor s (energyScale * relayUnit s * (beatsDue s.relay.linkUp + beatsDue s.relay.linkDn)))

/-! ### The pool's division (R116) -/

/-- One engine of the pool while it is shared out: its weight, what it still requests, what it has, and how many of the left-over permits it
has had. -/
structure PoolShare where
  weight : Nat
  want : Nat
  got : Nat := 0
  rest : Nat := 0
deriving DecidableEq, Repr, Inhabited

/-- Permits given to one engine, at most what it requests. -/
def PoolShare.give (p : PoolShare) (n : Nat) : PoolShare := { p with want := p.want - min n p.want, got := p.got + min n p.want }

/-- Whether a left-over permit goes to p before q: the higher weight, and between equal weights whichever has had fewer. -/
def PoolShare.before (p q : PoolShare) : Bool :=
  decide (q.want = 0) || decide (q.weight < p.weight) || (decide (p.weight = q.weight) && decide (p.rest ≤ q.rest))

/-- Whole permits left after the division, one by one to the highest weight; engines of equal weight have them in turn, in order (R116). -/
def poolRest (ps : List PoolShare) (n : Nat) : List PoolShare :=
  match n with
  | 0 => ps
  | k + 1 => match ps.findIdx? (fun p => decide (p.want ≠ 0) && ps.all p.before) with
    | none => ps
    | some i => poolRest (ps.modify i (fun p => { p.give 1 with rest := p.rest + 1 })) k

/-- The pool shared by weight among those that request; what one does not need goes to the others, again by weight. -/
def poolRounds : Nat → Nat → List PoolShare → List PoolShare
  | 0, n, ps => poolRest ps n
  | fuel + 1, n, ps =>
    let w := (ps.map (fun p => if p.want = 0 then 0 else p.weight)).sum
    if n = 0 ∨ w = 0 then poolRest ps n
    else
      let qs := ps.map (fun p => if p.want = 0 then p else p.give (n * p.weight / w))
      let used := (qs.map PoolShare.got).sum - (ps.map PoolShare.got).sum
      if used = 0 then poolRest ps n else poolRounds fuel (n - used) qs

/-- The pool's permits by engine: RNS engine, digest engine, relay. -/
def poolSplit (s : State) (n : Nat) : Nat × Nat × Nat :=
  let r := activeReg s 0x0440
  let (a, b, c) := poolRequests s
  let ps := poolRounds 64 n [{ weight := bits r 16 4, want := a }, { weight := bits r 20 4, want := b },
    { weight := bits r 24 4, want := c }]
  (((ps[0]?).getD default).got, ((ps[1]?).getD default).got, ((ps[2]?).getD default).got)

/-! ### The evaluation (R115 to R119) -/

/-- What an evaluation grants. -/
structure Grant where
  standing : Nat
  custody : Nat
  pool : Nat × Nat × Nat
  floorShort : Bool
deriving DecidableEq, Repr

/-- Permits of a pool split. -/
def poolSum (p : Nat × Nat × Nat) : Nat := p.1 + p.2.1 + p.2.2

/-- The grants of one evaluation: standing draw, floors of 18 permits, custody, pool, with the ramp limit of 16 permits. -/
def grants (s : State) : Grant :=
  let b := effectiveBudget s
  let st := ceilDiv (standingMw s) 4
  if b < st + 22 then { standing := st, custody := 4, pool := (0, 0, 0), floorShort := true }
  else
    let room := s.power.granted.toNat + 16 - 18
    let cust := min (min (custodyDemand s) (b - st - 18)) room
    { standing := st, custody := cust, pool := poolSplit s (min (b - st - 18 - cust) (room - cust)), floorShort := false }

/-- Credit after a grant: never more than the grant's energy and one unit of work (R119). -/
def creditAfter (s : State) (old : Int) (grant unit : Nat) : Int :=
  min (old + (grant * permitEnergy s : Nat)) (grant * permitEnergy s + energyScale * unit : Nat)

/-- Every engine's credit after an evaluation; the floors of the controller and of the background engine are granted at every one (R115). -/
def creditsAfter (s : State) (g : Grant) : List Int :=
  [creditAfter s (creditOf s crCustody) g.custody (lineEnergy s .versionedC), creditAfter s (creditOf s crRns) g.pool.1 (rnsUnit s),
   creditAfter s (creditOf s crDigest) g.pool.2.1 (digestUnit s), creditAfter s (creditOf s crRelay) g.pool.2.2 (relayUnit s),
   creditAfter s (creditOf s crController) 8 (controllerUnit s), creditAfter s (creditOf s crBackground) 10 (lineEnergy s .versionedC)]

/-- The arbiter's evaluation, with its events and its counters (R117, R122, R126). -/
def evaluate (s : State) : State :=
  let d := custodyDemand s
  let g := grants s
  let p := s.power
  let short := decide (g.custody < d)
  let starved := short || decide (g.pool.1 < (poolRequests s).1 ∨ g.pool.2.1 < (poolRequests s).2.1 ∨ g.pool.2.2 < (poolRequests s).2.2)
  let p' : Power := { p with
    effective := BitVec.ofNat 10 (effectiveBudget s)
    granted := BitVec.ofNat 10 (18 + g.custody + poolSum g.pool)
    standing := BitVec.ofNat 10 (sat 1023 g.standing)
    custody := BitVec.ofNat 10 g.custody
    pool := BitVec.ofNat 10 (poolSum g.pool)
    credits := creditsAfter s g
    seq := p.seq + (if short then 1 else 0) + (if g.floorShort then 1 else 0)
    throttled := p.throttled || short
    floorShort := p.floorShort || g.floorShort }
  let s1 := count { s with power := p' } 0x7808 (standingUnits s 1)
  if starved then count s1 0x7810 1 else s1

/-! ### Regulators (R230, R232) -/

/-- One lane's regulator at a pace boundary: the bucket is filled, and pays what the block's own work owes it (R230; log 34). -/
def refill (s : State) (l : Nat) : State :=
  let v := laneAt s l
  let r := activeReg s (0x1400 + 16 * l)
  if !bit r 12 ∧ v.reg = r ∧ v.owed = 0 then s
  else
    let burst : Int := (bits r 16 16 : Nat)
    let t : Int := if bit r 12 && bit v.reg 12 then min burst (v.tokens + (bits r 0 12 : Nat)) else burst
    let paid := if bit r 12 then min v.owed t.toNat else v.owed
    setLane s l { v with reg := r, tokens := if bit r 12 then t - paid else t, owed := v.owed - paid }

/-- Every regulator at a pace boundary. -/
def refillAll (s : State) : State := (List.range 64).foldl refill s

/-! ### Occupancy (R123, R286, R338, R387) -/

/-- Whether each job's present pace is covered: only that of the job on the lanes can be. -/
def coverJob (id : Option Nat) (j : RnsJob) : RnsJob := { j with covered := decide (some j.id = id) }

/-- A pace of the RNS engine: the job that holds the lanes has the pace where the credit covers it (R119, R312, R328). -/
def rnsPace (s : State) : State :=
  let cover (t : State) (id : Option Nat) : State := { t with rns := { t.rns with jobs := t.rns.jobs.map (coverJob id) } }
  match s.rns.lanes with
  | none => cover s none
  | some b =>
    let s1 := count s 0x78F8 1
    match bankJob s1 b with
    | none => cover s1 none
    | some j =>
      if !covers s1 crRns (rnsUnit s1) 1 then cover s1 none
      else cover (chargePaces (spendCredit (setJob s1 { j with paces := j.paces + 1 }) crRns (rnsUnit s1)) j.payer (rnsUnit s1) 1) (some j.id)

/-- A pace of a digest core on a slot: counted for the lane whose work it is, and as much of its chunk covered as the credit allows. -/
def corePace (s : State) (c : DCore) : State := match c.slot with
  | some k => coverChunk (count s (0x7018 + 32 * (((dslot s k).feed.map Feed.payer).getD (dslot s k).lane)) 1) k
  | none => s

/-- Counters of paces spent waiting. -/
def waitPaces (s : State) : State :=
  let s1 := if s.keys.wkr.isSome ∧ !(keyWaiters s).isEmpty then count s 0x78D0 1 else s
  let windowWaits := (s1.nvm.ops.drop 1).any (fun o => match o with
    | .window _ _ _ _ _ _ => true
    | _ => false)
  if windowWaits then count s1 0x7930 1 else s1

/-! ### The pace -/

/-- The elapsed-pace count, the trim that takes effect, and the owner's timer. -/
def advance (s : State) : State :=
  let p := { s.pace with now := s.pace.now + 1 }
  let own := { s.own with remaining := s.own.remaining - (if s.own.remaining = 0 then 0 else 1) }
  match p.newPeriods with
  | some n => { s with own := own, pace := { p with periods := n, newPeriods := none, calAt := BitVec.ofNat 32 p.now } }
  | none => { s with own := own, pace := p }

/-- Alarms that stand for one pace. -/
def alarmsEnd (s : State) : State := { s with tamper := { s.tamper with glitch := false, vaultUv := false } }

/-- The engines' pace: occupancy, and beats whose REQ may rise now (R119, R123). -/
def enginesPace (s : State) : State := raiseBeat .dn (raiseBeat .up (s.dig.cores.foldl corePace (rnsPace s)))

/-- What waits for a unit goes on where the unit is free: a load, staging, activation, a DIGEST_OPEN, a key update's counter, a sleep. -/
def waitersPace (s : State) : State := sleepStep (kumStep (serveOpen (activateResume (stageResume (resumeLoad s)))))

/-- What one pace does in every unit. -/
def paceWork (s : State) : State :=
  let s1 := refillAll (evaluate (alarmsEnd (advance s)))
  settle (pageTurns (waitersPace (waitPaces (enginesPace s1))))

/-- One pace: the elapsed-pace count rises by one (R107). -/
def tick (s : State) : State :=
  let t := paceWork s
  { t with pace := { t.pace with now := s.pace.now + 1 } }

/-- PACE_TICK (R107). -/
def execPaceTick (bus : Bus) (s : State) : Host.Outcome State Fault Refusal := onBus s bus tick

/-! ### Sensors (R109, R112, R449) -/

/-- Distance of two readings. -/
def apart (a b : Int) : Nat := (a - b).natAbs

/-- Whether readings stand 20 mV or 10 °C from others. -/
def stepped (mv mv0 : BitVec 10) (tj tj0 : BitVec 9) : Bool :=
  decide (20 ≤ apart mv.toNat mv0.toNat ∨ 10 ≤ apart tj.toInt tj0.toInt)

/-- A supply or temperature step since the last accepted calibration; while one is pending, only a further step triggers again. -/
def senseStep (s : State) (mv : BitVec 10) (tj : BitVec 9) : State :=
  match s.pace.lastCal with
  | none => s
  | some (_, mv0, tj0) =>
    if stepped mv mv0 tj tj0 && (!s.pace.stepPending || stepped mv s.pace.vddMv tj s.pace.tj) then
      triggerCalibration { s with pace := { s.pace with stepPending := true } }
    else s

/-- Whether a temperature lies below -45 °C or above +130 °C. -/
def outOfRange (tj : BitVec 9) : Bool := decide (tj.toInt < -45 ∨ 130 < tj.toInt)

/-- The second reading out of range in a row is recognised once, while the sensors are armed. -/
def senseTamper (s : State) (tj : BitVec 9) : State :=
  let run := if outOfRange tj then s.tamper.tempRun + 1 else 0
  let s1 := { s with tamper := { s.tamper with temp := outOfRange tj, tempRun := run } }
  if run = 2 ∧ s1.tamper.sensors then tamperSource s1 (if tj.toInt < 0 then 11 else 12) else s1

/-- A reading of both sensors, every 64 paces. -/
def sample (s : State) (mv : BitVec 10) (tj : BitVec 9) : State :=
  if s.pace.vddMv ≠ 0 ∧ s.pace.now < s.pace.lastSample + 64 then s
  else
    let s1 := senseStep s mv tj
    senseTamper { s1 with pace := { s1.pace with vddMv := mv, tj := tj, lastSample := s1.pace.now } } tj

/-- SENSOR_SAMPLE (R112). -/
def execSensorSample (mv : BitVec 10) (tj : BitVec 9) (s : State) : Host.Outcome State Fault Refusal :=
  live s (fun s => sample s mv tj)

end Sys2Proof.Machine
end

