-- ==== Sys2Proof/Machine/Faults.lean ====
section
/-!
DEFINITION. Faults of the block's own storage: the internal scrub (R478, R475, R465, R86), the fault restart (R462 to R471), the
counter journal (R483).
-/

namespace Sys2Proof.Machine

open Sys2Proof

/-! ### SRAM words and spares (R475, R484) -/

/-- An SRAM's health changed. -/
def setHealth (s : State) (i : Nat) (f : SramHealth → SramHealth) : State :=
  { s with flt := { s.flt with health := tset {} s.flt.health i (f (tget {} s.flt.health i)) } }

/-- A word remapped to a spare where one is left (R475). -/
def useSpare (s : State) (i : Nat) : State :=
  if 8 ≤ (tget {} s.flt.health i).spares then s
  else
    let s1 := setHealth s i (fun h => { h with spares := h.spares + 1 })
    { s1 with flt := { s1.flt with spareUsed := true, seq := s1.flt.seq + 1 } }

/-- How often a word stands in a record of failing words. -/
def timesSeen (l : List (Nat × Nat × Nat)) (i w : Nat) : Nat :=
  ((l.find? (fun x => decide (x.1 = i ∧ x.2.1 = w))).map (fun x => x.2.2)).getD 0

/-- The record of failing words without one word. -/
def forgetWord (l : List (Nat × Nat × Nat)) (i w : Nat) : List (Nat × Nat × Nat) :=
  l.filter (fun x => !decide (x.1 = i ∧ x.2.1 = w))

/-- An SRAM word corrected by a scrub pass: counted, and at its third pass in a row remapped. -/
def wordCorrected (before : List (Nat × Nat × Nat)) (i w : Nat) (s : State) : State :=
  let s1 := setHealth (count s 0x7960 1) i (fun h => { h with corrected := if h.corrected = 0xFFFF then 0xFFFF else h.corrected + 1 })
  let n := timesSeen before i w + 1
  if 3 ≤ n then useSpare s1 i
  else { s1 with flt := { s1.flt with correctedRuns := (i, w, n) :: forgetWord s1.flt.correctedRuns i w } }

/-- An undecodable SRAM word counted, and at its second restart remapped. -/
def wordUndecodable (i w : Nat) (s : State) : State :=
  let s1 := setHealth s i (fun h => { h with uncorrectable := if h.uncorrectable = 0xFF then 0xFF else h.uncorrectable + 1 })
  let s2 := { s1 with bg := { s1.bg with uncorrTotal := s1.bg.uncorrTotal + 1 } }
  let n := timesSeen s2.flt.undecodable i w + 1
  if 2 ≤ n then useSpare { s2 with flt := { s2.flt with undecodable := forgetWord s2.flt.undecodable i w } } i
  else { s2 with flt := { s2.flt with undecodable := (i, w, n) :: s2.flt.undecodable } }

/-! ### Register-file words (R465, R219, R363) -/

/-- An undecodable read entry of the tile table: both contexts are tainted, and no verdict comes (R219). -/
def loseReadEntry (s : State) (i : Nat) : State :=
  match s.tiles.reads[i]? with
  | none => s
  | some e => settleFences (taintCtx (taintCtx (dropTile s e.order) e.reader e.readerEpoch) e.holder e.holderEpoch) e.order true

/-- An undecodable write entry of the tile table: its page is LOST (R219). -/
def loseWriteEntry (s : State) (q : Nat) : State :=
  if (tfind s.tiles.writes q).isSome then { s with tree := { s.tree with lost := s.tree.lost ++ [.ctr q] } } else s

/-- A milepost word (R363). -/
def milepostWord (s : State) (j : Nat) (correctable : Bool) : State :=
  if correctable then mpEvent s true false false
  else mpEvent (setMilepost s j { milepost s j with broken := true }) false true false

/-- The tier-1 registers derived again from tier 0 (R465). -/
def tierOneAgain (s : State) : State := match s.keys.root with
  | .bedrock => deriveTier1 s (keyOctets (bedrock s))
  | .testRoot => deriveTier1 s testRoot
  | .tamperRoot => deriveTier1 s tamperRoot
  | .none => s

/-- The job that holds the engine's lanes ends RESTARTING (R465). -/
def loseMicroinstructions (s : State) : State :=
  match s.rns.lanes with
  | none => s
  | some b => match bankJob s b with
    | some j => abortJob s stRestarting 0xFF j
    | none => s

/-- An undecodable register-file word, treated by its owner (R465). -/
def registerWordLost (s : State) (i : Nat) : RegFile → State
  | .tileTable => if i < 512 then loseReadEntry s i else loseWriteEntry s (i - 512)
  | .handleTable => if (tfind s.keys.handles i).isSome then freeHandle s i else s
  | .laneKeys => if i < 64 then deriveLane s i else s
  | .tierOne => tierOneAgain s
  | .milepost => if i < 32 then milepostWord s i false else s
  | .microinstructions => loseMicroinstructions s
  | .laneTags => { s with laneTags := tset 0 s.laneTags i (ctxAt s i).lane }

/-- A disagreeing copy of a triplicated word rewritten (R86); the tree root has an event of its own (R187). -/
def voteFix (s : State) (g : Nat) : State :=
  let s1 := count s 0x7990 1
  let s2 := { s1 with flt := { s1.flt with voteGroups := s1.flt.voteGroups ||| BitVec.ofNat 6 (2 ^ g), voteSeq := s1.flt.voteSeq + 1 } }
  if g = 2 then { s2 with tree := { s2.tree with rootFixed := true, seq := s2.tree.seq + 1 } } else s2

/-- One finding of the internal scrub that begins no fault restart: a word that its check code corrects, a register-file word, a
disagreeing copy. -/
def scrubFinding (before : List (Nat × Nat × Nat)) (s : State) : SramFinding → State
  | .sramWord i w r => match decodeWord r with
    | some (_, true) => wordCorrected before i.val w s
    | _ => s
  | .regFile .milepost i true => milepostWord (count s 0x7960 1) i true
  | .regFile _ _ true => count s 0x7960 1
  | .regFile f i false => registerWordLost s i f
  | .copyWrong g => voteFix s g.val

/-! ### What an undecodable SRAM word loses (R465) -/

/-- An undecodable context record (R465): CTX 0's is restored to its fixed values; another context's epoch closes, and its record is
rebuilt RETIRED under the lane that the lane tag file names. -/
def loseContext (s : State) (c : Nat) : State :=
  if c = 0 then setCtx s 0 (ctxReset 0)
  else if 16384 ≤ c then s
  else
    let s1 := if (ctxAt s c).state = .active then closeEpoch s c else s
    let lane := tget 0 s1.laneTags c
    let v : Ctx := { lane := lane, epoch := 0xFFFFFF, keyGen := 0xFF, state := .retired, depth := 15, rebuilt := true
                     ledgerHold := some (s1.bg.begun + 1) }
    settleRelease (setCtx s1 c v) lane.toNat

/-- A message answered RESTARTING. -/
def restartingTo (w0 : W32) : List W32 := response w0 false stRestarting []

/-- An undecodable word of a mailbox slot (R465): the slot is freed, its message answered RESTARTING where word 0 decodes, else the
channel is told. Slots count the running request, the waiting ones, unread responses, the message being composed. -/
def loseSlot (s : State) (word : Nat) : State :=
  let c := word / 16
  let k := word / 4 % 4
  let v := chanAt s c
  let told (w0 : W32) (v : Channel) : State :=
    if word % 4 = 0 then faultNotice (setChan s c v) 0x0B none 0 c
    else setChan s c { v with responses := v.responses ++ [restartingTo w0] }
  let r := if v.running.isSome then 1 else 0
  if 128 ≤ c then s
  else match v.running, v.waiting[k - r]?, v.responses[k - r - v.waiting.length]? with
    | some x, _, _ =>
      if k = 0 then told x.w0 { v with running := none }
      else match v.waiting[k - 1]?, v.responses[k - 1 - v.waiting.length]? with
        | some y, _ => told y.w0 { v with waiting := v.waiting.eraseIdx (k - 1) }
        | none, some ws => told (ws.headD 0) { v with responses := v.responses.eraseIdx (k - 1 - v.waiting.length) }
        | none, none => if v.compose.isEmpty then s else told (v.compose.headD 0) { v with compose := [] }
    | none, some y, _ => told y.w0 { v with waiting := v.waiting.eraseIdx k }
    | none, none, some ws => told (ws.headD 0) { v with responses := v.responses.eraseIdx (k - v.waiting.length) }
    | none, none, none => if v.compose.isEmpty then s else told (v.compose.headD 0) { v with compose := [] }

/-- The loader buffer lost: an UPDATE_STAGE bundle is read again from its last complete flash page (R465). -/
def loseLoaderBuffer (s : State) : State :=
  match s.boot.staging with
  | some g => if g.source.isSome then stageRefill { s with boot := { s.boot with staging := some { g with buffer := [] } } } else s
  | none => s

/-- A re-key record lost: its page is LOST (R193); a record of a node takes the pages beneath the node, as the node itself would (DESIGN
CHOICE, log 160). -/
def loseRekey (s : State) (r : Rekey) : State :=
  let dead := match r.item with
    | .node _ _ => r.item :: s.tree.dead
    | _ => s.tree.dead
  { s with tree := { s.tree with rekeys := s.tree.rekeys.filter (fun x => decide (x.item ≠ r.item)), lost := s.tree.lost ++ [r.item], dead := dead } }

/-- An undecodable word of the metadata cache: a dirty line is lost, a clean one is fetched again; past the lines stand the re-key records
(R193, R465). -/
def loseMetaWord (s : State) (i : Nat) : State :=
  match s.tree.lines[i]?, s.tree.rekeys[i - s.tree.lines.length]? with
  | some (la, m), _ => if m.dirty then loseLine s la else dropMeta s la
  | none, some r => loseRekey s r
  | none, none => s

/-- What an undecodable word loses before the jobs end and the caches are written back. -/
def loseEarly (s : State) (i : Fin 9) (w : Nat) : State :=
  match i with
  | 1 => loseMetaWord s w
  | 7 => loseSlot s w
  | _ => s

/-- What an undecodable word loses at step 4 of the restart. -/
def loseLate (s : State) (i : Fin 9) (w : Nat) : State :=
  match i with
  | 0 => { s with flt := { s.flt with codeLost := s.flt.codeLost || decide (w = 0) } }
  | 2 => loseContext s w
  | 5 => loseLoaderBuffer s
  | 8 => if (dslot s w).state = .free then s else expireSlot (endFeed s w stRestarting) w false
  | _ => s

/-! ### Triplicated words with no two copies in agreement (R470) -/

/-- The life-cycle shadow reloaded; where the OTP reading fails the block behaves as END until PORST_N. The gates keep their levels (R49,
R463). -/
def reloadLife (s : State) : State :=
  let l := lifeInOtp s
  if lcStarts l then { s with lc := { s.lc with state := l } } else cutCustody { s with lc := { s.lc with state := lcEnd, stopped := true } }

/-- The tree root lost: every lane that holds pages is told, and a new tree begins (R189, R190). The epochs stand, and with them models and
receipts; the sheets lay in the old tree (DESIGN CHOICE, log 159). -/
def loseRoot (s : State) : State :=
  let s1 := (tkeys s.lanes (fun _ v => v.held != 0)).foldl (fun t l => faultNotice t 0x04 (some l) 0 (laneAt t l).held.toNat) s
  let s2 := newTree s1
  writeKeyArea { s2 with tree := { s2.tree with newTree := true, seq := s2.tree.seq + 1 }, rcpt := { s2.rcpt with sheets := [] } }

/-- The outcome for a group, by its number in `VOTE_STATUS.GROUPS`. -/
def loseVote (s : State) (g : Nat) : State :=
  let s1 := { s with flt := { s.flt with voteGroups := s.flt.voteGroups ||| BitVec.ofNat 6 (2 ^ g), voteSeq := s.flt.voteSeq + 1 } }
  if g = 0 then reloadLife s1
  else if g = 1 then vacate s1
  else if g = 2 then loseRoot s1
  else if g = 4 then { s1 with boot := { s1.boot with fwOtp := BitVec.ofNat 8 (otpCounter s1 otpFwCounter 8)
                                                      cardOtp := BitVec.ofNat 8 (otpCounter s1 otpCardCounter 8) } }
  else if g = 5 then { s1 with vlog := { s1.vlog with total := 0 } }
  else s1

/-! ### The fault restart (R462 to R466) -/

/-- Steps 1 and 2: armed halves are dropped, and what ran ends RESTARTING, but for update staging (R77, R97). An activation past its
commit still leads to its warm restart. -/
def stopEngines (s : State) : State :=
  let keep (w : Caller) : Bool := match s.boot.staging with
    | some g => match g.source with
      | some x => decide (x.caller = w)
      | none => false
    | none => false
  let s1 := restartJobs { s with cfg := { s.cfg with armed := [] } } keep
  let revert : Bool := match s1.boot.restart with
    | some r => !r.trial && decide (r.reason = 0x0C)
    | none => false
  let act := match s1.boot.activation with
    | some a => if a.prepared then some a else none
    | none => none
  let ops := if act.isSome then s1.nvm.ops else s1.nvm.ops.take 1 ++ (s1.nvm.ops.drop 1).filter (fun o => decide (o ≠ .activate))
  { s1 with boot := { s1.boot with activation := act, restart := if revert then none else s1.boot.restart }
            nvm := { s1.nvm with ops := ops } }

/-- Step 3: the metadata written back on custody's grant, and the metadata, map and key caches invalidated; pages lost (R121). -/
def writeBackAll (s : State) : Nat × State :=
  let s1 := flushDirty s
  settleLost { s1 with tree := { s1.tree with lines := [] }, mapc := { s1.mapc with lines := [] }, keys := { s1.keys with cache := [] } }

/-- Step 5: the fault recorded (R484), and the journal's next record due. -/
def recordRestart (sram lost hold : Nat) (s : State) : State :=
  let storm : Bool := match s.flt.endedAt with
    | some e => decide (s.pace.now ≤ e + 1024)
    | none => false
  let s1 := count s 0x7968 1
  let f := s1.flt
  { s1 with
    flt := { f with seq := f.seq + (if storm then 2 else 1), restart := true, storm := f.storm || storm, restarts := f.restarts + 1
                    lastSram := BitVec.ofNat 4 sram, lastHold := BitVec.ofNat 11 hold, reloaded := false
                    lostPages := BitVec.ofNat 12 (min 4095 lost), lastPace := nowWord s1 }
    bg := { s1.bg with restartsTotal := s1.bg.restartsTotal + 1, journalDue := true } }

/-- Whether a fault calls for a restart: a word that does not decode, or no two copies in agreement (R460). -/
def needsRestart : Upset → Bool
  | .sramWord _ _ r => (decodeWord r).isNone
  | .vote _ => true
  | .copyWrong _ => false

/-- What a fault itself comes to at steps 4 and 5; a word that decodes is corrected, and one wrong copy is rewritten (R86, R462). -/
def treatUpset (s : State) : Upset → State
  | .sramWord i w r => match decodeWord r with
    | none => wordUndecodable i.val w (loseLate s i w)
    | some (_, true) => setHealth (count s 0x7960 1) i.val (fun h => { h with corrected := if h.corrected = 0xFFFF then 0xFFFF else h.corrected + 1 })
    | some (_, false) => s
  | .vote g => loseVote s g.val
  | .copyWrong g => voteFix s g.val

/-- `FAULT_LAST.SRAM`. -/
def upsetCode : Upset → Nat
  | .sramWord i _ _ => i.val
  | _ => 15

/-- Step 6: the paces of the restart pass, which the timers of R463 do not count; the firmware is still to be checked. -/
def resumeAcks (hold : Nat) (s : State) : State :=
  let s1 := passPaces s hold
  let s2 := { s1 with pace := { s1.pace with held := s1.pace.held + hold }
                      flt := { s1.flt with endedAt := some s1.pace.now, resumeDue := decide (s1.boot.phase = 6) } }
  settle (calibrateAgain s2)

/-- What a fault loses before the jobs end and the caches are written back. -/
def upsetEarly (s : State) : Upset → State
  | .sramWord i w _ => loseEarly s i w
  | _ => s

/-- Steps 2 to 4 for one fault, with the pages lost so far. -/
def restartPass (x : Nat × State) (u : Upset) : Nat × State :=
  let (lost, s1) := writeBackAll (stopEngines (upsetEarly x.2 u))
  (x.1 + lost, treatUpset s1 u)

/-- A fault restart that holds custody for `hold` paces. Each further fault that calls for one sends it back to step 2 (R464);
`FAULT_LAST` names the last. Words that decode and single wrong copies, met in the same reading, are put right; without a fault that calls
for it there is no restart. -/
def faultRestart (us : List Upset) (hold : Nat) (s : State) : State :=
  let s1 := (us.filter (fun u => !needsRestart u)).foldl treatUpset s
  match us.filter needsRestart with
  | [] => s1
  | u :: more =>
    let (lost, s2) := (u :: more).foldl restartPass (0, s1)
    let s3 := recordRestart (upsetCode (more.getLastD u)) lost hold s2
    resumeAcks hold (faultNotice s3 0x05 none 0 s3.flt.restarts.toNat)

/-- FAULT_RESTART (R462). -/
def execFaultRestart (u : Upset) (more : List Upset) (hold : BitVec 11) (bus : Bus) (s : State) : Host.Outcome State Fault Refusal :=
  onBus s bus (withClosings (faultRestart (u :: more) hold.toNat))

/-! ### The internal scrub (R478) -/

/-- A finding of the scrub that calls for a fault restart. -/
def scrubUpset : SramFinding → Option Upset
  | .sramWord i w r => if (decodeWord r).isNone then some (.sramWord i w r) else none
  | _ => none

/-- SRAM_SCRUB_PASS's effect: a pass is complete every 1,048,576 paces. Undecodable words begin a fault restart, whose paces the spec bounds by
1,024 and does not state: a free value (R461; log 160). -/
def sramScrub (found : List SramFinding) (s : State) : State :=
  if s.pace.now < s.bg.sramScrubAt + 1048576 then s
  else
    let before := s.flt.correctedRuns
    let s1 := { s with flt := { s.flt with correctedRuns := [] }, bg := { s.bg with sramScrubAt := s.pace.now } }
    let s2 := settle (found.foldl (scrubFinding before) s1)
    match found.filterMap scrubUpset with
    | [] => s2
    | us =>
      let (h, s3) := drawFree s2
      faultRestart us (h.toNat % 1025) s3

/-- SRAM_SCRUB_PASS (R478). -/
def execSramScrubPass (found : List SramFinding) (bus : Bus) (s : State) : Host.Outcome State Fault Refusal :=
  onBus s bus (withClosings (sramScrub found))

/-! ### The firmware after a fault restart (R471) -/

/-- Whether the running pair's firmware slot passes its full check. -/
def reloadFirmware (s : State) : State :=
  let k := pairNo s.boot.pair
  match checkFirmware s k with
  | (.error _, s1) => haltStart s1 2
  | (.ok f, s1) => match checkServices s1 k f with
    | (true, s2) => { s2 with flt := { s2.flt with reloaded := true } }
    | (false, s2) => haltStart s2 2

/-- FIRMWARE_RESUME's effect: with every digest as kept the service resumes, else the slot is read again. -/
def firmwareResume (intact : Bool) (s : State) : State :=
  if !s.flt.resumeDue then s
  else
    let s1 := { s with flt := { s.flt with resumeDue := false, codeLost := false } }
    if intact ∧ !s.flt.codeLost then s1 else reloadFirmware s1

/-- FIRMWARE_RESUME (R471). -/
def execFirmwareResume (intact : Bool) (s : State) : Host.Outcome State Fault Refusal := live s (firmwareResume intact)

/-! ### The counter journal (R483) -/

/-- INTERVAL in paces; 0 stops periodic records. -/
def journalInterval (s : State) : Nat := 1048576 * bits (activeReg s 0x087C) 0 8

/-- Whether a record is due: after a fault restart, or at the interval. -/
def journalWanted (s : State) : Bool :=
  s.bg.journalDue || (decide (journalInterval s ≠ 0) && decide (s.bg.journalAt + journalInterval s ≤ s.pace.now))

/-- JOURNAL_RECORD's effect: the record asked of the flash. -/
def journalRecord (s : State) : State :=
  if !journalWanted s then s
  else match journalNext s with
    | (some (off, o), s1) => nvmEnqueue s1 (.journal off o)
    | (none, s1) => s1

/-- JOURNAL_RECORD (R483). -/
def execJournalRecord (s : State) : Host.Outcome State Fault Refusal := live s journalRecord

end Sys2Proof.Machine
end

