-- ==== Sys2Proof/Machine/Reset.lean ====
section
/-!
DEFINITION. PORST_N falling and the loss of VDD_CORE or VDD_SRAM (R59, R61, R77, R358, R397, R472).
-/

namespace Sys2Proof.Machine

open Sys2Proof

/-! ### What a cut-off operation leaves -/

/-- An OTP program in progress: some of its bits may be set (R397). -/
def cutOtp (s : State) : State :=
  match s.otp.queue with
  | [] => s
  | o :: _ =>
    let (v, s1) := drawFree s
    otpSet s1 o.word (o.bits &&& v.setWidth 32)

/-- The open contents of a signer record. -/
def cutSigner (s : State) (i : Nat) : State :=
  let (o, s1) := freeOctets 6 s
  putSigner s1 i (some (BitVec.ofNat 384 (ofBe o)))

/-- A directory change cut off in its first copy, or in its second one with the first written: never a mixture (R370). -/
def cutDirectory (s : State) (d : Directory) : State :=
  let (v, s1) := drawFree s
  let first := firstCopy s1
  if v.toNat % 2 = 0 then flashSpoil s1 (dirOffset first) 4096
  else flashSpoil (writeDir s1 d) (dirOffset (!first)) 4096

/-- The flash operation in progress cut off: what it writes to holds open contents. -/
def cutFlashOp (s : State) : NvmOp → State
  | .window _ _ _ _ _ _ => s
  | .signer lane slot _ _ => cutSigner s (4 * lane + slot)
  | .cert sel _ _ => flashSpoil s (certPlace s sel) 8192
  | .debugStore _ _ => flashSpoil s debugSectors.1 debugSectors.2
  | .debugErase _ => flashSpoil s debugSectors.1 debugSectors.2
  | .journal off data => flashSpoil s off (if off % 4096 = 0 then 4096 else data.length)
  | .directory d _ => cutDirectory s d
  | .store => flashSpoil s (inactiveRegion s).off (inactiveRegion s).len
  | .eraseStore _ => flashSpoil s (inactiveRegion s).off (inactiveRegion s).len
  | .stage => match s.boot.staging with
    | some g => flashSpoil s (stageBlock s g) sectorLen
    | none => s
  | .activate => match s.boot.activation with
    | some a => match a.sectors with
      | x :: _ => flashSpoil s (x.off / 4096 * 4096) 4096
      | [] => s
    | none => s

/-- The operation in progress, and one suspended beneath a window read. -/
def cutFlash (s : State) : State :=
  let ops := if s.nvm.suspended then s.nvm.ops.take 2 else s.nvm.ops.take 1
  ops.foldl cutFlashOp s

/-! ### Reset -/

/-- What lies outside VDD_CORE and VDD_SRAM or outside the block is kept, the operations in progress cut off: the vault domain, OTP, flash
and memory; all else is as reset leaves it. -/
def clearVolatile (s : State) : State :=
  let c := cutFlash (cutOtp s)
  { pending := s.pending, rng := c.rng, free := c.free, dram := s.dram, vault := s.vault, sleepImage := s.sleepImage
    otp := { words := c.otp.words }
    nvm := { flash := c.nvm.flash, signers := c.nvm.signers }
    tamper := { arm := s.tamper.arm, gateHold := s.tamper.gateHold, inputs := s.tamper.inputs, zeroize := s.tamper.zeroize, sensors := s.tamper.sensors }
    pins := { porstN := s.pins.porstN, vddCore := s.pins.vddCore, vddVault := s.pins.vddVault, tamperOut := s.pins.tamperOut } }

/-- PORST_N falls: the outputs take their reset values and volatile state is cleared (R59, R61). -/
def porstFalls (s : State) : State :=
  if s.pins.porstN then
    let s1 := clearVolatile s
    { s1 with pins := { s1.pins with porstN := false } }
  else s

/-- PORST_N_ASSERT (R59). -/
def execPorstNAssert (s : State) : Host.Outcome State Fault Refusal := .next (porstFalls s)

/-- The supply of a running block fails: everything outside the vault, the OTP and the flash is lost (R472). -/
def powerFails (s : State) : State :=
  let s1 := clearVolatile s
  { s1 with pins := { s1.pins with vddCore := false } }

/-- POWER_FAILURE (R472). -/
def execPowerFailure (s : State) : Host.Outcome State Fault Refusal := .next (if powered s then powerFails s else s)

end Sys2Proof.Machine
end

