-- ==== Sys2Proof/Machine/Tampered.lean ====
section
/-!
DEFINITION. The tampered restart: a warm restart into tampered mode (R451, R454, R455).
-/

namespace Sys2Proof.Machine

open Sys2Proof

/-- What waits or runs under the old tier-0 key ends: jobs, rewrites, activation, staging, restarts. -/
def tamperedJobs (s : State) : State :=
  let s1 := restartJobs (if s.boot.staging.isSome then stageEnd s stRestarting else s) (fun _ => false)
  { s1 with
    keys := { s1.keys with rewrites := [], enrolling := none, kumDue := none }
    lanes := s1.lanes.map (fun e => (e.1, { e.2 with rewriteDue := false, job := none }))
    lc := { s1.lc with job := none }
    boot := { s1.boot with activation := none, confirming := none, restart := none, warm := true } }

/-- TAMPER_ROOT is tier 0: the store is empty, and with the old tree every sheet goes; models and open receipts have gone with their
contexts' epochs (R259, R271, R454). -/
def tamperedKeys (s : State) : State :=
  let k := { s.keys with root := .tamperRoot, tamperRoot := true, vaultState := 1, store := [], handles := [], wkr := none }
  deriveTier1 { s with keys := k, rcpt := { s.rcpt with sheets := [] } } tamperRoot

/-- Every ACTIVE context released (R454). -/
def releaseContexts (s : State) : State :=
  ((tkeys s.ctxs (fun c v => decide (c ≠ 0) && v.state == .active))).foldl closeEpoch s

/-- The new tree, with its event, and the public keys of the new identity in the key area (R189, R276, R279). -/
def tamperedTree (s : State) : State :=
  let s1 := newTree s
  writeKeyArea { s1 with tree := { s1.tree with newTree := true, seq := s1.tree.seq + 1 } }

/-- The relay under its new keys: both links down, a new binding, and up again (R404, R455). -/
def tamperedRelay (s : State) : State :=
  let s1 := signBinding (linkDown (linkDown s .up) .dn)
  pump (segmentNext 3 (bringUp (bringUp s1 .up) .dn))

/-- The tampered restart's effect. -/
def tamperedRestart (s : State) : State :=
  let s1 := tamperedJobs s
  let s2 := (extendNow s1 1 (beOctets 48 s1.boot.fwMeas.toNat)).2
  let s3 := tamperedTree (tamperedKeys (releaseContexts s2))
  let s4 := { s3 with tamper := { s3.tamper with mode := true, restartDue := false }, cust := { s3.cust with stopped := false } }
  calibrateAgain (tamperedRelay s4)

/-- TAMPERED_RESTART (R451). -/
def execTamperedRestart (bus : Bus) (s : State) : Host.Outcome State Fault Refusal :=
  onBus s bus (fun s => if s.tamper.restartDue then tamperedRestart s else s)

end Sys2Proof.Machine
end

