-- ==== Sys2Proof/Machine/Dispatch.lean ====
section
/-!
DEFINITION. One arm per command: each calls the command's meaning.
-/

namespace Sys2Proof.Machine

def exec (i : Instr) (s : State) : Host.Outcome State Fault Refusal :=
  match i with
  | .porstNAssert => Sys2Proof.Machine.execPorstNAssert s
  | .coldStart env bus => Sys2Proof.Machine.execColdStart env bus s
  | .powerFailure => Sys2Proof.Machine.execPowerFailure s
  | .paceTick bus => Sys2Proof.Machine.execPaceTick bus s
  | .sensorSample mv tj => Sys2Proof.Machine.execSensorSample mv tj s
  | .calibrationPeriod => Sys2Proof.Machine.execCalibrationPeriod s
  | .calibrationCountStart => Sys2Proof.Machine.execCalibrationCountStart s
  | .calibrationCountEnd count => Sys2Proof.Machine.execCalibrationCountEnd count s
  | .calibrationAbandoned => Sys2Proof.Machine.execCalibrationAbandoned s
  | .custInRequest ch b => Sys2Proof.Machine.execCustInRequest ch b s
  | .custInWriteBeat ch b => Sys2Proof.Machine.execCustInWriteBeat ch b s
  | .custInResponseAck ch => Sys2Proof.Machine.execCustInResponseAck ch s
  | .custOutRequestAck ch => Sys2Proof.Machine.execCustOutRequestAck ch s
  | .custOutResponse ch r bus => Sys2Proof.Machine.execCustOutResponse ch r bus s
  | .reqWithdrawn bundle changed => Sys2Proof.Machine.execReqWithdrawn bundle changed s
  | .earlyAck bundle => Sys2Proof.Machine.execEarlyAck bundle s
  | .reqStuck bundle => Sys2Proof.Machine.execReqStuck bundle s
  | .ackTimeout bundle => Sys2Proof.Machine.execAckTimeout bundle s
  | .burstTimeout burst => Sys2Proof.Machine.execBurstTimeout burst s
  | .noResponse ch tag => Sys2Proof.Machine.execNoResponse ch tag s
  | .keyDerivation => Sys2Proof.Machine.execKeyDerivation s
  | .mapWalk bus => Sys2Proof.Machine.execMapWalk bus s
  | .metadataFetch bus => Sys2Proof.Machine.execMetadataFetch bus s
  | .metadataWriteback bus => Sys2Proof.Machine.execMetadataWriteback bus s
  | .rekeyLine bus => Sys2Proof.Machine.execRekeyLine bus s
  | .tileDelayExpire bus => Sys2Proof.Machine.execTileDelayExpire bus s
  | .tileCompletionRead bus => Sys2Proof.Machine.execTileCompletionRead bus s
  | .epochAdvance bus => Sys2Proof.Machine.execEpochAdvance bus s
  | .exceptionTake bus => Sys2Proof.Machine.execExceptionTake bus s
  | .sweepPassStart bus => Sys2Proof.Machine.execSweepPassStart bus s
  | .sweepMapLine bus => Sys2Proof.Machine.execSweepMapLine bus s
  | .sweepPage bus => Sys2Proof.Machine.execSweepPage bus s
  | .scrubPage bus => Sys2Proof.Machine.execScrubPage bus s
  | .sramScrubPass found bus => Sys2Proof.Machine.execSramScrubPass found bus s
  | .faultRestart u more hold bus => Sys2Proof.Machine.execFaultRestart u more hold bus s
  | .firmwareResume intact => Sys2Proof.Machine.execFirmwareResume intact s
  | .journalRecord => Sys2Proof.Machine.execJournalRecord s
  | .vaultShareRefresh => Sys2Proof.Machine.execVaultShareRefresh s
  | .nvmOperationDone how bus => Sys2Proof.Machine.execNvmOperationDone how bus s
  | .directoryChange ok bus => Sys2Proof.Machine.execDirectoryChange ok bus s
  | .keyStoreCommit bus => Sys2Proof.Machine.execKeyStoreCommit bus s
  | .otpAck fail bus => Sys2Proof.Machine.execOtpAck fail bus s
  | .budgetCap cap => Sys2Proof.Machine.execBudgetCap cap s
  | .resetAsserted mid => Sys2Proof.Machine.execResetAsserted mid s
  | .resetReleased mid => Sys2Proof.Machine.execResetReleased mid s
  | .updateStrobeIn bus => Sys2Proof.Machine.execUpdateStrobeIn bus s
  | .strobeApplied => Sys2Proof.Machine.execStrobeApplied s
  | .tamperIn n => Sys2Proof.Machine.execTamperIn n s
  | .zeroizeAll => Sys2Proof.Machine.execZeroizeAll s
  | .supplyGlitch => Sys2Proof.Machine.execSupplyGlitch s
  | .vaultUndervoltage => Sys2Proof.Machine.execVaultUndervoltage s
  | .tamperedRestart bus => Sys2Proof.Machine.execTamperedRestart bus s
  | .tapInstruction ir => Sys2Proof.Machine.execTapInstruction ir s
  | .lcAccess dr => Sys2Proof.Machine.execLcAccess dr s
  | .otpAccessRead addr ans => Sys2Proof.Machine.execOtpAccessRead addr ans s
  | .otpAccessProgram addr data ans => Sys2Proof.Machine.execOtpAccessProgram addr data ans s
  | .coreDebug op => Sys2Proof.Machine.execCoreDebug op s
  | .scan => Sys2Proof.Machine.execScan s
  | .memTest => Sys2Proof.Machine.execMemTest s
  | .memTestComplete => Sys2Proof.Machine.execMemTestComplete s
  | .registerWrite mid off data => Sys2Proof.Machine.execRegisterWrite mid off data s
  | .paceCountLo mid => Sys2Proof.Machine.execPaceCountLo mid s
  | .mpValue mid j => Sys2Proof.Machine.execMpValue mid j s
  | .ctxRecord0 mid => Sys2Proof.Machine.execCtxRecord0 mid s
  | .msgIn mid c data => Sys2Proof.Machine.execMsgIn mid c data s
  | .msgOut mid c => Sys2Proof.Machine.execMsgOut mid c s
  | .dbClear mid c data => Sys2Proof.Machine.execDbClear mid c data s
  | .flush mid c => Sys2Proof.Machine.execFlush mid c s
  | .release mid c => Sys2Proof.Machine.execRelease mid c s
  | .dropResponses mid c => Sys2Proof.Machine.execDropResponses mid c s
  | .strobe mid bus => Sys2Proof.Machine.execStrobe mid bus s
  | .snapshotTake mid => Sys2Proof.Machine.execSnapshotTake mid s
  | .calibrate mid => Sys2Proof.Machine.execCalibrate mid s
  | .seqClear mid off seq => Sys2Proof.Machine.execSeqClear mid off seq s
  | .pairedWriteArm mid off data => Sys2Proof.Machine.execPairedWriteArm mid off data s
  | .pairedWriteExpire mid => Sys2Proof.Machine.execPairedWriteExpire mid s
  | .claim mid data => Sys2Proof.Machine.execClaim mid data s
  | .name mid data => Sys2Proof.Machine.execName mid data s
  | .confirm mid data => Sys2Proof.Machine.execConfirm mid data s
  | .resign mid data => Sys2Proof.Machine.execResign mid data s
  | .electionWindowClose => Sys2Proof.Machine.execElectionWindowClose s
  | .handoverExpire => Sys2Proof.Machine.execHandoverExpire s
  | .acctClearLane mid data => Sys2Proof.Machine.execAcctClearLane mid data s
  | .acctClearAll mid data => Sys2Proof.Machine.execAcctClearAll mid data s
  | .unknownOpcode => Sys2Proof.Machine.execUnknownOpcode s
  | .ping => Sys2Proof.Machine.execPing s
  | .blockInfo => Sys2Proof.Machine.execBlockInfo s
  | .jobStatus => Sys2Proof.Machine.execJobStatus s
  | .jobCancel bus => Sys2Proof.Machine.execJobCancel bus s
  | .noticeFetch => Sys2Proof.Machine.execNoticeFetch s
  | .ctxOpen bus => Sys2Proof.Machine.execCtxOpen bus s
  | .ctxRelease bus => Sys2Proof.Machine.execCtxRelease bus s
  | .pageClaim bus => Sys2Proof.Machine.execPageClaim bus s
  | .pageSeal bus => Sys2Proof.Machine.execPageSeal bus s
  | .pageFreeze bus => Sys2Proof.Machine.execPageFreeze bus s
  | .pageRenew bus => Sys2Proof.Machine.execPageRenew bus s
  | .pageRelease bus => Sys2Proof.Machine.execPageRelease bus s
  | .ctxQuery bus => Sys2Proof.Machine.execCtxQuery bus s
  | .verdictFence bus => Sys2Proof.Machine.execVerdictFence bus s
  | .pageQuery bus => Sys2Proof.Machine.execPageQuery bus s
  | .laneOpen => Sys2Proof.Machine.execLaneOpen s
  | .laneDrain => Sys2Proof.Machine.execLaneDrain s
  | .laneResume => Sys2Proof.Machine.execLaneResume s
  | .laneRelease bus => Sys2Proof.Machine.execLaneRelease bus s
  | .modelLoad bus => Sys2Proof.Machine.execModelLoad bus s
  | .loaderTileWaitExpire bus => Sys2Proof.Machine.execLoaderTileWaitExpire bus s
  | .modelQuery bus => Sys2Proof.Machine.execModelQuery bus s
  | .modelSignerSet bus => Sys2Proof.Machine.execModelSignerSet bus s
  | .receiptOpen bus => Sys2Proof.Machine.execReceiptOpen bus s
  | .receiptClose bus => Sys2Proof.Machine.execReceiptClose bus s
  | .receiptAbandon bus => Sys2Proof.Machine.execReceiptAbandon bus s
  | .receiptRefold bus => Sys2Proof.Machine.execReceiptRefold bus s
  | .receiptVerdictsFinal bus => Sys2Proof.Machine.execReceiptVerdictsFinal bus s
  | .receiptEnter bus => Sys2Proof.Machine.execReceiptEnter bus s
  | .sheetFlush bus => Sys2Proof.Machine.execSheetFlush bus s
  | .sheetCopy bus => Sys2Proof.Machine.execSheetCopy bus s
  | .sheetCollect bus => Sys2Proof.Machine.execSheetCollect bus s
  | .sheetStatus bus => Sys2Proof.Machine.execSheetStatus bus s
  | .receiptFetch bus => Sys2Proof.Machine.execReceiptFetch bus s
  | .sheetAgeExpire bus => Sys2Proof.Machine.execSheetAgeExpire bus s
  | .sheetSigned bus => Sys2Proof.Machine.execSheetSigned bus s
  | .sheetSignRetry bus => Sys2Proof.Machine.execSheetSignRetry bus s
  | .keyHandleOpen bus => Sys2Proof.Machine.execKeyHandleOpen bus s
  | .keyHandleClose => Sys2Proof.Machine.execKeyHandleClose s
  | .keyInfo => Sys2Proof.Machine.execKeyInfo s
  | .keyPublic bus => Sys2Proof.Machine.execKeyPublic bus s
  | .keyDestroy bus => Sys2Proof.Machine.execKeyDestroy bus s
  | .keyUpdate bus => Sys2Proof.Machine.execKeyUpdate bus s
  | .certInstall bus => Sys2Proof.Machine.execCertInstall bus s
  | .vaultSleep bus => Sys2Proof.Machine.execVaultSleep bus s
  | .monoRead => Sys2Proof.Machine.execMonoRead s
  | .monoIncrement => Sys2Proof.Machine.execMonoIncrement s
  | .reenroll bus => Sys2Proof.Machine.execReenroll bus s
  | .rnsEcdsaSign bus => Sys2Proof.Machine.execRnsEcdsaSign bus s
  | .rnsEcdsaVerify bus => Sys2Proof.Machine.execRnsEcdsaVerify bus s
  | .rnsEcdh bus => Sys2Proof.Machine.execRnsEcdh bus s
  | .rnsMldsaSign bus => Sys2Proof.Machine.execRnsMldsaSign bus s
  | .rnsMldsaVerify bus => Sys2Proof.Machine.execRnsMldsaVerify bus s
  | .rnsMlkemKeygen bus => Sys2Proof.Machine.execRnsMlkemKeygen bus s
  | .rnsMlkemEncaps bus => Sys2Proof.Machine.execRnsMlkemEncaps bus s
  | .rnsMlkemDecaps bus => Sys2Proof.Machine.execRnsMlkemDecaps bus s
  | .rnsInfo => Sys2Proof.Machine.execRnsInfo s
  | .rnsLaneAbort bus => Sys2Proof.Machine.execRnsLaneAbort bus s
  | .rnsBankGrant bus => Sys2Proof.Machine.execRnsBankGrant bus s
  | .rnsLoadDone bank bus => Sys2Proof.Machine.execRnsLoadDone bank bus s
  | .rnsValidationEnd bank => Sys2Proof.Machine.execRnsValidationEnd bank s
  | .rnsBlockBoundary bank => Sys2Proof.Machine.execRnsBlockBoundary bank s
  | .rnsRunDone bank bus => Sys2Proof.Machine.execRnsRunDone bank bus s
  | .rnsCheckDone bank agrees => Sys2Proof.Machine.execRnsCheckDone bank agrees s
  | .rnsWriteDone bank bus => Sys2Proof.Machine.execRnsWriteDone bank bus s
  | .rnsClearDone bank bus => Sys2Proof.Machine.execRnsClearDone bank bus s
  | .rnsSpillDone bank bus => Sys2Proof.Machine.execRnsSpillDone bank bus s
  | .rnsRestoreDone bank bus => Sys2Proof.Machine.execRnsRestoreDone bank bus s
  | .rnsLeaseExpire bank => Sys2Proof.Machine.execRnsLeaseExpire bank s
  | .digestOpen bus => Sys2Proof.Machine.execDigestOpen bus s
  | .digestFeed bus => Sys2Proof.Machine.execDigestFeed bus s
  | .digestRead bus => Sys2Proof.Machine.execDigestRead bus s
  | .digestClose => Sys2Proof.Machine.execDigestClose s
  | .digestQuery => Sys2Proof.Machine.execDigestQuery s
  | .digestChunkEnd core bus => Sys2Proof.Machine.execDigestChunkEnd core bus s
  | .digestSlotExpire slot => Sys2Proof.Machine.execDigestSlotExpire slot s
  | .mpRead bus => Sys2Proof.Machine.execMpRead bus s
  | .milepostExtend => Sys2Proof.Machine.execMilepostExtend s
  | .updateStage bus => Sys2Proof.Machine.execUpdateStage bus s
  | .updateActivate bus => Sys2Proof.Machine.execUpdateActivate bus s
  | .warmRestart bus => Sys2Proof.Machine.execWarmRestart bus s
  | .updateConfirm bus => Sys2Proof.Machine.execUpdateConfirm bus s
  | .updateRevert bus => Sys2Proof.Machine.execUpdateRevert bus s
  | .updateDiscard bus => Sys2Proof.Machine.execUpdateDiscard bus s
  | .stageAborted => Sys2Proof.Machine.execStageAborted s
  | .nvmWindowRead bus => Sys2Proof.Machine.execNvmWindowRead bus s
  | .waybillGet bus => Sys2Proof.Machine.execWaybillGet bus s
  | .segmentWaybillGet bus => Sys2Proof.Machine.execSegmentWaybillGet bus s
  | .remoteWaybillGet bus => Sys2Proof.Machine.execRemoteWaybillGet bus s
  | .certRead bus => Sys2Proof.Machine.execCertRead bus s
  | .relayBundleSend bus => Sys2Proof.Machine.execRelayBundleSend bus s
  | .relayKeySend bus => Sys2Proof.Machine.execRelayKeySend bus s
  | .peerOpen bus => Sys2Proof.Machine.execPeerOpen bus s
  | .peerSend bus => Sys2Proof.Machine.execPeerSend bus s
  | .peerClose bus => Sys2Proof.Machine.execPeerClose bus s
  | .relayLinkReset => Sys2Proof.Machine.execRelayLinkReset s
  | .linkRise d => Sys2Proof.Machine.execLinkRise d s
  | .linkFall d => Sys2Proof.Machine.execLinkFall d s
  | .relayTxAck d => Sys2Proof.Machine.execRelayTxAck d s
  | .hello d beats bus => Sys2Proof.Machine.execHello d beats bus s
  | .kem d beats bus => Sys2Proof.Machine.execKem d beats bus s
  | .finished d beats bus => Sys2Proof.Machine.execFinished d beats bus s
  | .credit d beats bus => Sys2Proof.Machine.execCredit d beats bus s
  | .rekey d beats bus => Sys2Proof.Machine.execRekey d beats bus s
  | .bundle d beats bus => Sys2Proof.Machine.execBundle d beats bus s
  | .waybillReq d beats bus => Sys2Proof.Machine.execWaybillReq d beats bus s
  | .waybill d beats bus => Sys2Proof.Machine.execWaybill d beats bus s
  | .segmentReq d beats bus => Sys2Proof.Machine.execSegmentReq d beats bus s
  | .segmentAnswer d beats bus => Sys2Proof.Machine.execSegmentAnswer d beats bus s
  | .keyMsg d beats bus => Sys2Proof.Machine.execKeyMsg d beats bus s
  | .keyResult d beats bus => Sys2Proof.Machine.execKeyResult d beats bus s
  | .peerOpenFrame d beats bus => Sys2Proof.Machine.execPeerOpenFrame d beats bus s
  | .peerMsg d beats bus => Sys2Proof.Machine.execPeerMsg d beats bus s
  | .peerAck d beats bus => Sys2Proof.Machine.execPeerAck d beats bus s
  | .peerCloseFrame d beats bus => Sys2Proof.Machine.execPeerCloseFrame d beats bus s
  | .helloRetryExpire d => Sys2Proof.Machine.execHelloRetryExpire d s
  | .linkRekeyDue d => Sys2Proof.Machine.execLinkRekeyDue d s
  | .creditDue d => Sys2Proof.Machine.execCreditDue d s
  | .creditTimeout d => Sys2Proof.Machine.execCreditTimeout d s
  | .remoteWaitExpire bus => Sys2Proof.Machine.execRemoteWaitExpire bus s
  | .lcTransition bus => Sys2Proof.Machine.execLcTransition bus s
  | .debugInstall bus => Sys2Proof.Machine.execDebugInstall bus s
  | .debugRemove bus => Sys2Proof.Machine.execDebugRemove bus s
  | .tamperLogRead => Sys2Proof.Machine.execTamperLogRead s
  | .snapshotVisible => Sys2Proof.Machine.execSnapshotVisible s
  | .couplingPhaseEnd => Sys2Proof.Machine.execCouplingPhaseEnd s
  | .vddVaultRise => Sys2Proof.Machine.execVddVaultRise s
  | .tamperInFall n => Sys2Proof.Machine.execTamperInFall n s
  | .relayFrameDiscard d beats => Sys2Proof.Machine.execRelayFrameDiscard d beats s
  | .meKindReserved mid => Sys2Proof.Machine.execMeKindReserved mid s

end Sys2Proof.Machine
end

