-- ==== Sys2Proof/WellFormed.lean ====
section
/-!
DEFINITION. What the ports can carry: the checks an operand of a command meets before the block sees it. The meanings are total and ask
none of them.
-/

namespace Sys2Proof

/-- The memory controller answers one access of a line in one step once (R40). -/
def busOk (bus : Bus) : Bool := decide (List.Pairwise (fun a b => ¬(a.addr = b.addr ∧ a.write = b.write)) bus)

/-- A relay beat carries 16 octets (R50). -/
def relayBeatOk (b : RelayBeat) : Bool := decide (b.data.length = 16)

/-- Octet 0 of the header, in the beat that opens a frame, is the TYPE of the row (R409, R410). -/
def frameTypeOk (typ : BitVec 8) (bs : List RelayBeat) : Bool := decide ((bs.head?.bind (fun b => b.data.head?)) = some typ)

/-- The beats of a row's frame. -/
def frameOk (typ : BitVec 8) (bs : List RelayBeat) : Bool := bs.all relayBeatOk && frameTypeOk typ bs

/-- The beat that opens a request has index 0, a continuation beat another one (R35, R36). -/
def firstBeatOk (b : CustBeat) : Bool := decide (b.beat = 0)

/-- A continuation beat (R36). -/
def laterBeatOk (b : CustBeat) : Bool := decide (b.beat ≠ 0)

/-- What the fuses give a start: a repair count for each of the nine SRAMs, and each silent OTP word once (R487, R68). -/
def startOk (env : StartEnv) : Bool := decide (env.spares.length = 9) && decide env.otpSilent.Nodup

/-- A bound on the entries of a register file as findings number them (R134, R215, R284, R313, R358). -/
def regFileSize : RegFile → Nat
  | .tileTable => 512 + 2 ^ 24
  | .handleTable => 512
  | .laneKeys => 64
  | .tierOne => 1
  | .milepost => 32
  | .microinstructions => 2048
  | .laneTags => 16384

/-- A register-file finding names an entry of the file (R478). -/
def findingOk : SramFinding → Bool
  | .regFile f i _ => decide (i < regFileSize f)
  | .sramWord _ _ _ => true
  | .copyWrong _ => true

/-- A fault restart holds the receiving bundles for at most 1,024 paces (R461, R462). -/
def holdOk (hold : BitVec 11) : Bool := decide (hold.toNat ≤ 1024)

/-- A PW register is one of the two that take a paired write (R78, R127); the offset counts words. -/
def pairedOk (off : BitVec 14) : Bool := decide (off = 0x0005) || decide (off = 0x1A00)

/-- Whether a command is one that the surroundings can give. -/
def Instr.wf : Instr → Bool
  | .custInRequest _ b => firstBeatOk b
  | .custInWriteBeat _ b => laterBeatOk b
  | .coldStart env bus => startOk env && busOk bus
  | .sramScrubPass found bus => found.all findingOk && busOk bus
  | .faultRestart _ _ hold bus => holdOk hold && busOk bus
  | .pairedWriteArm _ off _ => pairedOk off
  | .hello _ beats bus => frameOk 0x01 beats && busOk bus
  | .kem _ beats bus => frameOk 0x02 beats && busOk bus
  | .finished _ beats bus => frameOk 0x03 beats && busOk bus
  | .credit _ beats bus => frameOk 0x04 beats && busOk bus
  | .rekey _ beats bus => frameOk 0x05 beats && busOk bus
  | .bundle _ beats bus => frameOk 0x10 beats && busOk bus
  | .waybillReq _ beats bus => frameOk 0x20 beats && busOk bus
  | .waybill _ beats bus => frameOk 0x21 beats && busOk bus
  | .segmentReq _ beats bus => frameOk 0x22 beats && busOk bus
  | .segmentAnswer _ beats bus => frameOk 0x23 beats && busOk bus
  | .keyMsg _ beats bus => frameOk 0x30 beats && busOk bus
  | .keyResult _ beats bus => frameOk 0x31 beats && busOk bus
  | .peerOpenFrame _ beats bus => frameOk 0x40 beats && busOk bus
  | .peerMsg _ beats bus => frameOk 0x41 beats && busOk bus
  | .peerAck _ beats bus => frameOk 0x42 beats && busOk bus
  | .peerCloseFrame _ beats bus => frameOk 0x43 beats && busOk bus
  | .porstNAssert => true
  | .powerFailure => true
  | .paceTick bus => busOk bus
  | .sensorSample _ _ => true
  | .calibrationPeriod => true
  | .calibrationCountStart => true
  | .calibrationCountEnd _ => true
  | .calibrationAbandoned => true
  | .custInResponseAck _ => true
  | .custOutRequestAck _ => true
  | .custOutResponse _ _ bus => busOk bus
  | .reqWithdrawn _ _ => true
  | .earlyAck _ => true
  | .reqStuck _ => true
  | .ackTimeout _ => true
  | .burstTimeout (.relayRx _ beats _) => beats.all relayBeatOk
  | .burstTimeout _ => true
  | .noResponse _ _ => true
  | .keyDerivation => true
  | .mapWalk bus => busOk bus
  | .metadataFetch bus => busOk bus
  | .metadataWriteback bus => busOk bus
  | .rekeyLine bus => busOk bus
  | .tileDelayExpire bus => busOk bus
  | .tileCompletionRead bus => busOk bus
  | .epochAdvance bus => busOk bus
  | .exceptionTake bus => busOk bus
  | .sweepPassStart bus => busOk bus
  | .sweepMapLine bus => busOk bus
  | .sweepPage bus => busOk bus
  | .scrubPage bus => busOk bus
  | .firmwareResume _ => true
  | .journalRecord => true
  | .vaultShareRefresh => true
  | .nvmOperationDone _ bus => busOk bus
  | .directoryChange _ bus => busOk bus
  | .keyStoreCommit bus => busOk bus
  | .otpAck _ bus => busOk bus
  | .budgetCap _ => true
  | .resetAsserted _ => true
  | .resetReleased _ => true
  | .updateStrobeIn bus => busOk bus
  | .strobeApplied => true
  | .tamperIn _ => true
  | .zeroizeAll => true
  | .supplyGlitch => true
  | .vaultUndervoltage => true
  | .tamperedRestart bus => busOk bus
  | .tapInstruction _ => true
  | .lcAccess _ => true
  | .otpAccessRead _ _ => true
  | .otpAccessProgram _ _ _ => true
  | .coreDebug _ => true
  | .scan => true
  | .memTest => true
  | .memTestComplete => true
  | .registerWrite _ _ _ => true
  | .paceCountLo _ => true
  | .mpValue _ _ => true
  | .ctxRecord0 _ => true
  | .msgIn _ _ _ => true
  | .msgOut _ _ => true
  | .dbClear _ _ _ => true
  | .flush _ _ => true
  | .release _ _ => true
  | .dropResponses _ _ => true
  | .strobe _ bus => busOk bus
  | .snapshotTake _ => true
  | .calibrate _ => true
  | .seqClear _ _ _ => true
  | .pairedWriteExpire _ => true
  | .claim _ _ => true
  | .name _ _ => true
  | .confirm _ _ => true
  | .resign _ _ => true
  | .electionWindowClose => true
  | .handoverExpire => true
  | .acctClearLane _ _ => true
  | .acctClearAll _ _ => true
  | .unknownOpcode => true
  | .ping => true
  | .blockInfo => true
  | .jobStatus => true
  | .jobCancel bus => busOk bus
  | .noticeFetch => true
  | .ctxOpen bus => busOk bus
  | .ctxRelease bus => busOk bus
  | .pageClaim bus => busOk bus
  | .pageSeal bus => busOk bus
  | .pageFreeze bus => busOk bus
  | .pageRenew bus => busOk bus
  | .pageRelease bus => busOk bus
  | .ctxQuery bus => busOk bus
  | .verdictFence bus => busOk bus
  | .pageQuery bus => busOk bus
  | .laneOpen => true
  | .laneDrain => true
  | .laneResume => true
  | .laneRelease bus => busOk bus
  | .modelLoad bus => busOk bus
  | .loaderTileWaitExpire bus => busOk bus
  | .modelQuery bus => busOk bus
  | .modelSignerSet bus => busOk bus
  | .receiptOpen bus => busOk bus
  | .receiptClose bus => busOk bus
  | .receiptAbandon bus => busOk bus
  | .receiptRefold bus => busOk bus
  | .receiptVerdictsFinal bus => busOk bus
  | .receiptEnter bus => busOk bus
  | .sheetFlush bus => busOk bus
  | .sheetCopy bus => busOk bus
  | .sheetCollect bus => busOk bus
  | .sheetStatus bus => busOk bus
  | .receiptFetch bus => busOk bus
  | .sheetAgeExpire bus => busOk bus
  | .sheetSigned bus => busOk bus
  | .sheetSignRetry bus => busOk bus
  | .keyHandleOpen bus => busOk bus
  | .keyHandleClose => true
  | .keyInfo => true
  | .keyPublic bus => busOk bus
  | .keyDestroy bus => busOk bus
  | .keyUpdate bus => busOk bus
  | .certInstall bus => busOk bus
  | .vaultSleep bus => busOk bus
  | .monoRead => true
  | .monoIncrement => true
  | .reenroll bus => busOk bus
  | .rnsEcdsaSign bus => busOk bus
  | .rnsEcdsaVerify bus => busOk bus
  | .rnsEcdh bus => busOk bus
  | .rnsMldsaSign bus => busOk bus
  | .rnsMldsaVerify bus => busOk bus
  | .rnsMlkemKeygen bus => busOk bus
  | .rnsMlkemEncaps bus => busOk bus
  | .rnsMlkemDecaps bus => busOk bus
  | .rnsInfo => true
  | .rnsLaneAbort bus => busOk bus
  | .rnsBankGrant bus => busOk bus
  | .rnsLoadDone _ bus => busOk bus
  | .rnsValidationEnd _ => true
  | .rnsBlockBoundary _ => true
  | .rnsRunDone _ bus => busOk bus
  | .rnsCheckDone _ _ => true
  | .rnsWriteDone _ bus => busOk bus
  | .rnsClearDone _ bus => busOk bus
  | .rnsSpillDone _ bus => busOk bus
  | .rnsRestoreDone _ bus => busOk bus
  | .rnsLeaseExpire _ => true
  | .digestOpen bus => busOk bus
  | .digestFeed bus => busOk bus
  | .digestRead bus => busOk bus
  | .digestClose => true
  | .digestQuery => true
  | .digestChunkEnd _ bus => busOk bus
  | .digestSlotExpire _ => true
  | .mpRead bus => busOk bus
  | .milepostExtend => true
  | .updateStage bus => busOk bus
  | .updateActivate bus => busOk bus
  | .warmRestart bus => busOk bus
  | .updateConfirm bus => busOk bus
  | .updateRevert bus => busOk bus
  | .updateDiscard bus => busOk bus
  | .stageAborted => true
  | .nvmWindowRead bus => busOk bus
  | .waybillGet bus => busOk bus
  | .segmentWaybillGet bus => busOk bus
  | .remoteWaybillGet bus => busOk bus
  | .certRead bus => busOk bus
  | .relayBundleSend bus => busOk bus
  | .relayKeySend bus => busOk bus
  | .peerOpen bus => busOk bus
  | .peerSend bus => busOk bus
  | .peerClose bus => busOk bus
  | .relayLinkReset => true
  | .linkRise _ => true
  | .linkFall _ => true
  | .relayTxAck _ => true
  | .helloRetryExpire _ => true
  | .linkRekeyDue _ => true
  | .creditDue _ => true
  | .creditTimeout _ => true
  | .remoteWaitExpire bus => busOk bus
  | .lcTransition bus => busOk bus
  | .debugInstall bus => busOk bus
  | .debugRemove bus => busOk bus
  | .tamperLogRead => true
  | .snapshotVisible => true
  | .couplingPhaseEnd => true
  | .vddVaultRise => true
  | .tamperInFall _ => true
  | .relayFrameDiscard _ beats => beats.all relayBeatOk
  | .meKindReserved _ => true

end Sys2Proof
end

