-- ==== Sys2Proof/Safety.lean ====
section
/-!
DEFINITION. The terms in which claims about the block are stated: a step that completes, a block that is held in reset or without supply,
the canonical form of memory, a request that the controller serves, and what its requester reads.
-/

namespace Sys2Proof.Safety

open Sys2Proof Sys2Proof.Machine

/-! ### Steps -/

/-- A step completes: it answers a next state that passes a test. -/
def Completes (o : Host.Outcome State Fault Refusal) (p : State → Prop) : Prop := ∃ t, o = .next t ∧ p t

/-- When a row acts. -/
inductive Acts where
  /-- while PORST_N is high and VDD_CORE and VDD_SRAM are present -/
  | running
  /-- while VDD_VAULT is present -/
  | vaultSupplied
  /-- it reports PORST_N or a supply itself -/
  | always
deriving DecidableEq, Repr

/-- When each row acts (R47, R59, R60). -/
def actsWhile : Instr → Acts
  | .porstNAssert => .always
  | .coldStart _ _ => .always
  | .powerFailure => .always
  | .vddVaultRise => .always
  | .tamperIn _ => .vaultSupplied
  | .tamperInFall _ => .vaultSupplied
  | .zeroizeAll => .vaultSupplied
  | .vaultUndervoltage => .vaultSupplied
  | _ => .running

/-! ### A block in reset or without supply (R59 to R61, R472) -/

/-- The outputs of R61 stand at their values, and nothing volatile is held. -/
structure Cleared (s : State) : Prop where
  gates : s.pins.gates = 0
  strobe : s.pins.strobeOutAt = none
  nvmReset : s.pins.nvmResetN = false
  rdata : s.pins.ctlRdata = 0
  nvmPins : s.pins.nvmCsN = true ∧ s.pins.nvmSck = false ∧ s.pins.nvmDq = none ∧ s.pins.tdo = none
  registers : s.cfg = {} ∧ s.own = {} ∧ s.vlog = {}
  mailboxes : s.mbox = []
  time : s.pace = {} ∧ s.power = {} ∧ s.cnt = []
  tenants : s.lanes = [] ∧ s.ctxs = [] ∧ s.laneTags = [] ∧ s.pages = []
  custody : s.cust = {} ∧ s.mapc = {} ∧ s.tree = {} ∧ s.tiles = {} ∧ s.bg = {}
  faults : s.flt = {}
  keys : s.keys = {}
  life : s.lc = {} ∧ s.boot = {}
  engines : s.rns = {} ∧ s.dig = {} ∧ s.miles = {}
  receipts : s.rcpt = {}
  relay : s.relay = {}
  storage : s.otp.queue = [] ∧ s.nvm.ops = []

/-- The invariant: no answer of the memory controller outlasts its step, and a block that is held holds nothing volatile. -/
def Inv (s : State) : Prop := s.bus = [] ∧ (powered s = false → Cleared s)

/-! ### Memory -/

/-- The canonical form of what the memory controller stores. -/
def memoryWf (s : State) : Bool := tableWf 0 s.dram

/-! ### Right of way and paired writes (R71, R76, R84) -/

/-- The word written to `OWNER_CLAIM` for an action and its target (R71, R78). -/
def actionWord (act : Nat) (target : Mid) : W32 := field 32 0 8 act ||| field 32 8 8 target.toNat ||| field 32 16 16 0x57A7

/-- A master may act, and its half of a paired write stands armed at a register with a value, for at most 64 paces. -/
structure HalfArmed (s : State) (mid : Mid) (off : Nat) (v : W32) : Prop where
  acts : canAct s mid = true
  half : ∃ p, tfind s.cfg.armed mid.toNat = some { off := off, value := v, at_ := p } ∧ clock s ≤ p + 64

/-- An owner action refused: a master that may write `OWNER_CLAIM` loses its armed half, any other changes nothing; either way ACCESS_DENIED is
logged with its MID (R71, R80). -/
def actionDenied (s : State) (mid : Mid) : State :=
  ctlWrote (violate (if mayClaim s mid then disarm s mid else s) pCtl kAccessDenied (some mid))

/-- A channel whose waiting requests have lost the right of way they were stamped with (R76). -/
def stampsGone (v : Channel) : Channel :=
  { v with waiting := v.waiting.map (fun r => if bit r.w1 15 then { r with lostOwner := true } else r) }

/-- The whole effect of a change of owner on a state s: GEN rises, the shadows return, every active channel is told, requests that wait as the
owner's are so no longer, milepost 6 is to be extended with the `OWNER` register. -/
structure OwnerChange (s t : State) (own : Own) : Prop where
  own : t.own = { own with gen := s.own.gen + 1 }
  shadows : t.cfg = { s.cfg with shadow := s.cfg.active }
  bells : ∀ c, chanAt t c =
    let v := stampsGone (chanAt s c)
    if isActive s c then { v with latched := v.latched ||| 0x20 } else v
  milepost : t.miles = { s.miles with queue := s.miles.queue ++ [{ mp := 6, d := beOctets 4 (ownerWord t).toNat, slot := none }] }
  rest : { t with own := s.own, cfg := s.cfg, mbox := s.mbox, miles := s.miles } = s

/-! ### Paces -/

/-- No unit has work that a pace moves on: no custody request, page command, loader or engine job, flash operation, wait for a key, update,
sleep or relay beat. -/
structure Quiet (s : State) : Prop where
  custody : s.cust.reqs = [] ∧ s.tree.lost = [] ∧ s.tree.broken = [] ∧ ∀ ch : Fin 4, (inChan s ch.val).held = []
  pages : s.pages = []
  loader : s.rcpt.load = none
  rns : s.rns.lanes = none
  digest : ∀ c ∈ s.dig.cores, c.slot = none
  storage : s.nvm.ops = [] ∧ s.boot.staging = none ∧ s.boot.activation = none
  keys : s.keys.wkr = none ∧ s.keys.kumDue = none ∧ s.keys.sleeping = none
  opens : s.dig.opens = []
  relay : s.relay.linkUp.wire = none ∧ s.relay.linkDn.wire = none

/-! ### Custody -/

/-- No bundle waits for its ACK on a `CUST_IN` channel (R37, R231). -/
def NoneHeld (s : State) : Prop := ∀ ch : Fin 4, (inChan s ch.val).held = []

/-- No page waits to be made LOST or POISONED (R148, R193). -/
def NoneLost (s : State) : Prop := s.tree.lost = [] ∧ s.tree.broken = []

/-- No custody request is in the queues, no bundle waits for its ACK, and no page waits to be lost. -/
def CustodyIdle (s : State) : Prop := s.cust.reqs = [] ∧ NoneHeld s ∧ NoneLost s

/-- A whole request in its first beat: a read, or a write of one line, within a page, with a free tag, on a channel that takes it from a
custody path that serves, its REQ having fallen since the bundle before it (R27, R36, R37, R66, R231). -/
structure WholeRequest (s : State) (ch : Fin 4) (b : CustBeat) : Prop where
  serves : s.cust.enabled = true ∧ s.cust.stopped = false ∧ s.keys.asleep = false
  fell : s.vlog.stuck.contains (pCustIn ch) = false
  first : b.beat = 0 ∧ (inChan s ch.val).openWrite = none
  shape : b.op ≠ 3 ∧ (b.op ≠ 0 → b.len = 0) ∧ b.addr.toNat % 64 + b.len.toNat + 1 ≤ 64
  taken : ackWithheld s ch b = false ∧ tagOut s ch.val b.tag = false

/-- The one request in the queues: one line of a page that is not SEALED, and no bundle waits for its ACK. -/
structure OneLine (s : State) (r : CustReq) : Prop where
  alone : s.cust.reqs = [r] ∧ NoneLost s ∧ s.pages = [] ∧ NoneHeld s
  line : r.n = 1 ∧ r.tiles = []
  sealed : reqClass r ≠ .sealedC

/-- The answer to a request of one line (R38). -/
def answer (r : CustReq) (v : Verdict) (d : Line) : RspBeat :=
  { tag := r.tag, beat := 0, write := decide (r.op ≠ 0), verdict := v, data := d, mid := r.mid, lane := r.lane, last := true,
    counted := r.counted, ctx := r.ctx, owner := r.owner }

/-- The one answer of a refused request that counts for no lane: of a write or of one line of a read, beat 0 (R38, R68). -/
def refusal (b : CustBeat) (write : Bool) (v : Verdict) : RspBeat :=
  { tag := b.tag, beat := 0, write := write, verdict := v, data := 0, mid := b.mid, lane := 0, last := true, counted := false,
    ctx := 0, owner := 0 }

/-- A page's map entry can be written from what is at hand: its map line, the counter block of the map line's page with a minor left, and the
seal line, in a metadata cache with room, and its channel answers (R68, R145, R180, R193). -/
structure EntryAtHand (s : State) (p : Nat) (m : MapLine) : Prop where
  cached : tfind s.mapc.lines (pageIndex s p / 16) = some m
  up : ownDown s (mapLineAddr s (pageIndex s p / 16)) = false
  words : m.words.length = 16
  room : dirtyLines s < 1000 ∧ s.tree.lost = [] ∧ s.keys.asleep = false
  counter : ∃ l, tfind s.tree.lines (itemAddr s (.ctr (pageIndex s (mapLineAddr s (pageIndex s p / 16) / 64)))) = some l ∧
    minorOf l.data (mapLineAddr s (pageIndex s p / 16) % 64) < 127
  sealLine : ∃ l, tfind s.tree.lines
    (lineSealAt s (pageIndex s (mapLineAddr s (pageIndex s p / 16) / 64)) (mapLineAddr s (pageIndex s p / 16) % 64)).1 = some l
  apart : (lineSealAt s (pageIndex s (mapLineAddr s (pageIndex s p / 16) / 64)) (mapLineAddr s (pageIndex s p / 16) % 64)).1 ≠
    itemAddr s (.ctr (pageIndex s (mapLineAddr s (pageIndex s p / 16) / 64)))

/-! ### Mailboxes -/

/-- The controller starts a request: it is the one picked, it carries the opcode, the controller serves, and no check of R96 refuses it;
`t` is the state in which it runs. -/
structure Started (s : State) (op : Nat) (k : Call) (t : State) : Prop where
  picked : ∃ c, pickChannel s = some c ∧ startRequest s c = some (k, t)
  opcode : opcodeOf k.req.w0 = op
  serves : serving s op = .serves
  allowed : requestRefusal t k = none

/-- The call's requester reads this answer next, after the answers it has not read yet, and no other channel changes. -/
def Answered (s : State) (k : Call) (t : State) (st : BitVec 8) (ws : List W32) : Prop :=
  chanAt t k.ch = { chanAt s k.ch with running := none, responses := (chanAt s k.ch).responses ++ [response k.req.w0 false st ws] } ∧
  ∀ c, c ≠ k.ch → chanAt t c = chanAt s c

/-- Ticket i of the call's channel has ended with a status and result words, which JOB_STATUS answers (R98). -/
def TicketEnded (t : State) (k : Call) (i : Nat) (st : BitVec 8) (ws : List W32) : Prop :=
  ∃ j, tfind (chanAt t k.ch).tickets i = some j ∧ j.status = some st ∧ j.result = ws

/-- Ticket i of the call's channel runs: the request was answered ACCEPTED with it (R98). -/
def TicketRuns (s : State) (k : Call) (t : State) (i : Nat) : Prop :=
  (∃ j, tfind (chanAt t k.ch).tickets i = some j ∧ j.status = none ∧ j.stamp = k.req.w1) ∧
  (chanAt t k.ch).running = none ∧
  (chanAt t k.ch).responses = (chanAt s k.ch).responses ++ [response k.req.w0 true stAccepted [BitVec.ofNat 32 i]]

/-! ### Relay -/

/-- A step that serves a request and changes the mailboxes alone, but that the controller's work on it counts for its lane (R123, R125). -/
def MailOnly (s u : State) (k : Call) : Prop :=
  { u with mbox := s.mbox, cnt := s.cnt, free := s.free } = ended s s ∧
  ∀ off, off ≠ 0x7010 + 32 * workLane s k → off ≠ 0x7018 + 32 * workLane s k → counter u off = counter s off

/-- What the beats of a received frame of a TYPE lead to, for a row and what the row does with a frame that is for this device (R50, R68,
R412, R414, R421): beats that make no frame are discarded and logged; a frame that fails a check only settles the port; one that passes is
counted, and then consumed with its credit given back, forwarded, both, or discarded as unroutable. -/
def FrameServed (row : Dir → List RelayBeat → Bus → Instr) (typ : Nat) (act : Dir → RxHead → Octets → State → State) : Prop :=
  ∀ (s : State) (d : Dir) (bs : List RelayBeat) (bus : Bus), powered s = true → portTakes s d = true →
    let on := relayFell { s with bus := bus } d
    (∀ e, frameOf bs = .error e → exec (row d bs bus) s = .next (ended s (frameBroken on d e))) ∧
    ∀ f, frameOf bs = .ok f → (rxHead f).typ = typ →
      let h := rxHead f
      (∀ s1, rxCheck on d h f = (none, s1) → exec (row d bs bus) s = .next (ended s (relaySettle s1))) ∧
      (∀ p s1, rxCheck on d h f = (some p, s1) →
        let s2 := act d h p (count s1 0x7940 p.length)
        (rxRoute s1 d h = .consumed → exec (row d bs bus) s = .next (ended s (relaySettle (consumed s2 d typ)))) ∧
        (∀ out, rxRoute s1 d h = .forwarded out →
          exec (row d bs bus) s = .next (ended s (relaySettle (forwardFrame (count s1 0x7940 p.length) d out h p)))) ∧
        (rxRoute s1 d h = .both →
          exec (row d bs bus) s = .next (ended s (relaySettle
            (if linkStands (linkOf s2 .dn) then forwardFrame s2 d .dn h p else consumed s2 d typ)))) ∧
        (rxRoute s1 d h = .unroutable → exec (row d bs bus) s = .next (ended s (relaySettle
          (discardFrame (relayEvent s1 (fun r => { r with unroutable := true })) d typ)))))

end Sys2Proof.Safety
end

