-- ==== Sys2Proof/Certificates/Slice0/Obligations.lean ====
section
/-!
DEFINITION. The statements for the provers.
-/

open Sys2Proof Sys2Proof.Machine Sys2Proof.Safety

/-! ### The machine -/

/-- A step runs the command at the front of the queue on the block with the rest of the queue. -/
def Obligations.StepRunsFrontCommand : Prop :=
  ∀ (c : Instr) (rest : List Instr) (s : State), step { s with pending := c :: rest } = exec c { s with pending := rest }

/-- Every command completes in every state, none ends in a fault or a refusal; none touches the queue of the commands that wait, and only
the rows that report PORST_N and the supplies change them (R59, R60, R62). -/
def Obligations.EveryCommandCompletes : Prop :=
  ∀ (c : Instr) (s : State), ∃ t, exec c s = .next t ∧ t.pending = s.pending ∧
    ((∀ env bus, c ≠ .coldStart env bus) → c ≠ .porstNAssert → c ≠ .powerFailure → c ≠ .vddVaultRise →
      t.pins.porstN = s.pins.porstN ∧ t.pins.vddCore = s.pins.vddCore ∧ t.pins.vddVault = s.pins.vddVault)

/-- While PORST_N is low or a supply is off, only cold start and the vault domain's own events have an effect (R47, R59). -/
def Obligations.HeldBlockTakesNothing : Prop :=
  ∀ (c : Instr) (s : State), powered s = false → (∀ env bus, c ≠ .coldStart env bus) → c ≠ .porstNAssert → c ≠ .vddVaultRise →
    (∀ n, c ≠ .tamperIn n) → (∀ n, c ≠ .tamperInFall n) → c ≠ .zeroizeAll → c ≠ .vaultUndervoltage → exec c s = .next s

/-- Every step keeps the invariant: while the block is held in reset or without supply it holds nothing volatile and its outputs stand at
their values, and no answer of the memory controller outlasts its step (R59, R61, R472). -/
def Obligations.StepKeepsInvariant : Prop := ∀ (s t : State), Inv s → step s = .next t → Inv t

/-- The state after reset meets the invariant, with an empty queue and canonical memory. -/
def Obligations.ResetMeetsInvariant : Prop := Inv State.reset ∧ State.reset.pending = [] ∧ memoryWf State.reset = true

/-- After reset the outputs and the registers read what the spec states: the gates are closed, no doorbell line is raised, the
elapsed-pace count and the violation log are 0, no master holds right of way, and context 0 and lane 0 are in service (R61, R107, R63,
R69, R128, R132). -/
def Obligations.ResetValues : Prop :=
  State.reset.pins.gates = 0 ∧ (∀ c, dbLine State.reset c = false) ∧ State.reset.pace.now = 0 ∧ State.reset.vlog.total = 0 ∧
  (∀ k, vEntry State.reset.vlog k = {}) ∧ hasOwner State.reset = false ∧ (laneAt State.reset 0).state = .opened ∧
  (ctxAt State.reset 0).state = .active ∧ (∀ l, l ≠ 0 → (laneAt State.reset l).state = .closed) ∧
  (∀ c, c ≠ 0 → (ctxAt State.reset c).state = .free)

/-! ### Memory, counters, the violation log -/

/-- A line stored is what the block reads back, every other line reads as before, and the canonical form of memory is kept. -/
def Obligations.StoredLineReadsBack : Prop :=
  ∀ (s : State) (la : Nat) (l : Line),
    (storesInFlight (storeLine s la l) la = [] ∧ storedLine (storeLine s la l) la = l) ∧
    (∀ la', la' ≠ la → storedLine (storeLine s la l) la' = storedLine s la') ∧
    (memoryWf s = true → memoryWf (storeLine s la l) = true)

/-- The counters that `SNAPSHOT.TAKE` captures are 64 bits wide and wrap; raising one leaves every other one (R485). -/
def Obligations.CounterRises : Prop :=
  ∀ (s : State) (off n : Nat),
    (counter (count s off n) off).toNat = ((counter s off).toNat + n) % 2 ^ 64 ∧
    (∀ off', off' ≠ off → counter (count s off n) off' = counter s off') ∧
    { count s off n with cnt := s.cnt } = s

/-- An occurrence that matches the most recent entry merges into it, at 127 too, and any other is written at HEAD (R63). -/
def Obligations.ViolationLogMerges : Prop :=
  ∀ (v : VLog) (port kind : BitVec 8) (mid : Mid) (midv : Bool) (pace : W32),
    let e := vEntry v (v.head - 1).toNat
    let v' := vlogAdd v port kind mid midv pace
    (e.rep ≠ 0 ∧ e.port = port ∧ e.kind = kind ∧ e.mid = mid ∧ e.midv = midv →
      v'.head = v.head ∧ v'.wrapped = v.wrapped ∧
      vEntry v' (v.head - 1).toNat = { e with rep := if e.rep = 127 then 127 else e.rep + 1 } ∧
      ∀ k, k ≠ (v.head - 1).toNat → vEntry v' k = vEntry v k) ∧
    (¬(e.rep ≠ 0 ∧ e.port = port ∧ e.kind = kind ∧ e.mid = mid ∧ e.midv = midv) →
      v'.head = v.head + 1 ∧
      vEntry v' v.head.toNat = { port := port, kind := kind, mid := mid, midv := midv, rep := 1, pace := pace } ∧
      ∀ k, k ≠ v.head.toNat → vEntry v' k = vEntry v k) ∧
    v'.seq = v.seq + 1 ∧ v'.total = (if v.total = 0xFFFF then v.total else v.total + 1)

/-- A line sealed under its counters and opened under them is the plaintext, with no correction, for every class (R169, R170, R174). -/
def Obligations.SealedLineOpens : Prop :=
  ∀ (k : CtxKey) (c : CustClass) (major minor la : Nat) (p : Line),
    let r := sealLine k c major minor la p
    openLine k c { major := major, minor := minor, sl := r.2.1, check := r.2.2 } la r.1 = { line := .ok (p, r.1), fixed := false }

/-- A single-symbol error in a stored line, of any value at any position, is corrected, and so is one in a SEALED line (R174). -/
def Obligations.OneSymbolCorrected : Prop :=
  (∀ (item : Line) (mac : BitVec 48) (i e : Nat), i < 128 → 0 < e → e < 16 →
    decodeSeal (item ^^^ BitVec.ofNat 512 (e <<< (4 * i))) (makeSeal item mac) = some { item := item, mac := mac, fixed := true }) ∧
  (∀ (item : Line) (i e : Nat), i < 128 → 0 < e → e < 16 →
    decodeSealedLine (item ^^^ BitVec.ofNat 512 (e <<< (4 * i))) (makeCheck item) = some (item, true))

/-- The arbiter grants standing draw, the floors of 18 permits, custody and the pool within the budget, custody up to its demand, and the
total at most 16 permits above the last; where the budget does not reach 22 permits above the standing draw, custody still gets 4, the pool
nothing, and FLOOR_SHORT is set (R115, R117, R118). -/
def Obligations.ArbiterWithinBudget : Prop :=
  ∀ s : State,
    (effectiveBudget s < ceilDiv (standingMw s) 4 + 22 →
      (grants s).custody = 4 ∧ (grants s).pool = (0, 0, 0) ∧ (grants s).floorShort = true) ∧
    (ceilDiv (standingMw s) 4 + 22 ≤ effectiveBudget s →
      (grants s).standing + 18 + (grants s).custody + poolSum (grants s).pool ≤ effectiveBudget s ∧
      (grants s).custody ≤ custodyDemand s ∧
      (18 ≤ s.power.granted.toNat + 16 → 18 + (grants s).custody + poolSum (grants s).pool ≤ s.power.granted.toNat + 16))


/-! ### Right of way and paired writes -/

/-- CLAIM by the best rank in the window, CONFIRM by the named successor, and the end of a window with a claim give right of
way, with all the effects of a change of owner and no other (R71 to R74, R76). -/
def Obligations.RightOfWayTaken : Prop :=
  ∀ (s : State) (mid : Mid), powered s = true →
    (HalfArmed s mid 0x0014 (actionWord 1 0) →
      s.own.phase = .window ∧ s.own.remaining ≠ 0 ∧ rankOf s mid = some (topRank s) ∧ mid ∉ s.own.claims →
      Completes (exec (.claim mid (~~~(actionWord 1 0))) s) (fun t => OwnerChange (ended s (ctlWrote (disarm s mid))) t
        { s.own with mid := mid, phase := .owned, successor := 0, remaining := 0, claims := [] })) ∧
    (HalfArmed s mid 0x0014 (actionWord 3 0) → s.own.phase = .handover → s.own.remaining ≠ 0 → s.own.successor = mid →
      Completes (exec (.confirm mid (~~~(actionWord 3 0))) s) (fun t => OwnerChange (ended s (ctlWrote (disarm s mid))) t
        { s.own with mid := mid, phase := .owned, successor := 0, remaining := 0, claims := [] })) ∧
    (∀ r, s.own.phase = .window → s.own.remaining = 0 → bestClaim s = some (mid, r) →
      Completes (exec .electionWindowClose s) (fun t => OwnerChange (ended s s) t
        { s.own with mid := mid, phase := .owned, successor := 0, remaining := 0, claims := [] }))

/-- A claim of another rank waits for the window's end; NAME starts, replaces or cancels a
handover; an expired handover leaves the owner; RESIGN vacates and opens a window of 8,192 paces; and an action by a master that may not take
it changes nothing but the armed half, which a master that may not write OWNER_CLAIM keeps, and is logged as ACCESS_DENIED with its MID (R71 to
R74, R76, R80). -/
def Obligations.RightOfWayKept : Prop :=
  (∀ (s : State) (mid target : Mid), powered s = true →
     (∀ r, HalfArmed s mid 0x0014 (actionWord 1 0) → s.own.phase = .window → s.own.remaining ≠ 0 → rankOf s mid = some r →
       r ≠ topRank s → mid ∉ s.own.claims →
       exec (.claim mid (~~~(actionWord 1 0))) s =
         .next (ended s (ctlWrote { disarm s mid with own := { s.own with claims := s.own.claims ++ [mid] } }))) ∧
     (HalfArmed s mid 0x0014 (actionWord 2 target) → isOwner s mid = true → (s.own.phase = .handover → s.own.remaining ≠ 0) →
       target ≠ mid → (rankOf s target).isSome = true →
       exec (.name mid (~~~(actionWord 2 target))) s =
         .next (ended s (ctlWrote { disarm s mid with own := { s.own with phase := .handover, successor := target, remaining := 4096 } }))) ∧
     (HalfArmed s mid 0x0014 (actionWord 2 mid) → isOwner s mid = true → (s.own.phase = .handover → s.own.remaining ≠ 0) →
       exec (.name mid (~~~(actionWord 2 mid))) s =
         .next (ended s (ctlWrote (if s.own.phase = .handover
           then { disarm s mid with own := { s.own with phase := .owned, successor := 0, remaining := 0 } } else disarm s mid)))) ∧
     (s.own.phase = .handover → s.own.remaining = 0 →
       exec .handoverExpire s = .next (ended s { s with own := { s.own with phase := .owned, successor := 0 } })) ∧
     (HalfArmed s mid 0x0014 (actionWord 4 0) → isOwner s mid = true → (s.own.phase = .handover → s.own.remaining ≠ 0) →
       Completes (exec (.resign mid (~~~(actionWord 4 0))) s) (fun t => OwnerChange (ended s (ctlWrote (disarm s mid))) t
         { s.own with mid := 0, phase := .window, successor := 0, remaining := 8192, claims := [] }))) ∧
  (∀ (s : State) (mid target : Mid), powered s = true → (s.own.phase = .window ∨ s.own.phase = .handover → s.own.remaining ≠ 0) →
     (HalfArmed s mid 0x0014 (actionWord 1 0) → rankOf s mid = none ∨ (s.own.phase ≠ .window ∧ s.own.phase ≠ .opened) →
       exec (.claim mid (~~~(actionWord 1 0))) s = .next (ended s (actionDenied s mid))) ∧
     (HalfArmed s mid 0x0014 (actionWord 2 target) → isOwner s mid = false →
       exec (.name mid (~~~(actionWord 2 target))) s = .next (ended s (actionDenied s mid))) ∧
     (HalfArmed s mid 0x0014 (actionWord 2 target) → target ≠ mid → rankOf s target = none →
       exec (.name mid (~~~(actionWord 2 target))) s = .next (ended s (actionDenied s mid))) ∧
     (HalfArmed s mid 0x0014 (actionWord 3 0) → s.own.successor ≠ mid ∨ s.own.phase ≠ .handover →
       exec (.confirm mid (~~~(actionWord 3 0))) s = .next (ended s (actionDenied s mid))) ∧
     (HalfArmed s mid 0x0014 (actionWord 4 0) → isOwner s mid = false →
       exec (.resign mid (~~~(actionWord 4 0))) s = .next (ended s (actionDenied s mid))))

/-- A window that closes with no claim ends in OPEN, where the first valid claim wins at once with the whole effect of a change of owner
(R73). -/
def Obligations.UncontestedWindow : Prop :=
  ∀ (s : State) (mid : Mid), powered s = true →
    (s.own.phase = .window → s.own.remaining = 0 → bestClaim s = none →
      exec .electionWindowClose s = .next (ended s { s with own := { s.own with phase := .opened, remaining := 0, claims := [] } })) ∧
    (s.own.phase = .opened → HalfArmed s mid 0x0014 (actionWord 1 0) → (rankOf s mid).isSome = true →
      Completes (exec (.claim mid (~~~(actionWord 1 0))) s) (fun t => OwnerChange (ended s (ctlWrote (disarm s mid))) t
        { s.own with mid := mid, phase := .owned, successor := 0, remaining := 0, claims := [] }))

/-- A first half of a master that may write the register replaces its earlier one; any other master's changes nothing and is logged as
ACCESS_DENIED (R80). A half that has expired, a second half without a first, or one that is no complement disarms it, changes nothing else and
is logged as PAIRED_WRITE (R84). -/
def Obligations.PairedWrites : Prop :=
  ∀ (s : State) (mid : Mid) (v d : W32), powered s = true →
    (∀ off : BitVec 14, canAct s mid = true → (off = 0x0005 ∧ mayClaim s mid = true) ∨ (off = 0x1A00 ∧ isOwner s mid = true) →
      (∀ a, tfind s.cfg.armed mid.toNat = some a → clock s ≤ a.at_ + 64) →
      exec (.pairedWriteArm mid off v) s = .next (ended s (ctlWrote { s with cfg := { s.cfg with
        armed := tput s.cfg.armed mid.toNat { off := 4 * off.toNat, value := v, at_ := clock s } } }))) ∧
    (∀ off : BitVec 14, canAct s mid = true → (off = 0x0005 ∧ mayClaim s mid = false) ∨ (off = 0x1A00 ∧ isOwner s mid = false) →
      exec (.pairedWriteArm mid off v) s = .next (ended s (ctlWrote (violate s pCtl kAccessDenied (some mid))))) ∧
    (∀ a, tfind s.cfg.armed mid.toNat = some a →
      exec (.pairedWriteExpire mid) s =
        .next (ended s (if a.at_ + 64 < clock s then violate (disarm s mid) pCtl kPairedWrite (some mid) else s))) ∧
    (canAct s mid = true → mayClaim s mid = true → tfind s.cfg.armed mid.toNat = none →
      exec (.claim mid d) s = .next (ended s (ctlWrote (violate s pCtl kPairedWrite (some mid))))) ∧
    (HalfArmed s mid 0x0014 v → mayClaim s mid = true → bits v 0 8 = 1 → d ≠ ~~~v →
      exec (.claim mid d) s = .next (ended s (ctlWrote (violate (disarm s mid) pCtl kPairedWrite (some mid)))))

/-- A master's reset: the owner's vacates right of way, the successor's ends the handover, a claimant's withdraws the claim; the master can
write nothing until its release is recorded; and its channels are as if unused (R53, R75, R103). -/
def Obligations.MasterReset : Prop :=
  ∀ (s : State) (mid : Mid), powered s = true → s.pages = [] →
    (∀ c, directHolder (chanAt s c) = some mid ∨ (chanAt s c).sender = mid → (chanAt s c).tickets = []) →
    Completes (exec (.resetAsserted mid) s) (fun t =>
      canAct t mid = false ∧ tfind t.cfg.armed mid.toNat = none ∧
      (isOwner s mid = true → t.own.mid = 0 ∧ t.own.phase = .window ∧ t.own.remaining = 8192 ∧ t.own.gen = s.own.gen + 1) ∧
      (s.own.phase = .handover → s.own.successor = mid → isOwner s mid = false →
        t.own.phase = .owned ∧ t.own.mid = s.own.mid ∧ t.own.gen = s.own.gen) ∧
      (s.own.phase = .window → mid ∉ t.own.claims ∧ t.own.gen = s.own.gen ∧ ∀ m, m ≠ mid → (m ∈ t.own.claims ↔ m ∈ s.own.claims)) ∧
      (∀ c, (if isDirect c then directHolder (chanAt s c) = some mid else (chanAt s c).bound = true ∧ (chanAt s c).sender = mid) →
        let v := chanAt t c
        v.compose = [] ∧ v.waiting = [] ∧ v.running = none ∧ v.responses = [] ∧ v.notices = [] ∧ v.tickets = [] ∧ v.mask = 0 ∧
        v.holder = none)) ∧
    exec (.resetReleased mid) s =
      .next (ended s { reqFell s pMasterEvent with own := { s.own with inReset := s.own.inReset.filter (fun m => decide (m ≠ mid)) } })


/-! ### Registers -/

/-- The owner's write reaches the writable bits of a shadow or of a register that is not shadowed, and is ignored where nothing is writable;
any other master's changes nothing and is logged (R8, R80, R87). Every write reads back zero on CTL (R41), and any master's read of a register
outside the channel windows that does not latch answers its value and changes nothing (R42, R80; the row carries the read by log 151). -/
def Obligations.RegisterWrites : Prop :=
  ∀ (s : State) (mid : Mid) (off : BitVec 14) (d : W32), powered s = true → canAct s mid = true →
    let o := 4 * off.toNat
    (isOwner s mid = true → (groupOf o).isSome = true →
      exec (.registerWrite mid off (some d)) s = .next (ended s (ctlWrote (setShadow s o (merged (shadowReg s o) d (writeMask o)))))) ∧
    (isOwner s mid = true → isPlain o = true →
      exec (.registerWrite mid off (some d)) s = .next (ended s (ctlWrote (setPlain s o (merged (plainReg s o) d (writeMask o)))))) ∧
    (isOwner s mid = true → o < 0x4000 ∨ 0x6000 ≤ o → groupOf o = none → isPlain o = false → seqOf s o = none →
      o ∉ [0x0014, 0x0018, 0x0020, 0x0024, 0x0414, 0x6800, 0x6804] →
      exec (.registerWrite mid off (some d)) s = .next (ended s (ctlWrote s))) ∧
    (isOwner s mid = false → o < 0x4000 ∨ 0x6000 ≤ o → o ≠ 0x0014 → o ≠ 0x0018 →
      exec (.registerWrite mid off (some d)) s = .next (ended s (ctlWrote (violate s pCtl kAccessDenied (some mid))))) ∧
    (o < 0x4000 ∨ 0x6000 ≤ o → latchedBy o = none → o ≠ 0x0400 → o ≠ 0x1A04 → ¬(0x3800 ≤ o ∧ o < 0x3E00) →
      exec (.registerWrite mid off none) s = .next (ended s (ctlRead s (readReg s o))))

/-- A write of the current SEQ clears a register's event fields and leaves SEQ; any other SEQ is ignored (R85). -/
def Obligations.SequenceClear : Prop :=
  ∀ (s : State) (mid : Mid) (off : BitVec 14) (q : BitVec 8), powered s = true → canAct s mid = true → isOwner s mid = true →
    (seqOf s (4 * off.toNat) = some q →
      Completes (exec (.seqClear mid off q) s) (fun t =>
        t = ended s (ctlWrote (clearEvents s (4 * off.toNat))) ∧ seqOf t (4 * off.toNat) = some q ∧
        clearEvents t (4 * off.toNat) = t)) ∧
    (∀ q', seqOf s (4 * off.toNat) = some q' → q' ≠ q → exec (.seqClear mid off q) s = .next (ended s (ctlWrote s)))

/-- A strobe is counted and mirrored, and every shadowed register outside the groups that may be refused takes its shadow; group 2 is refused
where a binding names lane 0, group 0 where WINDOW_PAGES is 0; a strobe during another is held, and an echo is not taken (R55, R56, R88,
R157, R158). -/
def Obligations.StrobeApplies : Prop :=
  ∀ (s : State) (mid : Mid) (bus : Bus), powered s = true →
    (canAct s mid = true → isOwner s mid = true → applying s = false → dirtyIn s 0 = [] → dirtyIn s 6 = [] →
      Completes (exec (.strobe mid bus) s) (fun t =>
        t.cfg.genTaken = s.cfg.genTaken + 1 ∧ t.pins.strobeOutAt = some s.pace.now ∧
        (∀ o g, groupOf o = some g → g ≠ 2 → activeReg t o = shadowReg s o ∧ shadowReg t o = shadowReg s o) ∧
        (bindsLane0 s = false → ∀ o, groupOf o = some 2 → activeReg t o = shadowReg s o) ∧
        (bindsLane0 s = true → dirtyIn s 2 ≠ [] →
          bit t.cfg.refused 2 = true ∧ ∀ o, groupOf o = some 2 → activeReg t o = activeReg s o ∧ shadowReg t o = activeReg s o))) ∧
    (canAct s mid = true → isOwner s mid = true → applying s = false → dirtyIn s 0 ≠ [] → dirtyIn s 6 = [] → bits (shadowReg s 0x1008) 0 25 = 0 →
      Completes (exec (.strobe mid bus) s) (fun t =>
        activeReg t 0x1008 = activeReg s 0x1008 ∧ shadowReg t 0x1008 = activeReg s 0x1008 ∧ bit t.cfg.refused 0 = true ∧
        t.cfg.layoutRefused = true ∧ t.cfg.layoutReason = stBadField)) ∧
    (applying s = true → isEcho s = false →
      exec (.updateStrobeIn bus) s = .next (ended s { s with cfg := { s.cfg with strobeHeld := true } })) ∧
    (isEcho s = true → exec (.updateStrobeIn bus) s = .next (ended s s)) ∧
    (isEcho s = false → applying s = false → dirtyIn s 0 = [] → dirtyIn s 6 = [] →
      Completes (exec (.updateStrobeIn bus) s) (fun t =>
        t.cfg.genTaken = s.cfg.genTaken + 1 ∧ t.pins.strobeOutAt = some s.pace.now)) ∧
    (applying s = true → s.cfg.strobeHeld = false →
      exec .strobeApplied s = .next (ended s { s with cfg := { s.cfg with genApplied := s.cfg.genTaken } })) ∧
    (applying s = true → s.cfg.strobeHeld = true → dirtyIn s 0 = [] → dirtyIn s 6 = [] →
      Completes (exec .strobeApplied s) (fun t =>
        t.cfg.genApplied = s.cfg.genTaken ∧ t.cfg.genTaken = s.cfg.genTaken + 1 ∧ t.cfg.strobeHeld = false))

/-- SNAPSHOT.TAKE copies every counter in one step, with the pace; the copy becomes visible as a whole with SNAP_SEQ, and until then HOLDING
keeps the previous one; a TAKE during a copy is held (R89, R126). -/
def Obligations.SnapshotConsistent : Prop :=
  ∀ (s : State) (mid : Mid), powered s = true →
    (canAct s mid = true → isOwner s mid = true → s.cfg.backBuffer = none →
      Completes (exec (.snapshotTake mid) s) (fun t =>
        t.cfg.holding = s.cfg.holding ∧ t.cfg.snapSeq = s.cfg.snapSeq ∧
        ∃ b, t.cfg.backBuffer = some b ∧ tget 0 b 0x7800 = BitVec.ofNat 64 s.pace.now ∧
          ∀ off, off ≠ 0x7800 → tget 0 b off = counter s off)) ∧
    (canAct s mid = true → isOwner s mid = true → s.cfg.backBuffer ≠ none →
      exec (.snapshotTake mid) s = .next (ended s (ctlWrote { s with cfg := { s.cfg with takeHeld := true } }))) ∧
    (∀ b, s.cfg.backBuffer = some b →
      Completes (exec .snapshotVisible s) (fun t =>
        t.cfg.snapSeq = s.cfg.snapSeq + 1 ∧
        (∀ off, 0x7000 ≤ off → off < 0x8000 → off % 8 = 0 →
          readReg t off = BitVec.ofNat 32 (tget 0 b off).toNat ∧
          readReg t (off + 4) = BitVec.ofNat 32 ((tget 0 b off).toNat / 2 ^ 32)) ∧
        t.cfg.takeHeld = false ∧ (t.cfg.backBuffer.isSome = true ↔ s.cfg.takeHeld = true)))

/-- A latching read answers the first word and keeps the others for its reader, whatever the register does afterwards (R107, R160, R366,
R489). -/
def Obligations.LatchingReads : Prop :=
  ∀ (s : State) (mid : Mid), powered s = true → canAct s mid = true →
    Completes (exec (.paceCountLo mid) s) (fun t =>
      t.pins.ctlRdata = BitVec.ofNat 32 s.pace.now ∧
      ∀ u, u.cfg.latches = t.cfg.latches → readFor u mid 0x0404 = BitVec.ofNat 32 (s.pace.now / 2 ^ 32)) ∧
    (∀ j : Fin 32, Completes (exec (.mpValue mid j) s) (fun t =>
      t.pins.ctlRdata = readReg s (0x3800 + 48 * j.val) ∧
      ∀ u, u.cfg.latches = t.cfg.latches →
        (∀ i, 0 < i → i < 12 → readFor u mid (0x3800 + 48 * j.val + 4 * i) = readReg s (0x3800 + 48 * j.val + 4 * i)) ∧
        readFor u mid (0x3E00 + 4 * j.val) = readReg s (0x3E00 + 4 * j.val))) ∧
    Completes (exec (.ctxRecord0 mid) s) (fun t =>
      t.pins.ctlRdata = readReg s 0x1A04 ∧
      ∀ u, u.cfg.latches = t.cfg.latches → ∀ i, i < 3 → readFor u mid (0x1A08 + 4 * i) = readReg s (0x1A08 + 4 * i))

/-- A completed ACCT_CLEAR clears one lane's four counters, or with ALL every lane's and the block's totals, in one step, and no other
counter (R127); the owner's CALIBRATE starts a calibration where a TEMPO frequency is declared, and is held while one runs (R109, R110). -/
def Obligations.OwnerActions : Prop :=
  ∀ (s : State) (mid : Mid), powered s = true → isOwner s mid = true →
    (∀ v, HalfArmed s mid 0x6800 v → bit v 8 = false →
      Completes (exec (.acctClearLane mid (~~~v)) s) (fun t =>
        (∀ off, counter t off = if off ∈ laneCounters (bits v 0 6) then 0 else counter s off) ∧
        { t with cnt := s.cnt } = ended s (ctlWrote (disarm s mid)))) ∧
    (∀ v, HalfArmed s mid 0x6800 v → bit v 8 = true →
      Completes (exec (.acctClearAll mid (~~~v)) s) (fun t =>
        (∀ off, counter t off =
          if (0x7000 ≤ off ∧ off < 0x7800 ∧ off % 8 = 0) ∨ off = 0x7808 ∨ off = 0x7810 then 0 else counter s off) ∧
        { t with cnt := s.cnt } = ended s (ctlWrote (disarm s mid)))) ∧
    (canAct s mid = true →
      exec (.calibrate mid) s = .next (ended s (ctlWrote (
        if tempoKhz s = 0 then s
        else if s.pace.running = true then { s with pace := { s.pace with calHeld := true } }
        else { s with pace := { s.pace with running := true, counting := false, calSince := s.pace.now, calHeld := false } }))))

/-! ### Channels -/

/-- A message is composed word by word and posted at its last word, stamped with its sender, lane, right of way and channel; a direct channel
is taken by its first word 0 (R90, R93, R95). -/
def Obligations.MessagePosted : Prop :=
  ∀ (s : State) (mid : Mid) (c : Fin 128) (d : W32), powered s = true → canAct s mid = true → maySend s mid c.val = true →
    composeLate s c.val = false → (chanAt s c.val).discarding = false →
    let v := chanAt s c.val
    (v.compose = [] → slotsUsed v < 4 → bits d 6 6 = 0 →
      Completes (exec (.msgIn mid c d) s) (fun t =>
        let u := chanAt t c.val
        (∃ r : Req, u.waiting = v.waiting ++ [r] ∧ r.w0 = d ∧ r.payload = [] ∧ r.at_ = s.pace.now ∧ r.stale = false ∧
          bits r.w1 0 8 = mid.toNat ∧ bit r.w1 15 = isOwner s mid ∧ bit r.w1 16 = v.bound ∧ bits r.w1 17 7 = c.val) ∧
        (isDirect c.val = true → directHolder u = some mid) ∧ u.compose = [])) ∧
    (v.compose = [] → slotsUsed v < 4 → 0 < bits d 6 6 → bits d 6 6 ≤ 14 →
      Completes (exec (.msgIn mid c d) s) (fun t =>
        (chanAt t c.val).compose = [d] ∧ (chanAt t c.val).waiting = v.waiting ∧
        (isDirect c.val = true → directHolder (chanAt t c.val) = some mid))) ∧
    (v.compose ≠ [] → v.compose.length < bits (v.compose.headD 0) 6 6 →
      Completes (exec (.msgIn mid c d) s) (fun t =>
        chanAt t c.val = { v with compose := v.compose ++ [d], lastPush := clock s })) ∧
    (∀ w0 ws, v.compose = w0 :: ws → ws.length + 1 = bits w0 6 6 →
      Completes (exec (.msgIn mid c d) s) (fun t =>
        let u := chanAt t c.val
        (∃ r : Req, u.waiting = v.waiting ++ [r] ∧ r.w0 = w0 ∧ r.payload = ws ++ [d] ∧ r.at_ = s.pace.now ∧
          bits r.w1 0 8 = mid.toNat ∧ bit r.w1 15 = isOwner s mid ∧ bits r.w1 17 7 = c.val) ∧
        u.compose = []))

/-- A bad word 0 is answered BAD_LENGTH in the slot it took, one without a free slot sets OVERRUN, both then discard until FLUSH; a push by a master that
may not send changes nothing and is logged (R93, R94). -/
def Obligations.BadPushes : Prop :=
  ∀ (s : State) (mid : Mid) (c : Fin 128) (d : W32), powered s = true → canAct s mid = true →
    let v := chanAt s c.val
    (maySend s mid c.val = true → v.discarding = false → v.compose = [] → slotsUsed v < 4 → 15 ≤ bits d 6 6 →
      Completes (exec (.msgIn mid c d) s) (fun t =>
        (chanAt t c.val).discarding = true ∧ (chanAt t c.val).waiting = v.waiting ∧
        (chanAt t c.val).responses = v.responses ++ [response d false stBadLength []])) ∧
    (maySend s mid c.val = true → v.discarding = false → v.compose = [] → 4 ≤ slotsUsed v →
      Completes (exec (.msgIn mid c d) s) (fun t =>
        (chanAt t c.val).overrun = true ∧ (chanAt t c.val).discarding = true ∧ (chanAt t c.val).waiting = v.waiting ∧
        (chanAt t c.val).responses = v.responses)) ∧
    (maySend s mid c.val = true → v.discarding = true → composeLate s c.val = false →
      exec (.msgIn mid c d) s = .next (ended s (ctlWrote s))) ∧
    (maySend s mid c.val = true → mayUse s mid c.val = true →
      Completes (exec (.flush mid c) s) (fun t => (chanAt t c.val).discarding = false ∧ (chanAt t c.val).overrun = false)) ∧
    (maySend s mid c.val = false →
      exec (.msgIn mid c d) s = .next (ended s (ctlWrote (violate s pCtl kAccessDenied (some mid)))))

/-- A pop reads the next word of the oldest response and frees its slot at the last; a master that may not read the channel reads
zero and pops nothing. DB_CLEAR leaves the level bits, FLUSH keeps requests and responses, DROP_RESPONSES discards the unread ones, RELEASE
frees an idle unpinned direct channel; a master that may not use the channel, the owner too, changes nothing and is logged (R80, R90, R92,
R101). -/
def Obligations.ChannelRegisters : Prop :=
  (∀ (s : State) (mid : Mid) (c : Fin 128), powered s = true → canAct s mid = true →
     (∀ w ws rest, mayUse s mid c.val = true → (chanAt s c.val).responses = (w :: ws) :: rest →
       exec (.msgOut mid c) s = .next (ended s (ctlRead (setChan s c.val { chanAt s c.val with
         responses := if ws = [] then rest else ws :: rest }) w))) ∧
     (mayUse s mid c.val = false ∨ (chanAt s c.val).responses = [] →
       exec (.msgOut mid c) s = .next (ended s (ctlRead s 0)))) ∧
  (∀ (s : State) (mid : Mid) (c : Fin 128) (d : W32), powered s = true → canAct s mid = true →
     let v := chanAt s c.val
     (mayUse s mid c.val = true →
       exec (.dbClear mid c d) s = .next (ended s (ctlWrote (setChan s c.val { v with latched := v.latched &&& ~~~(d &&& 0xFFFF00FC) }))) ∧
       exec (.flush mid c) s = .next (ended s (ctlWrote (setChan s c.val
         { v with compose := [], discarding := false, overrun := false, noticeLost := false }))) ∧
       exec (.dropResponses mid c) s = .next (ended s (ctlWrote (setChan s c.val { v with responses := [] }))) ∧
       (isDirect c.val = true → v.pinned = false → slotsUsed v = 0 → v.tickets = [] →
         exec (.release mid c) s = .next (ended s (ctlWrote (setChan s c.val { v with holder := none, lastLane := none })))) ∧
       (isDirect c.val = false ∨ v.pinned = true ∨ slotsUsed v ≠ 0 ∨ v.tickets ≠ [] →
         exec (.release mid c) s = .next (ended s (ctlWrote s)))) ∧
     (mayUse s mid c.val = false → ∀ i ∈ [Instr.dbClear mid c d, .flush mid c, .dropResponses mid c, .release mid c],
       exec i s = .next (ended s (ctlWrote (violate s pCtl kAccessDenied (some mid))))))



/-! ### Paces, calibration, power -/

/-- Every pace raises the elapsed-pace count by one; in a quiet block it runs down the owner's timer, brings a new trim into force, evaluates
the budget, and refills the regulators from their active settings, each paying first what the block's own work owes it (R73, R107, R108, R114,
R115, R230, R232; log 34). -/
def Obligations.PaceElapses : Prop :=
  ∀ (s : State) (bus : Bus), powered s = true →
    Completes (exec (.paceTick bus) s) (fun t => t.pace.now = s.pace.now + 1) ∧
    (Quiet s → Completes (exec (.paceTick bus) s) (fun t =>
      t.own = { s.own with remaining := if s.own.remaining = 0 then 0 else s.own.remaining - 1 } ∧
      t.pace.periods = s.pace.newPeriods.getD s.pace.periods ∧ t.pace.newPeriods = none ∧
      t.power.effective.toNat = effectiveBudget s ∧
      t.power.granted.toNat = 18 + (grants s).custody + poolSum (grants s).pool ∧
      t.power.custody.toNat = (grants s).custody ∧
      (∀ l, l < 64 →
        let r := activeReg s (0x1400 + 16 * l)
        let full : Int := if bit (laneAt s l).reg 12 then min (bits r 16 16 : Int) ((laneAt s l).tokens + (bits r 0 12 : Nat))
          else (bits r 16 16 : Nat)
        (bit r 12 = true →
          (laneAt t l).tokens = full - min (laneAt s l).owed full.toNat ∧
          (laneAt t l).owed = (laneAt s l).owed - min (laneAt s l).owed full.toNat) ∧
        (laneAt t l).reg = r ∧ (laneAt t l).state = (laneAt s l).state) ∧
      t.mbox = s.mbox ∧ t.ctxs = s.ctxs ∧ t.vlog = s.vlog ∧ t.dram = s.dram ∧ t.cfg = s.cfg))

/-- A reading taken 64 paces after the last one, in range: a step of 20 mV or 10 °C from the last accepted calibration starts a
calibration where a TEMPO frequency is declared (R109, R112). BUDGET_CAP is taken, and recorded where it lowers the effective budget, the
lower of BUDGET and 4 times the cap clamped to 63 to 600 permits (R52, R114, R122). -/
def Obligations.ReadingsTaken : Prop :=
  (∀ (s : State) (mv : BitVec 10) (tj : BitVec 9), powered s = true → s.pace.vddMv = 0 ∨ s.pace.lastSample + 64 ≤ s.pace.now →
     outOfRange tj = false →
     ((∀ p mv0 tj0, s.pace.lastCal = some (p, mv0, tj0) → stepped mv mv0 tj tj0 = false) →
       exec (.sensorSample mv tj) s = .next (ended s { s with
         pace := { s.pace with vddMv := mv, tj := tj, lastSample := s.pace.now }
         tamper := { s.tamper with temp := false, tempRun := 0 } })) ∧
     (∀ p mv0 tj0, s.pace.lastCal = some (p, mv0, tj0) →
       20 ≤ ((mv.toNat : Int) - mv0.toNat).natAbs ∨ 10 ≤ (tj.toInt - tj0.toInt).natAbs → s.pace.stepPending = false →
       Completes (exec (.sensorSample mv tj) s) (fun t =>
         t.pace.stepPending = true ∧ t.pace.vddMv = mv ∧ t.pace.tj = tj ∧ t.pace.lastSample = s.pace.now ∧
         (tempoKhz s ≠ 0 → t.pace.running = true) ∧ (s.pace.running = true → tempoKhz s ≠ 0 → t.pace.calHeld = true)))) ∧
  (∀ (s : State) (cap : BitVec 8), powered s = true →
     Completes (exec (.budgetCap cap) s) (fun t =>
       t.power.cap = cap ∧
       effectiveBudget t = max 63 (min 600 (min (bits (activeReg s 0x0440) 0 10) (4 * cap.toNat))) ∧
       (effectiveBudget t < effectiveBudget s → t.power.capLowered = true ∧ t.power.seq = s.power.seq + 1) ∧
       (effectiveBudget s ≤ effectiveBudget t → t.power.capLowered = s.power.capLowered ∧ t.power.seq = s.power.seq) ∧
       { t with power := s.power } = ended s (reqFell s pBudgetCap)))

/-- A calibration starts 67,108,864 paces after the last accepted one, counts W = round(f · 1,000 / 1,024) periods of TEMPO, takes
PERIODS = round(C · f · 1,000 / (W · 2^20)) at the next pace boundary where the measured pace lies within 0.6 µs to 1.6 µs, and otherwise,
or without an edge for 2,048 paces, changes no trim and is logged (R54, R108 to R110). -/
def Obligations.Calibration : Prop :=
  ∀ s : State, powered s = true →
    (∀ p x, s.pace.lastCal = some (p, x) → p + 67108864 ≤ s.pace.now → tempoKhz s ≠ 0 → s.pace.running = false →
      exec .calibrationPeriod s = .next (ended s { s with
        pace := { s.pace with running := true, counting := false, calSince := s.pace.now, calHeld := false } })) ∧
    (s.pace.running = true → s.pace.counting = false → s.pace.now ≤ s.pace.calSince + 2048 →
      exec .calibrationCountStart s = .next (ended s { s with pace := { s.pace with counting := true, calSince := s.pace.now } })) ∧
    (∀ n : BitVec 32, s.pace.running = true → s.pace.counting = true →
      paceInRange (tempoKhz s) n.toNat = true →
      Completes (exec (.calibrationCountEnd n) s) (fun t =>
        let w := roundDiv (tempoKhz s * 1000) 1024
        t.pace.newPeriods = some (BitVec.ofNat 12 (roundDiv (n.toNat * tempoKhz s * 1000) (w * 2 ^ 20))) ∧
        t.pace.rawPace = BitVec.ofNat 16 (max 1 (min 0xFFFF (roundDiv (w * 2 ^ 45) (n.toNat * tempoKhz s * 1000)))) ∧
        t.pace.calibrated = true ∧ t.pace.stepPending = false ∧ t.pace.calCount = s.pace.calCount + 1 ∧
        t.pace.periods = s.pace.periods ∧ t.pace.running = s.pace.calHeld ∧ t.vlog = s.vlog)) ∧
    (∀ n : BitVec 32, s.pace.running = true → s.pace.counting = true →
      paceInRange (tempoKhz s) n.toNat = false →
      Completes (exec (.calibrationCountEnd n) s) (fun t =>
        t.pace.newPeriods = s.pace.newPeriods ∧ t.pace.periods = s.pace.periods ∧ t.pace.discarded = true ∧
        t.pace.seq = s.pace.seq + 1 ∧ t.vlog = (violate s pTempo kSignalRange none).vlog)) ∧
    (s.pace.running = true → s.pace.calSince + 2048 ≤ s.pace.now →
      Completes (exec .calibrationAbandoned s) (fun t =>
        t.pace.tempoAbsent = true ∧ t.pace.seq = s.pace.seq + 1 ∧ t.pace.periods = s.pace.periods ∧
        t.pace.newPeriods = s.pace.newPeriods ∧ t.pace.running = s.pace.calHeld ∧
        t.vlog = (violate s pTempo kSignalRange none).vlog))



/-! ### Port violations -/

/-- Violations that the block only logs, each with its port, kind and MID, and with no other effect but that a register read returns
zero, that a discarded relay frame is counted, and that a REQ that stays high is logged once until it falls, which the next bundle on its port
shows; a relay frame whose next beat does not come for 1,024 paces is discarded and counted. Violations that end something: a request beat withdrawn, or an open write without its next
beat for 256 paces, is answered FAILED once, and the open write is discarded; a response without ACK for 4,096 paces is logged once; an
egress channel without ACK stalls; an egress request without an answer for 16,384 paces retires its tag; a message without its next word for
4,096 paces is discarded (R62, R66 to R68, R93). -/
def Obligations.PortViolations : Prop :=
  (∀ (s : State) (mid : Mid) (changed : Bool) (d : Dir) (ch : Fin 4), powered s = true →
     let k := if changed then kBundleChanged else kReqWithdrawn
     (∀ w, exec (.reqWithdrawn (.ctl mid w) changed) s = .next (ended s (ctlRead (violate (reqFell s pCtl) pCtl k (some mid)) 0))) ∧
     (∀ x ∈ [(Withdrawn.custOut ch, pCustOut ch), (.relayRx d, pRelay d), (.masterEvent, pMasterEvent), (.budgetCap, pBudgetCap)],
       exec (.reqWithdrawn x.1 changed) s = .next (ended s (violate (reqFell s x.2) x.2 k none))) ∧
     exec (.meKindReserved mid) s = .next (ended s (violate (reqFell s pMasterEvent) pMasterEvent kBadField (some mid))) ∧
     (∀ x ∈ [(SentBundle.custResponse ch, pCustIn ch, (inChan s ch.val).rsp.head?.map RspBeat.mid), (.custRequest ch, pCustOut ch, none),
         (.otp, pOtp, none), (.relayTx d, pRelay d, none)],
       exec (.earlyAck x.1) s = .next (ended s (violate s x.2.1 kEarlyAck x.2.2))) ∧
     (∀ x ∈ [(RecvBundle.custIn ch mid, pCustIn ch, some mid), (.custOut ch, pCustOut ch, none), (.ctl mid, pCtl, some mid),
         (.relayRx d, pRelay d, none), (.masterEvent, pMasterEvent, none), (.budgetCap, pBudgetCap, none)],
       exec (.reqStuck x.1) s = .next (ended s (if s.vlog.stuck.contains x.2.1 then s
         else violate { s with vlog := { s.vlog with stuck := x.2.1 :: s.vlog.stuck } } x.2.1 kReqStuck x.2.2))) ∧
     (∀ bs : List RelayBeat,
       let discarded (e : BitVec 8) : State := count (violate (reqFell s (pRelay d)) (pRelay d) e none) 0x7950 1
       ((bs.head?.map RelayBeat.sof).getD false = false → exec (.relayFrameDiscard d bs) s = .next (ended s (discarded kBadField))) ∧
       ((bs.head?.map RelayBeat.sof).getD false = true → (bs.drop 1).any RelayBeat.sof = true →
         exec (.relayFrameDiscard d bs) s = .next (ended s (discarded kBurstShort))) ∧
       ((bs.head?.map RelayBeat.sof).getD false = true → (bs.drop 1).any RelayBeat.sof = false → 258 < bs.length →
         exec (.relayFrameDiscard d bs) s = .next (ended s (discarded kBurstExcess))) ∧
       ((bs.head?.map RelayBeat.sof).getD false = true → bs.length = 1 →
         exec (.relayFrameDiscard d bs) s = .next (ended s (discarded kBadField))) ∧
       (∀ f, frameOf bs = .ok f → rxFormOk (rxHead f) f = false → linkStands (linkOf s d) = false →
         exec (.relayFrameDiscard d bs) s = .next (ended s (discarded kBadField))) ∧
       (∀ last, portTakes s d = true → frameOpen bs = true → last + 1024 ≤ clock s →
         exec (.burstTimeout (.relayRx d bs last)) s =
           .next (ended s (count (violate s (pRelay d) kBurstTimeout none) 0x7950 1))))) ∧
  (∀ (s : State) (ch : Fin 4), powered s = true →
     (∀ (b : CustBeat) (changed : Bool), CustodyIdle s → b.beat = 0 → b.op ≠ 3 →
       Completes (exec (.reqWithdrawn (.custIn ch b) changed) s) (fun t =>
         (inChan t ch.val).rsp = (inChan s ch.val).rsp ++ [refusal b (decide (b.op ≠ 0)) .failed] ∧
         (inChan t ch.val).openWrite = (inChan s ch.val).openWrite ∧ t.cust.reqs = [] ∧ t.dram = s.dram ∧
         t.vlog = (violate (reqFell s (pCustIn ch)) (pCustIn ch) (if changed then kBundleChanged else kReqWithdrawn) (some b.mid)).vlog)) ∧
     (∀ w, CustodyIdle s → (inChan s ch.val).openWrite = some w → w.first.op ≠ 0 → w.lastBeat + 256 ≤ clock s →
       Completes (exec (.burstTimeout (.custIn ch)) s) (fun t =>
         (inChan t ch.val).rsp = (inChan s ch.val).rsp ++ [refusal w.first true .failed] ∧
         (inChan t ch.val).openWrite = none ∧ t.cust.reqs = [] ∧ t.dram = s.dram ∧
         t.vlog = (violate s (pCustIn ch) kBurstTimeout (some w.first.mid)).vlog)) ∧
     (∀ x rest, (inChan s ch.val).rsp = x :: rest → (inChan s ch.val).rspSince + 4096 ≤ clock s → (inChan s ch.val).rspLate = false →
       exec (.ackTimeout (.custResponse ch)) s = .next (ended s (violate (setIn s ch.val { inChan s ch.val with rspLate := true })
         (pCustIn ch) kAckTimeout (some x.mid)))) ∧
     (∀ e, CustodyIdle s → onWire (outChan s ch.val) = some e → e.since + 4096 ≤ clock s → (outChan s ch.val).stalled = false →
       Completes (exec (.ackTimeout (.custRequest ch)) s) (fun t =>
         egressDown t ch.val = true ∧ t.vlog = (violate s (pCustOut ch) kAckTimeout none).vlog ∧ t.dram = s.dram ∧
         ∀ x ∈ (outChan t ch.val).reqs, x.acked = true ∨ x.write = true ∨ x.tag = e.tag)) ∧
     (∀ (tag : Tag) e, CustodyIdle s →
       (outChan s ch.val).reqs.find? (fun x => decide (x.tag = tag.toNat) && x.acked && decide (x.got = 0)) = some e →
       e.since + 16384 ≤ clock s → (outChan s ch.val).retired.length < 63 →
       Completes (exec (.noResponse ch tag) s) (fun t =>
         (outChan t ch.val).reqs = (outChan s ch.val).reqs.filter (fun y => decide (y.tag ≠ tag.toNat)) ∧
         (outChan t ch.val).retired = (outChan s ch.val).retired ++
           [{ tag := tag.toNat, write := e.write, addr := e.addr, data := e.data, left := e.n, superseded := e.superseded }] ∧
         t.vlog = (violate s (pCustOut ch) kNoResponse none).vlog ∧ t.dram = s.dram)) ∧
     (∀ c : Fin 128, composeLate s c.val = true →
       exec (.burstTimeout (.message c)) s = .next (ended s (violate (setChan s c.val { chanAt s c.val with compose := [] }) pCtl
         kBurstTimeout (if isDirect c.val then directHolder (chanAt s c.val) else some (chanAt s c.val).sender)))))



/-! ### The custody path -/

/-- Checks 1 to 5 of R151, in an idle custody path: FAILED with one record, or STALE with none for a context that is not ACTIVE; a beat for
each line of a read, one for a write; nothing is stored (R38, R151, R153). -/
def Obligations.CustodyRefused : Prop :=
  ∀ (s : State) (ch : Fin 4) (b : CustBeat), powered s = true → CustodyIdle s → WholeRequest s ch b →
    let p := b.addr.toNat / 64
    let v := ctxAt s b.ctx.toNat
    let named (x : RspBeat) : RspBeat := { x with
      lane := BitVec.ofNat 6 ((laneOfMid s b.mid.toNat).getD 0), ctx := b.ctx.toNat, owner := b.ctx.toNat }
    let beats (x : Verdict) : List RspBeat := if b.op = 0
      then (List.range (b.len.toNat + 1)).map (fun i => named { refusal b false x with beat := i, last := decide (i = b.len.toNat) })
      else [named (refusal b true x)]
    ((p < winBase s ∨ winBase s + winPages s ≤ p) ∨ laneOfMid s b.mid.toNat = none ∨
        (∃ l, laneOfMid s b.mid.toNat = some l ∧ ((laneAt s l).state ≠ .opened ∨ v.lane.toNat ≠ l)) ∨ b.ctx = 0 →
      Completes (exec (.custInRequest ch b) s) (fun t =>
        (inChan t ch.val).rsp = (inChan s ch.val).rsp ++ beats .failed ∧ t.cust.reqs = [] ∧
        counter t 0x7978 = counter s 0x7978 + 1 ∧ t.dram = s.dram)) ∧
    (∀ l, winBase s ≤ p → p < winBase s + winPages s → laneOfMid s b.mid.toNat = some l → (laneAt s l).state = .opened →
      v.lane.toNat = l → b.ctx ≠ 0 → v.state = .releasing ∨ v.state = .retired ∨ v.state = .free ∧ (v.epoch ≠ 0 ∨ v.keyGen ≠ 0) →
      Completes (exec (.custInRequest ch b) s) (fun t =>
        (inChan t ch.val).rsp = (inChan s ch.val).rsp ++ beats .stale ∧ t.cust.reqs = [] ∧
        counter t 0x7978 = counter s 0x7978 ∧ t.dram = s.dram))

/-- A one-line access that passes every check of R151 to an OPEN page whose map line is cached is issued in the same step: a READ as one
egress read, a WRITE as one egress write of its data, counted for its lane (R39, R151, R177, R507). -/
def Obligations.CustodyIssued : Prop :=
  ∀ (s : State) (ch : Fin 4) (b : CustBeat) (m : MapLine) (l : Nat), powered s = true → CustodyIdle s → WholeRequest s ch b →
    s.pages = [] → b.len = 0 → b.op = 0 ∨ b.op = 1 → laneOfMid s b.mid.toNat = some l → earlyRefusal s b = none →
    let la := b.addr.toNat
    let q := pageIndex s (la / 64)
    let e := m.words.getD (q % 16) 0
    let c := egressOf s la
    tfind s.mapc.lines (q / 16) = some m → entState e ≠ .reserved → entryRefusal s b.ctx.toNat e (decide (b.op ≠ 0)) = none →
    entCtx e = b.ctx.toNat → entClass e = .openC → regulated s l = false → egressDown s c = false →
    (outChan s c).reqs.length + (outChan s c).retired.length ≤ 1020 → energyScale * lineEnergy s .openC ≤ custodyCredit s →
    Completes (exec (.custInRequest ch b) s) (fun t =>
      ∃ r x, t.cust.reqs = [r] ∧ r.tag = b.tag ∧ r.ch = ch ∧ r.n = 1 ∧ r.res = [.waiting] ∧
        r.stage = (if b.op = 0 then .reading else .writing) ∧
        (outChan t c).reqs.getLast? = some x ∧ x.addr = la ∧ x.req = r.seq ∧ x.n = 1 ∧ x.acked = false ∧
        x.write = decide (b.op = 1) ∧ (b.op = 1 → x.data = b.data) ∧
        (inChan t ch.val).rsp = (inChan s ch.val).rsp ∧ t.dram = s.dram ∧
        counter t (0x7008 + 32 * l) = counter s (0x7008 + 32 * l) + (if b.op = 1 then 64 else 0))

/-- An open write takes the beats that follow in order; another beat ends it with one FAILED answer and commits none of its lines;
the last beat hands the whole write on; a beat with no write open is discarded (R36, R68). A response beat taken by the fabric leaves the
bundle and counts by its verdict: octets read of its lane, STALE, FAILED; the last beat of a DRAINING lane's last request lets it reach
DRAINED (R38, R123, R130, R161). -/
def Obligations.WriteBeatsAndAnswers : Prop :=
  (∀ (s : State) (ch : Fin 4) (b : CustBeat) (w : OpenWrite), powered s = true → CustodyIdle s → s.keys.asleep = false → b.beat ≠ 0 →
     ((inChan s ch.val).openWrite = some w → b.tag = w.first.tag → b.beat.toNat = w.lines.length →
       w.lines.length + 1 < w.first.len.toNat + 1 →
       exec (.custInWriteBeat ch b) s = .next (ended s (setIn (reqFell s (pCustIn ch)) ch.val { inChan s ch.val with
         holMarked := false, openWrite := some { w with lines := w.lines ++ [(b.data, b.mask)], lastBeat := clock s } }))) ∧
     ((inChan s ch.val).openWrite = some w → w.first.op ≠ 0 → b.tag ≠ w.first.tag ∨ b.beat.toNat ≠ w.lines.length →
       Completes (exec (.custInWriteBeat ch b) s) (fun t =>
         (inChan t ch.val).openWrite = none ∧ (inChan t ch.val).rsp = (inChan s ch.val).rsp ++ [refusal w.first true .failed] ∧
         t.cust.reqs = [] ∧ t.dram = s.dram ∧ t.vlog = (violate (reqFell s (pCustIn ch)) (pCustIn ch) kBadField (some w.first.mid)).vlog)) ∧
     ((inChan s ch.val).openWrite = some w → b.tag = w.first.tag → b.beat.toNat = w.lines.length →
       w.lines.length = w.first.len.toNat → w.reuse = false → crossesPage w.first = false →
       exec (.custInWriteBeat ch b) s = .next (ended s (settleReqs (submit
         (setIn (reqFell s (pCustIn ch)) ch.val { inChan s ch.val with openWrite := none, holMarked := false }) ch w.first
         (w.lines ++ [(b.data, b.mask)]))))) ∧
     ((inChan s ch.val).openWrite = none →
       exec (.custInWriteBeat ch b) s = .next (ended s (violate (setIn (reqFell s (pCustIn ch)) ch.val
         { inChan s ch.val with holMarked := false }) (pCustIn ch) kBurstExcess none)))) ∧
  (∀ (s : State) (ch : Fin 4) (x : RspBeat) (rest : List RspBeat), powered s = true → (inChan s ch.val).rsp = x :: rest →
     Completes (exec (.custInResponseAck ch) s) (fun t =>
       (inChan t ch.val).rsp = rest ∧ t.dram = s.dram ∧ t.cust.reqs = s.cust.reqs ∧
       counter t 0x7820 = counter s 0x7820 + (if x.verdict = .stale then 1 else 0) ∧
       counter t 0x7828 = counter s 0x7828 + (if x.verdict = .failed then 1 else 0) ∧
       counter t (0x7000 + 32 * x.lane.toNat) = counter s (0x7000 + 32 * x.lane.toNat) +
         (if x.write = false ∧ (x.verdict = .clean ∨ x.verdict = .deferred) then 64 else 0) ∧
       ((laneAt s x.lane.toNat).state = .draining → x.last = true → x.counted = true →
         laneOutstanding (setIn s ch.val { inChan s ch.val with rsp := rest }) x.lane.toNat = 0 →
         (laneAt t x.lane.toNat).state = .drained) ∧
       ∀ l, l ≠ x.lane.toNat → laneAt t l = laneAt s l))



/-- A memory response beat is taken by the request that waits for it, the next of its answer; a beat out of its order, one that no request
waits for, the late answer to a retired tag, and the first beat of another answer while one is open are each treated as R68 states, and so is an
open answer without its next beat for 256 paces. The answer ends a one-line request: a READ with the line as its class opens it, CLEAN, or FAILED
with a record; a WRITE stores its line and is answered CLEAN, or FAILED with KIND 0x08 where the controller reports an error (R38 to R40, R67,
R68, R175, R507). -/
def Obligations.MemoryAnswers : Prop :=
  (∀ (s : State) (ch : Fin 4) (bus : Bus) (m : MemBeat), powered s = true →
    let on := reqFell { s with bus := bus } (pCustOut ch)
    let v := outChan s ch.val
    let mine (x : EgReq) : Bool := decide (x.tag = m.tag.toNat) && x.acked && x.write == m.write
    let late (x : Retired) : Bool := decide (x.tag = m.tag.toNat) && x.write == m.write
    ((∀ o, openResponse v = some o → o.tag = m.tag.toNat ∨ m.beat ≠ 0) →
      (∀ e, v.reqs.find? mine = some e → m.beat.toNat = e.got →
        exec (.custOutResponse ch m bus) s = .next (ended s (settle (beatArrives on ch e m)))) ∧
      (∀ e, v.reqs.find? mine = some e → m.beat.toNat ≠ e.got →
        exec (.custOutResponse ch m bus) s = .next (ended s (settle (violate on (pCustOut ch) kBurstExcess none)))) ∧
      (v.reqs.find? mine = none → v.retired.find? late = none →
        exec (.custOutResponse ch m bus) s = .next (ended s (settle (violate on (pCustOut ch) kUnsolicited none)))) ∧
      (∀ x, v.reqs.find? mine = none → v.retired.find? late = some x →
        exec (.custOutResponse ch m bus) s = .next (ended s (settle (lateAnswer on ch.val m x))))) ∧
    (∀ o, openResponse v = some o → o.tag ≠ m.tag.toNat → m.beat = 0 →
      exec (.custOutResponse ch m bus) s = .next (ended s (settle (answerBeat (discardPartial on ch o kBurstShort) ch m)))) ∧
    (∀ o, openResponse v = some o → o.beatAt + 256 ≤ clock s →
      exec (.burstTimeout (.custOut ch)) s = .next (ended s (settle (discardPartial s ch o kBurstTimeout))))) ∧
  ∀ (s : State) (ch : Fin 4) (bus : Bus) (r : CustReq) (e : EgReq) (m : MemBeat), powered s = true → OneLine s r →
    r.res = [.waiting] → r.fault = none → (∀ x ∈ (outChan s ch.val).reqs, x.got = 0) →
    (outChan s ch.val).reqs.find? (fun x => decide (x.tag = m.tag.toNat) && x.acked && x.write == m.write) = some e →
    e.req = r.seq → e.line = 0 → e.n = 1 → m.beat = 0 →
    (∀ p ct fixed, r.stage = .reading → r.op = 0 → m.write = false → m.err = false →
      openLine (ctxKey s r.owner) (reqClass r) (r.keys.getD 0 noKeys) r.addr m.data = { line := .ok (p, ct), fixed := fixed } →
      Completes (exec (.custOutResponse ch m bus) s) (fun t =>
        t.cust.reqs = [] ∧ (inChan t r.ch.val).rsp = (inChan s r.ch.val).rsp ++ [answer r .clean p] ∧
        (∀ x ∈ (outChan t ch.val).reqs, x.tag ≠ e.tag) ∧ t.dram = s.dram ∧
        counter t 0x7840 = counter s 0x7840 + (if fixed then 1 else 0))) ∧
    (r.stage = .reading → r.op = 0 → m.write = false → m.err = true →
      Completes (exec (.custOutResponse ch m bus) s) (fun t =>
        t.cust.reqs = [] ∧ (inChan t r.ch.val).rsp = (inChan s r.ch.val).rsp ++ [answer r .failed 0] ∧ t.dram = s.dram ∧
        counter t 0x7848 = counter s 0x7848 + 1)) ∧
    (r.stage = .writing → r.op ≠ 0 → m.write = true → m.err = false →
      Completes (exec (.custOutResponse ch m bus) s) (fun t =>
        t.cust.reqs = [] ∧ (inChan t r.ch.val).rsp = (inChan s r.ch.val).rsp ++ [answer r .clean 0] ∧
        (e.superseded = false → t.dram = tset 0 s.dram e.addr e.data) ∧ (e.superseded = true → t.dram = s.dram))) ∧
    (r.stage = .writing → r.op ≠ 0 → m.write = true → m.err = true →
      Completes (exec (.custOutResponse ch m bus) s) (fun t =>
        t.cust.reqs = [] ∧ (inChan t r.ch.val).rsp = (inChan s r.ch.val).rsp ++ [answer r .failed 0] ∧ t.dram = s.dram))

/-- Events inside the custody path: an egress request acknowledged goes on; a key derived is cached under the context's current values; a
map line of zeros holds FREE pages, which answer FAILED; a dirty seal line is written back as it is; a tile entry whose delay has passed
goes to completion; a re-key record with nothing pending is freed (R39, R145, R148, R180, R186, R217, R282). -/
def Obligations.CustodyEvents : Prop :=
  ∀ (s : State) (ch : Fin 4) (bus : Bus), powered s = true →
    (∀ e, CustodyIdle s → onWire (outChan s ch.val) = some e →
      Completes (exec (.custOutRequestAck ch) s) (fun t =>
        (outChan t ch.val).stalled = false ∧ (∃ x ∈ (outChan t ch.val).reqs, x.tag = e.tag ∧ x.acked = true) ∧
        (outChan t ch.val).reqs.length = (outChan s ch.val).reqs.length ∧ t.dram = s.dram)) ∧
    (∀ c rest, CustodyIdle s → s.keys.inFlight = c :: rest →
      Completes (exec .keyDerivation s) (fun t =>
        cachedKey t c = some (ctxKey s c) ∧ t.keys.inFlight = rest ∧ t.dram = s.dram)) ∧
    (∀ r l, OneLine s r → r.stage = .walk → r.op = 0 → isStale s 0 = false → r.ctx ≠ 0 →
      let n := pageIndex s (r.addr / 64) / 16
      let la := 64 * mapBase s + n
      let q := pageIndex s (la / 64)
      itemAtHand s (.ctr q) = some l → rekeyOf s (.ctr q) = none → minorOf l (la % 64) = 0 → tfind s.mapc.lines n = none →
      Completes (exec (.mapWalk bus) s) (fun t =>
        (tfind t.mapc.lines n).map MapLine.words = some (List.replicate 16 0) ∧ counter t 0x7818 = counter s 0x7818 + 1 ∧
        (inChan t r.ch.val).rsp = (inChan s r.ch.val).rsp ++ [answer r .failed 0] ∧ t.cust.reqs = [] ∧ t.dram = s.dram)) ∧
    (∀ la m, CustodyIdle s → s.keys.asleep = false → ownDown s la = false → oldestDirty s [] = some la → tfind s.tree.lines la = some m → m.item = none →
      Completes (exec (.metadataWriteback []) s) (fun t =>
        storedLine t la = m.data ∧ (tfind t.tree.lines la).map MetaLine.dirty = some false ∧
        ∀ la', la' ≠ la → storedLine t la' = storedLine s la')) ∧
    (∀ e ∈ s.tiles.reads, e.lastAt + bits (activeReg s 0x1044) 0 12 ≤ s.pace.now →
      Completes (exec (.tileDelayExpire bus) s) (fun t =>
        (∃ x ∈ t.tiles.reads, x.order = e.order ∧ x.completing = true ∧ x.sum = e.sum ∧ x.mask = e.mask) ∧
        t.tiles.reads.length = s.tiles.reads.length ∧ { t with tiles := s.tiles } = ended s s)) ∧
    (∀ x rest, CustodyIdle s → backgroundMay s = true → s.tree.rekeys = x :: rest → x.pending = 0 →
      Completes (exec (.rekeyLine bus) s) (fun t =>
        t.tree.rekeys = rest.filter (fun y => decide (y.item ≠ x.item)) ∧ t.dram = s.dram))

/-- Work on lines whose metadata is at hand: a pending line of a page is rewritten under the new major word with minor 1 and is no longer
pending; a read of a VERSIONED line never written answers zeros, CLEAN; a completion read adds the missing line's term to its entry (R150,
R180, R184, R217). -/
def Obligations.LinesAtHand : Prop :=
  ∀ (s : State) (bus : Bus), powered s = true → NoneLost s → dirtyLines s < 1000 → s.keys.asleep = false →
    (∀ x rest q k l m, CustodyIdle s → backgroundMay s = true → s.tree.rekeys = x :: rest → x.item = .ctr q → lowestPending x.pending = some k →
      tfind s.tree.lines (itemAddr s (.ctr q)) = some l → tfind s.tree.lines (lineSealAt s q k).1 = some m →
      itemAddr s (.ctr q) ≠ (lineSealAt s q k).1 →
      Completes (exec (.rekeyLine []) s) (fun t =>
        (∀ y, rekeyOf t (.ctr q) = some y → y.pending.testBit k = false) ∧
        (itemAtHand t (.ctr q)).map (fun z => minorOf z k) = some 1)) ∧
    (∀ r l, OneLine s r → r.stage = .fetch → r.under = none → r.op = 0 → reqClass r = .versionedC → regulated s r.lane.toNat = false →
      tagsHold s r = true → (cachedKey s r.owner).isSome = true → egressDown s (egressOf s r.addr) = false →
      (outChan s (egressOf s r.addr)).reqs.length + (outChan s (egressOf s r.addr)).retired.length ≤ 1020 →
      energyScale * lineEnergy s .versionedC ≤ custodyCredit s →
      let q := pageIndex s (r.addr / 64)
      itemAtHand s (.ctr q) = some l → rekeyOf s (.ctr q) = none → minorOf l (r.addr % 64) = 0 →
      Completes (exec (.metadataFetch bus) s) (fun t =>
        t.cust.reqs = [] ∧ (inChan t r.ch.val).rsp = (inChan s r.ch.val).rsp ++ [answer r .clean 0] ∧ t.dram = s.dram)) ∧
    (∀ e k me l m d, bus = [] → backgroundMay s = true → completionDue s = some (e, k) →
      let q := pageIndex s e.page
      let la := 64 * e.page + k
      tfind s.mapc.lines (q / 16) = some me → entState (me.words.getD (q % 16) 0) ≠ .reserved →
      tfind s.tree.lines (itemAddr s (.ctr q)) = some l → fillBit l.data k = true → tfind s.tree.lines (lineCheckAt s q k).1 = some m →
      tileEntry s e.order = some e → (cachedKey s e.holder).isSome = true → ownDown s la = false →
      decodeSealedLine (storedLine s la) (checkIn m.data (lineCheckAt s q k).2) = some d →
      e.mask ||| BitVec.ofNat 64 (2 ^ k) ≠ ~~~0 →
      Completes (exec (.tileCompletionRead bus) s) (fun t =>
        counter t 0x7878 = counter s 0x7878 + 1 ∧
        ∃ x, tileEntry t e.order = some x ∧ x.mask = e.mask ||| BitVec.ofNat 64 (2 ^ k) ∧
          x.sum = e.sum ^^^ tileTerm (ctxKey s e.holder) k d.1))

/-! ### Background work and faults -/

/-- 64 paces after a release its requester is answered, and the context becomes FREE with its next epoch; the epoch wraps into the next KEY_GEN,
and a context at its last epoch and KEY_GEN retires; at DEPTH 15 the answer says that the advance waits (R135, R137, R138, R207). -/
def Obligations.EpochAdvances : Prop :=
  ∀ (s : State) (bus : Bus) (c ch : Nat) (r : Req), powered s = true →
    tkeys s.ctxs (fun c _ => releaseDue s c) = [c] → tkeys s.lanes (fun _ v => v.state == .releasing) = [] →
    let v := ctxAt s c
    (laneAt s v.lane.toNat).state ≠ .releasing → v.state = .releasing → v.releaseOn = some ch → (chanAt s ch).running = some r →
    (v.depth ≠ 15 → v.ledgerHold = none → v.held = 0 → ¬(v.epoch = 0xFFFFFF ∧ v.keyGen = 0xFF) →
      Completes (exec (.epochAdvance bus) s) (fun t =>
        let u := ctxAt t c
        u.state = .free ∧ u.epoch = v.epoch + 1 ∧ u.keyGen = (if v.epoch = 0xFFFFFF then v.keyGen + 1 else v.keyGen) ∧
        u.held = 0 ∧ u.taint = false ∧ u.sealGroup = 0 ∧ u.sealFull = false ∧ u.lane = v.lane ∧
        (chanAt t ch).running = none ∧
        (chanAt t ch).responses = (chanAt s ch).responses ++ [response r.w0 false stDone [field 32 0 24 v.epoch.toNat, 0]])) ∧
    (v.depth ≠ 15 → v.ledgerHold = none → v.held = 0 → v.epoch = 0xFFFFFF → v.keyGen = 0xFF →
      Completes (exec (.epochAdvance bus) s) (fun t =>
        (ctxAt t c).state = .retired ∧ (ctxAt t c).epoch = 0xFFFFFF ∧ (ctxAt t c).keyGen = 0xFF ∧
        (chanAt t ch).responses = (chanAt s ch).responses ++ [response r.w0 false stDone [field 32 0 24 0xFFFFFF, 0]])) ∧
    (v.depth = 15 →
      Completes (exec (.epochAdvance bus) s) (fun t =>
        ctxAt t c = { v with releaseOn := none } ∧
        (chanAt t ch).responses = (chanAt s ch).responses ++ [response r.w0 false stDone [field 32 0 24 v.epoch.toNat, 1]]))

/-- A sweep pass begins at page 0 where pages wait and none runs. While the background engine has a permit it reads one map line at a time and
marks what the line holds to sweep, or counts the fault of one that it cannot read; past the window the pass ends. It finishes a marked page
that is still to sweep, passes by one that is not, and leaves one that a command has locked. A lane that has thereby reached CLOSED is followed
up. A map line never written holds no page. A marked page in SWEEPING whose entry, counter block and metadata are at hand is finished: its entry
becomes 0 and its holder's lane and SWEEP_PENDING count one page less (R21, R203, R221 to R224, R227). -/
def Obligations.SweepWalks : Prop :=
  (∀ (s : State) (bus : Bus), powered s = true →
     let on := { s with bus := bus }
     (s.bg.sweepActive = false → s.bg.pendingPages ≠ 0 →
       Completes (exec (.sweepPassStart bus) s) (fun t =>
         t.bg.sweepActive = true ∧ t.bg.cursor = 0 ∧ t.bg.begun = s.bg.begun + 1 ∧ t.bg.marked = [] ∧
         t.bg.pendingPages = s.bg.pendingPages ∧ { t with bg := s.bg, ctxs := s.ctxs } = ended s s)) ∧
     (s.bg.sweepActive = true ∨ s.bg.pendingPages = 0 → exec (.sweepPassStart bus) s = .next (ended s s)) ∧
     (backgroundMay s = true → s.bg.sweepActive = true → s.bg.marked = [] →
       let n := s.bg.cursor.toNat / 16
       let next := { on with bg := { s.bg with cursor := BitVec.ofNat 25 (16 * n + 16) } }
       (winPages s ≤ s.bg.cursor.toNat → exec (.sweepMapLine bus) s = .next (ended s (withClosings passEnd on))) ∧
       (s.bg.cursor.toNat < winPages s → ∀ l u, readOwn next (64 * mapBase s + n) = (.ok l, u) →
         let found := ((List.range 16).filter (fun i => decide (16 * n + i < winPages u) &&
           sweepable u ((wordsOfOctets 16 (octetsOfLine l)).getD i 0))).map (fun i => winBase u + 16 * n + i)
         exec (.sweepMapLine bus) s =
           .next (ended s (withClosings (fun _ => maybePassEnd { u with bg := { u.bg with marked := found } }) on))) ∧
       (s.bg.cursor.toNat < winPages s → ∀ b u, readOwn next (64 * mapBase s + n) = (.error b, u) →
         exec (.sweepMapLine bus) s = .next (ended s (withClosings (fun _ => maybePassEnd (mapLineFault u n)) on)))) ∧
     (∀ p rest, backgroundMay s = true → s.bg.marked = p :: rest →
       let next := { on with bg := { s.bg with marked := rest } }
       (pageLocked s p = true → exec (.sweepPage bus) s = .next (ended s (withClosings id on))) ∧
       (∀ e u, pageLocked s p = false → mapEntry next p = (.ok e, u) →
         exec (.sweepPage bus) s =
           .next (ended s (withClosings (fun _ => maybePassEnd (if sweepable u e then sweepOne u p e else u)) on))) ∧
       (∀ k u, pageLocked s p = false → mapEntry next p = (.error k, u) →
         exec (.sweepPage bus) s = .next (ended s (withClosings (fun _ => maybePassEnd (sweepFault u 0 (64 * p))) on)))) ∧
     (tkeys s.lanes (fun _ v => v.state == .releasing) = [] → backgroundMay s = true → s.bg.sweepActive = true → s.bg.marked = [] →
       let n := s.bg.cursor.toNat / 16
       let la := 64 * mapBase s + n
       ∀ l, itemAtHand s (.ctr (pageIndex s (la / 64))) = some l → rekeyOf s (.ctr (pageIndex s (la / 64))) = none →
         minorOf l (la % 64) = 0 → 16 * n + 16 < winPages s → winPages s < 2 ^ 24 → isStale s 0 = false →
         exec (.sweepMapLine bus) s = .next (ended s { s with bg := { s.bg with cursor := BitVec.ofNat 25 (16 * n + 16) } }))) ∧
  (∀ (s : State) (p : Nat) (rest : List Nat) (m : MapLine) (l lm sm : MetaLine), powered s = true →
     tkeys s.lanes (fun _ v => v.state == .releasing) = [] → s.bg.marked = p :: rest → s.pages = [] → s.keys.asleep = false →
     dirtyLines s < 1000 → backgroundMay s = true → s.bg.sweepActive = true → rest ≠ [] →
     let q := pageIndex s p
     let e := m.words.getD (q % 16) 0
     let la := 64 * mapBase s + q / 16
     let lane := (ctxAt s (entCtx e)).lane.toNat
     ownDown s la = false → tfind s.mapc.lines (q / 16) = some m → m.words.length = 16 → entState e = .sweeping → sweepFills s (entClass e) = false →
     (ctxAt s (entCtx e)).ledgerHold.isSome = true → (ctxAt s (entCtx e)).rebuilt = false →
     tfind s.tree.lines (itemAddr s (.ctr q)) = some l →
     tfind s.tree.lines (itemAddr s (.ctr (pageIndex s (la / 64)))) = some lm →
     tfind s.tree.lines (lineSealAt s (pageIndex s (la / 64)) (la % 64)).1 = some sm →
     itemAddr s (.ctr q) ≠ itemAddr s (.ctr (pageIndex s (la / 64))) →
     (lineSealAt s (pageIndex s (la / 64)) (la % 64)).1 ≠ itemAddr s (.ctr q) →
     (lineSealAt s (pageIndex s (la / 64)) (la % 64)).1 ≠ itemAddr s (.ctr (pageIndex s (la / 64))) →
     minorOf lm.data (la % 64) < 127 →
     Completes (exec (.sweepPage []) s) (fun t =>
       (tfind t.mapc.lines (q / 16)).map MapLine.words = some (m.words.set (q % 16) 0) ∧
       t.bg.marked = rest ∧ t.bg.pendingPages = s.bg.pendingPages - 1 ∧
       (laneAt t lane).held = (laneAt s lane).held - 1 ∧
       ∀ la', la' ≠ la → storedLine t la' = storedLine s la'))



/-- The external scrub visits the window's pages in turn and counts its passes; the internal scrub, with nothing found, moves its time, and a
word corrected in a third pass in a row goes to a spare; the controller takes exception records oldest first (R16, R475, R478, R481). -/
def Obligations.ScrubsAndRecords : Prop :=
  ∀ (s : State) (bus : Bus), powered s = true →
    (backgroundMay s = true → bits (activeReg s 0x0870) 0 12 ≠ 0 → winPages s ≠ 0 → pageLocked s (winBase s + s.bg.scrubCursor.toNat % winPages s) = false →
      Completes (exec (.scrubPage bus) s) (fun t =>
        let q := s.bg.scrubCursor.toNat % winPages s
        t.bg.scrubCursor = BitVec.ofNat 25 (if q + 1 < winPages s then q + 1 else 0))) ∧
    (CustodyIdle s → tkeys s.lanes (fun _ v => v.state == .releasing) = [] → s.bg.sramScrubAt + 1048576 ≤ s.pace.now →
      exec (.sramScrubPass [] bus) s = .next (ended s { s with
        flt := { s.flt with correctedRuns := [] }, bg := { s.bg with sramScrubAt := s.pace.now } })) ∧
    (∀ (i : Fin 9) (w : Nat) (x : SramWord) (d : Block), CustodyIdle s → tkeys s.lanes (fun _ v => v.state == .releasing) = [] →
      s.bg.sramScrubAt + 1048576 ≤ s.pace.now → decodeWord x = some (d, true) → timesSeen s.flt.correctedRuns i.val w = 2 →
      (tget {} s.flt.health i.val).spares < 8 →
      Completes (exec (.sramScrubPass [.sramWord i w x] bus) s) (fun t =>
        (tget {} t.flt.health i.val).spares = (tget {} s.flt.health i.val).spares + 1 ∧ t.flt.spareUsed = true ∧
        t.flt.seq = s.flt.seq + 1 ∧ counter t 0x7960 = counter s 0x7960 + 1)) ∧
    (controllerRuns s = true →
      exec (.exceptionTake bus) s = .next (ended s { s with flt := { s.flt with queue := s.flt.queue.drop 1 } }))

/-- A fault that calls for a restart sends the block through steps 2 to 4 once for it and once for every further one, records the last of them,
tells every active channel, and holds custody for the paces of the restart, which the timers of R463 do not count; words that decode and single
wrong copies are put right without a restart. An idle block's restart drops armed halves, records itself, and leaves the firmware to be
checked; a firmware found intact resumes, any other slot is read again; a journal record due is asked of the flash under a sealed root, and none
is written under a public one (R77, R86, R460, R462 to R464, R471, R483, R484). -/
def Obligations.FaultRestarts : Prop :=
  ∀ (s : State) (bus : Bus), powered s = true →
    (∀ (u : Upset) (more : List Upset) (hold : BitVec 11), (∀ x ∈ u :: more, needsRestart x = true) →
      let x := (u :: more).foldl restartPass (0, { s with bus := bus })
      let y := recordRestart (upsetCode (more.getLastD u)) x.1 hold.toNat x.2
      exec (.faultRestart u more hold bus) s = .next (ended s (withClosings
        (fun _ => resumeAcks hold.toNat (faultNotice y 0x05 none 0 y.flt.restarts.toNat)) s))) ∧
    (∀ (sram lost hold : Nat),
      let t := recordRestart sram lost hold s
      t.flt.restart = true ∧ t.flt.restarts = s.flt.restarts + 1 ∧ t.flt.lastSram = BitVec.ofNat 4 sram ∧
      t.flt.lastHold = BitVec.ofNat 11 hold ∧ t.flt.lostPages = BitVec.ofNat 12 (min 4095 lost) ∧ t.flt.lastPace = nowWord s ∧
      counter t 0x7968 = counter s 0x7968 + 1 ∧ t.bg.journalDue = true ∧ { t with flt := s.flt, bg := s.bg, cnt := s.cnt } = s) ∧
    (∀ (u : Upset) (more : List Upset) (hold : BitVec 11), (∀ x ∈ u :: more, needsRestart x = false) →
      exec (.faultRestart u more hold bus) s =
        .next (ended s (withClosings (fun t => (u :: more).foldl treatUpset t) { s with bus := bus }))) ∧
    (∀ (hold : BitVec 11), Quiet s → s.mbox = [] → s.tree.lines = [] → s.rns.jobs = [] → s.dig.slots = [] →
      s.boot.staging = none → s.boot.activation = none → s.boot.restart = none → s.pace.running = false →
      tkeys s.lanes (fun _ v => v.state == .releasing) = [] → s.boot.phase = 6 →
      Completes (exec (.faultRestart (.vote 3) [] hold bus) s) (fun t =>
        t.pace.now = s.pace.now + hold.toNat ∧ t.pace.held = s.pace.held + hold.toNat ∧ clock t = clock s ∧
        t.cfg.armed = [] ∧ t.flt.restart = true ∧ t.flt.restarts = s.flt.restarts + 1 ∧ t.flt.lastSram = 15 ∧
        t.flt.lastHold = hold ∧ t.flt.resumeDue = true ∧ t.flt.endedAt = some (s.pace.now + hold.toNat) ∧
        t.bg.restartsTotal = s.bg.restartsTotal + 1 ∧ t.bg.journalDue = true ∧ t.mapc.lines = [] ∧ t.keys.cache = [] ∧
        counter t 0x7968 = counter s 0x7968 + 1 ∧ t.dram = s.dram)) ∧
    (s.flt.resumeDue = true → s.flt.codeLost = false →
      exec (.firmwareResume true) s = .next (ended s { s with flt := { s.flt with resumeDue := false } })) ∧
    (s.flt.resumeDue = true → ∀ intact : Bool, intact = false ∨ s.flt.codeLost = true →
      exec (.firmwareResume intact) s =
        .next (ended s (reloadFirmware { s with flt := { s.flt with resumeDue := false, codeLost := false } }))) ∧
    (journalWanted s = true → s.keys.root = .bedrock → journalSlots s ≠ 0 →
      Completes (exec .journalRecord s) (fun t =>
        t.bg.journalSeq = s.bg.journalSeq + 1 ∧ t.bg.journalDue = false ∧ t.bg.journalAt = s.pace.now ∧
        let b := journalBody s (s.bg.journalSeq + 1)
        NvmOp.journal ((nvmRegion s 8).off + 64 * s.bg.journalSlot) (b ++ journalTag s b) ∈ t.nvm.ops) ∧
    (journalWanted s = true → s.keys.root ≠ .bedrock ∨ journalSlots s = 0 → exec .journalRecord s = .next (ended s s)))


/-! ### The vault, flash and OTP -/

/-- The shares are refreshed with the bedrock unchanged. The flash operation in progress ends, and the job that it belongs to goes on: a window
read, a signer record, a certificate, a debug certificate, a journal record, an erase of the old store region, staging, activation, each where
it was done and where it failed. Both directory copies take the new directory, and what waited for the change goes on. A store image commits
with the vault's STORE_GEN, and the copy in the key area follows it. An OTP program sets its bits, or fails, and the job that it belongs to goes
on, or ends where it is to be cancelled (R46, R98, R287, R288, R298, R370, R386, R387, R400, R438, R483). -/
def Obligations.StorageOperationsEnd : Prop :=
  ∀ (s : State) (bus : Bus), powered s = true →
    let on := { s with bus := bus }
    (s.keys.root = .bedrock → s.vault.provisioned = true → s.vault.refreshedAt + 1048576 ≤ s.pace.now →
      Completes (exec .vaultShareRefresh s) (fun t =>
        bedrock t = bedrock s ∧ t.vault.mask = BitVec.ofNat 256 (drawRandom s).1.toNat ∧ t.vault.refreshedAt = s.pace.now ∧
        { t with vault := s.vault, rng := s.rng } = ended s s)) ∧
    (∀ (ok dqs : Bool) (rest : List NvmOp),
      let p := nvmPop (dqsSeen dqs on)
      let to_ (x : State) : Prop := exec (.nvmOperationDone ⟨ok, dqs⟩ bus) s = .next (ended s x)
      (∀ off len c e a w, s.nvm.ops = .window off len c e a w :: rest → to_ (windowEnds p off len c e a w ok)) ∧
      (∀ l i d w, s.nvm.ops = .signer l i d w :: rest → to_ (signerDone p (4 * l + i) d w ok)) ∧
      (∀ sel data w, s.nvm.ops = .cert sel data w :: rest → to_ (certDone p sel data w ok)) ∧
      (∀ data w, s.nvm.ops = .debugStore data w :: rest → to_ (if ok then debugStored p data w
        else finish (flashFails p debugSectors.1 debugSectors.2) w stNvmError [])) ∧
      (∀ w, s.nvm.ops = .debugErase w :: rest → to_ (if ok then debugErased p w
        else finish (flashFails p debugSectors.1 debugSectors.2) w stNvmError [])) ∧
      (∀ off data, s.nvm.ops = .journal off data :: rest →
        to_ (if ok then journalWrite p off data else flashFails p off data.length)) ∧
      (∀ again, s.nvm.ops = .eraseStore again :: rest → to_ (storeEraseDone p ok)) ∧
      (s.nvm.ops = .store :: rest → ok = false → to_ (storeFails p)) ∧
      (s.nvm.ops = .stage :: rest → to_ (stageDone p ok)) ∧
      (s.nvm.ops = .activate :: rest → to_ (activateDone p ok))) ∧
    (∀ d use rest, s.nvm.ops = .directory d use :: rest →
      exec (.directoryChange true bus) s = .next (ended s (confirmBegin (dirChanged (writeDir (nvmPop on) d) use))) ∧
      exec (.directoryChange false bus) s = .next (ended s (confirmBegin (dirFailed (nvmPop on) use)))) ∧
    (∀ r rs rest, s.nvm.ops = .store :: rest → s.keys.rewrites = r :: rs →
      let p := nvmPop on
      let stored := flashProgram p (inactiveRegion p).off (storeImage p (s.vault.storeGen + 1) (rewritten s.keys.store r))
      let now := { stored with
        vault := { stored.vault with storeGen := s.vault.storeGen + 1 }
        keys := { stored.keys with store := rewritten s.keys.store r, activeRegion := !s.keys.activeRegion, inactiveErased := false, rewrites := rs } }
      let filled := fillKeyArea (digestKeys (rnsKeys (rewriteEvents now s.keys.store r) stStaleEpoch))
      ((∀ w, r.caller = some w → cancelled p w = false) →
        exec (.keyStoreCommit bus) s = .next (ended s
          (let u := nvmEnqueue (rewriteAnswer filled r) (.eraseStore true)
           if r.caller = none then relayOwed r stDone u else u))) ∧
      (∀ w, r.caller = some w → cancelled p w = true → exec (.keyStoreCommit bus) s = .next (ended s (rewriteAborts p w)))) ∧
    (∀ (fail : Bool) (o : OtpOp) (rest : List OtpOp), s.otp.queue = o :: rest →
      let set := if fail then on else { on with otp := { s.otp with words := tset 0 s.otp.words o.word (otpWord s o.word ||| o.bits) } }
      let p := { set with otp := { set.otp with queue := rest, since := clock s } }
      (∀ w, otpCancelled p o.user = some w → exec (.otpAck fail bus) s = .next (ended s (otpAborts p o.user w))) ∧
      (otpCancelled p o.user = none →
        (o.user = .transition → exec (.otpAck fail bus) s = .next (ended s (transitionProgram p (!fail)))) ∧
        (o.user = .confirm → exec (.otpAck fail bus) s = .next (ended s (confirmProgram p (!fail)))) ∧
        (∀ e, o.user = .reenroll → s.keys.enrolling = some e →
          exec (.otpAck fail bus) s = .next (ended s (if fail then enrollFails e p else enrollBit e p)))))

/-! ### Tamper and the test access port -/

/-- An armed source clears the shares, the check and PROVISIONED, raises TAMPER_OUT and logs an entry, ZEROIZE_ALL clears the whole vault; in
PRODUCTION the gates fall and a tampered restart is due; asleep, or without the core's supply, the vault domain acts alone; an input acts once
an episode, and one that is not armed is only recorded (R47, R48, R296, R449 to R452, R456). That R451's sleep is the time after VAULT_SLEEP is
the model's reading (log 161). -/
def Obligations.TamperResponse : Prop :=
  ∀ s : State,
    let Zeroed (t : State) : Prop := t.pins.tamperOut = true ∧ t.vault.bedrockMasked = 0 ∧ t.vault.mask = 0 ∧ t.vault.check = 0 ∧
      t.vault.provisioned = false ∧ t.vault.tamperCount = s.vault.tamperCount + 1 ∧ t.vault.logHead = s.vault.logHead + 1
    let Response (o : Host.Outcome State Fault Refusal) : Prop :=
      (powered s = false → Completes o (fun t => Zeroed t ∧ { t with vault := s.vault, pins := s.pins, tamper := s.tamper } = ended s s)) ∧
      (powered s = true → s.keys.asleep = true → s.rns.jobs = [] → s.dig.slots = [] →
        Completes o (fun t => Zeroed t ∧ t.pins.gates = s.pins.gates ∧ t.tamper.restartDue = s.tamper.restartDue ∧ t.mbox = s.mbox ∧
          t.cust = s.cust)) ∧
      (powered s = true → s.keys.asleep = false → s.lc.state = lcProduction → CustodyIdle s → s.rns.jobs = [] → s.dig.slots = [] →
        Completes o (fun t => Zeroed t ∧ t.tamper.restartDue = true ∧ t.tamper.event = true ∧ t.tamper.seq = s.tamper.seq + 1 ∧
          (s.tamper.gateHold = false → t.pins.gates = 0) ∧ (s.tamper.gateHold = true → t.pins.gates = s.pins.gates) ∧
          t.cust.stopped = true ∧ t.keys.custodyRoot = 0 ∧ t.keys.laneKeys = [] ∧ t.lc.job = none ∧
          ∀ c, isActive s c = true → bit (chanAt t c).latched bellTamper = true))
    s.pins.vddVault = true →
    (∀ n : Fin 8,
      (bit s.tamper.inputs n.val = true → exec (.tamperIn n) s = .next (ended s s)) ∧
      (bit s.tamper.inputs n.val = false → bit s.tamper.arm n.val = false →
        exec (.tamperIn n) s = .next (ended s { s with
          tamper := { s.tamper with inputs := s.tamper.inputs ||| BitVec.ofNat 8 (2 ^ n.val) } })) ∧
      (bit s.tamper.inputs n.val = false → bit s.tamper.arm n.val = true → Response (exec (.tamperIn n) s)) ∧
      exec (.tamperInFall n.castSucc) s = .next (ended s { s with
        tamper := { s.tamper with inputs := s.tamper.inputs &&& ~~~(BitVec.ofNat 8 (2 ^ n.val)) } })) ∧
    exec (.tamperInFall 8) s = .next (ended s { s with tamper := { s.tamper with zeroize := false } }) ∧
    (s.tamper.zeroize = true → exec .zeroizeAll s = .next (ended s s)) ∧
    (s.tamper.zeroize = false →
      (powered s = false → Completes (exec .zeroizeAll s) (fun t =>
        t.tamper.zeroize = true ∧ t.pins.tamperOut = true ∧ { t.vault with tamperCount := 0, logHead := 0, tlog := [] } = {})) ∧
      (powered s = true → s.keys.asleep = false → s.lc.state = lcProduction → CustodyIdle s → s.rns.jobs = [] → s.dig.slots = [] →
        Completes (exec .zeroizeAll s) (fun t =>
          t.tamper.zeroize = true ∧ t.pins.tamperOut = true ∧ { t.vault with tamperCount := 0, logHead := 0, tlog := [] } = {} ∧
          t.tamper.restartDue = true ∧ t.tamper.cause = 2 ∧ t.cust.stopped = true ∧ t.keys.laneKeys = []))) ∧
    (s.tamper.sensors = false →
      (powered s = true → exec .supplyGlitch s = .next (ended s { s with tamper := { s.tamper with glitch := true } })) ∧
      exec .vaultUndervoltage s = .next (ended s { s with tamper := { s.tamper with vaultUv := true } })) ∧
    (s.tamper.sensors = true →
      (powered s = true → Response (exec .supplyGlitch s)) ∧ Response (exec .vaultUndervoltage s)) ∧
    (powered s = true → s.tamper.restartDue = false → ∀ bus, exec (.tamperedRestart bus) s = .next (ended s { s with bus := bus })) ∧
    (powered s = true → s.tamper.restartDue = true → Quiet s → s.mbox = [] → s.rns.jobs = [] → s.dig.slots = [] → s.ctxs = [] →
      s.relay = {} → s.boot.staging = none →
      ∀ bus, Completes (exec (.tamperedRestart bus) s) (fun t =>
        t.tamper.mode = true ∧ t.tamper.restartDue = false ∧ t.keys.root = .tamperRoot ∧ t.keys.store = [] ∧ t.keys.handles = [] ∧
        t.tree.newTree = true ∧ t.cust.stopped = false))

/-- The test access port: an instruction that the life-cycle state does not permit selects BYPASS and is logged; SCAN and MEM_TEST stop the
block's services, and the march test clears the SRAMs; IDCODE and LC_STATUS capture their words and BYPASS 0; OTP_ACCESS reads every word but the hidden ones, and programs a field that the state
opens; LC_ACCESS begins a transition that R437 allows, and otherwise programs nothing (R57, R58, R437, R438, R443 to R446). -/
def Obligations.TestAccessPort : Prop :=
  ∀ s : State, powered s = true →
    (∀ ir : BitVec 8,
      (tapPermitted s ir = false →
        exec (.tapInstruction ir) s = .next (ended s (violate { s with lc := { s.lc with ir := 0xFF, tapData := 0 } } pTap kAccessDenied none))) ∧
      (tapPermitted s ir = true → ir ≠ 0x31 → ir ≠ 0x40 →
        exec (.tapInstruction ir) s = .next (ended s { s with lc := { s.lc with ir := ir, tapData := tapCapture s ir } }))) ∧
    tapCapture s 0x01 = field 32 28 4 1 ||| field 32 12 16 0x0071 ||| field 32 1 11 Config.manufacturer.toNat ||| 1 ∧
    tapCapture s 0x10 = lcStatus s ∧ tapCapture s 0xFF = 0 ∧
    (tapPermitted s 0x31 = false → exec .scan s = exec (.tapInstruction 0x31) s) ∧
    (tapPermitted s 0x40 = false → exec .memTest s = exec (.tapInstruction 0x40) s) ∧
    (Quiet s → s.mbox = [] → s.rns.jobs = [] → s.dig.slots = [] →
      (tapPermitted s 0x31 = true → Completes (exec .scan s) (fun t =>
        t.lc.ir = 0x31 ∧ t.lc.stopped = true ∧ t.cust.stopped = true ∧ t.dram = s.dram)) ∧
      (tapPermitted s 0x40 = true → Completes (exec .memTest s) (fun t =>
        t.lc.ir = 0x40 ∧ t.lc.stopped = true ∧ t.cust.stopped = true ∧ t.lc.memTesting = true ∧ t.lc.memTest = 0 ∧ t.tree.lines = [] ∧
        t.mapc.lines = [] ∧ t.keys.cache = [] ∧ t.dram = s.dram))) ∧
    (s.lc.memTesting = true →
      Completes (exec .memTestComplete s) (fun t =>
        t.lc.memTesting = false ∧ { t with lc := s.lc, free := s.free } = ended s s)) ∧
    (∀ (a : BitVec 10) (d : W32), s.lc.ir = 0x20 →
      (otpHidden a.toNat = true → ∀ ans, exec (.otpAccessRead a ans) s = .next (ended s { s with lc := { s.lc with tapData := 0 } })) ∧
      (otpHidden a.toNat = false →
        exec (.otpAccessRead a .ok) s = .next (ended s { s with lc := { s.lc with tapData := otpWord s a.toNat } })) ∧
      (tapPrograms s a.toNat = true →
        exec (.otpAccessProgram a d .ok) s = .next (ended s { s with
          otp := { s.otp with words := tset 0 s.otp.words a.toNat (otpWord s a.toNat ||| d) } }) ∧
        exec (.otpAccessProgram a d .fail) s = .next (ended s s)) ∧
      (tapPrograms s a.toNat = false →
        ∀ ans, exec (.otpAccessProgram a d ans) s = .next (ended s (violate s pTap kAccessDenied none)))) ∧
    (s.lc.ir = 0x30 →
      exec (.coreDebug .halt) s = .next (ended s { s with lc := { s.lc with halted := true } }) ∧
      exec (.coreDebug .resume) s = .next (ended s { s with lc := { s.lc with halted := false } }) ∧
      exec (.coreDebug .step) s = .next (ended s s)) ∧
    (∀ dr : BitVec 144, s.lc.ir = 0x11 → bit dr 136 = true → bits dr 137 7 = 0 →
      let target := BitVec.ofNat 8 (bits dr 0 8)
      (∀ i, target ≠ lcProduction → (s.lc.state = lcUndecoded → target = lcEnd) →
        transitionRefusal s target (beOctets 16 (bits dr 8 128)) = .ok i →
        let j : Transition := { target := target, token := i, slot := (freeSlots s).headD 0, step := 1, input := [], caller := none }
        exec (.lcAccess dr) s = .next (ended s (otpEnqueue { s with lc := { s.lc with job := some j } }
          ((tripleOps (intentSlot j.slot) (intentWord target i)).map
            (fun w => { user := .transition, word := w.1, bits := w.2 }))))) ∧
      (∀ e, target ≠ lcProduction → (s.lc.state = lcUndecoded → target = lcEnd) →
        transitionRefusal s target (beOctets 16 (bits dr 8 128)) = .error e → exec (.lcAccess dr) s = .next (ended s s)) ∧
      (target ≠ lcEnd → s.lc.state = lcUndecoded →
        exec (.lcAccess dr) s = .next (ended s (violate s pTap kAccessDenied none))) ∧
      (target = lcProduction → s.lc.state ≠ lcUndecoded → exec (.lcAccess dr) s = .next (ended s s)))

/-! ### Power, reset and start -/

/-- PORST_N and a failing supply clear everything volatile and keep the vault, the memory and the tamper configuration; VDD_VAULT comes back
to an empty vault; a cold start ends with custody in service and the election window open, halts without a 4 KiB erase type or a valid directory, reads the OTP's
tamper configuration first, and does nothing while PORST_N is high (R59, R61, R381 to R383, R449, R472). -/
def Obligations.ResetAndStart : Prop :=
  ∀ (s : State) (env : StartEnv) (bus : Bus),
    (s.pins.porstN = true →
      Completes (exec .porstNAssert s) (fun t => Cleared t ∧ t.pins.porstN = false ∧ t.vault = s.vault ∧ t.dram = s.dram ∧
        t.sleepImage = s.sleepImage ∧ t.tamper.arm = s.tamper.arm ∧ t.pins.tamperOut = s.pins.tamperOut)) ∧
    (powered s = true →
      Completes (exec .powerFailure s) (fun t => Cleared t ∧ t.pins.vddCore = false ∧ t.vault = s.vault ∧ t.dram = s.dram ∧
        t.sleepImage = s.sleepImage ∧ t.tamper.arm = s.tamper.arm ∧ t.pins.tamperOut = s.pins.tamperOut)) ∧
    exec .vddVaultRise s = .next { s with
      pins := { s.pins with vddVault := true, tamperOut := false }, vault := {}, tamper := { s.tamper with arm := 0xFF, gateHold := false } } ∧
    (s.pins.porstN = true → exec (.coldStart env bus) s = .next s) ∧
    (s.pins.porstN = false →
      let s1 := (startStep1 env { s with bus := bus }).2
      (s.tamper.inputs = 0 → s.tamper.zeroize = false → lcStarts s1.lc.state = false →
        Completes (exec (.coldStart env bus) s) (fun t =>
          powered t = true ∧ t.pins.nvmResetN = true ∧ t.pins.tamperOut = false ∧ t.pins.gates = s.pins.gates ∧
          t.tamper.arm = BitVec.ofNat 8 (bits (otpWord s otpTamperCfg) 0 8) ∧ t.boot.phase = s.boot.phase)) ∧
      (lcStarts s1.lc.state = true → env.erase4k = false →
        exec (.coldStart env bus) s = .next (ended { s with pins := { s.pins with porstN := true, vddCore := true } }
          { s1 with boot := { s1.boot with phase := 7, halt := 1 } })) ∧
      (∀ s2, lcStarts s1.lc.state = true → env.erase4k = true → readDirectory (count s1 0x7918 256) = (none, s2) →
        exec (.coldStart env bus) s = .next (ended { s with pins := { s.pins with porstN := true, vddCore := true } }
          { s2 with boot := { s2.boot with phase := 7, halt := 1 } })) ∧
      (∀ d s2 t later s3, lcStarts s1.lc.state = true → env.erase4k = true → readDirectory (count s1 0x7918 256) = (some d, s2) →
        selectPair { s2 with boot := { s2.boot with dir := some d } } d = (t, later, s3) →
        (t.runs = none →
          exec (.coldStart env bus) s = .next (ended { s with pins := { s.pins with porstN := true, vddCore := true } }
            { s3 with boot := { s3.boot with phase := 7, halt := haltOf t.fails } })) ∧
        (∀ k f c, t.runs = some (k, f, c) →
          Completes (exec (.coldStart env bus) s) (fun u =>
            powered u = true ∧ u.boot.phase = 6 ∧ u.cust.enabled = true ∧ (u.boot.halt = 0 ∨ u.boot.halt = 4) ∧
            (u.own.cands = [] → u.own.phase = .noCandidate) ∧
            (u.own.cands ≠ [] → u.own.phase = .window ∧ u.own.remaining = 8192 ∧ u.own.claims = [])))))

/-! ### Update -/

/-- A bundle's staging, activation, confirmation, revert and discard: what each asks of the flash and the directory, and the state that each
leaves where it must not begin (R389 to R396). -/
def Obligations.UpdateCommands : Prop :=
  ∀ (s : State) (bus : Bus) (k : Call) (t : State) (i : Nat), powered s = true →
    let on := { s with bus := bus }
    (∀ (h : Octets) (total : Nat) (t1 t2 : State), Started on 0x601 k t → fieldsOk k descMasks = true →
      descRefusal t k (descAt k 0) false = (none, t1) → stageFree t1 = true → t1.rcpt.load = none →
      freeTicket (chanAt t1 k.ch) = some i →
      dmaRead (acceptRunning t1 k.ch i) { descAt k 0 with len := min 64 (descAt k 0).len } = (.ok h, t2) →
      arrivingHeader t2 h = .ok total → (descAt k 0).len = total → mayStage t2 (wordAt h 12) = true →
      exec (.updateStage bus) s =
        .next (ended s (stageRefill (stageBegin t2 h total (some
          { caller := .ticket k.ch i, ctx := (descAt k 0).ctx, epoch := (ctxAt t2 (descAt k 0).ctx).epoch, addr := (descAt k 0).addr }))))) ∧
    (∀ (b : Bundle) (t1 : State), Started on 0x602 k t → (theDir t).update = 0 → (theDir t).stage = 2 → t.rcpt.load = none →
      t.boot.activation = none → freeTicket (chanAt t k.ch) = some i → readBundle (acceptRunning t k.ch i) = (b, t1) →
      (bundleOk t1 b = true → Completes (exec (.updateActivate bus) s) (fun u =>
        u.boot.progress = 0 ∧ ∃ a, u.boot.activation = some a ∧ a.caller = .ticket k.ch i ∧ a.digests.length = b.items.length ∧
          (a.sectors ≠ [] → .activate ∈ u.nvm.ops))) ∧
      (bundleOk t1 b = false → exec (.updateActivate bus) s = .next (ended s (finish t1 (.ticket k.ch i) stBundleFormat [])))) ∧
    (Started on 0x603 k t → (theDir t).update = 2 → t.boot.confirming = none → t.boot.restart = none →
      freeTicket (chanAt t k.ch) = some i → otpWaits t .confirm = false → dirWriting t = false →
      let ops := raiseCounter otpFwCounter t.boot.fwOtp.toNat (trialArbs t).1 ++
        raiseCounter otpCardCounter t.boot.cardOtp.toNat (trialArbs t).2
      (trialArbs t).1 ≤ 255 → (trialArbs t).2 ≤ 255 → ops ≠ [] →
      Completes (exec (.updateConfirm bus) s) (fun u =>
        u.boot.confirming = some (.ticket k.ch i) ∧ u.otp.queue = s.otp.queue ++ ops ∧ u.otp.words = s.otp.words)) ∧
    (Started on 0x604 k t → (theDir t).update = 2 → t.boot.confirming = none → freeTicket (chanAt t k.ch) = some i →
      let u := acceptRunning t k.ch i
      exec (.updateRevert bus) s = .next (ended s { u with
        boot := { u.boot with restart := some { trial := false, reason := 0x0C, caller := some (.ticket k.ch i) } } })) ∧
    (Started on 0x605 k t → (theDir t).update = 0 → t.boot.activation = none → t.boot.staging = none →
      Completes (exec (.updateDiscard bus) s) (fun u =>
        (theDir u).stage = 0 ∧ .directory { theDir t with stage := 0 } .plain ∈ u.nvm.ops ∧ Answered t k u stDone [])) ∧
    (∀ (g : Gate) (t1 : State), Started on 0x610 k t → fieldsOk k ([0xF, 0xFFFFFFFF] ++ descMasks) = true →
      descRefusal t k (descAt k 2) true = (none, t1) → releasedGate t1 (bits (k.word 0) 0 4) = some g →
      (k.word 1).toNat + (descAt k 2).len ≤ g.len - 64 - sigLen → freeTicket (chanAt t1 k.ch) = some i →
      exec (.nvmWindowRead bus) s = .next (ended s (nvmEnqueue (acceptRunning t1 k.ch i)
        (.window (g.off + 64 + (k.word 1).toNat) (descAt k 2).len (descAt k 2).ctx (ctxAt t1 (descAt k 2).ctx).epoch
          (descAt k 2).addr (.ticket k.ch i))))) ∧
    (Started on 0x602 k t → (theDir t).update ≠ 0 ∨ (theDir t).stage ≠ 2 →
      exec (.updateActivate bus) s = .next (ended s (reply t k stUpdateState []))) ∧
    (Started on 0x603 k t → (theDir t).update ≠ 2 →
      exec (.updateConfirm bus) s = .next (ended s (reply t k stUpdateState []))) ∧
    (∀ g, s.boot.staging = some g → g.lastAt + 16777216 ≤ s.pace.now →
      Completes (exec .stageAborted s) (fun u =>
        u.boot.staging = none ∧ (theDir u).stage = 0 ∧ u.boot.aborted = true ∧ u.boot.seq = s.boot.seq + 1)) ∧
    (∀ r (f : Firmware) (u v : State), s.boot.restart = some r → r.trial = false →
      let s0 := restartJobs on (warmKeeps on r)
      let s1 := { s0 with boot := { s0.boot with restart := none, activation := none, confirming := none, warm := true } }
      checkFirmware s1 (pairNo (theDir s1).pair) = (.ok f, u) →
      checkServices (extendNow u 1 f.meas).2 (pairNo (theDir s1).pair) f = (true, v) →
      Completes (exec (.warmRestart bus) s) (fun t =>
        t.boot.fwMeas = BitVec.ofNat 384 (ofBe f.meas) ∧ t.boot.fwVersion = f.version ∧ t.boot.fallback = false ∧
        t.boot.fellBack = true ∧ t.boot.eventReason = BitVec.ofNat 8 r.reason ∧
        (theDir t).update = 0 ∧ (theDir t).stage = 0 ∧ (theDir t).lastFallback = true))

/-! ### General requests -/

/-- The checks of R96 refuse a request on its own channel, a restarting block answers RESTARTING, and the general opcodes answer: PING echoes,
BLOCK_INFO identifies, JOB_STATUS reads a ticket and frees it unless KEEP, JOB_CANCEL marks a running job, NOTICE_FETCH removes the oldest
notice; a row whose opcode the next request does not carry does nothing (R79, R96 to R98). -/
def Obligations.GeneralRequests : Prop :=
  ∀ (s : State) (k : Call) (t : State), powered s = true →
    (∀ c, pickChannel s = some c → startRequest s c = some (k, t) → opInfo (opcodeOf k.req.w0) = none →
      serving s (opcodeOf k.req.w0) = .serves →
      Completes (exec .unknownOpcode s) (fun u =>
        Answered t k u (if bits k.req.w0 0 6 = 0 then stBadOpcode else stBadField) [] ∧ MailOnly s u k)) ∧
    (∀ c, pickChannel s = some c → startRequest s c = some (k, t) → opcodeOf k.req.w0 = 0x001 →
      (serving s 0x001 = .restarts →
        Completes (exec .ping s) (fun u => Answered t k u stRestarting [] ∧ MailOnly s u k)) ∧
      (serving s 0x001 = .waits → exec .ping s = .next (ended s s)) ∧
      (∀ st, serving s 0x001 = .serves → requestRefusal t k = some st →
        Completes (exec .ping s) (fun u => Answered t k u st [] ∧ MailOnly s u k))) ∧
    (pickChannel s = none → exec .ping s = .next (ended s s)) ∧
    (Started s 0x001 k t →
      Completes (exec .ping s) (fun u => Answered t k u stDone k.req.payload ∧ MailOnly s u k) ∧
      exec .noticeFetch s = .next (ended s s)) ∧
    (Started s 0x002 k t →
      Completes (exec .blockInfo s) (fun u => Answered t k u stDone
        [identWord, s.boot.fwVersion, s.boot.cardVersion, ownerWord s, k.req.w1] ∧ MailOnly s u k)) ∧
    (∀ j, Started s 0x003 k t → ticketWordOk (k.word 0) true = true →
      tfind (chanAt s k.ch).tickets (bits (k.word 0) 0 4) = some j →
      Completes (exec .jobStatus s) (fun u =>
        MailOnly s u k ∧ (∀ c, c ≠ k.ch → chanAt u c = chanAt s c) ∧
        (j.status = none → Answered t k u (if jobSpilled t k.ch (bits (k.word 0) 0 4) then stPreempted else stBusy) [jobWord j (bits (k.word 0) 0 4)]) ∧
        (∀ st, j.status = some st → bit (k.word 0) 8 = true →
          Answered t k u st (jobWord j (bits (k.word 0) 0 4) :: j.result)) ∧
        (∀ st, j.status = some st → bit (k.word 0) 8 = false →
          tfind (chanAt u k.ch).tickets (bits (k.word 0) 0 4) = none ∧
          bit (chanAt u k.ch).latched (16 + bits (k.word 0) 0 4) = false ∧
          (chanAt u k.ch).responses = (chanAt t k.ch).responses ++
            [response k.req.w0 false st (jobWord j (bits (k.word 0) 0 4) :: j.result)]))) ∧
    (∀ bus j, Started { s with bus := bus } 0x004 k t → ticketWordOk (k.word 0) false = true →
      tfind (chanAt s k.ch).tickets (bits (k.word 0) 0 4) = some j →
      (j.status.isSome = true → Completes (exec (.jobCancel bus) s) (fun u =>
        Answered t k u stDone [] ∧ MailOnly s u k)) ∧
      (j.status = none → s.lanes = [] → s.tiles.fences = [] → s.pages = [] → s.rcpt.load = none → s.rcpt.receipts = [] →
        s.rcpt.sheets = [] → s.rns.aborts = [] → s.rns.jobs = [] → s.dig.slots = [] → s.relay.waits = [] → s.relay.segment = [] →
        s.nvm.ops.drop 1 = [] → s.boot.restart = none → s.keys.sleeping = none →
        Completes (exec (.jobCancel bus) s) (fun u =>
          tfind (chanAt u k.ch).tickets (bits (k.word 0) 0 4) = some { j with cancel := true } ∧
          (chanAt u k.ch).responses = (chanAt t k.ch).responses ++ [response k.req.w0 false stDone []] ∧
          MailOnly s u k))) ∧
    (∀ n rest, Started s 0x005 k t → (chanAt s k.ch).notices = n :: rest →
      Completes (exec .noticeFetch s) (fun u =>
        (chanAt u k.ch).notices = rest ∧ (chanAt u k.ch).running = none ∧
        (chanAt u k.ch).responses = (chanAt s k.ch).responses ++ [response k.req.w0 false stDone n] ∧
        MailOnly s u k)) ∧
    (Started s 0x005 k t → (chanAt s k.ch).notices = [] →
      Completes (exec .noticeFetch s) (fun u => Answered t k u stDone [] ∧ MailOnly s u k))

/-! ### Contexts, pages and lanes -/

/-- A page command of one page that passes its checks changes it and answers DONE with one page done, and one that is refused answers the
index and the reason; a frozen page keeps its rights but W, a released page goes to the sweep and its context holds one page less (R200 to
R205, R209, R212, R213). -/
def Obligations.PageCommands : Prop :=
  ∀ (s : State) (bus : Bus) (op : PageOp) (k : Call) (t : State), powered s = true →
    Started { s with bus := bus } op.code k t → fieldsOk k [0x3FFF ||| op.flags, 0xFFFFFF, 0x1FFFF] = true →
    (op = .claim → claimFlagsOk (k.word 0) = true) → bits (k.word 2) 0 17 = 1 → t.pages = [] →
    let row : Instr := match op with
      | .claim => .pageClaim bus
      | .seal => .pageSeal bus
      | .freeze => .pageFreeze bus
      | .renew => .pageRenew bus
      | .release => .pageRelease bus
    let j := { newPageJob op k (.running k.ch) with locked := 1 }
    let p := bits (k.word 1) 0 24
    let c := bits (k.word 0) 0 14
    (∀ i st t1, pageCheck t j = (some (i, st), t1) →
      exec row s = .next (ended s (settle (reply t1 k st [BitVec.ofNat 32 i])))) ∧
    (∀ t1 t2 t4 e, pageCheck t j = (none, t1) →
      let j1 := { j with checked := true, group := (ctxAt t1 c).sealGroup.toNat }
      mapEntry t1 p = (.ok e, t2) → pageStill j1 t2 e = none →
      let t3 := judgeWaiting t2 p e
      changeReady j1 t3 p = true → payFill t3 j1 p = none →
      pageChange j1 (if op = .renew then keepGeneration t3 p else t3) p e = (.done, t4) →
      olderTraffic t4 p t3.cust.nextSeq = false →
      let j2 := { j1 with done := 1 }
      exec row s = .next (ended s (settle (reply (pageClose j2 t4) k stDone [1, pageWord j2])))) ∧
    (∀ t1 t2 st, pageCheck t j = (none, t1) →
      let j1 := { j with checked := true, group := (ctxAt t1 c).sealGroup.toNat }
      (∀ b, mapEntry t1 p = (.error b, t2) → st = stMapFault →
        exec row s = .next (ended s (settle (reply (pageClose j1 t2) k stFaulted [0, field 32 0 8 st.toNat])))) ∧
      (∀ e, mapEntry t1 p = (.ok e, t2) → pageStill j1 t2 e = some st →
        exec row s = .next (ended s (settle (reply (pageClose j1 t2) k stFaulted [0, field 32 0 8 st.toNat]))))) ∧
    (∀ m, bus = [] → CustodyIdle t → EntryAtHand t p m → inWindow t p = true → inOwnRegion t p = false →
      let q := pageIndex t p
      let e := m.words.getD (q % 16) 0
      entCtx e = c → entState e = .live → entClass e ≠ .sealedC →
      (op = .freeze → Completes (exec row s) (fun u =>
        (tfind u.mapc.lines (q / 16)).map MapLine.words =
          some (m.words.set (q % 16) (entWithRights (entWithState e .frozen) (entRd e) false)) ∧
        Answered t k u stDone [1, 0] ∧ ∀ la, la ≠ mapLineAddr t (q / 16) → storedLine u la = storedLine t la)) ∧
      (op = .release → isStale t e = false → (ctxAt t c).ledgerHold.isSome = true → (ctxAt t c).rebuilt = false →
        Completes (exec row s) (fun u =>
          (tfind u.mapc.lines (q / 16)).map MapLine.words = some (m.words.set (q % 16) (entWithState e .sweeping)) ∧
          (ctxAt u c).held = (ctxAt t c).held - 1 ∧ u.bg.pendingPages = t.bg.pendingPages + 1 ∧
          Answered t k u stDone [1, 0] ∧ ∀ la, la ≠ mapLineAddr t (q / 16) → storedLine u la = storedLine t la)))

/-- CTX_OPEN makes a FREE context ACTIVE for an OPEN lane at its EPOCH and KEY_GEN; CTX_RELEASE makes it RELEASING and gives its pages to the
sweep; the queries answer what the map and the records hold; VERDICT_FENCE sends the context's tile entries to completion (R135, R136, R206,
R207, R214, R220). -/
def Obligations.ContextCommands : Prop :=
  ∀ (s : State) (bus : Bus) (k : Call) (t : State), powered s = true →
    let c := bits (k.word 0) 0 14
    let v := ctxAt t c
    let on := { s with bus := bus }
    (Started on 0x101 k t → fieldsOk k [0x0F3F3FFF, 0x00FFFFFF] = true → c ≠ 0 →
      let l := bits (k.word 0) 16 6
      l ≠ 0 → v.state = .free → (laneAt t l).state = .opened → v.lane.toNat = l ∨ v.depth = 0 →
      Completes (exec (.ctxOpen bus) s) (fun u =>
        let w := ctxAt u c
        w.state = .active ∧ w.lane.toNat = l ∧ w.epoch = v.epoch ∧ w.keyGen = v.keyGen ∧ w.held = 0 ∧ w.taint = false ∧
        w.permits.toNat = bits (k.word 0) 24 4 ∧ w.quota.toNat = bits (k.word 1) 0 24 ∧ w.sealGroup = 0 ∧ w.sealFull = false ∧
        w.model = 0 ∧ (∀ c', c' ≠ c → ctxAt u c' = ctxAt t c') ∧
        Answered t k u stDone [field 32 0 24 v.epoch.toNat, field 32 0 8 v.keyGen.toNat])) ∧
    (Started on 0x101 k t → fieldsOk k [0x0F3F3FFF, 0x00FFFFFF] = true → c ≠ 0 → bits (k.word 0) 16 6 ≠ 0 → v.state ≠ .free →
      exec (.ctxOpen bus) s = .next (ended s (reply t k stCtxState []))) ∧
    (Started on 0x102 k t → fieldsOk k [0x3FFF] = true → c ≠ 0 → v.state = .active → t.pages = [] → CustodyIdle t → t.tiles.reads = [] →
      t.rns.jobs = [] → t.dig.slots = [] → t.rcpt.receipts = [] → t.rcpt.load = none → t.relay.peerings = [] →
      t.relay.bundles = [] → t.tiles.fences = [] → t.nvm.ops = [] → t.boot.staging = none →
      Completes (exec (.ctxRelease bus) s) (fun u =>
        (ctxAt u c).state = .releasing ∧ (ctxAt u c).epoch = v.epoch ∧ (ctxAt u c).closedAt = some s.pace.now ∧
        (ctxAt u c).releaseOn = some k.ch ∧ u.bg.pendingPages = t.bg.pendingPages + BitVec.ofNat 25 v.held.toNat ∧
        cachedKey u c = none ∧ (chanAt u k.ch).running = some k.req ∧ u.dram = s.dram)) ∧
    (Started on 0x108 k t → fieldsOk k [0x3FFF] = true →
      exec (.ctxQuery bus) s = .next (ended s (reply t k stDone [ctxWord v 0, ctxWord v 1, ctxWord v 2, ctxWord v 3,
        field 32 0 10 (tilesOf t c).length ||| field 32 16 10 (tcount t.tiles.writes (fun _ w => decide (w.ctx = c)))]))) ∧
    (∀ e t1, Started on 0x10A k t → fieldsOk k [0x3FFF, 0xFFFFFF] = true → inWindow t (bits (k.word 1) 0 24) = true →
      mapEntry t (bits (k.word 1) 0 24) = (.ok e, t1) →
      (entState e = .free ∨ k.owner = true ∨ (ctxAt t1 (entCtx e)).lane.toNat = k.lane →
        exec (.pageQuery bus) s = .next (ended s (reply t1 k stDone [e, flag 32 0 (isStale t1 e)]))) ∧
      (entState e ≠ .free → k.owner = false → (ctxAt t1 (entCtx e)).lane.toNat ≠ k.lane →
        exec (.pageQuery bus) s = .next (ended s (reply t1 k stDenied [])))) ∧
    (∀ i, Started on 0x109 k t → fieldsOk k [0x3FFF] = true → freeTicket (chanAt t k.ch) = some i →
      (tilesOf t c = [] → Completes (exec (.verdictFence bus) s) (fun u =>
        TicketEnded u k i stDone [flag 32 0 v.taint, 0] ∧ MailOnly s u k)) ∧
      (tilesOf t c ≠ [] → Completes (exec (.verdictFence bus) s) (fun u =>
        TicketRuns t k u i ∧ (∀ x ∈ tilesOf u c, x.completing = true) ∧ (tilesOf u c).length = (tilesOf t c).length ∧
        u.tiles.fences = t.tiles.fences ++
          [{ ctx := c, epoch := v.epoch.toNat, entries := (tilesOf t c).map TileRead.order, count := 0, caller := .ticket k.ch i }])))

/-- The lane commands: OPEN from CLOSED, DRAIN to DRAINED once nothing is outstanding, RESUME back to OPEN with the drain job ended ABORTED,
RELEASE to CLOSED with the next generation where no context is left; a lane in another state answers LANE_STATE (R130, R208, R281). -/
def Obligations.LaneCommands : Prop :=
  ∀ (s : State) (bus : Bus) (k : Call) (t : State), powered s = true →
    let l := laneOf k
    let v := laneAt t l
    laneFieldOk k = true →
    (Started s 0x110 k t →
      (v.state = .closed → v.rewriteDue = false → Completes (exec .laneOpen s) (fun u =>
        laneAt u l = { v with state := .opened } ∧ (∀ l', l' ≠ l → laneAt u l' = laneAt t l') ∧ Answered t k u stDone [1])) ∧
      (v.state = .closed → v.rewriteDue = true → exec .laneOpen s = .next (ended s (reply t k stBusy []))) ∧
      (v.state ≠ .closed → exec .laneOpen s = .next (ended s (reply t k stLaneState [])))) ∧
    (∀ i, Started s 0x111 k t → v.state = .opened → freeTicket (chanAt t k.ch) = some i →
      (laneOutstanding t l = 0 → Completes (exec .laneDrain s) (fun u =>
        laneAt u l = { v with state := .drained, job := none } ∧ TicketEnded u k i stDone [])) ∧
      (laneOutstanding t l ≠ 0 → Completes (exec .laneDrain s) (fun u =>
        laneAt u l = { v with state := .draining, job := some (.ticket k.ch i) } ∧ TicketRuns t k u i))) ∧
    (Started s 0x111 k t → v.state ≠ .opened → exec .laneDrain s = .next (ended s (reply t k stLaneState []))) ∧
    (∀ i j, Started s 0x112 k t → v.state = .draining → v.job = some (.ticket k.ch i) →
      tfind (chanAt t k.ch).tickets i = some j → j.status = none →
      Completes (exec .laneResume s) (fun u =>
        laneAt u l = { v with state := .opened, job := none } ∧ TicketEnded u k i stAborted [] ∧
        (chanAt u k.ch).responses = (chanAt t k.ch).responses ++ [response k.req.w0 false stDone [1]])) ∧
    (Started s 0x112 k t → v.state = .drained → v.job = none →
      Completes (exec .laneResume s) (fun u => laneAt u l = { v with state := .opened } ∧ Answered t k u stDone [1])) ∧
    (∀ i, Started { s with bus := bus } 0x113 k t → v.state = .opened ∨ v.state = .draining ∨ v.state = .drained → v.job = none →
      freeTicket (chanAt t k.ch) = some i → contextsOf t l = [] → t.rns.jobs = [] → t.dig.slots = [] → t.keys.handles = [] →
      t.keys.store = [] → t.rcpt.sheets = [] → laneMileposts t l = [] →
      Completes (exec (.laneRelease bus) s) (fun u =>
        (laneAt u l).state = .closed ∧ (laneAt u l).gen = v.gen + 1 ∧ (laneAt u l).job = none ∧
        TicketEnded u k i stDone [v.gen + 1] ∧
        (t.keys.vaultState ≠ 2 → tget 0 u.vault.laneGens l = v.gen + 1)))

/-! ### Models, receipts and sheets -/

/-- A model package that passes its checks is loaded part by part under a measurement of its header and manifest, and a load whose parts are all
sealed and whose digest matches is recorded under the lowest free handle; for a package that fails a check, and a load that has waited too long
for tile entries, the reason stands in the answer and in the loader's result; MODEL_QUERY answers the table entry; MODEL_SIGNER_SET asks for its
flash record (R237 to R254). -/
def Obligations.ModelCommands : Prop :=
  ∀ (s : State) (bus : Bus) (k : Call) (t : State), powered s = true →
    let on := { s with bus := bus }
    (∀ i t1, Started on 0x201 k t → fieldsOk k ([0x13FFF, 0xFFFFFF] ++ descMasks) = true → loadRefusal t k = (none, t1) →
      freeTicket (chanAt t1 k.ch) = some i →
      let d := descAt k 2
      let ctx := bits (k.word 0) 0 14
      let page := bits (k.word 1) 0 24
      let shared := bit (k.word 0) 16
      let begun := acceptRunning t1 k.ch i
      let lane (v : State) : Nat := (ctxAt v ctx).lane.toNat
      let Rejected (v : State) (f : LoadFail) : Prop :=
        exec (.modelLoad bus) s = .next (ended s (finish (count { v with rcpt := { v.rcpt with
          load := none, loadSeq := v.rcpt.loadSeq + 1, loadStatus := f.st, loadReason := BitVec.ofNat 8 f.reason
          loadTensor := BitVec.ofNat 8 f.tensor } } 0x7890 1) (.ticket k.ch i) f.st
          [field 32 0 8 f.reason ||| field 32 8 8 f.tensor ||| field 32 16 7 0, 0]))
      (∀ h t2 f, dmaRead begun { d with addr := d.addr + 0, len := min 64 d.len } = (.ok h, t2) → pkgHeader h d.len = .error f →
        Rejected t2 f) ∧
      (∀ f t2, readPackage begun d = (.error f, t2) → Rejected t2 f) ∧
      (∀ g t2, readPackage begun d = (.ok g, t2) →
        let checked := ownRns t2 (lane t2) (blockJobs (laneSigners t2 (lane t2)) (g.head ++ g.man) g.sig)
        (∀ r, blockFails (laneSigners t2 (lane t2)) (g.head ++ g.man) g.sig = some r →
          Rejected checked { st := stPkgSignature, reason := r, tensor := 0xFF }) ∧
        (∀ f, blockFails (laneSigners t2 (lane t2)) (g.head ++ g.man) g.sig = none →
          sizeCheck checked g.m g.parts.pay.2 ctx = .error f → Rejected checked f) ∧
        (∀ f t3, sizePackage t2 g ctx page shared = (.error f, t3) → Rejected t3 f) ∧
        (∀ n t3, sizePackage t2 g ctx page shared = (.ok n, t3) →
          let t4 := if g.m.wrap.isSome then ownRns t3 (lane t3) (1, 0) else ownDigest t3 (lane t3)
          exec (.modelLoad bus) s = .next (ended s (loadParts 64 t4 (newLoad t4 (.ticket k.ch i) g ctx page n shared d)))))) ∧
    (∀ l, loadCurrent s l = true → l.done = l.pages →
      (beOctets 48 l.digest.toNat = sha384 l.plain → ∀ h, freeModel s = some h →
        let u := loadParts 64 s l
        tfind u.rcpt.models h = some
          { measurement := l.measurement, lane := (ctxAt s l.ctx).lane.toNat, ctx := l.ctx, epoch := (ctxAt s l.ctx).epoch, page := l.page
            pages := l.pages, parts := l.part, batch := l.batch } ∧
        (ctxAt u l.ctx).model = BitVec.ofNat 12 h ∧ u.rcpt.load = none ∧ u.rcpt.loadStatus = stDone ∧ counter u 0x7888 = counter s 0x7888 + 1) ∧
      (beOctets 48 l.digest.toNat ≠ sha384 l.plain → (loadParts 64 s l).rcpt.loadStatus = stPayloadDigest)) ∧
    (∀ l, s.rcpt.load = some l → l.since + 65536 ≤ clock s → l.done = 0 →
      exec (.loaderTileWaitExpire bus) s = .next (ended s (finish (count { on with rcpt := { s.rcpt with
        load := none, loadSeq := s.rcpt.loadSeq + 1, loadStatus := stTileFull, loadReason := 0, loadTensor := 0xFF } } 0x7890 1)
        l.caller stTileFull [field 32 0 8 0 ||| field 32 8 8 0xFF ||| field 32 16 7 l.part, 0]))) ∧
    (∀ m, Started on 0x202 k t → fieldsOk k [0xFFF] = true → tfind t.rcpt.models (bits (k.word 0) 0 12) = some m →
      k.owner = true ∨ m.lane = k.lane →
      (modelCurrent t m = true → exec (.modelQuery bus) s = .next (ended s (reply t k stDone (digestWords m.measurement ++
        [field 32 0 14 m.ctx ||| field 32 14 6 m.lane ||| field 32 20 5 m.batch ||| field 32 25 7 m.parts, field 32 0 15 m.pages])))) ∧
      (modelCurrent t m = false → exec (.modelQuery bus) s = .next (ended s (reply t k stStaleEpoch [])))) ∧
    (∀ i, Started on 0x203 k t → fieldsOk k [0x1033F] = true → freeTicket (chanAt t k.ch) = some i →
      Completes (exec (.modelSignerSet bus) s) (fun u => TicketRuns t k u i ∧
        .signer (bits (k.word 0) 0 6) (bits (k.word 0) 8 2) (if bit (k.word 0) 16 then none else some (BitVec.ofNat 384
          (ofBe ((List.range 12).flatMap (fun a => beOctets 4 (k.word (1 + a)).toNat))))) (.ticket k.ch i) ∈ u.nvm.ops))

/-- A receipt opens with the next serial and a fold key from the random source, closes with its declared slots CORRUPT, is abandoned or
folded again, takes its verdict once no tile entry is left, and enters a sheet (R255 to R268). -/
def Obligations.ReceiptCommands : Prop :=
  ∀ (s : State) (bus : Bus) (k : Call) (t : State), powered s = true →
    let on := { s with bus := bus }
    let n := bits (k.word 0) 0 10
    (∀ m t1 o t2 t3 h, Started on 0x210 k t → fieldsOk k (0x0FFF3FFF :: descMasks) = true → openRefusal t k = (.ok m, t1) →
      dmaRead t1 (descAt k 1) = (.ok o, t2) → badSlot t2 k (slotRecords o) 0 = (none, t3) → (slotRecords o).all slotPad = false →
      firstBelow 1024 (fun h => (tfind t3.rcpt.receipts h).isNone) = some h →
      let serial : W64 := BitVec.ofNat 64 ((vaultView t3).startCount.toNat * 2 ^ 32 + (t3.rcpt.opened + 1))
      Completes (exec (.receiptOpen bus) s) (fun u =>
        u.rcpt.opened = t3.rcpt.opened + 1 ∧
        ∃ r, tfind u.rcpt.receipts h = some r ∧ r.state = .opened ∧ r.lane = m.lane ∧ r.ctx = bits (k.word 0) 0 14 ∧
          r.modelCtx = m.ctx ∧ r.measurement = m.measurement ∧ r.serial = serial ∧
          r.foldKey = BitVec.ofNat 128 (drawRandom t3).1.toNat ∧ r.slots.map RSlot.words = slotRecords o ∧
          u = ended s (reply { t3 with rng := t3.rng + 1, rcpt := { t3.rcpt with
            opened := t3.rcpt.opened + 1, receipts := tput t3.rcpt.receipts h r } } k stDone
            [BitVec.ofNat 32 h, BitVec.ofNat 32 serial.toNat, BitVec.ofNat 32 (serial.toNat / 2 ^ 32)]))) ∧
    (∀ r i, Started on 0x211 k t → fieldsOk k [0x3FF, 0xFFFF] = true → namedReceipt t k n = .ok r →
      freeTicket (chanAt t k.ch) = some i → (∀ j, (r.slots.getD j default).status = 0 → j < r.slots.length → bit (k.word 1) j = true) →
      Completes (exec (.receiptClose bus) s) (fun u => TicketRuns t k u i ∧
        tfind u.rcpt.receipts n = some { r with
          state := .pending, caller := some (.ticket k.ch i)
          slots := r.slots.map (fun x => if x.status = 0 then corruptSlot x 1 else x)
          tiles := ((tilesOf t r.modelCtx ++ tilesOf t r.ctx).map TileRead.order).eraseDups } ∧
        ∀ x ∈ u.tiles.reads, x.reader = r.ctx ∨ x.holder = r.ctx → x.completing = true)) ∧
    (∀ r, Started on 0x212 k t → fieldsOk k [0x3FF] = true → namedReceipt t k n = .ok r →
      Completes (exec (.receiptAbandon bus) s) (fun u => Answered t k u stDone [] ∧
        tfind u.rcpt.receipts n = some { r with
          state := .entering, verdict := 2, closePace := BitVec.ofNat 64 s.pace.now, order := t.rcpt.order, tiles := []
          slots := r.slots.map (fun x => if x.status = 2 then x else corruptSlot x 1) })) ∧
    (∀ t1 b t2, Started on 0x213 k t →
      fieldsOk k ([0xF, 0xFFFFFFFF, 0xFFFFFFFF, 0xFFFFFFFF, 0xFFFFFFFF, 0xFFFFFFFF, 0xFFFFFFFF] ++ descMasks) = true →
      (descAt k 7).addr % 64 = 0 → (descAt k 7).len % 64 = 0 → 64 ≤ (descAt k 7).len →
      descRefusal t k (descAt k 7) false = (none, t1) →
      foldRegion t1 (descAt k 7) (blockOfOctets ((List.range 4).flatMap (fun i => beOctets 4 (k.word (3 + i)).toNat)))
        ((k.word 1).toNat + 2 ^ 32 * (k.word 2).toNat) (bits (k.word 0) 0 4) = (.fold b, t2) →
      exec (.receiptRefold bus) s = .next (ended s (reply t2 k stDone
        ((chunks 4 (octetsOfBlock b)).map (fun o => BitVec.ofNat 32 (ofBe o)))))) ∧
    (∀ h r, s.rcpt.receipts = [(h, r)] → r.state = .pending → (∀ o ∈ r.tiles, tileEntry s o = none) →
      exec (.receiptVerdictsFinal bus) s = .next (ended s { s with rcpt := { s.rcpt with
        order := s.rcpt.order + 1
        receipts := [(h, { r with
          state := .entering, closePace := BitVec.ofNat 64 s.pace.now, order := s.rcpt.order, tiles := []
          verdict := if (ctxAt s r.ctx).taint || (ctxAt s r.modelCtx).taint then 1 else 0 })] } })) ∧
    (∀ h r i u, s.rcpt.receipts = [(h, r)] → r.state = .entering → r.caller = none → r.lane < 64 → roomFor s r.lane = some i →
      let v := sheetAt s r.lane i
      v.count + 1 ≠ 256 →
      ownPatch on (sheetBase s r.lane i + 8192 + v.len) (receiptRecord r) = (true, u) → u.rcpt = s.rcpt →
      Completes (exec (.receiptEnter bus) s) (fun w =>
        w.rcpt.receipts = [] ∧
        (sheetAt w r.lane i).count = v.count + 1 ∧ (sheetAt w r.lane i).len = v.len + (receiptRecord r).length ∧
        (sheetAt w r.lane i).state = .filling ∧
        (sheetAt w r.lane i).leaves = v.leaves ++ [BitVec.ofNat 384 (ofBe (sha384 (0 :: receiptRecord r)))] ∧
        counter w 0x7898 = counter u 0x7898 + 1))

/-- A filling sheet closes by flush or by age and is passed to signing; a signed one stands with its serial and is counted, read, copied and
collected; a failed attempt is counted, and without the engine's credit for a pace none is made (R120, R254, R269 to R272). -/
def Obligations.SheetCommands : Prop :=
  ∀ (s : State) (bus : Bus) (k : Call) (t : State), powered s = true →
    let on := { s with bus := bus }
    let l := bits (k.word 0) 0 6
    let Signed (v : State) (m j : Nat) (o : Host.Outcome State Fault Refusal) : Prop :=
      let x := sheetAt v m j
      let n := tget 0 v.rcpt.signedCount m
      let serial : W64 := BitVec.ofNat 64 ((vaultView v).startCount.toNat * 2 ^ 32 + n)
      let head := sheetHeader v m x serial
      (∀ c s1 s2, coseSign v (sheetSignKeys v m) "application/vnd.miryar.sheet" head = (some c, s1) →
        ownPatch s1 (sheetBase s1 m j)
          (padTo 8192 (octetsOfWords [0x54485353, BitVec.ofNat 32 c.length, 8192, BitVec.ofNat 32 x.len] ++ c)) = (true, s2) →
        Completes o (fun u =>
          sheetAt u m j = { x with state := .signed, serial := serial, imageLen := 8192 + x.len, retryAt := none, callers := [] } ∧
          tget 0 u.rcpt.signedCount m = n + 1 ∧ counter u 0x78B8 = counter s2 0x78B8 + 1)) ∧
      (∀ s1, coseSign v (sheetSignKeys v m) "application/vnd.miryar.sheet" head = (none, s1) → x.attempts = 0 →
        Completes o (fun u => sheetAt u m j = { x with attempts := 1, retryAt := none }))
    (∀ i, Started on 0x220 k t → fieldsOk k [0x3F] = true → k.owner = true ∨ l = k.lane → freeTicket (chanAt t k.ch) = some i →
      (sheetIn t l .filling = none → Completes (exec (.sheetFlush bus) s) (fun u => TicketEnded u k i stDone [0])) ∧
      (∀ j, sheetIn t l .filling = some j → (sheetIn t l .free).isSome = true → (sheetAt t l j).due = false →
        Completes (exec (.sheetFlush bus) s) (fun u => TicketRuns t k u i ∧
          sheetAt u l j = { sheetAt t l j with state := .signing, due := false, cause := 1, attempts := 0, retryAt := none
                                               callers := (sheetAt t l j).callers ++ [.ticket k.ch i] }))) ∧
    (∀ i j o t1 t2 t3, Started on 0x221 k t → fieldsOk k ([0x3F, 0xFFFFFFFF, 0xFFFFFFFF] ++ descMasks) = true →
      k.owner = true ∨ l = k.lane → descRefusal t k (descAt k 3) true = (none, t1) → keptSheet t1 l (serialAt k 1) = some j →
      (sheetAt t1 l j).imageLen ≤ (descAt k 3).len → freeTicket (chanAt t1 k.ch) = some i →
      let t4 := acceptRunning t1 k.ch i
      ownRead t4 (sheetBase t4 l j / 64) (sheetAt t4 l j).imageLen = (.ok o, t2) →
      dmaWrite t2 (descAt k 3).ctx (descAt k 3).addr o = (none, t3) →
      exec (.sheetCopy bus) s = .next (ended s (finish t3 (.ticket k.ch i) stDone [BitVec.ofNat 32 o.length]))) ∧
    (∀ j, Started on 0x222 k t → fieldsOk k [0x3F] = true → k.owner = true ∨ l = k.lane → keptSheet t l (serialAt k 1) = some j →
      (∀ f, sheetIn t l .filling = some f → (sheetAt t l f).due = false) →
      Completes (exec (.sheetCollect bus) s) (fun u => Answered t k u stDone [] ∧ sheetAt u l j = {} ∧
        ∀ m f, 5 * m + f ≠ 5 * l + j → sheetAt u m f = sheetAt t m f)) ∧
    (Started on 0x222 k t → fieldsOk k [0x3F] = true → k.owner = true ∨ l = k.lane → keptSheet t l (serialAt k 1) = none →
      exec (.sheetCollect bus) s = .next (ended s (reply t k stReceiptState []))) ∧
    (Started on 0x223 k t → fieldsOk k [0x3F] = true →
      Completes (exec (.sheetStatus bus) s) (fun u => ∃ ws, Answered t k u stDone ws ∧ ws.length = 13 ∧
        bits (ws.getD 0 0) 0 9 = (match sheetIn t l .filling with
          | some f => (sheetAt t l f).count % 512
          | none => 0) ∧
        ∀ a < 4, ∀ v, v = sheetAt t l ((keptSlots t l).getD a 0) →
          (v.state = .signed → bit (ws.getD 0 0) (16 + a) = true ∧ ws.getD (1 + 3 * a) 0 = BitVec.ofNat 32 v.serial.toNat ∧
            ws.getD (2 + 3 * a) 0 = BitVec.ofNat 32 (v.serial.toNat / 2 ^ 32) ∧ ws.getD (3 + 3 * a) 0 = BitVec.ofNat 32 v.imageLen) ∧
          (v.state ≠ .signed → bit (ws.getD 0 0) (16 + a) = false ∧ ws.getD (1 + 3 * a) 0 = 0))) ∧
    (∀ j o t1, Started on 0x224 k t → fieldsOk k [0x3F] = true → (k.word 3).toNat % 48 = 0 → keptSheet t l (serialAt k 1) = some j →
      let n := min 48 ((sheetAt t l j).imageLen - (k.word 3).toNat)
      let base := sheetBase t l j + (k.word 3).toNat
      ownRead t (base / 64) (if n = 0 then 0 else base % 64 + n) = (.ok o, t1) →
      exec (.receiptFetch bus) s = .next (ended s (reply t1 k stDone (field 32 0 6 n :: wordsOfOctets 12 (o.drop (base % 64)))))) ∧
    (∀ m f v, f < 5 → s.rcpt.sheets = [(5 * m + f, v)] → v.state = .filling → v.due = false → v.since + 1048576 ≤ clock s →
      Completes (exec (.sheetAgeExpire bus) s) (fun u =>
        sheetAt u m f = { v with state := .signing, due := false, cause := 2, attempts := 0, retryAt := none } ∧
        { u with rcpt := s.rcpt } = ended s s)) ∧
    (∀ m f, f < 5 → nextSigning s = some (5 * m + f) →
      (covers s crRns (rnsUnit s) 1 = true → Signed (spendCredit on crRns (rnsUnit s)) m f (exec (.sheetSigned bus) s)) ∧
      (covers s crRns (rnsUnit s) 1 = false → exec (.sheetSigned bus) s = .next (ended s s))) ∧
    (∀ m f v p, f < 5 → s.rcpt.sheets = [(5 * m + f, v)] → v.state = .signing → v.retryAt = some p → p ≤ s.pace.now →
      covers s crRns (rnsUnit s) 1 = true →
      Signed (spendCredit (setSheet on m f { v with retryAt := none }) crRns (rnsUnit s)) m f (exec (.sheetSignRetry bus) s))

/-! ### Keys -/

/-- The key commands: handles open at a free entry and close with their USE raised, so that the old word names nothing; public keys and
certificates go where the request says; stored keys are destroyed by one rewrite, a message that changes the vault takes effect at once and counts after it,
a monotonic counter rises by one and stops at its end, an orderly sleep stops custody and then commits the tree's root to the vault unless it is
cancelled before, and re-enrollment begins with its OTP bit (R239, R280, R284, R285, R292 to R295, R300, R301, R303). -/
def Obligations.KeyCommands : Prop :=
  ∀ (s : State) (bus : Bus) (k : Call) (t : State), powered s = true →
    let on := { s with bus := bus }
    (∀ h i, Started on 0x301 k t → fieldsOk k [0x003F000F] = true → handleFor t k = .ok h →
      firstBelow 512 (fun i => (tfind t.keys.handles i).isNone) = some i →
      let l := if h.owners then 0 else h.lane
      (handlesOf t l < (if l = 0 then 64 else 32) → Completes (exec (.keyHandleOpen bus) s) (fun u =>
        tfind u.keys.handles i = some h ∧ (∀ j, j ≠ i → tfind u.keys.handles j = tfind t.keys.handles j) ∧
        u.keys.uses = t.keys.uses ∧ Answered t k u stDone [handleWord t i] ∧ handleOf u (handleWord t i) = some (i, h))) ∧
      ((if l = 0 then 64 else 32) ≤ handlesOf t l → exec (.keyHandleOpen bus) s = .next (ended s (reply t k stNoSpace [])))) ∧
    (∀ h i, Started s 0x302 k t → useHandle t k (k.word 0) = .ok (i, h) →
      Completes (exec .keyHandleClose s) (fun u => Answered t k u stDone [] ∧ tfind u.keys.handles i = none ∧
        tget 0 u.keys.uses i = tget 0 t.keys.uses i + 1 ∧ handleOf u (k.word 0) = none)) ∧
    (∀ h i, Started s 0x303 k t → useHandle t k (k.word 0) = .ok (i, h) →
      exec .keyInfo s = .next (ended s (reply t k stDone [field 32 0 4 h.kind ||| field 32 4 2 (if handleStale t h then 2 else 1) |||
        field 32 8 6 h.lane ||| field 32 16 8 h.typ, h.name, handleGen h]))) ∧
    (Started s 0x303 k t → handleOf t (k.word 0) = none → exec .keyInfo s = .next (ended s (reply t k stKeyHandle []))) ∧
    (∀ h i o t1 t2 t3, Started on 0x304 k t → k.owner = true ∨ identityHandle t (k.word 0) = false →
      fieldsOk k (0xFFFFFFFF :: descMasks) = true → descRefusal t k (descAt k 1) true = (none, t1) →
      useHandle t1 k (k.word 0) = .ok (i, h) → handlePublic t1 k h = (.ok o, t2) → o.length ≤ (descAt k 1).len →
      dmaWrite t2 (descAt k 1).ctx (descAt k 1).addr o = (none, t3) →
      exec (.keyPublic bus) s = .next (ended s (reply t3 k stDone [BitVec.ofNat 32 o.length]))) ∧
    (Started on 0x304 k t → k.owner = false → identityHandle t (k.word 0) = true →
      exec (.keyPublic bus) s = .next (ended s (reply t k stNotOwner []))) ∧
    (∀ i, Started on 0x305 k t → fieldsOk k [0x3F01] = true → freeTicket (chanAt t k.ch) = some i → t.rns.jobs = [] → t.dig.slots = [] →
      (∀ h j, bit (k.word 0) 0 = false → useHandle t k (k.word 1) = .ok (j, h) → h.kind = 5 → handleStale t h = false →
        (t.keys.root = .bedrock → Completes (exec (.keyDestroy bus) s) (fun u => TicketRuns t k u i ∧
          u.keys.rewrites = t.keys.rewrites ++ [.destroySlot h.name.toNat (.ticket k.ch i)] ∧ u.keys.store = t.keys.store)) ∧
        (t.keys.root ≠ .bedrock → Completes (exec (.keyDestroy bus) s) (fun u =>
          TicketEnded u k i stDone [] ∧ MailOnly s u k))) ∧
      (bit (k.word 0) 0 = true → k.owner = true → bits (k.word 0) 8 6 ≠ 0 → t.keys.root = .bedrock →
        Completes (exec (.keyDestroy bus) s) (fun u => TicketRuns t k u i ∧
          u.keys.rewrites = t.keys.rewrites ++ [.destroyLane (bits (k.word 0) 8 6) (.ticket k.ch i)]))) ∧
    (∀ i t1 o t2 m, Started on 0x306 k t → fieldsOk k descMasks = true → descRefusal t k (descAt k 0) false = (none, t1) →
      kumRuns t1 = false → freeTicket (chanAt t1 k.ch) = some i → (descAt k 0).len ≤ 9300 →
      dmaRead (acceptRunning t1 k.ch i) (descAt k 0) = (.ok o, t2) →
      let t3 := ownRns (count t2 0x78C8 1) 0 (kumJobs t2 o)
      kumCheck t3 o = .ok m →
      (2 < m.kind → Completes (exec (.keyUpdate bus) s) (fun u =>
        u.vault.kumCount = t2.vault.kumCount ∧ u.keys.kumDue = some { kind := m.kind, digest := m.digest, who := .job (.ticket k.ch i) } ∧
        (m.kind = 4 → u.vault.authority = BitVec.ofNat 384 (ofBe m.body)) ∧
        (m.kind = 3 → u.vault.realmPending = true ∧ u.vault.nextRealmId = wordAt m.body 0 ∧ u.vault.nextRealmEpoch = wordAt m.body 4) ∧
        u.vault.realmId = t2.vault.realmId ∧ u.vault.storeGen = t2.vault.storeGen)) ∧
      (m.kind = 1 → Completes (exec (.keyUpdate bus) s) (fun u =>
        u.vault = t2.vault ∧ u.keys.rewrites = t2.keys.rewrites ++
          [.update m.slot (kumSlot t3 m) 1 m.digest (.job (.ticket k.ch i))]))) ∧
    (∀ i t1 o t2, Started on 0x307 k t → fieldsOk k (0x3 :: descMasks) = true → bits (k.word 0) 0 2 ≠ 3 →
      descRefusal t k (descAt k 1) false = (none, t1) → (descAt k 1).len ≤ 8192 → freeTicket (chanAt t1 k.ch) = some i →
      dmaRead (acceptRunning t1 k.ch i) (descAt k 1) = (.ok o, t2) →
      (certKey o = some (idPublic t2 (bits (k.word 0) 0 2)) → Completes (exec (.certInstall bus) s) (fun u =>
        .cert (bits (k.word 0) 0 2) o (.ticket k.ch i) ∈ u.nvm.ops ∧ u.mbox = t2.mbox)) ∧
      (certKey o ≠ some (idPublic t2 (bits (k.word 0) 0 2)) →
        exec (.certInstall bus) s = .next (ended s (finish t2 (.ticket k.ch i) stKeyFormat [])))) ∧
    (∀ d w, s.keys.kumDue = some d → d.who = .job w → s.tamper.restartDue = false →
      let u := kumStep s
      u.vault.kumCount = s.vault.kumCount + 1 ∧ u.keys.kumDue = none ∧ u.keys.updateApplied = true ∧ u.keys.seq = s.keys.seq + 1 ∧
      u.miles.queue = s.miles.queue ++ [{ mp := 3, d := beOctets 48 d.digest.toNat, slot := none }]) ∧
    (∀ i, Started on 0x310 k t → maySleep t = true → freeTicket (chanAt t k.ch) = some i →
      Completes (exec (.vaultSleep bus) s) (fun u => u.keys.sleeping = some (.ticket k.ch i) ∧ u.cust.stopped = true ∧
        u.keys.asleep = t.keys.asleep ∧ u.vault = t.vault)) ∧
    (∀ w, s.keys.sleeping = some w → s.tamper.restartDue = false →
      let u := sleepStep s
      u.keys.sleeping = none ∧
      (cancelCaptured s w = false → u.keys.asleep = true ∧ u.keys.sleepReady = true ∧ u.vault.rootValid = true ∧
        u.vault.rootA = u.tree.root ∧ u.vault.rootB = u.tree.root ∧ u.vault.rootC = u.tree.root ∧
        u.vault.rootTest = (u.keys.root == .testRoot) ∧ u.vault.sleepCount = s.vault.sleepCount + 1) ∧
      (cancelCaptured s w = true → u.keys.asleep = s.keys.asleep ∧ u.vault = s.vault ∧
        u.cust.stopped = (s.tamper.restartDue || s.lc.stopped))) ∧
    (Started on 0x310 k t → maySleep t = false → exec (.vaultSleep bus) s = .next (ended s (reply t k stKeyState []))) ∧
    (Started s 0x311 k t → fieldsOk k [0xF] = true →
      (monoRefusal t k (bits (k.word 0) 0 4) = none →
        exec .monoRead s = .next (ended s (reply t k stDone (monoWords (tget 0 t.vault.mono (bits (k.word 0) 0 4)))))) ∧
      (∀ st, monoRefusal t k (bits (k.word 0) 0 4) = some st → exec .monoRead s = .next (ended s (reply t k st [])))) ∧
    (Started s 0x312 k t → fieldsOk k [0xF] = true → monoRefusal t k (bits (k.word 0) 0 4) = none →
      let i := bits (k.word 0) 0 4
      let v := tget 0 t.vault.mono i
      (v ≠ 0xFFFFFFFFFFFFFFFF → Completes (exec .monoIncrement s) (fun u =>
        tget 0 u.vault.mono i = v + 1 ∧ (∀ j, j ≠ i → tget 0 u.vault.mono j = tget 0 t.vault.mono j) ∧
        Answered t k u stDone (monoWords (v + 1)))) ∧
      (v = 0xFFFFFFFFFFFFFFFF → exec .monoIncrement s = .next (ended s (reply t k stKeyMono [])))) ∧
    (∀ i t1 o t2, Started on 0x320 k t → fieldsOk k (descMasks ++ descMasks) = true →
      descsRefusal t k [(descAt k 0, false), (descAt k 4, true)] = (none, t1) → t1.keys.vaultState = 1 → t1.keys.enrolling = none →
      reenrollments t1 < 31 → (descAt k 0).len = 56 → 4433 ≤ (descAt k 4).len → freeTicket (chanAt t1 k.ch) = some i →
      dmaRead (acceptRunning t1 k.ch i) (descAt k 0) = (.ok o, t2) →
      exec (.reenroll bus) s = .next (ended s (otpEnqueue { t2 with
        keys := { t2.keys with enrolling := some { words := k.req.payload, input := o, caller := .ticket k.ch i } } }
        [{ user := .reenroll, word := otpReenroll, bits := BitVec.ofNat 32 (2 ^ reenrollments t2) }])))

/-! ### The RNS engine -/

/-- An engine request that passes its checks is queued with its operands, its key and its priority, and one that fails answers the first
failing check; RNS_INFO answers the lane's queue; RNS_LANE_ABORT ends a lane's queued job and answers once none is left (R316, R317, R319,
R334, R337). -/
def Obligations.EngineRequests : Prop :=
  ∀ (s : State) (bus : Bus) (k : Call) (t : State), powered s = true →
    let on := { s with bus := bus }
    let rows : List (Nat × Instr) := [(0x401, .rnsEcdsaSign bus), (0x402, .rnsEcdsaVerify bus), (0x403, .rnsEcdh bus),
      (0x404, .rnsMldsaSign bus), (0x405, .rnsMldsaVerify bus), (0x406, .rnsMlkemKeygen bus), (0x407, .rnsMlkemEncaps bus),
      (0x408, .rnsMlkemDecaps bus)]
    (∀ x ∈ rows, Started on x.1 k t → rnsFieldsOk k = true →
      (∀ key t1 i, rnsRefusal t k = (.ok key, t1) → freeTicket (chanAt t1 k.ch) = some i → (freeBank t1).isSome = true →
        let t2 := acceptRunning t1 k.ch i
        let j : RnsJob :=
          { id := t1.rns.next, op := x.1, set := bits (k.word 0) 0 4, prio := bits (k.word 0) 8 2, lane := k.lane, payer := workLane t2 k
            caller := .ticket k.ch i, key := key, since := t1.pace.now
            descs := (descWords x.1).map (fun a => ({ ctx := (descAt k a).ctx, addr := (descAt k a).addr, len := (descAt k a).len
                                                      epoch := (ctxAt t1 (descAt k a).ctx).epoch } : JobDesc)) }
        exec x.2 s = .next (ended s { t2 with rns := { t2.rns with jobs := t2.rns.jobs ++ [j], next := t2.rns.next + 1 } })) ∧
      (∀ st t1, rnsRefusal t k = (.error st, t1) → exec x.2 s = .next (ended s (reply t1 k st [])))) ∧
    (Started s 0x410 k t →
      exec .rnsInfo s = .next (ended s (reply t k stDone [rnsPrograms t, rnsStatus t,
        field 32 0 7 (t.rns.jobs.filter (fun j => j.phase == .queued && decide (j.lane = k.lane))).length |||
          field 32 8 7 (bits (plainReg t 0x301C) 0 7)]))) ∧
    (∀ i, Started on 0x420 k t → fieldsOk k [0x3F] = true → freeTicket (chanAt t k.ch) = some i →
      ((∀ j ∈ t.rns.jobs, j.lane ≠ bits (k.word 0) 0 6) → Completes (exec (.rnsLaneAbort bus) s) (fun u =>
        TicketEnded u k i stDone [] ∧ MailOnly s u k)) ∧
      (∀ j, t.rns.jobs = [j] → j.lane = bits (k.word 0) 0 6 → j.phase = .queued → j.bank = none → j.caller ≠ .ticket k.ch i →
        t.rns.aborts = [] → t.rns.coupling = none → t.keys.wkr = none →
        Completes (exec (.rnsLaneAbort bus) s) (fun u =>
          u.rns.jobs = [] ∧ u.rns.aborts = [] ∧ TicketEnded u k i stDone [] ∧ counter u 0x78E0 = counter s 0x78E0 + 1)))

/-- A job's way through a bank: granted with its key in the working key register, loaded, validated, run, checked, written, cleared and
reported; a job saved and restored; a program that has no permit for its pace and so does not end; the
lanes handed to a more urgent job, or where their job waits for the coupling or a permit, a lease that ends, an abort at a block boundary, and the coupling
given up (R286, R312, R319 to R325, R329 to R334, R350). -/
def Obligations.EngineJobs : Prop :=
  ∀ (s : State) (bus : Bus) (b : Fin 2) (j : RnsJob), powered s = true →
    let on := { s with bus := bus }
    let Alone : Prop := s.rns.jobs = [j] ∧ j.bank = some b.val ∧ s.rns.coupling = none
    (s.rns.jobs = [j] → j.phase = .queued → j.bank = none → j.bad = false → s.keys.wkr = none → s.dig.opens = [] →
      let j1 := { j with bank := some 0, since := s.pace.now, phase := .loading }
      let granted := setJob on j1
      granted.rns.jobs = [j1] ∧
      (j.key = none → exec (.rnsBankGrant bus) s = .next (ended s granted)) ∧
      (∀ w h m s1, j.key = some (w, h) → handleMaterial granted h = (.ok m, s1) →
        exec (.rnsBankGrant bus) s = .next (ended s { s1 with
          keys := { s1.keys with wkr := some { job := j.id, handle := w, typ := h.typ, material := m, since := s1.pace.now } } })) ∧
      (∀ w h e s1, j.key = some (w, h) → handleMaterial granted h = (.error e, s1) →
        exec (.rnsBankGrant bus) s = .next (ended s (toClearing s1 j1 stFaulted (failWords 0xFF false))))) ∧
    (Alone → j.phase = .loading →
      (∀ xs s1, jobKeyOk s j = true → loadOperands on (j.descs.zip (operandsOf j.op j.set)) 0 [] = (.ok xs, s1) →
        let m := match s1.keys.wkr with
          | some w => if w.job = j.id then w.material else []
          | none => []
        exec (.rnsLoadDone b bus) s = .next (ended s (giveLanes (setJob s1
          { j with phase := .validating, since := s1.pace.now, ins := xs, material := m, resume := .running })))) ∧
      (jobKeyOk s j = false → Completes (exec (.rnsLoadDone b bus) s) (fun t =>
        ∃ x, t.rns.jobs = [x] ∧ x.phase = .clearing ∧ x.status = stStaleEpoch ∧ x.words = failWords 0xFF false))) ∧
    (Alone → j.phase = .validating → j.since + 3 ≤ s.pace.now → j.abort = none → s.rns.lanes = some b.val →
      (∀ st, validate j = some st → Completes (exec (.rnsValidationEnd b) s) (fun t =>
        ∃ x, t.rns.jobs = [x] ∧ x.phase = .clearing ∧ x.status = st ∧ x.words = failWords 0xFF false ∧ t.rns.lanes = none)) ∧
      (validate j = none → j.spill = false → Completes (exec (.rnsValidationEnd b) s) (fun t =>
        t.rns.jobs = [{ j with phase := .running, since := s.pace.now, phaseDue := false }] ∧ t.rns.lanes = some b.val ∧
        t.rns.coupling = if isLattice j.set then some (j.id, s.pace.now) else none))) ∧
    (∀ o, s.rns.jobs = [j, o] → j.id ≠ o.id → j.bank = some b.val → o.bank = some (1 - b.val) → j.phase = .running → o.phase = .waiting →
      s.rns.lanes = some b.val → j.abort = none → j.spill = false → o.phaseDue = false →
      (effective s o < effective s j ∨ j.phaseDue = true ∨ j.covered = false) →
      Completes (exec (.rnsBlockBoundary b) s) (fun t =>
        t.rns.jobs = [{ j with phase := .waiting, resume := .running }, { o with phase := o.resume, since := s.pace.now }] ∧
        t.rns.lanes = some (1 - b.val))) ∧
    (∀ st d, Alone → j.phase = .running → s.rns.lanes = some b.val → j.abort = some (st, d) →
      Completes (exec (.rnsBlockBoundary b) s) (fun t =>
        ∃ x, t.rns.jobs = [x] ∧ x.phase = .clearing ∧ x.status = st ∧ x.words = failWords d false ∧ t.rns.lanes = none)) ∧
    (Alone → j.phase = .running → s.rns.lanes = some b.val → j.abort = none → j.covered = false →
      exec (.rnsRunDone b bus) s = .next (ended s on)) ∧
    (∀ r s2, Alone → j.phase = .running → s.rns.lanes = some b.val → j.phaseDue = false → j.abort = none → j.covered = true → j.op ≤ 0x403 → j.set ≤ 1 →
      computeCurve on j = (r, s2) → (r.st ≠ stRnsDegenerate ∨ r.good = false) →
      Completes (exec (.rnsRunDone b bus) s) (fun t =>
        t.rns.jobs = [{ j with
          outs := r.outs, good := r.good, status := r.st, iterations := r.iterations, phase := .checking, since := s.pace.now
          phaseDue := false }] ∧ t.rns.lanes = some b.val ∧ t.dram = s.dram)) ∧
    (∀ agrees, Alone → j.phase = .checking → s.rns.lanes = some b.val → j.abort = none → j.covered = false →
      exec (.rnsCheckDone b agrees) s = .next (ended s s)) ∧
    (Alone → j.phase = .checking → s.rns.lanes = some b.val → j.abort = none → j.covered = true → j.phaseDue = false →
      (∀ agrees, selfChecked j.op = true → (j.good && agrees) = false → Completes (exec (.rnsCheckDone b agrees) s) (fun t =>
        (∃ x, t.rns.jobs = [x] ∧ x.phase = .clearing ∧ x.words = failWords 0xFF false ∧
          x.status = if j.status = stRnsDegenerate then stRnsDegenerate else stRnsSelfcheck) ∧
        t.rns.selfcheck = true ∧ counter t 0x78F0 = counter s 0x78F0 + 1)) ∧
      (∀ agrees, verifyOp j.op = true → Completes (exec (.rnsCheckDone b agrees) s) (fun t =>
        ∃ x, t.rns.jobs = [x] ∧ x.phase = .clearing ∧ x.status = j.status ∧
          x.words = if j.status = stDone then doneWords j 0 else failWords 0xFF false)) ∧
      (selfChecked j.op = true → j.good = true → Completes (exec (.rnsCheckDone b true) s) (fun t =>
        t.rns.jobs = [{ j with phase := .writing, since := s.pace.now, phaseDue := false }] ∧ t.rns.lanes = none))) ∧
    (∀ s1, Alone → j.phase = .writing → writeResults on (resultsOf j) [] = (none, s1) →
      exec (.rnsWriteDone b bus) s =
        .next (ended s (toClearing s1 j stDone (doneWords j ((j.outs.map List.length).foldl (· + ·) 0))))) ∧
    (∀ st i w s1, Alone → j.phase = .writing → writeResults on (resultsOf j) [] = (some (st, i, w), s1) →
      exec (.rnsWriteDone b bus) s = .next (ended s (toClearing s1 j st (failWords i w)))) ∧
    (∀ c i k, Alone → j.phase = .clearing → j.since + 2 ≤ s.pace.now → j.caller = .ticket c i → s.rns.aborts = [] →
      tfind (chanAt s c).tickets i = some k → k.status = none →
      Completes (exec (.rnsClearDone b bus) s) (fun t =>
        t.rns.jobs = [] ∧ (∀ w, s.keys.wkr = some w → w.job = j.id → t.keys.wkr = none) ∧
        (∃ x, tfind (chanAt t c).tickets i = some x ∧ x.status = some j.status ∧ x.result = j.words) ∧
        counter t (if j.status = stDone then 0x78D8 else 0x78E0) = counter s (if j.status = stDone then 0x78D8 else 0x78E0) + 1)) ∧
    (∀ i s1, Alone → j.phase = .spilling → j.since + spillPaces j.set ≤ s.pace.now → j.abort = none → freeSpill s = some i →
      spillWrite false (liveBytes j.set / 64) (spillLine s i) on = (true, s1) →
      exec (.rnsSpillDone b bus) s =
        .next (ended s (setJob s1 { j with phase := .spilled, bank := none, bad := false, slot := some i }))) ∧
    (∀ i s1, Alone → j.phase = .restoring → j.since + spillPaces j.set ≤ s.pace.now → j.abort = none → j.slot = some i →
      j.resume = .loading → spillRead (liveBytes j.set / 64) (spillLine s i) on = (true, s1) → jobKeyOk s1 j = true →
      exec (.rnsRestoreDone b bus) s =
        .next (ended s (giveLanes (grantCoupling (setJob s1 { j with slot := none, phase := .loading, since := s1.pace.now }))))) ∧
    (∀ o w, s.rns.jobs = [j, o] → j.id ≠ o.id → j.bank = some b.val → j.phase = .running → s.keys.wkr = some w → w.job = j.id →
      w.since + 256 ≤ s.pace.now → o.phase = .queued → o.key.isSome = true → o.prio < j.prio →
      exec (.rnsLeaseExpire b) s = .next (ended s { s with rns := { s.rns with jobs := [{ j with spill := true }, o] } })) ∧
    (∀ i p, s.rns.coupling = some (i, p) → exec .couplingPhaseEnd s = .next (ended s (giveLanes (dropCoupling s i)))) ∧
    (∀ i p, s.rns.coupling = some (i, p) → s.rns.lanes.isSome = true → (∀ x ∈ s.rns.jobs, x.phaseDue = false) →
      Completes (exec .couplingPhaseEnd s) (fun t =>
        t.rns = { s.rns with coupling := none } ∧ counter t 0x7908 = counter s 0x7908 + 1 ∧
        counter t 0x7900 = counter s 0x7900 + Config.freeValue s.free ∧ { t with rns := s.rns, cnt := s.cnt, free := s.free } = ended s s))

/-! ### Digests and mileposts -/

/-- The digest requests: an open takes the lowest free slot with P from the declared length, and one under a key waits
while the working key register is not to be had; a feed is accepted and its core serves it, a
result is read whole or the slot says why not, a close frees the slot, a query reports it (R343 to R355). -/
def Obligations.DigestRequests : Prop :=
  ∀ (s : State) (bus : Bus) (k : Call) (t : State), powered s = true →
    let on := { s with bus := bus }
    let n := bits (k.word 0) 0 6
    let d := dslot t n
    (∀ i, Started (serveOpen on) 0x501 k t → fieldsOk k [0x00FF3F07] = true →
      let alg := bits (k.word 0) 0 3
      let mlen := (k.word 2).toNat + 2 ^ 32 * (k.word 3).toNat
      alg ≤ 2 → bits (k.word 0) 16 8 = 0 → k.word 1 = 0 → mlen < 2 ^ 47 → bit (k.word 0) 8 = false →
      (slotsWhere t (fun d => d.state != .free && decide (d.lane = k.lane))).length < digestLaneCap t →
      firstBelow 56 (fun i => (dslot t i).state == .free) = some i →
      Completes (exec (.digestOpen bus) s) (fun u =>
        let x := dslot u i
        x.state = .opened ∧ x.alg = alg ∧ x.lane = k.lane ∧ x.mlen = mlen ∧ x.p = digestP alg mlen ∧ x.fed = 0 ∧
        x.words = digestInit alg [] ∧ x.feed = none ∧ x.since = clock t ∧
        (∀ a, a ≠ i → dslot u a = dslot t a) ∧
        Answered t k u stDone [field 32 0 6 i, BitVec.ofNat 32 (digestP alg mlen), BitVec.ofNat 32 (digestP alg mlen / 2 ^ 32)])) ∧
    (∀ h i, Started (serveOpen on) 0x501 k t → fieldsOk k [0x00FF3F07] = true → bits (k.word 0) 0 3 = 5 → bits (k.word 0) 16 8 = 0 →
      (k.word 2).toNat + 2 ^ 32 * (k.word 3).toNat < 2 ^ 47 → bit (k.word 0) 8 = false → hmacKey t k 5 = .ok (some h) →
      (slotsWhere t (fun d => d.state != .free && decide (d.lane = k.lane))).length < digestLaneCap t →
      firstBelow 56 (fun i => (dslot t i).state == .free) = some i →
      (loadMayRun t (if k.owner then 1 else 2) = false →
        exec (.digestOpen bus) s = .next (ended s { t with dig := { t.dig with opens := t.dig.opens ++ [(k.ch, k.owner)] } })) ∧
      (∀ m t1, loadMayRun t (if k.owner then 1 else 2) = true → handleMaterial t h = (.ok m, t1) →
        exec (.digestOpen bus) s = .next (ended s (takeSlot k i (some h) m t1)))) ∧
    (∀ i t1, Started on 0x502 k t → fieldsOk k (0x3F :: descMasks) = true → d.state = .opened → d.lane = k.lane → d.feed = none →
      descRefusal t k (descAt k 1) false = (none, t1) → t1.dig = t.dig →
      (descAt k 1).len % digestRate d.alg = 0 → 0 < min (descAt k 1).len (d.p - d.fed) → freeTicket (chanAt t1 k.ch) = some i →
      Completes (exec (.digestFeed bus) s) (fun u =>
        u.mbox = (acceptRunning t1 k.ch i).mbox ∧
        ((coreAt t (digestCore d.alg)).slot = none → (coreAt u (digestCore d.alg)).slot = some n) ∧
        dslot u n = { d with feed := some {
          caller := .ticket k.ch i, done := 0, take := min (descAt k 1).len (d.p - d.fed)
          excess := (descAt k 1).len - min (descAt k 1).len (d.p - d.fed), payer := workLane t1 k
          desc := { ctx := (descAt k 1).ctx, addr := (descAt k 1).addr, len := (descAt k 1).len
                    epoch := (ctxAt t1 (descAt k 1).ctx).epoch } } })) ∧
    (Started on 0x503 k t → fieldsOk k [0x0001FF3F] = true → d.lane = k.lane →
      (d.state = .complete → d.feed = none → bits (k.word 0) 8 8 % 48 = 0 → bits (k.word 0) 8 8 < d.result.length →
        Completes (exec (.digestRead bus) s) (fun u =>
          Answered t k u stDone (field 32 0 8 (slice d.result (bits (k.word 0) 8 8) 48).length ::
            resultWords (slice d.result (bits (k.word 0) 8 8) 48)) ∧
          dslot u n = if bit (k.word 0) 16 then {} else d)) ∧
      (d.state = .opened → exec (.digestRead bus) s = .next (ended s (reply t k stDigestIncomplete (0 :: resultWords [])))) ∧
      (d.state = .expired → exec (.digestRead bus) s =
        .next (ended s (reply t k (if d.staleKey then stStaleEpoch else stTimedOut) (0 :: resultWords []))))) ∧
    (Started s 0x504 k t → fieldsOk k [0x3F] = true → d.state ≠ .free → d.lane = k.lane → d.feed = none →
      Completes (exec .digestClose s) (fun u => Answered t k u stDone [] ∧ dslot u n = {} ∧ ∀ a, a ≠ n → dslot u a = dslot t a)) ∧
    (Started s 0x505 k t → fieldsOk k [0x3F] = true →
      (d.state ≠ .free → d.lane = k.lane →
        exec .digestQuery s = .next (ended s (reply t k stDone [field 32 0 3 d.alg ||| field 32 4 2 (slotCode d.state) |||
          flag 32 8 d.route.isSome ||| field 32 9 5 (d.route.getD 0), BitVec.ofNat 32 d.fed, BitVec.ofNat 32 (d.fed / 2 ^ 32),
          BitVec.ofNat 32 d.p, BitVec.ofNat 32 (d.p / 2 ^ 32)]))) ∧
      (d.state = .free ∨ d.lane ≠ k.lane → exec .digestQuery s = .next (ended s (reply t k stDigestSlot [])))) ∧
    (Started on 0x510 k t → fieldsOk k [0x1F] = true →
      let m := milepost t (bits (k.word 0) 0 5)
      exec (.mpRead bus) s = .next (ended s (reply t k (if m.broken then stMpBroken else stDone)
        (m.count :: flag 32 0 m.broken :: resultWords (mileOctets m)))))

/-- A chunk that the engine's credit has covered is read, absorbed and counted, and a feed whose octets are all absorbed ends; an idle OPEN slot expires once its timeout has
passed; an extend hashes the milepost with its octets and counts, and a BROKEN milepost keeps its value (R344, R348, R349, R351, R358,
R359, R363). -/
def Obligations.DigestsAndExtends : Prop :=
  ∀ s : State, powered s = true →
    (∀ (core : Fin 2) (bus : Bus) i d f, core.val = 0 ∨ s.rns.coupling = none → (coreAt s core.val).slot = some i →
      let on := coverChunk { s with bus := bus } i
      dslot on i = d → d.feed = some f →
      let n := min (digestChunk d.alg) (f.take - f.done)
      let r := digestRate d.alg
      ((ctxAt on f.desc.ctx).epoch ≠ f.desc.epoch →
        exec (.digestChunkEnd core bus) s = .next (ended s (endFeed on i stStaleEpoch))) ∧
      ((ctxAt on f.desc.ctx).epoch = f.desc.epoch → chunkOwed d f ≠ 0 → exec (.digestChunkEnd core bus) s = .next (ended s on)) ∧
      ((ctxAt on f.desc.ctx).epoch = f.desc.epoch → chunkOwed d f = 0 →
        (∀ o e s1, readSome on f.desc.ctx (spanLines (f.desc.addr + f.done) n) [] = (o, some e, s1) →
          exec (.digestChunkEnd core bus) s = .next (ended s (endFeed (absorb s1 i (o.take (o.length / r * r))) i e))) ∧
        (∀ o s1, readSome on f.desc.ctx (spanLines (f.desc.addr + f.done) n) [] = (o, none, s1) → s1.dig = on.dig →
          d.fed + n ≠ d.p → f.done + n ≠ f.take →
          Completes (exec (.digestChunkEnd core bus) s) (fun t =>
            (dslot t i).words = (chunks r o).foldl (digestBlock d.alg) d.words ∧ (dslot t i).fed = d.fed + o.length ∧
            (dslot t i).feed = some { f with done := f.done + o.length, ready := 0 } ∧ (dslot t i).state = d.state ∧
            counter t 0x7900 = counter s1 0x7900 + BitVec.ofNat 64 o.length)))) ∧
    (∀ a : Fin 64, let d := dslot s a.val
      (d.state = .opened → d.feed = none → d.since + d.wait ≤ clock s →
        Completes (exec (.digestSlotExpire a) s) (fun t =>
          (dslot t a.val).state = .expired ∧ (dslot t a.val).words = [] ∧ (dslot t a.val).result = [] ∧
          t.dig.expired = true ∧ t.dig.seq = s.dig.seq + 1 ∧ ∀ c, c ≠ a.val → dslot t c = dslot s c)) ∧
      (clock s < d.since + d.wait → exec (.digestSlotExpire a) s = .next (ended s s))) ∧
    (∀ x rest, s.miles.queue = x :: rest → x.slot = none →
      let m := milepost s x.mp
      (m.broken = false → Completes (exec .milepostExtend s) (fun t =>
        milepost t x.mp = { m with
          value := BitVec.ofNat 384 (ofBe (sha384 (beOctets 48 m.value.toNat ++ x.d)))
          count := if m.count = 0xFFFFFFFF then m.count else m.count + 1 } ∧
        (∀ j, j ≠ x.mp → milepost t j = milepost s j) ∧ t.miles.queue = rest ∧ counter t 0x7910 = counter s 0x7910 + 1)) ∧
      (m.broken = true → Completes (exec .milepostExtend s) (fun t =>
        (∀ j, milepost t j = milepost s j) ∧ t.miles.queue = rest ∧ t.miles.refused = true ∧ t.miles.seq = s.miles.seq + 1)))

/-! ### Relay -/

/-- The relay's commands: a waybill is signed and delivered with its digest, a segment's and a remote device's are asked for, at most four waybill jobs running at once, a certificate is
read, bundles go out from the head device only, key messages and peer messages wait for their answer, a peering opens at a free entry and
closes at once, a link is reset (R408, R422 to R430). -/
def Obligations.RelayCommands : Prop :=
  ∀ (s : State) (bus : Bus) (k : Call) (t t1 : State) (i : Nat), powered s = true →
    let on := { s with bus := bus }
    let w : Caller := .ticket k.ch i
    (Started on 0x701 k t → nonceRefusal k 0x00FF013F = none → descRefusal t k (descAt k 1) true = (none, t1) →
      16384 ≤ (descAt k 1).len → waybillJobs t1 < 4 → freeTicket (chanAt t1 k.ch) = some i →
      (bit (k.word 0) 8 = false ∨ (bits (k.word 0) 0 6 ≠ 0 ∧ (laneAt t1 (bits (k.word 0) 0 6)).state ≠ .closed)) →
      let u := acceptRunning t1 k.ch i
      let x := issueWaybill u (ctxAt u (descAt k 1).ctx).lane.toNat (deviceClaims u (callNonce k) (if bit (k.word 0) 8 then some (bits (k.word 0) 0 6) else none))
      exec (.waybillGet bus) s = .next (ended s (match x.1 with
        | some o => deliver x.2 w (jobDesc x.2 (descAt k 1)) o stDone (digestWords (BitVec.ofNat 384 (ofBe (sha384 o))))
        | none => finish x.2 w stFaulted []))) ∧
    (Started on 0x702 k t → nonceRefusal k 0x00FF0000 = none → descRefusal t k (descAt k 1) true = (none, t1) →
      12288 ≤ (descAt k 1).len → freeTicket (chanAt t1 k.ch) = some i →
      (t1.relay.segment.length < 3 → waybillJobs t1 < 4 → exec (.segmentWaybillGet bus) s = .next (ended s (pump (segmentAsk (acceptRunning t1 k.ch i)
        { who := some (w, jobDesc t1 (descAt k 1)), nonce := callNonce k, lane := workLane (acceptRunning t1 k.ch i) k })))) ∧
      (3 ≤ t1.relay.segment.length → exec (.segmentWaybillGet bus) s = .next (ended s (reply t1 k stBusy [])))) ∧
    (4 ≤ waybillJobs t1 → 16384 ≤ (descAt k 1).len → descRefusal t k (descAt k 1) true = (none, t1) →
      (Started on 0x701 k t → nonceRefusal k 0x00FF013F = none → exec (.waybillGet bus) s = .next (ended s (reply t1 k stBusy []))) ∧
      (Started on 0x702 k t → nonceRefusal k 0x00FF0000 = none → exec (.segmentWaybillGet bus) s = .next (ended s (reply t1 k stBusy []))) ∧
      (Started on 0x703 k t → nonceRefusal k 0x00FFFFFF = none → exec (.remoteWaybillGet bus) s = .next (ended s (reply t1 k stBusy [])))) ∧
    (Started on 0x703 k t → nonceRefusal k 0x00FFFFFF = none → descRefusal t k (descAt k 1) true = (none, t1) →
      16384 ≤ (descAt k 1).len → waybillJobs t1 < 4 → freeTicket (chanAt t1 k.ch) = some i →
      let dst := bits (k.word 0) 0 16
      (dstRefusal t1 dst = none → Completes (exec (.remoteWaybillGet bus) s) (fun u => TicketRuns t1 k u i ∧
        u.relay.waits = t1.relay.waits ++ [(t1.pace.now + remoteWait t1, .waybill dst (jobDesc t1 (descAt k 1)) w)])) ∧
      (∀ st, dstRefusal t1 dst = some st → exec (.remoteWaybillGet bus) s = .next (ended s (reply t1 k st [])))) ∧
    (Started on 0x704 k t → fieldsOk k (0x3 :: descMasks) = true → bits (k.word 0) 0 2 ≠ 3 →
      descRefusal t k (descAt k 1) true = (none, t1) → freeTicket (chanAt t1 k.ch) = some i →
      let o := certOctets (acceptRunning t1 k.ch i) (bits (k.word 0) 0 2)
      (∀ t2, o.length ≤ (descAt k 1).len →
        dmaWrite (count (acceptRunning t1 k.ch i) 0x7918 o.length) (descAt k 1).ctx (descAt k 1).addr o = (none, t2) →
        exec (.certRead bus) s = .next (ended s (finish t2 w stDone [BitVec.ofNat 32 o.length]))) ∧
      ((descAt k 1).len < o.length →
        exec (.certRead bus) s = .next (ended s (finish (acceptRunning t1 k.ch i) w stBadLength [])))) ∧
    (Started on 0x710 k t → fieldsOk k descMasks = true → descRefusal t k (descAt k 0) false = (none, t1) →
      (isHead t1 = true → linkStands (linkOf t1 .dn) = true → freeTicket (chanAt t1 k.ch) = some i →
        exec (.relayBundleSend bus) s = .next (ended s (bundleSend (descAt k 0) w (acceptRunning t1 k.ch i)))) ∧
      (isHead t1 = true → linkStands (linkOf t1 .dn) = false →
        exec (.relayBundleSend bus) s = .next (ended s (reply t1 k stRelayDown []))) ∧
      (isHead t1 = false → exec (.relayBundleSend bus) s = .next (ended s (reply t1 k stDenied [])))) ∧
    (∀ o t2, Started on 0x711 k t → fieldsOk k (0xFFFF :: descMasks) = true → descRefusal t k (descAt k 1) false = (none, t1) →
      dstRefusal t1 (bits (k.word 0) 0 16) = none → freeTicket (chanAt t1 k.ch) = some i →
      1 ≤ (descAt k 1).len → (descAt k 1).len ≤ 32768 → dmaRead (acceptRunning t1 k.ch i) (descAt k 1) = (.ok o, t2) →
      Completes (exec (.relayKeySend bus) s) (fun u => u.mbox = t2.mbox ∧ u.relay.nextObject = t2.relay.nextObject + 1 ∧
        u.relay.waits = t2.relay.waits ++ [(t2.pace.now + remoteWait t2, .keySend (bits (k.word 0) 0 16) w)])) ∧
    (∀ h n j m t2, Started on 0x720 k t → fieldsOk k ([0x3FFF, 0x003FFFFF, 0x3FFF, 0xFFFFFFFF] ++ descMasks) = true →
      (descAt k 4).ctx = bits (k.word 0) 0 14 → (descAt k 4).ctx ≠ 0 → descRefusal t k (descAt k 4) true = (none, t1) →
      useHandle t1 k (k.word 3) = .ok (n, h) → h.kind = 5 → h.typ = 1 → handleStale t1 h = false → ringOk (descAt k 4) = true →
      dstRefusal t1 (bits (k.word 1) 0 16) = none → t1.relay.peerings.length < 64 →
      tcount t1.relay.peerings (fun _ p => decide (p.lane = (ctxAt t (bits (k.word 0) 0 14)).lane.toNat)) < 16 →
      freeTicket (chanAt t1 k.ch) = some i →
      (handleMaterial (acceptRunning t1 k.ch i) h = (.ok m, t2) →
        exec (.peerOpen bus) s = .next (ended s (peerOpenWith k w m t2)) ∧
        (firstBelow 64 (fun i => (tfind t2.relay.peerings i).isNone) = some j →
          ∃ p, tfind (peerOpenWith k w m t2).relay.peerings j = some p ∧ (p.state = .opening ∨ p.state = .up) ∧ p.shared = m ∧
            p.peer = bits (k.word 1) 0 16 ∧ p.ctx = bits (k.word 0) 0 14 ∧ p.lane = (ctxAt t2 (bits (k.word 0) 0 14)).lane.toNat ∧
            p.epoch = (ctxAt t2 (bits (k.word 0) 0 14)).epoch ∧ p.ringAddr = (descAt k 4).addr ∧ p.ringLen = (descAt k 4).len)) ∧
      (∀ b, handleMaterial (acceptRunning t1 k.ch i) h = (.error b, t2) →
        exec (.peerOpen bus) s = .next (ended s (finish t2 w stFaulted [])))) ∧
    (∀ j p o t2, Started on 0x721 k t → fieldsOk k (0x3F :: descMasks) = true → descRefusal t k (descAt k 1) false = (none, t1) →
      callPeering t1 k = some (j, p) → p.state = .up → 1 ≤ (descAt k 1).len → (descAt k 1).len ≤ 4072 → (routeTo t1 p.peer).isSome = true →
      freeTicket (chanAt t1 k.ch) = some i → dmaRead (acceptRunning t1 k.ch i) (descAt k 1) = (.ok o, t2) →
      Completes (exec (.peerSend bus) s) (fun u => u.mbox = t2.mbox ∧ u.relay.nextSerial = t2.relay.nextSerial + 1 ∧
        u.relay.waits = t2.relay.waits ++ [(t2.pace.now + remoteWait t2, .peerSend j p.peer (t2.relay.nextSerial % 2 ^ 64) w)])) ∧
    (Started on 0x722 k t → fieldsOk k [0x3F] = true →
      (∀ j p, callPeering t k = some (j, p) →
        exec (.peerClose bus) s = .next (ended s (reply (endPeering t j stPeeringState) k stDone [])) ∧
        tfind (endPeering t j stPeeringState).relay.peerings j = none) ∧
      (callPeering t k = none → exec (.peerClose bus) s = .next (ended s (reply t k stPeeringState [])))) ∧
    (Started s 0x730 k t → fieldsOk k [0x1] = true →
      exec .relayLinkReset s = .next (ended s (reply (pump (segmentNext 3 (relink t (if bit (k.word 0) 0 then .dn else .up)))) k stDone [])))

/-- A link's events and frames: its level, its timers, its beats, and every TYPE of frame, which is checked, routed and given to what serves it
(R410 to R414, R417 to R424, R427 to R430). -/
def Obligations.RelayLinks : Prop :=
  (∀ (s : State) (d : Dir) (bus : Bus), powered s = true →
    let on := { s with bus := bus }
    let l := linkOf s d
    let raised := setLink s d { l with level := true }
    let fallen := setLink s d { l with level := false }
    exec (.linkRise d) s = .next (ended s (if l.level then s else pump (bringUp raised d))) ∧
    (mayBringUp raised d = true → l.phase = .down → l.peerHello = [] → (linkOf (bringUp raised d) d).phase = .hello ∧
      (linkOf (bringUp raised d) d).level = true) ∧
    exec (.linkFall d) s = .next (ended s (if l.level then pump (segmentNext 3 (linkDown fallen d)) else s)) ∧
    (let m := linkOf (linkDown fallen d) d;
      m.level = false ∧ m.phase = .down ∧ m.live = false ∧ m.txKey = [] ∧ m.rxKey = [] ∧ m.nextTx = [] ∧ m.nextRx = []) ∧
    (linkStands l = true → (linkDown fallen d).relay.linkLost = true) ∧
    (linkOf (linkDown s d) d).phase = .down ∧ (linkOf (linkDown s d) d).level = l.level ∧ (linkOf (linkDown s d) d).txKey = [] ∧
    (d = .up → s.relay.valid = true → isHead s = false →
      (linkDown fallen d).relay.valid = false ∧ (linkOf (linkDown fallen d) .dn).phase = .down) ∧
    (∀ x, l.refusedAt = some x → exec (.helloRetryExpire d) s = .next (ended s
      (if l.phase = .refused ∧ x + helloRetry s ≤ s.pace.now ∧ mayBringUp s d = true then pump (startBringUp s d) else s))) ∧
    (l.refusedAt = none → exec (.helloRetryExpire d) s = .next (ended s s)) ∧
    (l.peerHello = [] → (linkOf (startBringUp s d) d).phase = .hello ∧ (linkOf (startBringUp s d) d).cause = l.cause ∧
      (linkOf (startBringUp s d) d).txKey = l.txKey ∧ (linkOf (startBringUp s d) d).rxKey = l.rxKey) ∧
    exec (.linkRekeyDue d) s = .next (ended s
      (if l.phase = .up ∧ l.finishedAt + 1073741824 ≤ s.pace.now then pump (askRekeyLink s d) else s)) ∧
    (l.peerHello = [] → (linkOf (askRekeyLink s d) d).phase = .hello ∧ (linkOf (askRekeyLink s d) d).live = true ∧
      (linkOf (askRekeyLink s d) d).txKey = l.txKey) ∧
    (∀ x, l.freedAt = some x → exec (.creditDue d) s = .next (ended s
      (if x + 16 ≤ s.pace.now ∧ l.reported < l.freed ∧ linkStands l = true then pump (askCredit s d) else s))) ∧
    (l.freedAt = none → exec (.creditDue d) s = .next (ended s s)) ∧
    (l.wire.isSome = true → creditWaits (linkOf (pump (askCredit s d)) d) = true) ∧
    (∀ x, l.spentAt = some x → exec (.creditTimeout d) s = .next (ended s
      (if x + 65536 ≤ s.pace.now then pump (segmentNext 3 (linkDown s d)) else s))) ∧
    (l.spentAt = none → exec (.creditTimeout d) s = .next (ended s s)) ∧
    (∀ x, s.relay.waits.find? (fun x => decide (x.1 ≤ s.pace.now)) = some x →
      exec (.remoteWaitExpire bus) s = .next (ended s (finish { on with relay := { s.relay with waits := s.relay.waits.erase x } }
        x.2.caller stRemoteTimeout []))) ∧
    (s.relay.waits.find? (fun x => decide (x.1 ≤ s.pace.now)) = none →
      (∀ g rest, s.relay.segment = g :: rest → exec (.remoteWaitExpire bus) s = .next (ended s
        (if g.own ≠ [] ∧ g.due ≤ s.pace.now then pump (segmentNext 3 (segmentDone on g [] 2)) else on))) ∧
      (s.relay.segment = [] → exec (.remoteWaitExpire bus) s = .next (ended s on))) ∧
    (∀ w, l.wire = some w → exec (.relayTxAck d) s = .next (ended s
      (if w.up = false then s
      else if w.left ≤ 1 then pump (frameSent s d w)
      else raiseBeat d (setLink s d { l with wire := some { w with left := w.left - 1, up := false } })))) ∧
    (l.wire = none → exec (.relayTxAck d) s = .next (ended s s))) ∧
  FrameServed .hello 0x01 (fun d h p t => helloFrame h p t d) ∧
  FrameServed .kem 0x02 (fun d _ p t => kemArrives t d p) ∧
  FrameServed .finished 0x03 (fun d h p t => finishedArrives t d h.seq p) ∧
  FrameServed .credit 0x04 (fun d _ p t => creditArrives t d p) ∧
  FrameServed .rekey 0x05 (fun d _ _ t => if (linkOf t d).phase = .up then rekeyLink t d else t) ∧
  FrameServed .bundle 0x10 (fun d h p t => (rxObject t d h p (fun u x o => stageRelayed u d x o)).2) ∧
  FrameServed .waybillReq 0x20 (fun _ h p t => remoteWaybill t h.src p) ∧
  FrameServed .waybill 0x21 (fun d h p t => onObject t d h p (fun u o => waybillArrives u h.src o)) ∧
  FrameServed .segmentReq 0x22 (fun d _ p t => segmentRequest t d p) ∧
  FrameServed .segmentAnswer 0x23 (fun d h p t => onObject t d h p (fun u o => segmentAnswer u d o)) ∧
  FrameServed .keyMsg 0x30 (fun d h p t => onObject t d h p (fun u o => keyMsgArrives u h.src o)) ∧
  FrameServed .keyResult 0x31 (fun _ h p t => keyResultArrives t h.src p) ∧
  FrameServed .peerOpenFrame 0x40 (fun _ h p t => peerOpenArrives t h.src p) ∧
  FrameServed .peerMsg 0x41 (fun _ h p t => messageArrives t h.src p) ∧
  FrameServed .peerAck 0x42 (fun _ h p t => ackArrives t h.src p) ∧
  FrameServed .peerCloseFrame 0x43 (fun _ h p t => closeArrives t h.src p)

/-! ### Life cycle -/

/-- The life-cycle commands: a transition that passes its checks programs its intent in three copies and changes nothing else yet, one that
fails them is refused; a debug certificate is stored where it checks, and erased; a tamper log entry is read (R437, R438, R447, R448,
R457). -/
def Obligations.LifeCycleCommands : Prop :=
  ∀ (s : State) (bus : Bus) (k : Call) (t : State) (i : Nat), powered s = true →
    let on := { s with bus := bus }
    let w : Caller := .ticket k.ch i
    let target := BitVec.ofNat 8 (bits (k.word 0) 0 8)
    (Started on 0x801 k t → target ≠ lcProduction → k.len = 5 →
      fieldsOk k [0xFF, 0xFFFFFFFF, 0xFFFFFFFF, 0xFFFFFFFF, 0xFFFFFFFF] = true →
      (∀ n, transitionRefusal t target (callToken k) = .ok n → (n = 15 → (callToken k).all (fun b => decide (b = 0)) = true) →
        freeTicket (chanAt t k.ch) = some i →
        Completes (exec (.lcTransition bus) s) (fun u => TicketRuns t k u i ∧
          u.lc = { t.lc with job := some {
            target := target, token := n, slot := (freeSlots t).headD 0, step := 1, input := [], caller := some w } } ∧
          u.otp.words = t.otp.words ∧ u.otp.queue = t.otp.queue ++ (tripleOps (intentSlot ((freeSlots t).headD 0)) (intentWord target n)).map
            (fun x => { user := .transition, word := x.1, bits := x.2 }))) ∧
      (∀ st, transitionRefusal t target (callToken k) = .error st →
        exec (.lcTransition bus) s = .next (ended s (reply t k st [])))) ∧
    (∀ n t1 o t2, Started on 0x801 k t → target = lcProduction → k.len = 9 →
      fieldsOk k ([0xFF, 0xFFFFFFFF, 0xFFFFFFFF, 0xFFFFFFFF, 0xFFFFFFFF] ++ descMasks) = true →
      descRefusal t k (descAt k 5) false = (none, t1) → (descAt k 5).len = 56 → transitionRefusal t1 target (callToken k) = .ok n →
      freeTicket (chanAt t1 k.ch) = some i → dmaRead (acceptRunning t1 k.ch i) (descAt k 5) = (.ok o, t2) →
      Completes (exec (.lcTransition bus) s) (fun u => u.mbox = t2.mbox ∧ u.lc.state = t2.lc.state ∧
        u.lc.job = some { target := target, token := n, slot := (freeSlots t2).headD 0, step := 1, input := o, caller := some w })) ∧
    (∀ t1 o t2, Started on 0x802 k t → fieldsOk k descMasks = true → descRefusal t k (descAt k 0) false = (none, t1) →
      ((descAt k 0).len ≠ 7540 → exec (.debugInstall bus) s = .next (ended s (reply t1 k stBadLength []))) ∧
      ((descAt k 0).len = 7540 → freeTicket (chanAt t1 k.ch) = some i → dmaRead (acceptRunning t1 k.ch i) (descAt k 0) = (.ok o, t2) →
        let t3 := ownRns t2 0 (blockJobs [otpField t2 otpDebugAuth 12] (o.take 128) (o.drop 128))
        (debugCertOk t3 o = true → Completes (exec (.debugInstall bus) s) (fun u => .debugStore o w ∈ u.nvm.ops ∧ u.lc = t3.lc)) ∧
        (debugCertOk t3 o = false → exec (.debugInstall bus) s = .next (ended s (finish t3 w stDebugCert []))))) ∧
    (Started on 0x803 k t → freeTicket (chanAt t k.ch) = some i →
      Completes (exec (.debugRemove bus) s) (fun u => TicketRuns t k u i ∧ .debugErase w ∈ u.nvm.ops ∧ u.lc = t.lc)) ∧
    (Started s 0x804 k t → fieldsOk k [0xF] = true →
      let e := tget 0 (vaultView t).tlog (bits (k.word 0) 0 4)
      exec .tamperLogRead s = .next (ended s
        (if (vaultView t).tlogBroken.contains (bits (k.word 0) 0 4) then reply t k stTamperLog [0, 0, 0, 0, 0]
        else reply t k stDone (wordsOfOctets 4 (octetsOfBlock e) ++ [if e = 0 then 2 else 3]))))
end

