-- ==== Sys2Proof/Laws/Tables.lean ====
section
/-!
SUPPORT. Sparse tables: a value written is read back, every other key reads as before, and the canonical form is kept.
-/

namespace Sys2Proof.Machine

variable {α : Type}

@[simp] theorem tget_nil (d : α) (k : Nat) : tget d [] k = d := rfl

/-! ### Entries put and deleted -/

/-- An entry put is found. -/
@[simp] theorem tfind_tput_same (t : Table α) (k : Nat) (v : α) : tfind (tput t k v) k = some v := by
  induction t with
  | nil => simp [tput, tfind]
  | cons e t ih =>
    obtain ⟨j, w⟩ := e
    simp only [tput]
    split
    · simp [tfind]
    · split
      · simp [tfind]
      · rename_i h1 h2
        have hjk : j ≠ k := fun h => h2 h.symm
        simp [tfind, hjk, ih]

/-- An entry put leaves every other one. -/
theorem tfind_tput_ne (t : Table α) {k k' : Nat} (v : α) (h : k' ≠ k) : tfind (tput t k v) k' = tfind t k' := by
  induction t with
  | nil => simp [tput, tfind, h.symm]
  | cons e t ih =>
    obtain ⟨j, w⟩ := e
    simp only [tput]
    split
    · simp [tfind, h.symm]
    · split
      · rename_i hkj
        subst hkj
        simp [tfind, h.symm]
      · simp [tfind, ih]

/-- Deleting from a table, entry by entry. -/
theorem tdel_cons (j k : Nat) (w : α) (t : Table α) : tdel ((j, w) :: t) k = if j = k then tdel t k else (j, w) :: tdel t k := by
  by_cases h : j = k <;> simp [tdel, h]

/-- An entry deleted is gone. -/
@[simp] theorem tfind_tdel_same (t : Table α) (k : Nat) : tfind (tdel t k) k = none := by
  induction t with
  | nil => rfl
  | cons e t ih =>
    rw [tdel_cons]
    split
    · exact ih
    · rename_i h
      simp [tfind, h, ih]

/-- An entry deleted leaves every other one. -/
theorem tfind_tdel_ne (t : Table α) {k k' : Nat} (h : k' ≠ k) : tfind (tdel t k) k' = tfind t k' := by
  induction t with
  | nil => rfl
  | cons e t ih =>
    rw [tdel_cons]
    split
    · rename_i hj
      simp [tfind, hj, h.symm, ih]
    · simp [tfind, ih]

/-- A reading is the entry found, or the default. -/
theorem tget_eq (d : α) (t : Table α) (k : Nat) : tget d t k = (tfind t k).getD d := by
  induction t with
  | nil => rfl
  | cons e t ih =>
    obtain ⟨j, v⟩ := e
    simp only [tget, tfind]
    split <;> simp [ih]

section
variable [DecidableEq α]

/-- A value written is read back. -/
@[simp] theorem tget_tset_same (d : α) (t : Table α) (k : Nat) (v : α) : tget d (tset d t k v) k = v := by
  rw [tget_eq, tset]
  split <;> simp_all

/-- Another key reads as before. -/
theorem tget_tset_ne (d : α) (t : Table α) {k k' : Nat} (v : α) (h : k' ≠ k) : tget d (tset d t k v) k' = tget d t k' := by
  rw [tget_eq, tget_eq, tset]
  split
  · rw [tfind_tdel_ne t h]
  · rw [tfind_tput_ne t v h]

/-- The readings of a table with one value written. -/
theorem tget_tset (d : α) (t : Table α) (k k' : Nat) (v : α) :
    tget d (tset d t k v) k' = if k' = k then v else tget d t k' := by
  split
  · rename_i h; subst h; simp
  · rename_i h; exact tget_tset_ne d t v h

/-! ### The canonical form -/

omit [DecidableEq α] in
/-- An entry of a table with one put is that one, or was there. -/
theorem mem_tput (t : Table α) (k : Nat) (v : α) {x : Nat × α} (hx : x ∈ tput t k v) : x = (k, v) ∨ x ∈ t := by
  induction t with
  | nil => simpa [tput] using hx
  | cons e t ih =>
    obtain ⟨j, w⟩ := e
    simp only [tput] at hx
    split at hx
    · simpa using hx
    · split at hx
      · rcases List.mem_cons.1 hx with h | h
        · exact .inl h
        · exact .inr (List.mem_cons_of_mem _ h)
      · rcases List.mem_cons.1 hx with h | h
        · exact .inr (by simp [h])
        · rcases ih h with h | h
          · exact .inl h
          · exact .inr (List.mem_cons_of_mem _ h)

omit [DecidableEq α] in
/-- Keys that rise still do with an entry put. -/
theorem tput_rising (t : Table α) (k : Nat) (v : α) (h : List.Pairwise (fun a b => a.1 < b.1) t) :
    List.Pairwise (fun a b => a.1 < b.1) (tput t k v) := by
  induction t with
  | nil => simp [tput]
  | cons e t ih =>
    obtain ⟨j, w⟩ := e
    obtain ⟨hh, ht⟩ := List.pairwise_cons.1 h
    simp only [tput]
    split
    · rename_i hlt
      refine List.pairwise_cons.2 ⟨?_, h⟩
      intro x hx
      rcases List.mem_cons.1 hx with rfl | hx
      · exact hlt
      · exact Nat.lt_trans hlt (hh x hx)
    · split
      · rename_i hkj
        subst hkj
        exact List.pairwise_cons.2 ⟨hh, ht⟩
      · rename_i h1 h2
        refine List.pairwise_cons.2 ⟨?_, ih ht⟩
        intro x hx
        rcases mem_tput t k v hx with rfl | hx
        · exact Nat.lt_of_le_of_ne (Nat.le_of_not_lt h1) (fun h => h2 h.symm)
        · exact hh x hx

/-- The canonical form said as two facts. -/
theorem tableWf_iff (d : α) (t : Table α) :
    tableWf d t = true ↔ List.Pairwise (fun a b => a.1 < b.1) t ∧ ∀ e ∈ t, e.2 ≠ d := by
  simp [tableWf]

/-- A write keeps the canonical form. -/
theorem tset_wf (d : α) (t : Table α) (k : Nat) (v : α) (h : tableWf d t = true) : tableWf d (tset d t k v) = true := by
  rw [tableWf_iff] at h ⊢
  rw [tset]
  split
  · exact ⟨h.1.filter _, fun e he => h.2 e (List.mem_filter.1 he).1⟩
  · rename_i hv
    refine ⟨tput_rising t k v h.1, fun e he => ?_⟩
    rcases mem_tput t k v he with rfl | he
    · exact hv
    · exact h.2 e he

omit [DecidableEq α] in
/-- A place of a list after one was written. -/
theorem getD_setAt (d : α) (l : List α) (i j : Nat) (v : α) : (setAt d l i v).getD j d = if j = i then v else l.getD j d := by
  unfold setAt
  split
  · rename_i h
    by_cases hj : j = i
    · subst hj; simp [List.getD, h]
    · simp [List.getD, Ne.symm hj, hj]
  · rename_i h
    simp only [List.getD]
    by_cases hj : j = i
    · subst hj
      rw [List.getElem?_append_right (by simp; omega)]
      simp; rw [show j - (l.length + (j - l.length)) = 0 by omega]; simp
    · simp only [hj, if_false]
      by_cases h1 : j < l.length
      · rw [List.append_assoc, List.getElem?_append_left h1]
      · rw [List.getElem?_eq_none (l := l) (by omega)]
        by_cases h2 : j < i
        · rw [List.getElem?_append_left (by simp; omega), List.getElem?_append_right (by omega), List.getElem?_replicate_of_lt (by omega)]
          rfl
        · rw [List.getElem?_eq_none (by simp; omega)]

end

end Sys2Proof.Machine
end

