-- ==== Sys2Proof/Laws/State.lean ====
section
/-!
SUPPORT. What each shared update of the state leaves as it was, field by field, and what the shared readings read after it.
-/

namespace Sys2Proof.Machine

open Sys2Proof

variable (s : State)

/-! ### count -/

@[simp] theorem count_pending (off n : Nat) : (count s off n).pending = s.pending := rfl
@[simp] theorem count_bus (off n : Nat) : (count s off n).bus = s.bus := rfl
@[simp] theorem count_rng (off n : Nat) : (count s off n).rng = s.rng := rfl
@[simp] theorem count_free (off n : Nat) : (count s off n).free = s.free := rfl
@[simp] theorem count_pins (off n : Nat) : (count s off n).pins = s.pins := rfl
@[simp] theorem count_vlog (off n : Nat) : (count s off n).vlog = s.vlog := rfl
@[simp] theorem count_own (off n : Nat) : (count s off n).own = s.own := rfl
@[simp] theorem count_cfg (off n : Nat) : (count s off n).cfg = s.cfg := rfl
@[simp] theorem count_mbox (off n : Nat) : (count s off n).mbox = s.mbox := rfl
@[simp] theorem count_pace (off n : Nat) : (count s off n).pace = s.pace := rfl
@[simp] theorem count_power (off n : Nat) : (count s off n).power = s.power := rfl
@[simp] theorem count_lanes (off n : Nat) : (count s off n).lanes = s.lanes := rfl
@[simp] theorem count_ctxs (off n : Nat) : (count s off n).ctxs = s.ctxs := rfl
@[simp] theorem count_laneTags (off n : Nat) : (count s off n).laneTags = s.laneTags := rfl
@[simp] theorem count_cust (off n : Nat) : (count s off n).cust = s.cust := rfl
@[simp] theorem count_mapc (off n : Nat) : (count s off n).mapc = s.mapc := rfl
@[simp] theorem count_tree (off n : Nat) : (count s off n).tree = s.tree := rfl
@[simp] theorem count_tiles (off n : Nat) : (count s off n).tiles = s.tiles := rfl
@[simp] theorem count_bg (off n : Nat) : (count s off n).bg = s.bg := rfl
@[simp] theorem count_flt (off n : Nat) : (count s off n).flt = s.flt := rfl
@[simp] theorem count_dram (off n : Nat) : (count s off n).dram = s.dram := rfl
@[simp] theorem count_keys (off n : Nat) : (count s off n).keys = s.keys := rfl
@[simp] theorem count_vault (off n : Nat) : (count s off n).vault = s.vault := rfl
@[simp] theorem count_otp (off n : Nat) : (count s off n).otp = s.otp := rfl
@[simp] theorem count_lc (off n : Nat) : (count s off n).lc = s.lc := rfl
@[simp] theorem count_tamper (off n : Nat) : (count s off n).tamper = s.tamper := rfl
@[simp] theorem count_nvm (off n : Nat) : (count s off n).nvm = s.nvm := rfl
@[simp] theorem count_boot (off n : Nat) : (count s off n).boot = s.boot := rfl
@[simp] theorem count_miles (off n : Nat) : (count s off n).miles = s.miles := rfl
@[simp] theorem count_rcpt (off n : Nat) : (count s off n).rcpt = s.rcpt := rfl
@[simp] theorem count_rns (off n : Nat) : (count s off n).rns = s.rns := rfl
@[simp] theorem count_dig (off n : Nat) : (count s off n).dig = s.dig := rfl
@[simp] theorem count_relay (off n : Nat) : (count s off n).relay = s.relay := rfl
@[simp] theorem count_sleepImage (off n : Nat) : (count s off n).sleepImage = s.sleepImage := rfl
@[simp] theorem count_pages (off n : Nat) : (count s off n).pages = s.pages := rfl

/-! ### clearCounter -/

@[simp] theorem clearCounter_pending (off : Nat) : (clearCounter s off).pending = s.pending := rfl
@[simp] theorem clearCounter_bus (off : Nat) : (clearCounter s off).bus = s.bus := rfl
@[simp] theorem clearCounter_rng (off : Nat) : (clearCounter s off).rng = s.rng := rfl
@[simp] theorem clearCounter_free (off : Nat) : (clearCounter s off).free = s.free := rfl
@[simp] theorem clearCounter_pins (off : Nat) : (clearCounter s off).pins = s.pins := rfl
@[simp] theorem clearCounter_vlog (off : Nat) : (clearCounter s off).vlog = s.vlog := rfl
@[simp] theorem clearCounter_own (off : Nat) : (clearCounter s off).own = s.own := rfl
@[simp] theorem clearCounter_cfg (off : Nat) : (clearCounter s off).cfg = s.cfg := rfl
@[simp] theorem clearCounter_mbox (off : Nat) : (clearCounter s off).mbox = s.mbox := rfl
@[simp] theorem clearCounter_pace (off : Nat) : (clearCounter s off).pace = s.pace := rfl
@[simp] theorem clearCounter_power (off : Nat) : (clearCounter s off).power = s.power := rfl
@[simp] theorem clearCounter_lanes (off : Nat) : (clearCounter s off).lanes = s.lanes := rfl
@[simp] theorem clearCounter_ctxs (off : Nat) : (clearCounter s off).ctxs = s.ctxs := rfl
@[simp] theorem clearCounter_laneTags (off : Nat) : (clearCounter s off).laneTags = s.laneTags := rfl
@[simp] theorem clearCounter_cust (off : Nat) : (clearCounter s off).cust = s.cust := rfl
@[simp] theorem clearCounter_mapc (off : Nat) : (clearCounter s off).mapc = s.mapc := rfl
@[simp] theorem clearCounter_tree (off : Nat) : (clearCounter s off).tree = s.tree := rfl
@[simp] theorem clearCounter_tiles (off : Nat) : (clearCounter s off).tiles = s.tiles := rfl
@[simp] theorem clearCounter_bg (off : Nat) : (clearCounter s off).bg = s.bg := rfl
@[simp] theorem clearCounter_flt (off : Nat) : (clearCounter s off).flt = s.flt := rfl
@[simp] theorem clearCounter_dram (off : Nat) : (clearCounter s off).dram = s.dram := rfl
@[simp] theorem clearCounter_keys (off : Nat) : (clearCounter s off).keys = s.keys := rfl
@[simp] theorem clearCounter_vault (off : Nat) : (clearCounter s off).vault = s.vault := rfl
@[simp] theorem clearCounter_otp (off : Nat) : (clearCounter s off).otp = s.otp := rfl
@[simp] theorem clearCounter_lc (off : Nat) : (clearCounter s off).lc = s.lc := rfl
@[simp] theorem clearCounter_tamper (off : Nat) : (clearCounter s off).tamper = s.tamper := rfl
@[simp] theorem clearCounter_nvm (off : Nat) : (clearCounter s off).nvm = s.nvm := rfl
@[simp] theorem clearCounter_boot (off : Nat) : (clearCounter s off).boot = s.boot := rfl
@[simp] theorem clearCounter_miles (off : Nat) : (clearCounter s off).miles = s.miles := rfl
@[simp] theorem clearCounter_rcpt (off : Nat) : (clearCounter s off).rcpt = s.rcpt := rfl
@[simp] theorem clearCounter_rns (off : Nat) : (clearCounter s off).rns = s.rns := rfl
@[simp] theorem clearCounter_dig (off : Nat) : (clearCounter s off).dig = s.dig := rfl
@[simp] theorem clearCounter_relay (off : Nat) : (clearCounter s off).relay = s.relay := rfl
@[simp] theorem clearCounter_sleepImage (off : Nat) : (clearCounter s off).sleepImage = s.sleepImage := rfl
@[simp] theorem clearCounter_pages (off : Nat) : (clearCounter s off).pages = s.pages := rfl

/-! ### setLane -/

@[simp] theorem setLane_pending (l : Nat) (v : Lane) : (setLane s l v).pending = s.pending := rfl
@[simp] theorem setLane_bus (l : Nat) (v : Lane) : (setLane s l v).bus = s.bus := rfl
@[simp] theorem setLane_rng (l : Nat) (v : Lane) : (setLane s l v).rng = s.rng := rfl
@[simp] theorem setLane_free (l : Nat) (v : Lane) : (setLane s l v).free = s.free := rfl
@[simp] theorem setLane_pins (l : Nat) (v : Lane) : (setLane s l v).pins = s.pins := rfl
@[simp] theorem setLane_vlog (l : Nat) (v : Lane) : (setLane s l v).vlog = s.vlog := rfl
@[simp] theorem setLane_own (l : Nat) (v : Lane) : (setLane s l v).own = s.own := rfl
@[simp] theorem setLane_cfg (l : Nat) (v : Lane) : (setLane s l v).cfg = s.cfg := rfl
@[simp] theorem setLane_mbox (l : Nat) (v : Lane) : (setLane s l v).mbox = s.mbox := rfl
@[simp] theorem setLane_pace (l : Nat) (v : Lane) : (setLane s l v).pace = s.pace := rfl
@[simp] theorem setLane_power (l : Nat) (v : Lane) : (setLane s l v).power = s.power := rfl
@[simp] theorem setLane_cnt (l : Nat) (v : Lane) : (setLane s l v).cnt = s.cnt := rfl
@[simp] theorem setLane_ctxs (l : Nat) (v : Lane) : (setLane s l v).ctxs = s.ctxs := rfl
@[simp] theorem setLane_laneTags (l : Nat) (v : Lane) : (setLane s l v).laneTags = s.laneTags := rfl
@[simp] theorem setLane_cust (l : Nat) (v : Lane) : (setLane s l v).cust = s.cust := rfl
@[simp] theorem setLane_mapc (l : Nat) (v : Lane) : (setLane s l v).mapc = s.mapc := rfl
@[simp] theorem setLane_tree (l : Nat) (v : Lane) : (setLane s l v).tree = s.tree := rfl
@[simp] theorem setLane_tiles (l : Nat) (v : Lane) : (setLane s l v).tiles = s.tiles := rfl
@[simp] theorem setLane_bg (l : Nat) (v : Lane) : (setLane s l v).bg = s.bg := rfl
@[simp] theorem setLane_flt (l : Nat) (v : Lane) : (setLane s l v).flt = s.flt := rfl
@[simp] theorem setLane_dram (l : Nat) (v : Lane) : (setLane s l v).dram = s.dram := rfl
@[simp] theorem setLane_keys (l : Nat) (v : Lane) : (setLane s l v).keys = s.keys := rfl
@[simp] theorem setLane_vault (l : Nat) (v : Lane) : (setLane s l v).vault = s.vault := rfl
@[simp] theorem setLane_otp (l : Nat) (v : Lane) : (setLane s l v).otp = s.otp := rfl
@[simp] theorem setLane_lc (l : Nat) (v : Lane) : (setLane s l v).lc = s.lc := rfl
@[simp] theorem setLane_tamper (l : Nat) (v : Lane) : (setLane s l v).tamper = s.tamper := rfl
@[simp] theorem setLane_nvm (l : Nat) (v : Lane) : (setLane s l v).nvm = s.nvm := rfl
@[simp] theorem setLane_boot (l : Nat) (v : Lane) : (setLane s l v).boot = s.boot := rfl
@[simp] theorem setLane_miles (l : Nat) (v : Lane) : (setLane s l v).miles = s.miles := rfl
@[simp] theorem setLane_rcpt (l : Nat) (v : Lane) : (setLane s l v).rcpt = s.rcpt := rfl
@[simp] theorem setLane_rns (l : Nat) (v : Lane) : (setLane s l v).rns = s.rns := rfl
@[simp] theorem setLane_dig (l : Nat) (v : Lane) : (setLane s l v).dig = s.dig := rfl
@[simp] theorem setLane_relay (l : Nat) (v : Lane) : (setLane s l v).relay = s.relay := rfl
@[simp] theorem setLane_sleepImage (l : Nat) (v : Lane) : (setLane s l v).sleepImage = s.sleepImage := rfl
@[simp] theorem setLane_pages (l : Nat) (v : Lane) : (setLane s l v).pages = s.pages := rfl

/-! ### setCtx -/

@[simp] theorem setCtx_pending (c : Nat) (v : Ctx) : (setCtx s c v).pending = s.pending := rfl
@[simp] theorem setCtx_bus (c : Nat) (v : Ctx) : (setCtx s c v).bus = s.bus := rfl
@[simp] theorem setCtx_rng (c : Nat) (v : Ctx) : (setCtx s c v).rng = s.rng := rfl
@[simp] theorem setCtx_free (c : Nat) (v : Ctx) : (setCtx s c v).free = s.free := rfl
@[simp] theorem setCtx_pins (c : Nat) (v : Ctx) : (setCtx s c v).pins = s.pins := rfl
@[simp] theorem setCtx_vlog (c : Nat) (v : Ctx) : (setCtx s c v).vlog = s.vlog := rfl
@[simp] theorem setCtx_own (c : Nat) (v : Ctx) : (setCtx s c v).own = s.own := rfl
@[simp] theorem setCtx_cfg (c : Nat) (v : Ctx) : (setCtx s c v).cfg = s.cfg := rfl
@[simp] theorem setCtx_mbox (c : Nat) (v : Ctx) : (setCtx s c v).mbox = s.mbox := rfl
@[simp] theorem setCtx_pace (c : Nat) (v : Ctx) : (setCtx s c v).pace = s.pace := rfl
@[simp] theorem setCtx_power (c : Nat) (v : Ctx) : (setCtx s c v).power = s.power := rfl
@[simp] theorem setCtx_cnt (c : Nat) (v : Ctx) : (setCtx s c v).cnt = s.cnt := rfl
@[simp] theorem setCtx_lanes (c : Nat) (v : Ctx) : (setCtx s c v).lanes = s.lanes := rfl
@[simp] theorem setCtx_laneTags (c : Nat) (v : Ctx) : (setCtx s c v).laneTags = s.laneTags := rfl
@[simp] theorem setCtx_cust (c : Nat) (v : Ctx) : (setCtx s c v).cust = s.cust := rfl
@[simp] theorem setCtx_mapc (c : Nat) (v : Ctx) : (setCtx s c v).mapc = s.mapc := rfl
@[simp] theorem setCtx_tree (c : Nat) (v : Ctx) : (setCtx s c v).tree = s.tree := rfl
@[simp] theorem setCtx_tiles (c : Nat) (v : Ctx) : (setCtx s c v).tiles = s.tiles := rfl
@[simp] theorem setCtx_bg (c : Nat) (v : Ctx) : (setCtx s c v).bg = s.bg := rfl
@[simp] theorem setCtx_flt (c : Nat) (v : Ctx) : (setCtx s c v).flt = s.flt := rfl
@[simp] theorem setCtx_dram (c : Nat) (v : Ctx) : (setCtx s c v).dram = s.dram := rfl
@[simp] theorem setCtx_keys (c : Nat) (v : Ctx) : (setCtx s c v).keys = s.keys := rfl
@[simp] theorem setCtx_vault (c : Nat) (v : Ctx) : (setCtx s c v).vault = s.vault := rfl
@[simp] theorem setCtx_otp (c : Nat) (v : Ctx) : (setCtx s c v).otp = s.otp := rfl
@[simp] theorem setCtx_lc (c : Nat) (v : Ctx) : (setCtx s c v).lc = s.lc := rfl
@[simp] theorem setCtx_tamper (c : Nat) (v : Ctx) : (setCtx s c v).tamper = s.tamper := rfl
@[simp] theorem setCtx_nvm (c : Nat) (v : Ctx) : (setCtx s c v).nvm = s.nvm := rfl
@[simp] theorem setCtx_boot (c : Nat) (v : Ctx) : (setCtx s c v).boot = s.boot := rfl
@[simp] theorem setCtx_miles (c : Nat) (v : Ctx) : (setCtx s c v).miles = s.miles := rfl
@[simp] theorem setCtx_rcpt (c : Nat) (v : Ctx) : (setCtx s c v).rcpt = s.rcpt := rfl
@[simp] theorem setCtx_rns (c : Nat) (v : Ctx) : (setCtx s c v).rns = s.rns := rfl
@[simp] theorem setCtx_dig (c : Nat) (v : Ctx) : (setCtx s c v).dig = s.dig := rfl
@[simp] theorem setCtx_relay (c : Nat) (v : Ctx) : (setCtx s c v).relay = s.relay := rfl
@[simp] theorem setCtx_sleepImage (c : Nat) (v : Ctx) : (setCtx s c v).sleepImage = s.sleepImage := rfl
@[simp] theorem setCtx_pages (c : Nat) (v : Ctx) : (setCtx s c v).pages = s.pages := rfl

/-! ### setChan -/

@[simp] theorem setChan_pending (c : Nat) (v : Channel) : (setChan s c v).pending = s.pending := rfl
@[simp] theorem setChan_bus (c : Nat) (v : Channel) : (setChan s c v).bus = s.bus := rfl
@[simp] theorem setChan_rng (c : Nat) (v : Channel) : (setChan s c v).rng = s.rng := rfl
@[simp] theorem setChan_free (c : Nat) (v : Channel) : (setChan s c v).free = s.free := rfl
@[simp] theorem setChan_pins (c : Nat) (v : Channel) : (setChan s c v).pins = s.pins := rfl
@[simp] theorem setChan_vlog (c : Nat) (v : Channel) : (setChan s c v).vlog = s.vlog := rfl
@[simp] theorem setChan_own (c : Nat) (v : Channel) : (setChan s c v).own = s.own := rfl
@[simp] theorem setChan_cfg (c : Nat) (v : Channel) : (setChan s c v).cfg = s.cfg := rfl
@[simp] theorem setChan_pace (c : Nat) (v : Channel) : (setChan s c v).pace = s.pace := rfl
@[simp] theorem setChan_power (c : Nat) (v : Channel) : (setChan s c v).power = s.power := rfl
@[simp] theorem setChan_cnt (c : Nat) (v : Channel) : (setChan s c v).cnt = s.cnt := rfl
@[simp] theorem setChan_lanes (c : Nat) (v : Channel) : (setChan s c v).lanes = s.lanes := rfl
@[simp] theorem setChan_ctxs (c : Nat) (v : Channel) : (setChan s c v).ctxs = s.ctxs := rfl
@[simp] theorem setChan_laneTags (c : Nat) (v : Channel) : (setChan s c v).laneTags = s.laneTags := rfl
@[simp] theorem setChan_cust (c : Nat) (v : Channel) : (setChan s c v).cust = s.cust := rfl
@[simp] theorem setChan_mapc (c : Nat) (v : Channel) : (setChan s c v).mapc = s.mapc := rfl
@[simp] theorem setChan_tree (c : Nat) (v : Channel) : (setChan s c v).tree = s.tree := rfl
@[simp] theorem setChan_tiles (c : Nat) (v : Channel) : (setChan s c v).tiles = s.tiles := rfl
@[simp] theorem setChan_bg (c : Nat) (v : Channel) : (setChan s c v).bg = s.bg := rfl
@[simp] theorem setChan_flt (c : Nat) (v : Channel) : (setChan s c v).flt = s.flt := rfl
@[simp] theorem setChan_dram (c : Nat) (v : Channel) : (setChan s c v).dram = s.dram := rfl
@[simp] theorem setChan_keys (c : Nat) (v : Channel) : (setChan s c v).keys = s.keys := rfl
@[simp] theorem setChan_vault (c : Nat) (v : Channel) : (setChan s c v).vault = s.vault := rfl
@[simp] theorem setChan_otp (c : Nat) (v : Channel) : (setChan s c v).otp = s.otp := rfl
@[simp] theorem setChan_lc (c : Nat) (v : Channel) : (setChan s c v).lc = s.lc := rfl
@[simp] theorem setChan_tamper (c : Nat) (v : Channel) : (setChan s c v).tamper = s.tamper := rfl
@[simp] theorem setChan_nvm (c : Nat) (v : Channel) : (setChan s c v).nvm = s.nvm := rfl
@[simp] theorem setChan_boot (c : Nat) (v : Channel) : (setChan s c v).boot = s.boot := rfl
@[simp] theorem setChan_miles (c : Nat) (v : Channel) : (setChan s c v).miles = s.miles := rfl
@[simp] theorem setChan_rcpt (c : Nat) (v : Channel) : (setChan s c v).rcpt = s.rcpt := rfl
@[simp] theorem setChan_rns (c : Nat) (v : Channel) : (setChan s c v).rns = s.rns := rfl
@[simp] theorem setChan_dig (c : Nat) (v : Channel) : (setChan s c v).dig = s.dig := rfl
@[simp] theorem setChan_relay (c : Nat) (v : Channel) : (setChan s c v).relay = s.relay := rfl
@[simp] theorem setChan_sleepImage (c : Nat) (v : Channel) : (setChan s c v).sleepImage = s.sleepImage := rfl
@[simp] theorem setChan_pages (c : Nat) (v : Channel) : (setChan s c v).pages = s.pages := rfl

/-! ### setShadow -/

@[simp] theorem setShadow_pending (off : Nat) (v : W32) : (setShadow s off v).pending = s.pending := rfl
@[simp] theorem setShadow_bus (off : Nat) (v : W32) : (setShadow s off v).bus = s.bus := rfl
@[simp] theorem setShadow_rng (off : Nat) (v : W32) : (setShadow s off v).rng = s.rng := rfl
@[simp] theorem setShadow_free (off : Nat) (v : W32) : (setShadow s off v).free = s.free := rfl
@[simp] theorem setShadow_pins (off : Nat) (v : W32) : (setShadow s off v).pins = s.pins := rfl
@[simp] theorem setShadow_vlog (off : Nat) (v : W32) : (setShadow s off v).vlog = s.vlog := rfl
@[simp] theorem setShadow_own (off : Nat) (v : W32) : (setShadow s off v).own = s.own := rfl
@[simp] theorem setShadow_mbox (off : Nat) (v : W32) : (setShadow s off v).mbox = s.mbox := rfl
@[simp] theorem setShadow_pace (off : Nat) (v : W32) : (setShadow s off v).pace = s.pace := rfl
@[simp] theorem setShadow_power (off : Nat) (v : W32) : (setShadow s off v).power = s.power := rfl
@[simp] theorem setShadow_cnt (off : Nat) (v : W32) : (setShadow s off v).cnt = s.cnt := rfl
@[simp] theorem setShadow_lanes (off : Nat) (v : W32) : (setShadow s off v).lanes = s.lanes := rfl
@[simp] theorem setShadow_ctxs (off : Nat) (v : W32) : (setShadow s off v).ctxs = s.ctxs := rfl
@[simp] theorem setShadow_laneTags (off : Nat) (v : W32) : (setShadow s off v).laneTags = s.laneTags := rfl
@[simp] theorem setShadow_cust (off : Nat) (v : W32) : (setShadow s off v).cust = s.cust := rfl
@[simp] theorem setShadow_mapc (off : Nat) (v : W32) : (setShadow s off v).mapc = s.mapc := rfl
@[simp] theorem setShadow_tree (off : Nat) (v : W32) : (setShadow s off v).tree = s.tree := rfl
@[simp] theorem setShadow_tiles (off : Nat) (v : W32) : (setShadow s off v).tiles = s.tiles := rfl
@[simp] theorem setShadow_bg (off : Nat) (v : W32) : (setShadow s off v).bg = s.bg := rfl
@[simp] theorem setShadow_flt (off : Nat) (v : W32) : (setShadow s off v).flt = s.flt := rfl
@[simp] theorem setShadow_dram (off : Nat) (v : W32) : (setShadow s off v).dram = s.dram := rfl
@[simp] theorem setShadow_keys (off : Nat) (v : W32) : (setShadow s off v).keys = s.keys := rfl
@[simp] theorem setShadow_vault (off : Nat) (v : W32) : (setShadow s off v).vault = s.vault := rfl
@[simp] theorem setShadow_otp (off : Nat) (v : W32) : (setShadow s off v).otp = s.otp := rfl
@[simp] theorem setShadow_lc (off : Nat) (v : W32) : (setShadow s off v).lc = s.lc := rfl
@[simp] theorem setShadow_tamper (off : Nat) (v : W32) : (setShadow s off v).tamper = s.tamper := rfl
@[simp] theorem setShadow_nvm (off : Nat) (v : W32) : (setShadow s off v).nvm = s.nvm := rfl
@[simp] theorem setShadow_boot (off : Nat) (v : W32) : (setShadow s off v).boot = s.boot := rfl
@[simp] theorem setShadow_miles (off : Nat) (v : W32) : (setShadow s off v).miles = s.miles := rfl
@[simp] theorem setShadow_rcpt (off : Nat) (v : W32) : (setShadow s off v).rcpt = s.rcpt := rfl
@[simp] theorem setShadow_rns (off : Nat) (v : W32) : (setShadow s off v).rns = s.rns := rfl
@[simp] theorem setShadow_dig (off : Nat) (v : W32) : (setShadow s off v).dig = s.dig := rfl
@[simp] theorem setShadow_relay (off : Nat) (v : W32) : (setShadow s off v).relay = s.relay := rfl
@[simp] theorem setShadow_sleepImage (off : Nat) (v : W32) : (setShadow s off v).sleepImage = s.sleepImage := rfl
@[simp] theorem setShadow_pages (off : Nat) (v : W32) : (setShadow s off v).pages = s.pages := rfl

/-! ### setPlain -/

@[simp] theorem setPlain_pending (off : Nat) (v : W32) : (setPlain s off v).pending = s.pending := rfl
@[simp] theorem setPlain_bus (off : Nat) (v : W32) : (setPlain s off v).bus = s.bus := rfl
@[simp] theorem setPlain_rng (off : Nat) (v : W32) : (setPlain s off v).rng = s.rng := rfl
@[simp] theorem setPlain_free (off : Nat) (v : W32) : (setPlain s off v).free = s.free := rfl
@[simp] theorem setPlain_pins (off : Nat) (v : W32) : (setPlain s off v).pins = s.pins := rfl
@[simp] theorem setPlain_vlog (off : Nat) (v : W32) : (setPlain s off v).vlog = s.vlog := rfl
@[simp] theorem setPlain_own (off : Nat) (v : W32) : (setPlain s off v).own = s.own := rfl
@[simp] theorem setPlain_mbox (off : Nat) (v : W32) : (setPlain s off v).mbox = s.mbox := rfl
@[simp] theorem setPlain_pace (off : Nat) (v : W32) : (setPlain s off v).pace = s.pace := rfl
@[simp] theorem setPlain_power (off : Nat) (v : W32) : (setPlain s off v).power = s.power := rfl
@[simp] theorem setPlain_cnt (off : Nat) (v : W32) : (setPlain s off v).cnt = s.cnt := rfl
@[simp] theorem setPlain_lanes (off : Nat) (v : W32) : (setPlain s off v).lanes = s.lanes := rfl
@[simp] theorem setPlain_ctxs (off : Nat) (v : W32) : (setPlain s off v).ctxs = s.ctxs := rfl
@[simp] theorem setPlain_laneTags (off : Nat) (v : W32) : (setPlain s off v).laneTags = s.laneTags := rfl
@[simp] theorem setPlain_cust (off : Nat) (v : W32) : (setPlain s off v).cust = s.cust := rfl
@[simp] theorem setPlain_mapc (off : Nat) (v : W32) : (setPlain s off v).mapc = s.mapc := rfl
@[simp] theorem setPlain_tree (off : Nat) (v : W32) : (setPlain s off v).tree = s.tree := rfl
@[simp] theorem setPlain_tiles (off : Nat) (v : W32) : (setPlain s off v).tiles = s.tiles := rfl
@[simp] theorem setPlain_bg (off : Nat) (v : W32) : (setPlain s off v).bg = s.bg := rfl
@[simp] theorem setPlain_flt (off : Nat) (v : W32) : (setPlain s off v).flt = s.flt := rfl
@[simp] theorem setPlain_dram (off : Nat) (v : W32) : (setPlain s off v).dram = s.dram := rfl
@[simp] theorem setPlain_keys (off : Nat) (v : W32) : (setPlain s off v).keys = s.keys := rfl
@[simp] theorem setPlain_vault (off : Nat) (v : W32) : (setPlain s off v).vault = s.vault := rfl
@[simp] theorem setPlain_otp (off : Nat) (v : W32) : (setPlain s off v).otp = s.otp := rfl
@[simp] theorem setPlain_lc (off : Nat) (v : W32) : (setPlain s off v).lc = s.lc := rfl
@[simp] theorem setPlain_tamper (off : Nat) (v : W32) : (setPlain s off v).tamper = s.tamper := rfl
@[simp] theorem setPlain_nvm (off : Nat) (v : W32) : (setPlain s off v).nvm = s.nvm := rfl
@[simp] theorem setPlain_boot (off : Nat) (v : W32) : (setPlain s off v).boot = s.boot := rfl
@[simp] theorem setPlain_miles (off : Nat) (v : W32) : (setPlain s off v).miles = s.miles := rfl
@[simp] theorem setPlain_rcpt (off : Nat) (v : W32) : (setPlain s off v).rcpt = s.rcpt := rfl
@[simp] theorem setPlain_rns (off : Nat) (v : W32) : (setPlain s off v).rns = s.rns := rfl
@[simp] theorem setPlain_dig (off : Nat) (v : W32) : (setPlain s off v).dig = s.dig := rfl
@[simp] theorem setPlain_relay (off : Nat) (v : W32) : (setPlain s off v).relay = s.relay := rfl
@[simp] theorem setPlain_sleepImage (off : Nat) (v : W32) : (setPlain s off v).sleepImage = s.sleepImage := rfl
@[simp] theorem setPlain_pages (off : Nat) (v : W32) : (setPlain s off v).pages = s.pages := rfl

/-! ### setBoth -/

@[simp] theorem setBoth_pending (off : Nat) (v : W32) : (setBoth s off v).pending = s.pending := rfl
@[simp] theorem setBoth_bus (off : Nat) (v : W32) : (setBoth s off v).bus = s.bus := rfl
@[simp] theorem setBoth_rng (off : Nat) (v : W32) : (setBoth s off v).rng = s.rng := rfl
@[simp] theorem setBoth_free (off : Nat) (v : W32) : (setBoth s off v).free = s.free := rfl
@[simp] theorem setBoth_pins (off : Nat) (v : W32) : (setBoth s off v).pins = s.pins := rfl
@[simp] theorem setBoth_vlog (off : Nat) (v : W32) : (setBoth s off v).vlog = s.vlog := rfl
@[simp] theorem setBoth_own (off : Nat) (v : W32) : (setBoth s off v).own = s.own := rfl
@[simp] theorem setBoth_mbox (off : Nat) (v : W32) : (setBoth s off v).mbox = s.mbox := rfl
@[simp] theorem setBoth_pace (off : Nat) (v : W32) : (setBoth s off v).pace = s.pace := rfl
@[simp] theorem setBoth_power (off : Nat) (v : W32) : (setBoth s off v).power = s.power := rfl
@[simp] theorem setBoth_cnt (off : Nat) (v : W32) : (setBoth s off v).cnt = s.cnt := rfl
@[simp] theorem setBoth_lanes (off : Nat) (v : W32) : (setBoth s off v).lanes = s.lanes := rfl
@[simp] theorem setBoth_ctxs (off : Nat) (v : W32) : (setBoth s off v).ctxs = s.ctxs := rfl
@[simp] theorem setBoth_laneTags (off : Nat) (v : W32) : (setBoth s off v).laneTags = s.laneTags := rfl
@[simp] theorem setBoth_cust (off : Nat) (v : W32) : (setBoth s off v).cust = s.cust := rfl
@[simp] theorem setBoth_mapc (off : Nat) (v : W32) : (setBoth s off v).mapc = s.mapc := rfl
@[simp] theorem setBoth_tree (off : Nat) (v : W32) : (setBoth s off v).tree = s.tree := rfl
@[simp] theorem setBoth_tiles (off : Nat) (v : W32) : (setBoth s off v).tiles = s.tiles := rfl
@[simp] theorem setBoth_bg (off : Nat) (v : W32) : (setBoth s off v).bg = s.bg := rfl
@[simp] theorem setBoth_flt (off : Nat) (v : W32) : (setBoth s off v).flt = s.flt := rfl
@[simp] theorem setBoth_dram (off : Nat) (v : W32) : (setBoth s off v).dram = s.dram := rfl
@[simp] theorem setBoth_keys (off : Nat) (v : W32) : (setBoth s off v).keys = s.keys := rfl
@[simp] theorem setBoth_vault (off : Nat) (v : W32) : (setBoth s off v).vault = s.vault := rfl
@[simp] theorem setBoth_otp (off : Nat) (v : W32) : (setBoth s off v).otp = s.otp := rfl
@[simp] theorem setBoth_lc (off : Nat) (v : W32) : (setBoth s off v).lc = s.lc := rfl
@[simp] theorem setBoth_tamper (off : Nat) (v : W32) : (setBoth s off v).tamper = s.tamper := rfl
@[simp] theorem setBoth_nvm (off : Nat) (v : W32) : (setBoth s off v).nvm = s.nvm := rfl
@[simp] theorem setBoth_boot (off : Nat) (v : W32) : (setBoth s off v).boot = s.boot := rfl
@[simp] theorem setBoth_miles (off : Nat) (v : W32) : (setBoth s off v).miles = s.miles := rfl
@[simp] theorem setBoth_rcpt (off : Nat) (v : W32) : (setBoth s off v).rcpt = s.rcpt := rfl
@[simp] theorem setBoth_rns (off : Nat) (v : W32) : (setBoth s off v).rns = s.rns := rfl
@[simp] theorem setBoth_dig (off : Nat) (v : W32) : (setBoth s off v).dig = s.dig := rfl
@[simp] theorem setBoth_relay (off : Nat) (v : W32) : (setBoth s off v).relay = s.relay := rfl
@[simp] theorem setBoth_sleepImage (off : Nat) (v : W32) : (setBoth s off v).sleepImage = s.sleepImage := rfl
@[simp] theorem setBoth_pages (off : Nat) (v : W32) : (setBoth s off v).pages = s.pages := rfl

/-! ### violate -/

@[simp] theorem violate_pending (port kind : BitVec 8) (mid : Option Mid) : (violate s port kind mid).pending = s.pending := rfl
@[simp] theorem violate_bus (port kind : BitVec 8) (mid : Option Mid) : (violate s port kind mid).bus = s.bus := rfl
@[simp] theorem violate_rng (port kind : BitVec 8) (mid : Option Mid) : (violate s port kind mid).rng = s.rng := rfl
@[simp] theorem violate_free (port kind : BitVec 8) (mid : Option Mid) : (violate s port kind mid).free = s.free := rfl
@[simp] theorem violate_pins (port kind : BitVec 8) (mid : Option Mid) : (violate s port kind mid).pins = s.pins := rfl
@[simp] theorem violate_own (port kind : BitVec 8) (mid : Option Mid) : (violate s port kind mid).own = s.own := rfl
@[simp] theorem violate_cfg (port kind : BitVec 8) (mid : Option Mid) : (violate s port kind mid).cfg = s.cfg := rfl
@[simp] theorem violate_mbox (port kind : BitVec 8) (mid : Option Mid) : (violate s port kind mid).mbox = s.mbox := rfl
@[simp] theorem violate_pace (port kind : BitVec 8) (mid : Option Mid) : (violate s port kind mid).pace = s.pace := rfl
@[simp] theorem violate_power (port kind : BitVec 8) (mid : Option Mid) : (violate s port kind mid).power = s.power := rfl
@[simp] theorem violate_cnt (port kind : BitVec 8) (mid : Option Mid) : (violate s port kind mid).cnt = s.cnt := rfl
@[simp] theorem violate_lanes (port kind : BitVec 8) (mid : Option Mid) : (violate s port kind mid).lanes = s.lanes := rfl
@[simp] theorem violate_ctxs (port kind : BitVec 8) (mid : Option Mid) : (violate s port kind mid).ctxs = s.ctxs := rfl
@[simp] theorem violate_laneTags (port kind : BitVec 8) (mid : Option Mid) : (violate s port kind mid).laneTags = s.laneTags := rfl
@[simp] theorem violate_cust (port kind : BitVec 8) (mid : Option Mid) : (violate s port kind mid).cust = s.cust := rfl
@[simp] theorem violate_mapc (port kind : BitVec 8) (mid : Option Mid) : (violate s port kind mid).mapc = s.mapc := rfl
@[simp] theorem violate_tree (port kind : BitVec 8) (mid : Option Mid) : (violate s port kind mid).tree = s.tree := rfl
@[simp] theorem violate_tiles (port kind : BitVec 8) (mid : Option Mid) : (violate s port kind mid).tiles = s.tiles := rfl
@[simp] theorem violate_bg (port kind : BitVec 8) (mid : Option Mid) : (violate s port kind mid).bg = s.bg := rfl
@[simp] theorem violate_flt (port kind : BitVec 8) (mid : Option Mid) : (violate s port kind mid).flt = s.flt := rfl
@[simp] theorem violate_dram (port kind : BitVec 8) (mid : Option Mid) : (violate s port kind mid).dram = s.dram := rfl
@[simp] theorem violate_keys (port kind : BitVec 8) (mid : Option Mid) : (violate s port kind mid).keys = s.keys := rfl
@[simp] theorem violate_vault (port kind : BitVec 8) (mid : Option Mid) : (violate s port kind mid).vault = s.vault := rfl
@[simp] theorem violate_otp (port kind : BitVec 8) (mid : Option Mid) : (violate s port kind mid).otp = s.otp := rfl
@[simp] theorem violate_lc (port kind : BitVec 8) (mid : Option Mid) : (violate s port kind mid).lc = s.lc := rfl
@[simp] theorem violate_tamper (port kind : BitVec 8) (mid : Option Mid) : (violate s port kind mid).tamper = s.tamper := rfl
@[simp] theorem violate_nvm (port kind : BitVec 8) (mid : Option Mid) : (violate s port kind mid).nvm = s.nvm := rfl
@[simp] theorem violate_boot (port kind : BitVec 8) (mid : Option Mid) : (violate s port kind mid).boot = s.boot := rfl
@[simp] theorem violate_miles (port kind : BitVec 8) (mid : Option Mid) : (violate s port kind mid).miles = s.miles := rfl
@[simp] theorem violate_rcpt (port kind : BitVec 8) (mid : Option Mid) : (violate s port kind mid).rcpt = s.rcpt := rfl
@[simp] theorem violate_rns (port kind : BitVec 8) (mid : Option Mid) : (violate s port kind mid).rns = s.rns := rfl
@[simp] theorem violate_dig (port kind : BitVec 8) (mid : Option Mid) : (violate s port kind mid).dig = s.dig := rfl
@[simp] theorem violate_relay (port kind : BitVec 8) (mid : Option Mid) : (violate s port kind mid).relay = s.relay := rfl
@[simp] theorem violate_sleepImage (port kind : BitVec 8) (mid : Option Mid) : (violate s port kind mid).sleepImage = s.sleepImage := rfl
@[simp] theorem violate_pages (port kind : BitVec 8) (mid : Option Mid) : (violate s port kind mid).pages = s.pages := rfl

/-! ### raiseBell -/

@[simp] theorem raiseBell_pending (c b : Nat) : (raiseBell s c b).pending = s.pending := rfl
@[simp] theorem raiseBell_bus (c b : Nat) : (raiseBell s c b).bus = s.bus := rfl
@[simp] theorem raiseBell_rng (c b : Nat) : (raiseBell s c b).rng = s.rng := rfl
@[simp] theorem raiseBell_free (c b : Nat) : (raiseBell s c b).free = s.free := rfl
@[simp] theorem raiseBell_pins (c b : Nat) : (raiseBell s c b).pins = s.pins := rfl
@[simp] theorem raiseBell_vlog (c b : Nat) : (raiseBell s c b).vlog = s.vlog := rfl
@[simp] theorem raiseBell_own (c b : Nat) : (raiseBell s c b).own = s.own := rfl
@[simp] theorem raiseBell_cfg (c b : Nat) : (raiseBell s c b).cfg = s.cfg := rfl
@[simp] theorem raiseBell_pace (c b : Nat) : (raiseBell s c b).pace = s.pace := rfl
@[simp] theorem raiseBell_power (c b : Nat) : (raiseBell s c b).power = s.power := rfl
@[simp] theorem raiseBell_cnt (c b : Nat) : (raiseBell s c b).cnt = s.cnt := rfl
@[simp] theorem raiseBell_lanes (c b : Nat) : (raiseBell s c b).lanes = s.lanes := rfl
@[simp] theorem raiseBell_ctxs (c b : Nat) : (raiseBell s c b).ctxs = s.ctxs := rfl
@[simp] theorem raiseBell_laneTags (c b : Nat) : (raiseBell s c b).laneTags = s.laneTags := rfl
@[simp] theorem raiseBell_cust (c b : Nat) : (raiseBell s c b).cust = s.cust := rfl
@[simp] theorem raiseBell_mapc (c b : Nat) : (raiseBell s c b).mapc = s.mapc := rfl
@[simp] theorem raiseBell_tree (c b : Nat) : (raiseBell s c b).tree = s.tree := rfl
@[simp] theorem raiseBell_tiles (c b : Nat) : (raiseBell s c b).tiles = s.tiles := rfl
@[simp] theorem raiseBell_bg (c b : Nat) : (raiseBell s c b).bg = s.bg := rfl
@[simp] theorem raiseBell_flt (c b : Nat) : (raiseBell s c b).flt = s.flt := rfl
@[simp] theorem raiseBell_dram (c b : Nat) : (raiseBell s c b).dram = s.dram := rfl
@[simp] theorem raiseBell_keys (c b : Nat) : (raiseBell s c b).keys = s.keys := rfl
@[simp] theorem raiseBell_vault (c b : Nat) : (raiseBell s c b).vault = s.vault := rfl
@[simp] theorem raiseBell_otp (c b : Nat) : (raiseBell s c b).otp = s.otp := rfl
@[simp] theorem raiseBell_lc (c b : Nat) : (raiseBell s c b).lc = s.lc := rfl
@[simp] theorem raiseBell_tamper (c b : Nat) : (raiseBell s c b).tamper = s.tamper := rfl
@[simp] theorem raiseBell_nvm (c b : Nat) : (raiseBell s c b).nvm = s.nvm := rfl
@[simp] theorem raiseBell_boot (c b : Nat) : (raiseBell s c b).boot = s.boot := rfl
@[simp] theorem raiseBell_miles (c b : Nat) : (raiseBell s c b).miles = s.miles := rfl
@[simp] theorem raiseBell_rcpt (c b : Nat) : (raiseBell s c b).rcpt = s.rcpt := rfl
@[simp] theorem raiseBell_rns (c b : Nat) : (raiseBell s c b).rns = s.rns := rfl
@[simp] theorem raiseBell_dig (c b : Nat) : (raiseBell s c b).dig = s.dig := rfl
@[simp] theorem raiseBell_relay (c b : Nat) : (raiseBell s c b).relay = s.relay := rfl
@[simp] theorem raiseBell_sleepImage (c b : Nat) : (raiseBell s c b).sleepImage = s.sleepImage := rfl
@[simp] theorem raiseBell_pages (c b : Nat) : (raiseBell s c b).pages = s.pages := rfl

/-! ### requestExtend -/

@[simp] theorem requestExtend_pending (j : Nat) (d : Octets) : (requestExtend s j d).pending = s.pending := rfl
@[simp] theorem requestExtend_bus (j : Nat) (d : Octets) : (requestExtend s j d).bus = s.bus := rfl
@[simp] theorem requestExtend_rng (j : Nat) (d : Octets) : (requestExtend s j d).rng = s.rng := rfl
@[simp] theorem requestExtend_free (j : Nat) (d : Octets) : (requestExtend s j d).free = s.free := rfl
@[simp] theorem requestExtend_pins (j : Nat) (d : Octets) : (requestExtend s j d).pins = s.pins := rfl
@[simp] theorem requestExtend_vlog (j : Nat) (d : Octets) : (requestExtend s j d).vlog = s.vlog := rfl
@[simp] theorem requestExtend_own (j : Nat) (d : Octets) : (requestExtend s j d).own = s.own := rfl
@[simp] theorem requestExtend_cfg (j : Nat) (d : Octets) : (requestExtend s j d).cfg = s.cfg := rfl
@[simp] theorem requestExtend_mbox (j : Nat) (d : Octets) : (requestExtend s j d).mbox = s.mbox := rfl
@[simp] theorem requestExtend_pace (j : Nat) (d : Octets) : (requestExtend s j d).pace = s.pace := rfl
@[simp] theorem requestExtend_power (j : Nat) (d : Octets) : (requestExtend s j d).power = s.power := rfl
@[simp] theorem requestExtend_cnt (j : Nat) (d : Octets) : (requestExtend s j d).cnt = s.cnt := rfl
@[simp] theorem requestExtend_lanes (j : Nat) (d : Octets) : (requestExtend s j d).lanes = s.lanes := rfl
@[simp] theorem requestExtend_ctxs (j : Nat) (d : Octets) : (requestExtend s j d).ctxs = s.ctxs := rfl
@[simp] theorem requestExtend_laneTags (j : Nat) (d : Octets) : (requestExtend s j d).laneTags = s.laneTags := rfl
@[simp] theorem requestExtend_cust (j : Nat) (d : Octets) : (requestExtend s j d).cust = s.cust := rfl
@[simp] theorem requestExtend_mapc (j : Nat) (d : Octets) : (requestExtend s j d).mapc = s.mapc := rfl
@[simp] theorem requestExtend_tree (j : Nat) (d : Octets) : (requestExtend s j d).tree = s.tree := rfl
@[simp] theorem requestExtend_tiles (j : Nat) (d : Octets) : (requestExtend s j d).tiles = s.tiles := rfl
@[simp] theorem requestExtend_bg (j : Nat) (d : Octets) : (requestExtend s j d).bg = s.bg := rfl
@[simp] theorem requestExtend_flt (j : Nat) (d : Octets) : (requestExtend s j d).flt = s.flt := rfl
@[simp] theorem requestExtend_dram (j : Nat) (d : Octets) : (requestExtend s j d).dram = s.dram := rfl
@[simp] theorem requestExtend_keys (j : Nat) (d : Octets) : (requestExtend s j d).keys = s.keys := rfl
@[simp] theorem requestExtend_vault (j : Nat) (d : Octets) : (requestExtend s j d).vault = s.vault := rfl
@[simp] theorem requestExtend_otp (j : Nat) (d : Octets) : (requestExtend s j d).otp = s.otp := rfl
@[simp] theorem requestExtend_lc (j : Nat) (d : Octets) : (requestExtend s j d).lc = s.lc := rfl
@[simp] theorem requestExtend_tamper (j : Nat) (d : Octets) : (requestExtend s j d).tamper = s.tamper := rfl
@[simp] theorem requestExtend_nvm (j : Nat) (d : Octets) : (requestExtend s j d).nvm = s.nvm := rfl
@[simp] theorem requestExtend_boot (j : Nat) (d : Octets) : (requestExtend s j d).boot = s.boot := rfl
@[simp] theorem requestExtend_rcpt (j : Nat) (d : Octets) : (requestExtend s j d).rcpt = s.rcpt := rfl
@[simp] theorem requestExtend_rns (j : Nat) (d : Octets) : (requestExtend s j d).rns = s.rns := rfl
@[simp] theorem requestExtend_dig (j : Nat) (d : Octets) : (requestExtend s j d).dig = s.dig := rfl
@[simp] theorem requestExtend_relay (j : Nat) (d : Octets) : (requestExtend s j d).relay = s.relay := rfl
@[simp] theorem requestExtend_sleepImage (j : Nat) (d : Octets) : (requestExtend s j d).sleepImage = s.sleepImage := rfl
@[simp] theorem requestExtend_pages (j : Nat) (d : Octets) : (requestExtend s j d).pages = s.pages := rfl

/-! ### dropShadows -/

@[simp] theorem dropShadows_pending : (dropShadows s).pending = s.pending := rfl
@[simp] theorem dropShadows_bus : (dropShadows s).bus = s.bus := rfl
@[simp] theorem dropShadows_rng : (dropShadows s).rng = s.rng := rfl
@[simp] theorem dropShadows_free : (dropShadows s).free = s.free := rfl
@[simp] theorem dropShadows_pins : (dropShadows s).pins = s.pins := rfl
@[simp] theorem dropShadows_vlog : (dropShadows s).vlog = s.vlog := rfl
@[simp] theorem dropShadows_own : (dropShadows s).own = s.own := rfl
@[simp] theorem dropShadows_mbox : (dropShadows s).mbox = s.mbox := rfl
@[simp] theorem dropShadows_pace : (dropShadows s).pace = s.pace := rfl
@[simp] theorem dropShadows_power : (dropShadows s).power = s.power := rfl
@[simp] theorem dropShadows_cnt : (dropShadows s).cnt = s.cnt := rfl
@[simp] theorem dropShadows_lanes : (dropShadows s).lanes = s.lanes := rfl
@[simp] theorem dropShadows_ctxs : (dropShadows s).ctxs = s.ctxs := rfl
@[simp] theorem dropShadows_laneTags : (dropShadows s).laneTags = s.laneTags := rfl
@[simp] theorem dropShadows_cust : (dropShadows s).cust = s.cust := rfl
@[simp] theorem dropShadows_mapc : (dropShadows s).mapc = s.mapc := rfl
@[simp] theorem dropShadows_tree : (dropShadows s).tree = s.tree := rfl
@[simp] theorem dropShadows_tiles : (dropShadows s).tiles = s.tiles := rfl
@[simp] theorem dropShadows_bg : (dropShadows s).bg = s.bg := rfl
@[simp] theorem dropShadows_flt : (dropShadows s).flt = s.flt := rfl
@[simp] theorem dropShadows_dram : (dropShadows s).dram = s.dram := rfl
@[simp] theorem dropShadows_keys : (dropShadows s).keys = s.keys := rfl
@[simp] theorem dropShadows_vault : (dropShadows s).vault = s.vault := rfl
@[simp] theorem dropShadows_otp : (dropShadows s).otp = s.otp := rfl
@[simp] theorem dropShadows_lc : (dropShadows s).lc = s.lc := rfl
@[simp] theorem dropShadows_tamper : (dropShadows s).tamper = s.tamper := rfl
@[simp] theorem dropShadows_nvm : (dropShadows s).nvm = s.nvm := rfl
@[simp] theorem dropShadows_boot : (dropShadows s).boot = s.boot := rfl
@[simp] theorem dropShadows_miles : (dropShadows s).miles = s.miles := rfl
@[simp] theorem dropShadows_rcpt : (dropShadows s).rcpt = s.rcpt := rfl
@[simp] theorem dropShadows_rns : (dropShadows s).rns = s.rns := rfl
@[simp] theorem dropShadows_dig : (dropShadows s).dig = s.dig := rfl
@[simp] theorem dropShadows_relay : (dropShadows s).relay = s.relay := rfl
@[simp] theorem dropShadows_sleepImage : (dropShadows s).sleepImage = s.sleepImage := rfl
@[simp] theorem dropShadows_pages : (dropShadows s).pages = s.pages := rfl

/-! ### ended -/

@[simp] theorem ended_rng (t : State) : (ended s t).rng = t.rng := rfl
@[simp] theorem ended_free (t : State) : (ended s t).free = t.free := rfl
@[simp] theorem ended_vlog (t : State) : (ended s t).vlog = t.vlog := rfl
@[simp] theorem ended_own (t : State) : (ended s t).own = t.own := rfl
@[simp] theorem ended_cfg (t : State) : (ended s t).cfg = t.cfg := rfl
@[simp] theorem ended_mbox (t : State) : (ended s t).mbox = t.mbox := rfl
@[simp] theorem ended_pace (t : State) : (ended s t).pace = t.pace := rfl
@[simp] theorem ended_power (t : State) : (ended s t).power = t.power := rfl
@[simp] theorem ended_cnt (t : State) : (ended s t).cnt = t.cnt := rfl
@[simp] theorem ended_lanes (t : State) : (ended s t).lanes = t.lanes := rfl
@[simp] theorem ended_ctxs (t : State) : (ended s t).ctxs = t.ctxs := rfl
@[simp] theorem ended_laneTags (t : State) : (ended s t).laneTags = t.laneTags := rfl
@[simp] theorem ended_cust (t : State) : (ended s t).cust = t.cust := rfl
@[simp] theorem ended_mapc (t : State) : (ended s t).mapc = t.mapc := rfl
@[simp] theorem ended_tree (t : State) : (ended s t).tree = t.tree := rfl
@[simp] theorem ended_tiles (t : State) : (ended s t).tiles = t.tiles := rfl
@[simp] theorem ended_bg (t : State) : (ended s t).bg = t.bg := rfl
@[simp] theorem ended_flt (t : State) : (ended s t).flt = t.flt := rfl
@[simp] theorem ended_dram (t : State) : (ended s t).dram = t.dram := rfl
@[simp] theorem ended_keys (t : State) : (ended s t).keys = t.keys := rfl
@[simp] theorem ended_vault (t : State) : (ended s t).vault = t.vault := rfl
@[simp] theorem ended_otp (t : State) : (ended s t).otp = t.otp := rfl
@[simp] theorem ended_lc (t : State) : (ended s t).lc = t.lc := rfl
@[simp] theorem ended_tamper (t : State) : (ended s t).tamper = t.tamper := rfl
@[simp] theorem ended_nvm (t : State) : (ended s t).nvm = t.nvm := rfl
@[simp] theorem ended_boot (t : State) : (ended s t).boot = t.boot := rfl
@[simp] theorem ended_miles (t : State) : (ended s t).miles = t.miles := rfl
@[simp] theorem ended_rcpt (t : State) : (ended s t).rcpt = t.rcpt := rfl
@[simp] theorem ended_rns (t : State) : (ended s t).rns = t.rns := rfl
@[simp] theorem ended_dig (t : State) : (ended s t).dig = t.dig := rfl
@[simp] theorem ended_relay (t : State) : (ended s t).relay = t.relay := rfl
@[simp] theorem ended_sleepImage (t : State) : (ended s t).sleepImage = t.sleepImage := rfl
@[simp] theorem ended_pages (t : State) : (ended s t).pages = t.pages := rfl
@[simp] theorem ended_pending (t : State) : (ended s t).pending = s.pending := rfl
@[simp] theorem ended_bus (t : State) : (ended s t).bus = [] := rfl
@[simp] theorem ended_porstN (t : State) : (ended s t).pins.porstN = s.pins.porstN := rfl
@[simp] theorem ended_vddCore (t : State) : (ended s t).pins.vddCore = s.pins.vddCore := rfl
@[simp] theorem ended_vddVault (t : State) : (ended s t).pins.vddVault = s.pins.vddVault := rfl
@[simp] theorem ended_gates (t : State) : (ended s t).pins.gates = t.pins.gates := rfl
@[simp] theorem ended_tamperOut (t : State) : (ended s t).pins.tamperOut = t.pins.tamperOut := rfl
@[simp] theorem ended_ctlRdata (t : State) : (ended s t).pins.ctlRdata = t.pins.ctlRdata := rfl
@[simp] theorem powered_ended (t : State) : powered (ended s t) = powered s := rfl

/-! ### Readings -/

/-- The counters after one was raised (R123, R485). -/
theorem counter_count (off n off' : Nat) :
    counter (count s off n) off' = if off' = off then counter s off + BitVec.ofNat 64 n else counter s off' := by
  simp only [counter, count, tget_tset]

/-- The counters after one was cleared. -/
theorem counter_clearCounter (off off' : Nat) : counter (clearCounter s off) off' = if off' = off then 0 else counter s off' := by
  simp only [counter, clearCounter, tget_tset]

@[simp] theorem laneAt_setLane_same (l : Nat) (v : Lane) : laneAt (setLane s l v) l = v := by simp [laneAt, setLane]

theorem laneAt_setLane_ne {l l' : Nat} (v : Lane) (h : l' ≠ l) : laneAt (setLane s l v) l' = laneAt s l' := by
  simp only [laneAt, setLane, tget_eq]
  by_cases hv : v = laneReset l
  · simp only [tset, hv, if_true]; rw [tfind_tdel_ne _ h]
  · simp only [tset, hv, if_false]; rw [tfind_tput_ne _ _ h]

@[simp] theorem ctxAt_setCtx_same (c : Nat) (v : Ctx) : ctxAt (setCtx s c v) c = v := by simp [ctxAt, setCtx]

theorem ctxAt_setCtx_ne {c c' : Nat} (v : Ctx) (h : c' ≠ c) : ctxAt (setCtx s c v) c' = ctxAt s c' := by
  simp only [ctxAt, setCtx, tget_eq]
  by_cases hv : v = ctxReset c
  · simp only [tset, hv, if_true]; rw [tfind_tdel_ne _ h]
  · simp only [tset, hv, if_false]; rw [tfind_tput_ne _ _ h]

/-- The channels after one was written. -/
theorem chanAt_setChan (c c' : Nat) (v : Channel) : chanAt (setChan s c v) c' = if c' = c then v else chanAt s c' := by
  simp only [chanAt, setChan, tget_tset]

@[simp] theorem chanAt_setChan_same (c : Nat) (v : Channel) : chanAt (setChan s c v) c = v := by simp [chanAt_setChan]

theorem chanAt_setChan_ne {c c' : Nat} (v : Channel) (h : c' ≠ c) : chanAt (setChan s c v) c' = chanAt s c' := by
  simp [chanAt_setChan, h]

@[simp] theorem laneAt_setChan (c l : Nat) (v : Channel) : laneAt (setChan s c v) l = laneAt s l := rfl
@[simp] theorem ctxAt_setChan (c d : Nat) (v : Channel) : ctxAt (setChan s c v) d = ctxAt s d := rfl
@[simp] theorem laneAt_setCtx (c l : Nat) (v : Ctx) : laneAt (setCtx s c v) l = laneAt s l := rfl
@[simp] theorem ctxAt_setLane (l c : Nat) (v : Lane) : ctxAt (setLane s l v) c = ctxAt s c := rfl
@[simp] theorem chanAt_setLane (l c : Nat) (v : Lane) : chanAt (setLane s l v) c = chanAt s c := rfl
@[simp] theorem chanAt_setCtx (d c : Nat) (v : Ctx) : chanAt (setCtx s d v) c = chanAt s c := rfl
@[simp] theorem chanAt_ended (t : State) (c : Nat) : chanAt (ended s t) c = chanAt t c := rfl
@[simp] theorem laneAt_ended (t : State) (l : Nat) : laneAt (ended s t) l = laneAt t l := rfl
@[simp] theorem ctxAt_ended (t : State) (c : Nat) : ctxAt (ended s t) c = ctxAt t c := rfl

/-- Doorbell bits raised on several channels change nothing but channels. -/
theorem raiseBells_frame (cs : List Nat) (b : Nat) : ∃ m, raiseBells s cs b = { s with mbox := m } := by
  induction cs generalizing s with
  | nil => exact ⟨s.mbox, rfl⟩
  | cons c cs ih =>
    obtain ⟨m, hm⟩ := ih (raiseBell s c b)
    exact ⟨m, by simpa [raiseBells, raiseBell, setChan] using hm⟩

/-- An answer changes nothing but its channel. -/
theorem answerRunning_frame (c : Nat) (st : BitVec 8) (ws : List W32) : ∃ m, answerRunning s c st ws = { s with mbox := m } := by
  simp only [answerRunning]
  cases h : (chanAt s c).running with
  | none => exact ⟨s.mbox, rfl⟩
  | some r => exact ⟨_, rfl⟩

/-- Telling every active channel and extending a milepost changes channels and the milepost queue. -/
theorem told_frame (b j : Nat) (d : Octets) : ∃ m q, requestExtend (raiseBells s (channelsWhere s (isActive s)) b) j d =
    { s with mbox := m, miles := { s.miles with queue := q } } := by
  obtain ⟨m, hm⟩ := raiseBells_frame s (channelsWhere s (isActive s)) b
  exact ⟨m, _, by rw [hm]; rfl⟩

/-- A change of owner: GENERATION rises and the shadows return to their active values; of the rest only doorbells and the milepost queue
change (R76). -/
theorem ownerChanged_frame : ∃ m q, ownerChanged s =
    { dropShadows { s with own := { s.own with gen := s.own.gen + 1 } } with mbox := m, miles := { s.miles with queue := q } } :=
  told_frame _ _ _ _

/-! ### A step -/

/-- A command that needs power, on a block that has it. -/
theorem live_powered {f : State → State} (h : powered s = true) : live s f = .next (ended s (f s)) := by simp [live, h]

/-- A command that needs power, on a block held in reset or without supply. -/
theorem live_held {f : State → State} (h : powered s = false) : live s f = .next s := by simp [live, h]

/-- The same for a command with answers of the memory controller. -/
theorem onBus_powered {bus : Bus} {f : State → State} (h : powered s = true) :
    onBus s bus f = .next (ended s (f { s with bus := bus })) := live_powered s h

theorem onBus_held {bus : Bus} {f : State → State} (h : powered s = false) : onBus s bus f = .next s := live_held s h

end Sys2Proof.Machine
end

