-- ==== Sys2Proof/Laws/Mailbox.lean ====
section
/-!
SUPPORT. What the controller does with the request it picks, and what an answer, a ticket and its end leave of the mailboxes.
-/

namespace Sys2Proof.Laws

open Sys2Proof Sys2Proof.Machine Sys2Proof.Safety

/-! ### A request that starts -/

/-- A started request runs its row's body. -/
theorem service_started {s t : State} {op : Nat} {k : Call} (h : Started s op k t) (body : Call → State → State) :
    service op s body = body k t := by
  obtain ⟨⟨c, hc, hs⟩, ho, hv, ha⟩ := h
  simp [service, hc, hs, ho, hv, ha]

/-- A row that reaches memory, given a started request. -/
theorem onBus_service {s t : State} {bus : Bus} {op : Nat} {k : Call} (hp : powered s = true)
    (h : Started { s with bus := bus } op k t) (body : Call → State → State) :
    onBus s bus (fun s => service op s body) = .next (ended s (body k t)) := by
  rw [onBus_powered s hp, service_started h]

/-- A row that does not. -/
theorem live_service {s t : State} {op : Nat} {k : Call} (hp : powered s = true) (h : Started s op k t) (body : Call → State → State) :
    live s (fun s => service op s body) = .next (ended s (body k t)) := by
  rw [live_powered s hp, service_started h]

/-- What a started request holds: its channel runs it, with the requests behind it waiting. -/
theorem started_channel {s t : State} {op : Nat} {k : Call} (h : Started s op k t) :
    ∃ rest, (chanAt s k.ch).waiting = k.req :: rest ∧
      t = setChan (controllerWork s (workLane s k)) k.ch { chanAt s k.ch with waiting := rest, running := some k.req } := by
  obtain ⟨⟨c, hc, hs⟩, ho, hv, ha⟩ := h
  unfold startRequest at hs
  cases hw : (chanAt s c).waiting with
  | nil => simp [hw] at hs
  | cons r rest =>
    simp only [hw, Option.some.injEq, Prod.mk.injEq] at hs
    obtain ⟨rfl, rfl⟩ := hs
    exact ⟨rest, hw, rfl⟩

/-- The request that runs in the state in which a call runs is the call's. -/
theorem started_running {s t : State} {op : Nat} {k : Call} (h : Started s op k t) : (chanAt t k.ch).running = some k.req := by
  obtain ⟨rest, -, rfl⟩ := started_channel h
  simp

/-! ### Answers -/

/-- An answer leaves everything but its channel, and its requester reads it after the answers it has. -/
theorem reply_answered {t : State} {k : Call} (hr : (chanAt t k.ch).running = some k.req) (st : BitVec 8) (ws : List W32) :
    Answered t k (reply t k st ws) st ws ∧ { reply t k st ws with mbox := t.mbox } = t := by
  unfold Answered reply answerRunning
  simp only [hr]
  refine ⟨⟨?_, ?_⟩, rfl⟩
  · simp
  · intro c hc
    simp [chanAt_setChan, hc]

/-- An ACCEPTED answer leaves everything but its channel, whose ticket runs. -/
theorem acceptRunning_runs {t : State} {k : Call} (hr : (chanAt t k.ch).running = some k.req) (i : Nat) :
    TicketRuns t k (acceptRunning t k.ch i) i ∧ { acceptRunning t k.ch i with mbox := t.mbox } = t := by
  unfold TicketRuns acceptRunning
  simp only [hr]
  refine ⟨⟨⟨{ op := BitVec.ofNat 12 (bits k.req.w0 20 12), seq := BitVec.ofNat 8 (bits k.req.w0 12 8), stamp := k.req.w1, status := none,
              result := [], cancel := false }, ?_, rfl, rfl⟩, ?_, ?_⟩, rfl⟩ <;> simp

/-- With a free ticket, a long request's job starts behind its ACCEPTED answer. -/
theorem ticketed_free {t : State} {k : Call} {i : Nat} (h : freeTicket (chanAt t k.ch) = some i) (job : Caller → State → State) :
    ticketed t k job = job (.ticket k.ch i) (acceptRunning t k.ch i) := by
  simp [ticketed, h]

/-- Without one, it is answered BUSY. -/
theorem ticketed_busy {t : State} {k : Call} (h : freeTicket (chanAt t k.ch) = none) (job : Caller → State → State) :
    ticketed t k job = reply t k stBusy [] := by
  simp [ticketed, h]

/-! ### Relay -/

/-- Sending frames changes no mailbox. -/
@[simp] theorem enqueue_mbox (s : State) (d : Dir) (f : OutFrame) : (enqueue s d f).mbox = s.mbox := by
  cases d <;> rfl

@[simp] theorem setLink_mbox (s : State) (d : Dir) (l : Link) : (setLink s d l).mbox = s.mbox := by
  cases d <;> rfl

@[simp] theorem linkOf_setLink_same (s : State) (d : Dir) (l : Link) : linkOf (setLink s d l) d = l := by
  cases d <;> rfl

theorem linkOf_setLink_ne (s : State) {d e : Dir} (l : Link) (h : e ≠ d) : linkOf (setLink s d l) e = linkOf s e := by
  cases d <;> cases e <;> first | rfl | exact absurd rfl h

end Sys2Proof.Laws
end

