-- ==== Sys2Proof/Laws/Memory.lean ====
section
/-!
SUPPORT. What the operations over memory keep: the canonical form of what the memory controller stores, and every line but the one stored.
-/

namespace Sys2Proof.Laws

open Sys2Proof Sys2Proof.Machine Sys2Proof.Safety

@[simp] theorem storeLine_dram (s : State) (la : Nat) (l : Line) : (storeLine s la l).dram = tset 0 s.dram la l := rfl

/-- A stored line keeps the canonical form. -/
theorem storeLine_wf {s : State} (la : Nat) (l : Line) (h : memoryWf s = true) : memoryWf (storeLine s la l) = true :=
  tset_wf 0 s.dram la l h

/-- Logging and superseding touch no stored line. -/
@[simp] theorem violate_dram (s : State) (port : BitVec 8) (kind : BitVec 8) (mid : Option Mid) : (violate s port kind mid).dram = s.dram := rfl

@[simp] theorem setOut_dram (s : State) (ch : Nat) (v : OutChannel) : (setOut s ch v).dram = s.dram := rfl

/-- An access that went unanswered leaves what the memory controller stores. -/
@[simp] theorem ownSilent_dram (s : State) (write : Bool) (la : Nat) (l : Line) : (ownSilent s write la l).dram = s.dram := by
  unfold ownSilent
  dsimp only
  split
  · rfl
  · split
    · rfl
    · split <;> simp [supersede]

/-- A line written by the block itself keeps the canonical form. -/
theorem memWrite_wf {s : State} (la : Nat) (l : Line) (h : memoryWf s = true) : memoryWf (memWrite s la l).2 = true := by
  unfold memWrite
  split
  · exact h
  · split
    · exact h
    · split
      · exact h
      · simpa [memoryWf] using h
      · exact storeLine_wf la l h

/-- An answered write keeps the canonical form. -/
theorem storeAnswered_wf {s : State} (e : EgReq) (m : MemBeat) (h : memoryWf s = true) : memoryWf (storeAnswered s e m) = true := by
  unfold storeAnswered
  split
  · exact tset_wf 0 s.dram _ _ h
  · exact h

/-- A late answer keeps the canonical form. -/
theorem lateAnswer_wf {s : State} (ch : Nat) (m : MemBeat) (x : Retired) (h : memoryWf s = true) :
    memoryWf (lateAnswer s ch m x) = true := by
  unfold lateAnswer
  dsimp only
  split
  · exact tset_wf 0 s.dram _ _ h
  · exact h

/-- Reset keeps memory as it is. -/
@[simp] theorem clearVolatile_dram (s : State) : (clearVolatile s).dram = s.dram := rfl

end Sys2Proof.Laws
end

