-- ==== Sys2Proof/Laws/PerInstr.lean ====
section
/-!
SUPPORT. How each command acts, one lemma per constructor: a row of the running block acts through `live`, a row of the vault domain
through `vaultDomain`; the four rows that report PORST_N and the supplies act by themselves.
-/

namespace Sys2Proof.Laws.Shape

open Sys2Proof Sys2Proof.Machine Sys2Proof.Safety

/-- What the command's meaning is, by the supply that the row needs. -/
def Statement (i : Instr) : Prop := ∀ s : State, match actsWhile i with
  | .running => ∃ f, exec i s = live s f
  | .vaultSupplied => ∃ f, exec i s = vaultDomain s f
  | .always => ∃ t, exec i s = .next t

theorem porstNAssert : Statement .porstNAssert := fun _ => ⟨_, rfl⟩
theorem coldStart (env : StartEnv) (bus : Bus) : Statement (.coldStart env bus) := fun _ => ⟨_, rfl⟩
theorem powerFailure : Statement .powerFailure := fun _ => ⟨_, rfl⟩
theorem paceTick (bus : Bus) : Statement (.paceTick bus) := by
  intro s; show ∃ g, execPaceTick bus s = live s g; unfold execPaceTick onBus; exact ⟨_, rfl⟩
theorem sensorSample (mv : BitVec 10) (tj : BitVec 9) : Statement (.sensorSample mv tj) := by
  intro s; show ∃ g, execSensorSample mv tj s = live s g; unfold execSensorSample; exact ⟨_, rfl⟩
theorem calibrationPeriod : Statement .calibrationPeriod := by
  intro s; show ∃ g, execCalibrationPeriod s = live s g; unfold execCalibrationPeriod; exact ⟨_, rfl⟩
theorem calibrationCountStart : Statement .calibrationCountStart := by
  intro s; show ∃ g, execCalibrationCountStart s = live s g; unfold execCalibrationCountStart; exact ⟨_, rfl⟩
theorem calibrationCountEnd (count : BitVec 32) : Statement (.calibrationCountEnd count) := by
  intro s; show ∃ g, execCalibrationCountEnd count s = live s g; unfold execCalibrationCountEnd; exact ⟨_, rfl⟩
theorem calibrationAbandoned : Statement .calibrationAbandoned := by
  intro s; show ∃ g, execCalibrationAbandoned s = live s g; unfold execCalibrationAbandoned; exact ⟨_, rfl⟩
theorem custInRequest (ch : Fin 4) (b : CustBeat) : Statement (.custInRequest ch b) := by
  intro s; show ∃ g, execCustInRequest ch b s = live s g; unfold execCustInRequest; exact ⟨_, rfl⟩
theorem custInWriteBeat (ch : Fin 4) (b : CustBeat) : Statement (.custInWriteBeat ch b) := by
  intro s; show ∃ g, execCustInWriteBeat ch b s = live s g; unfold execCustInWriteBeat; exact ⟨_, rfl⟩
theorem custInResponseAck (ch : Fin 4) : Statement (.custInResponseAck ch) := by
  intro s; show ∃ g, execCustInResponseAck ch s = live s g; unfold execCustInResponseAck; exact ⟨_, rfl⟩
theorem custOutRequestAck (ch : Fin 4) : Statement (.custOutRequestAck ch) := by
  intro s; show ∃ g, execCustOutRequestAck ch s = live s g; unfold execCustOutRequestAck; exact ⟨_, rfl⟩
theorem custOutResponse (ch : Fin 4) (r : MemBeat) (bus : Bus) : Statement (.custOutResponse ch r bus) := by
  intro s; show ∃ g, execCustOutResponse ch r bus s = live s g; unfold execCustOutResponse onBus; exact ⟨_, rfl⟩
theorem reqWithdrawn (bundle : Withdrawn) (changed : Bool) : Statement (.reqWithdrawn bundle changed) := by
  intro s; show ∃ g, execReqWithdrawn bundle changed s = live s g; unfold execReqWithdrawn; exact ⟨_, rfl⟩
theorem earlyAck (bundle : SentBundle) : Statement (.earlyAck bundle) := by
  intro s; show ∃ g, execEarlyAck bundle s = live s g; unfold execEarlyAck; exact ⟨_, rfl⟩
theorem reqStuck (bundle : RecvBundle) : Statement (.reqStuck bundle) := by
  intro s; show ∃ g, execReqStuck bundle s = live s g; unfold execReqStuck; exact ⟨_, rfl⟩
theorem ackTimeout (bundle : SentBundle) : Statement (.ackTimeout bundle) := by
  intro s; show ∃ g, execAckTimeout bundle s = live s g; unfold execAckTimeout; exact ⟨_, rfl⟩
theorem burstTimeout (burst : OpenBurst) : Statement (.burstTimeout burst) := by
  intro s; show ∃ g, execBurstTimeout burst s = live s g; unfold execBurstTimeout; exact ⟨_, rfl⟩
theorem noResponse (ch : Fin 4) (tag : Tag) : Statement (.noResponse ch tag) := by
  intro s; show ∃ g, execNoResponse ch tag s = live s g; unfold execNoResponse; exact ⟨_, rfl⟩
theorem keyDerivation : Statement .keyDerivation := by
  intro s; show ∃ g, execKeyDerivation s = live s g; unfold execKeyDerivation; exact ⟨_, rfl⟩
theorem mapWalk (bus : Bus) : Statement (.mapWalk bus) := by
  intro s; show ∃ g, execMapWalk bus s = live s g; unfold execMapWalk onBus; exact ⟨_, rfl⟩
theorem metadataFetch (bus : Bus) : Statement (.metadataFetch bus) := by
  intro s; show ∃ g, execMetadataFetch bus s = live s g; unfold execMetadataFetch onBus; exact ⟨_, rfl⟩
theorem metadataWriteback (bus : Bus) : Statement (.metadataWriteback bus) := by
  intro s; show ∃ g, execMetadataWriteback bus s = live s g; unfold execMetadataWriteback onBus; exact ⟨_, rfl⟩
theorem rekeyLine (bus : Bus) : Statement (.rekeyLine bus) := by
  intro s; show ∃ g, execRekeyLine bus s = live s g; unfold execRekeyLine onBus; exact ⟨_, rfl⟩
theorem tileDelayExpire (bus : Bus) : Statement (.tileDelayExpire bus) := by
  intro s; show ∃ g, execTileDelayExpire bus s = live s g; unfold execTileDelayExpire onBus; exact ⟨_, rfl⟩
theorem tileCompletionRead (bus : Bus) : Statement (.tileCompletionRead bus) := by
  intro s; show ∃ g, execTileCompletionRead bus s = live s g; unfold execTileCompletionRead onBus; exact ⟨_, rfl⟩
theorem epochAdvance (bus : Bus) : Statement (.epochAdvance bus) := by
  intro s; show ∃ g, execEpochAdvance bus s = live s g; unfold execEpochAdvance onBus; exact ⟨_, rfl⟩
theorem exceptionTake (bus : Bus) : Statement (.exceptionTake bus) := by
  intro s; show ∃ g, execExceptionTake bus s = live s g; unfold execExceptionTake onBus; exact ⟨_, rfl⟩
theorem sweepPassStart (bus : Bus) : Statement (.sweepPassStart bus) := by
  intro s; show ∃ g, execSweepPassStart bus s = live s g; unfold execSweepPassStart onBus; exact ⟨_, rfl⟩
theorem sweepMapLine (bus : Bus) : Statement (.sweepMapLine bus) := by
  intro s; show ∃ g, execSweepMapLine bus s = live s g; unfold execSweepMapLine onBus; exact ⟨_, rfl⟩
theorem sweepPage (bus : Bus) : Statement (.sweepPage bus) := by
  intro s; show ∃ g, execSweepPage bus s = live s g; unfold execSweepPage onBus; exact ⟨_, rfl⟩
theorem scrubPage (bus : Bus) : Statement (.scrubPage bus) := by
  intro s; show ∃ g, execScrubPage bus s = live s g; unfold execScrubPage onBus; exact ⟨_, rfl⟩
theorem sramScrubPass (found : List SramFinding) (bus : Bus) : Statement (.sramScrubPass found bus) := by
  intro s; show ∃ g, execSramScrubPass found bus s = live s g; unfold execSramScrubPass onBus; exact ⟨_, rfl⟩
theorem faultRestart (u : Upset) (more : List Upset) (hold : BitVec 11) (bus : Bus) : Statement (.faultRestart u more hold bus) := by
  intro s; show ∃ g, execFaultRestart u more hold bus s = live s g; unfold execFaultRestart onBus; exact ⟨_, rfl⟩
theorem firmwareResume (intact : Bool) : Statement (.firmwareResume intact) := by
  intro s; show ∃ g, execFirmwareResume intact s = live s g; unfold execFirmwareResume; exact ⟨_, rfl⟩
theorem journalRecord : Statement .journalRecord := by
  intro s; show ∃ g, execJournalRecord s = live s g; unfold execJournalRecord; exact ⟨_, rfl⟩
theorem vaultShareRefresh : Statement .vaultShareRefresh := by
  intro s; show ∃ g, execVaultShareRefresh s = live s g; unfold execVaultShareRefresh; exact ⟨_, rfl⟩
theorem nvmOperationDone (how : FlashEnd) (bus : Bus) : Statement (.nvmOperationDone how bus) := by
  intro s; show ∃ g, execNvmOperationDone how bus s = live s g; unfold execNvmOperationDone onBus; exact ⟨_, rfl⟩
theorem directoryChange (ok : Bool) (bus : Bus) : Statement (.directoryChange ok bus) := by
  intro s; show ∃ g, execDirectoryChange ok bus s = live s g; unfold execDirectoryChange onBus; exact ⟨_, rfl⟩
theorem keyStoreCommit (bus : Bus) : Statement (.keyStoreCommit bus) := by
  intro s; show ∃ g, execKeyStoreCommit bus s = live s g; unfold execKeyStoreCommit onBus; exact ⟨_, rfl⟩
theorem otpAck (fail : Bool) (bus : Bus) : Statement (.otpAck fail bus) := by
  intro s; show ∃ g, execOtpAck fail bus s = live s g; unfold execOtpAck onBus; exact ⟨_, rfl⟩
theorem budgetCap (cap : BitVec 8) : Statement (.budgetCap cap) := by
  intro s; show ∃ g, execBudgetCap cap s = live s g; unfold execBudgetCap; exact ⟨_, rfl⟩
theorem resetAsserted (mid : Mid) : Statement (.resetAsserted mid) := by
  intro s; show ∃ g, execResetAsserted mid s = live s g; unfold execResetAsserted; exact ⟨_, rfl⟩
theorem resetReleased (mid : Mid) : Statement (.resetReleased mid) := by
  intro s; show ∃ g, execResetReleased mid s = live s g; unfold execResetReleased; exact ⟨_, rfl⟩
theorem updateStrobeIn (bus : Bus) : Statement (.updateStrobeIn bus) := by
  intro s; show ∃ g, execUpdateStrobeIn bus s = live s g; unfold execUpdateStrobeIn onBus; exact ⟨_, rfl⟩
theorem strobeApplied : Statement .strobeApplied := by
  intro s; show ∃ g, execStrobeApplied s = live s g; unfold execStrobeApplied; exact ⟨_, rfl⟩
theorem tamperIn (n : Fin 8) : Statement (.tamperIn n) := fun _ => ⟨tamperInput n.val, rfl⟩
theorem zeroizeAll : Statement .zeroizeAll := fun _ => ⟨zeroizeInput, rfl⟩
theorem supplyGlitch : Statement .supplyGlitch := by
  intro s; show ∃ g, execSupplyGlitch s = live s g; unfold execSupplyGlitch; exact ⟨_, rfl⟩
theorem vaultUndervoltage : Statement .vaultUndervoltage := fun _ => ⟨vaultSupplyLow, rfl⟩
theorem tamperedRestart (bus : Bus) : Statement (.tamperedRestart bus) := by
  intro s; show ∃ g, execTamperedRestart bus s = live s g; unfold execTamperedRestart onBus; exact ⟨_, rfl⟩
theorem tapInstruction (ir : BitVec 8) : Statement (.tapInstruction ir) := by
  intro s; show ∃ g, execTapInstruction ir s = live s g; unfold execTapInstruction; exact ⟨_, rfl⟩
theorem lcAccess (dr : BitVec 144) : Statement (.lcAccess dr) := by
  intro s; show ∃ g, execLcAccess dr s = live s g; unfold execLcAccess; exact ⟨_, rfl⟩
theorem otpAccessRead (addr : BitVec 10) (ans : OtpAnswer) : Statement (.otpAccessRead addr ans) := by
  intro s; show ∃ g, execOtpAccessRead addr ans s = live s g; unfold execOtpAccessRead; exact ⟨_, rfl⟩
theorem otpAccessProgram (addr : BitVec 10) (data : W32) (ans : OtpAnswer) : Statement (.otpAccessProgram addr data ans) := by
  intro s; show ∃ g, execOtpAccessProgram addr data ans s = live s g; unfold execOtpAccessProgram; exact ⟨_, rfl⟩
theorem coreDebug (op : DebugOp) : Statement (.coreDebug op) := by
  intro s; show ∃ g, execCoreDebug op s = live s g; unfold execCoreDebug; exact ⟨_, rfl⟩
theorem scan : Statement .scan := by
  intro s; show ∃ g, execScan s = live s g; unfold execScan; exact ⟨_, rfl⟩
theorem memTest : Statement .memTest := by
  intro s; show ∃ g, execMemTest s = live s g; unfold execMemTest; exact ⟨_, rfl⟩
theorem memTestComplete : Statement .memTestComplete := by
  intro s; show ∃ g, execMemTestComplete s = live s g; unfold execMemTestComplete; exact ⟨_, rfl⟩
theorem registerWrite (mid : Mid) (off : BitVec 14) (data : Option W32) : Statement (.registerWrite mid off data) := by
  intro s; show ∃ g, execRegisterWrite mid off data s = live s g; unfold execRegisterWrite; exact ⟨_, rfl⟩
theorem paceCountLo (mid : Mid) : Statement (.paceCountLo mid) := by
  intro s; show ∃ g, execPaceCountLo mid s = live s g; unfold execPaceCountLo; exact ⟨_, rfl⟩
theorem mpValue (mid : Mid) (j : Fin 32) : Statement (.mpValue mid j) := by
  intro s; show ∃ g, execMpValue mid j s = live s g; unfold execMpValue; exact ⟨_, rfl⟩
theorem ctxRecord0 (mid : Mid) : Statement (.ctxRecord0 mid) := by
  intro s; show ∃ g, execCtxRecord0 mid s = live s g; unfold execCtxRecord0; exact ⟨_, rfl⟩
theorem msgIn (mid : Mid) (c : Fin 128) (data : W32) : Statement (.msgIn mid c data) := by
  intro s; show ∃ g, execMsgIn mid c data s = live s g; unfold execMsgIn; exact ⟨_, rfl⟩
theorem msgOut (mid : Mid) (c : Fin 128) : Statement (.msgOut mid c) := by
  intro s; show ∃ g, execMsgOut mid c s = live s g; unfold execMsgOut; exact ⟨_, rfl⟩
theorem dbClear (mid : Mid) (c : Fin 128) (data : W32) : Statement (.dbClear mid c data) := by
  intro s; show ∃ g, execDbClear mid c data s = live s g; unfold execDbClear; exact ⟨_, rfl⟩
theorem flush (mid : Mid) (c : Fin 128) : Statement (.flush mid c) := by
  intro s; show ∃ g, execFlush mid c s = live s g; unfold execFlush; exact ⟨_, rfl⟩
theorem release (mid : Mid) (c : Fin 128) : Statement (.release mid c) := by
  intro s; show ∃ g, execRelease mid c s = live s g; unfold execRelease; exact ⟨_, rfl⟩
theorem dropResponses (mid : Mid) (c : Fin 128) : Statement (.dropResponses mid c) := by
  intro s; show ∃ g, execDropResponses mid c s = live s g; unfold execDropResponses; exact ⟨_, rfl⟩
theorem strobe (mid : Mid) (bus : Bus) : Statement (.strobe mid bus) := by
  intro s; show ∃ g, execStrobe mid bus s = live s g; unfold execStrobe onBus; exact ⟨_, rfl⟩
theorem snapshotTake (mid : Mid) : Statement (.snapshotTake mid) := by
  intro s; show ∃ g, execSnapshotTake mid s = live s g; unfold execSnapshotTake; exact ⟨_, rfl⟩
theorem calibrate (mid : Mid) : Statement (.calibrate mid) := by
  intro s; show ∃ g, execCalibrate mid s = live s g; unfold execCalibrate; exact ⟨_, rfl⟩
theorem seqClear (mid : Mid) (off : BitVec 14) (seq : BitVec 8) : Statement (.seqClear mid off seq) := by
  intro s; show ∃ g, execSeqClear mid off seq s = live s g; unfold execSeqClear; exact ⟨_, rfl⟩
theorem pairedWriteArm (mid : Mid) (off : BitVec 14) (data : W32) : Statement (.pairedWriteArm mid off data) := by
  intro s; show ∃ g, execPairedWriteArm mid off data s = live s g; unfold execPairedWriteArm; exact ⟨_, rfl⟩
theorem pairedWriteExpire (mid : Mid) : Statement (.pairedWriteExpire mid) := by
  intro s; show ∃ g, execPairedWriteExpire mid s = live s g; unfold execPairedWriteExpire; exact ⟨_, rfl⟩
theorem claim (mid : Mid) (data : W32) : Statement (.claim mid data) := by
  intro s; show ∃ g, execClaim mid data s = live s g; unfold execClaim; exact ⟨_, rfl⟩
theorem name (mid : Mid) (data : W32) : Statement (.name mid data) := by
  intro s; show ∃ g, execName mid data s = live s g; unfold execName; exact ⟨_, rfl⟩
theorem confirm (mid : Mid) (data : W32) : Statement (.confirm mid data) := by
  intro s; show ∃ g, execConfirm mid data s = live s g; unfold execConfirm; exact ⟨_, rfl⟩
theorem resign (mid : Mid) (data : W32) : Statement (.resign mid data) := by
  intro s; show ∃ g, execResign mid data s = live s g; unfold execResign; exact ⟨_, rfl⟩
theorem electionWindowClose : Statement .electionWindowClose := by
  intro s; show ∃ g, execElectionWindowClose s = live s g; unfold execElectionWindowClose; exact ⟨_, rfl⟩
theorem handoverExpire : Statement .handoverExpire := by
  intro s; show ∃ g, execHandoverExpire s = live s g; unfold execHandoverExpire; exact ⟨_, rfl⟩
theorem acctClearLane (mid : Mid) (data : W32) : Statement (.acctClearLane mid data) := by
  intro s; show ∃ g, execAcctClearLane mid data s = live s g; unfold execAcctClearLane; exact ⟨_, rfl⟩
theorem acctClearAll (mid : Mid) (data : W32) : Statement (.acctClearAll mid data) := by
  intro s; show ∃ g, execAcctClearAll mid data s = live s g; unfold execAcctClearAll; exact ⟨_, rfl⟩
theorem unknownOpcode : Statement .unknownOpcode := by
  intro s; show ∃ g, execUnknownOpcode s = live s g; unfold execUnknownOpcode; exact ⟨_, rfl⟩
theorem ping : Statement .ping := by
  intro s; show ∃ g, execPing s = live s g; unfold execPing; exact ⟨_, rfl⟩
theorem blockInfo : Statement .blockInfo := by
  intro s; show ∃ g, execBlockInfo s = live s g; unfold execBlockInfo; exact ⟨_, rfl⟩
theorem jobStatus : Statement .jobStatus := by
  intro s; show ∃ g, execJobStatus s = live s g; unfold execJobStatus; exact ⟨_, rfl⟩
theorem jobCancel (bus : Bus) : Statement (.jobCancel bus) := by
  intro s; show ∃ g, execJobCancel bus s = live s g; unfold execJobCancel onBus; exact ⟨_, rfl⟩
theorem noticeFetch : Statement .noticeFetch := by
  intro s; show ∃ g, execNoticeFetch s = live s g; unfold execNoticeFetch; exact ⟨_, rfl⟩
theorem ctxOpen (bus : Bus) : Statement (.ctxOpen bus) := by
  intro s; show ∃ g, execCtxOpen bus s = live s g; unfold execCtxOpen onBus; exact ⟨_, rfl⟩
theorem ctxRelease (bus : Bus) : Statement (.ctxRelease bus) := by
  intro s; show ∃ g, execCtxRelease bus s = live s g; unfold execCtxRelease onBus; exact ⟨_, rfl⟩
theorem pageClaim (bus : Bus) : Statement (.pageClaim bus) := by
  intro s; show ∃ g, execPageClaim bus s = live s g; unfold execPageClaim onBus; exact ⟨_, rfl⟩
theorem pageSeal (bus : Bus) : Statement (.pageSeal bus) := by
  intro s; show ∃ g, execPageSeal bus s = live s g; unfold execPageSeal onBus; exact ⟨_, rfl⟩
theorem pageFreeze (bus : Bus) : Statement (.pageFreeze bus) := by
  intro s; show ∃ g, execPageFreeze bus s = live s g; unfold execPageFreeze onBus; exact ⟨_, rfl⟩
theorem pageRenew (bus : Bus) : Statement (.pageRenew bus) := by
  intro s; show ∃ g, execPageRenew bus s = live s g; unfold execPageRenew onBus; exact ⟨_, rfl⟩
theorem pageRelease (bus : Bus) : Statement (.pageRelease bus) := by
  intro s; show ∃ g, execPageRelease bus s = live s g; unfold execPageRelease onBus; exact ⟨_, rfl⟩
theorem ctxQuery (bus : Bus) : Statement (.ctxQuery bus) := by
  intro s; show ∃ g, execCtxQuery bus s = live s g; unfold execCtxQuery onBus; exact ⟨_, rfl⟩
theorem verdictFence (bus : Bus) : Statement (.verdictFence bus) := by
  intro s; show ∃ g, execVerdictFence bus s = live s g; unfold execVerdictFence onBus; exact ⟨_, rfl⟩
theorem pageQuery (bus : Bus) : Statement (.pageQuery bus) := by
  intro s; show ∃ g, execPageQuery bus s = live s g; unfold execPageQuery onBus; exact ⟨_, rfl⟩
theorem laneOpen : Statement .laneOpen := by
  intro s; show ∃ g, execLaneOpen s = live s g; unfold execLaneOpen; exact ⟨_, rfl⟩
theorem laneDrain : Statement .laneDrain := by
  intro s; show ∃ g, execLaneDrain s = live s g; unfold execLaneDrain; exact ⟨_, rfl⟩
theorem laneResume : Statement .laneResume := by
  intro s; show ∃ g, execLaneResume s = live s g; unfold execLaneResume; exact ⟨_, rfl⟩
theorem laneRelease (bus : Bus) : Statement (.laneRelease bus) := by
  intro s; show ∃ g, execLaneRelease bus s = live s g; unfold execLaneRelease onBus; exact ⟨_, rfl⟩
theorem modelLoad (bus : Bus) : Statement (.modelLoad bus) := by
  intro s; show ∃ g, execModelLoad bus s = live s g; unfold execModelLoad onBus; exact ⟨_, rfl⟩
theorem loaderTileWaitExpire (bus : Bus) : Statement (.loaderTileWaitExpire bus) := by
  intro s; show ∃ g, execLoaderTileWaitExpire bus s = live s g; unfold execLoaderTileWaitExpire onBus; exact ⟨_, rfl⟩
theorem modelQuery (bus : Bus) : Statement (.modelQuery bus) := by
  intro s; show ∃ g, execModelQuery bus s = live s g; unfold execModelQuery onBus; exact ⟨_, rfl⟩
theorem modelSignerSet (bus : Bus) : Statement (.modelSignerSet bus) := by
  intro s; show ∃ g, execModelSignerSet bus s = live s g; unfold execModelSignerSet onBus; exact ⟨_, rfl⟩
theorem receiptOpen (bus : Bus) : Statement (.receiptOpen bus) := by
  intro s; show ∃ g, execReceiptOpen bus s = live s g; unfold execReceiptOpen onBus; exact ⟨_, rfl⟩
theorem receiptClose (bus : Bus) : Statement (.receiptClose bus) := by
  intro s; show ∃ g, execReceiptClose bus s = live s g; unfold execReceiptClose onBus; exact ⟨_, rfl⟩
theorem receiptAbandon (bus : Bus) : Statement (.receiptAbandon bus) := by
  intro s; show ∃ g, execReceiptAbandon bus s = live s g; unfold execReceiptAbandon onBus; exact ⟨_, rfl⟩
theorem receiptRefold (bus : Bus) : Statement (.receiptRefold bus) := by
  intro s; show ∃ g, execReceiptRefold bus s = live s g; unfold execReceiptRefold onBus; exact ⟨_, rfl⟩
theorem receiptVerdictsFinal (bus : Bus) : Statement (.receiptVerdictsFinal bus) := by
  intro s; show ∃ g, execReceiptVerdictsFinal bus s = live s g; unfold execReceiptVerdictsFinal onBus; exact ⟨_, rfl⟩
theorem receiptEnter (bus : Bus) : Statement (.receiptEnter bus) := by
  intro s; show ∃ g, execReceiptEnter bus s = live s g; unfold execReceiptEnter onBus; exact ⟨_, rfl⟩
theorem sheetFlush (bus : Bus) : Statement (.sheetFlush bus) := by
  intro s; show ∃ g, execSheetFlush bus s = live s g; unfold execSheetFlush onBus; exact ⟨_, rfl⟩
theorem sheetCopy (bus : Bus) : Statement (.sheetCopy bus) := by
  intro s; show ∃ g, execSheetCopy bus s = live s g; unfold execSheetCopy onBus; exact ⟨_, rfl⟩
theorem sheetCollect (bus : Bus) : Statement (.sheetCollect bus) := by
  intro s; show ∃ g, execSheetCollect bus s = live s g; unfold execSheetCollect onBus; exact ⟨_, rfl⟩
theorem sheetStatus (bus : Bus) : Statement (.sheetStatus bus) := by
  intro s; show ∃ g, execSheetStatus bus s = live s g; unfold execSheetStatus onBus; exact ⟨_, rfl⟩
theorem receiptFetch (bus : Bus) : Statement (.receiptFetch bus) := by
  intro s; show ∃ g, execReceiptFetch bus s = live s g; unfold execReceiptFetch onBus; exact ⟨_, rfl⟩
theorem sheetAgeExpire (bus : Bus) : Statement (.sheetAgeExpire bus) := by
  intro s; show ∃ g, execSheetAgeExpire bus s = live s g; unfold execSheetAgeExpire onBus; exact ⟨_, rfl⟩
theorem sheetSigned (bus : Bus) : Statement (.sheetSigned bus) := by
  intro s; show ∃ g, execSheetSigned bus s = live s g; unfold execSheetSigned onBus; exact ⟨_, rfl⟩
theorem sheetSignRetry (bus : Bus) : Statement (.sheetSignRetry bus) := by
  intro s; show ∃ g, execSheetSignRetry bus s = live s g; unfold execSheetSignRetry onBus; exact ⟨_, rfl⟩
theorem keyHandleOpen (bus : Bus) : Statement (.keyHandleOpen bus) := by
  intro s; show ∃ g, execKeyHandleOpen bus s = live s g; unfold execKeyHandleOpen onBus; exact ⟨_, rfl⟩
theorem keyHandleClose : Statement .keyHandleClose := by
  intro s; show ∃ g, execKeyHandleClose s = live s g; unfold execKeyHandleClose; exact ⟨_, rfl⟩
theorem keyInfo : Statement .keyInfo := by
  intro s; show ∃ g, execKeyInfo s = live s g; unfold execKeyInfo; exact ⟨_, rfl⟩
theorem keyPublic (bus : Bus) : Statement (.keyPublic bus) := by
  intro s; show ∃ g, execKeyPublic bus s = live s g; unfold execKeyPublic onBus; exact ⟨_, rfl⟩
theorem keyDestroy (bus : Bus) : Statement (.keyDestroy bus) := by
  intro s; show ∃ g, execKeyDestroy bus s = live s g; unfold execKeyDestroy onBus; exact ⟨_, rfl⟩
theorem keyUpdate (bus : Bus) : Statement (.keyUpdate bus) := by
  intro s; show ∃ g, execKeyUpdate bus s = live s g; unfold execKeyUpdate onBus; exact ⟨_, rfl⟩
theorem certInstall (bus : Bus) : Statement (.certInstall bus) := by
  intro s; show ∃ g, execCertInstall bus s = live s g; unfold execCertInstall onBus; exact ⟨_, rfl⟩
theorem vaultSleep (bus : Bus) : Statement (.vaultSleep bus) := by
  intro s; show ∃ g, execVaultSleep bus s = live s g; unfold execVaultSleep onBus; exact ⟨_, rfl⟩
theorem monoRead : Statement .monoRead := by
  intro s; show ∃ g, execMonoRead s = live s g; unfold execMonoRead; exact ⟨_, rfl⟩
theorem monoIncrement : Statement .monoIncrement := by
  intro s; show ∃ g, execMonoIncrement s = live s g; unfold execMonoIncrement; exact ⟨_, rfl⟩
theorem reenroll (bus : Bus) : Statement (.reenroll bus) := by
  intro s; show ∃ g, execReenroll bus s = live s g; unfold execReenroll onBus; exact ⟨_, rfl⟩
theorem rnsEcdsaSign (bus : Bus) : Statement (.rnsEcdsaSign bus) := by
  intro s; show ∃ g, execRnsEcdsaSign bus s = live s g; unfold execRnsEcdsaSign onBus; exact ⟨_, rfl⟩
theorem rnsEcdsaVerify (bus : Bus) : Statement (.rnsEcdsaVerify bus) := by
  intro s; show ∃ g, execRnsEcdsaVerify bus s = live s g; unfold execRnsEcdsaVerify onBus; exact ⟨_, rfl⟩
theorem rnsEcdh (bus : Bus) : Statement (.rnsEcdh bus) := by
  intro s; show ∃ g, execRnsEcdh bus s = live s g; unfold execRnsEcdh onBus; exact ⟨_, rfl⟩
theorem rnsMldsaSign (bus : Bus) : Statement (.rnsMldsaSign bus) := by
  intro s; show ∃ g, execRnsMldsaSign bus s = live s g; unfold execRnsMldsaSign onBus; exact ⟨_, rfl⟩
theorem rnsMldsaVerify (bus : Bus) : Statement (.rnsMldsaVerify bus) := by
  intro s; show ∃ g, execRnsMldsaVerify bus s = live s g; unfold execRnsMldsaVerify onBus; exact ⟨_, rfl⟩
theorem rnsMlkemKeygen (bus : Bus) : Statement (.rnsMlkemKeygen bus) := by
  intro s; show ∃ g, execRnsMlkemKeygen bus s = live s g; unfold execRnsMlkemKeygen onBus; exact ⟨_, rfl⟩
theorem rnsMlkemEncaps (bus : Bus) : Statement (.rnsMlkemEncaps bus) := by
  intro s; show ∃ g, execRnsMlkemEncaps bus s = live s g; unfold execRnsMlkemEncaps onBus; exact ⟨_, rfl⟩
theorem rnsMlkemDecaps (bus : Bus) : Statement (.rnsMlkemDecaps bus) := by
  intro s; show ∃ g, execRnsMlkemDecaps bus s = live s g; unfold execRnsMlkemDecaps onBus; exact ⟨_, rfl⟩
theorem rnsInfo : Statement .rnsInfo := by
  intro s; show ∃ g, execRnsInfo s = live s g; unfold execRnsInfo; exact ⟨_, rfl⟩
theorem rnsLaneAbort (bus : Bus) : Statement (.rnsLaneAbort bus) := by
  intro s; show ∃ g, execRnsLaneAbort bus s = live s g; unfold execRnsLaneAbort onBus; exact ⟨_, rfl⟩
theorem rnsBankGrant (bus : Bus) : Statement (.rnsBankGrant bus) := by
  intro s; show ∃ g, execRnsBankGrant bus s = live s g; unfold execRnsBankGrant onBus; exact ⟨_, rfl⟩
theorem rnsLoadDone (bank : Fin 2) (bus : Bus) : Statement (.rnsLoadDone bank bus) := by
  intro s; show ∃ g, execRnsLoadDone bank bus s = live s g; unfold execRnsLoadDone onBus; exact ⟨_, rfl⟩
theorem rnsValidationEnd (bank : Fin 2) : Statement (.rnsValidationEnd bank) := by
  intro s; show ∃ g, execRnsValidationEnd bank s = live s g; unfold execRnsValidationEnd; exact ⟨_, rfl⟩
theorem rnsBlockBoundary (bank : Fin 2) : Statement (.rnsBlockBoundary bank) := by
  intro s; show ∃ g, execRnsBlockBoundary bank s = live s g; unfold execRnsBlockBoundary; exact ⟨_, rfl⟩
theorem rnsRunDone (bank : Fin 2) (bus : Bus) : Statement (.rnsRunDone bank bus) := by
  intro s; show ∃ g, execRnsRunDone bank bus s = live s g; unfold execRnsRunDone onBus; exact ⟨_, rfl⟩
theorem rnsCheckDone (bank : Fin 2) (agrees : Bool) : Statement (.rnsCheckDone bank agrees) := by
  intro s; show ∃ g, execRnsCheckDone bank agrees s = live s g; unfold execRnsCheckDone; exact ⟨_, rfl⟩
theorem rnsWriteDone (bank : Fin 2) (bus : Bus) : Statement (.rnsWriteDone bank bus) := by
  intro s; show ∃ g, execRnsWriteDone bank bus s = live s g; unfold execRnsWriteDone onBus; exact ⟨_, rfl⟩
theorem rnsClearDone (bank : Fin 2) (bus : Bus) : Statement (.rnsClearDone bank bus) := by
  intro s; show ∃ g, execRnsClearDone bank bus s = live s g; unfold execRnsClearDone onBus; exact ⟨_, rfl⟩
theorem rnsSpillDone (bank : Fin 2) (bus : Bus) : Statement (.rnsSpillDone bank bus) := by
  intro s; show ∃ g, execRnsSpillDone bank bus s = live s g; unfold execRnsSpillDone onBus; exact ⟨_, rfl⟩
theorem rnsRestoreDone (bank : Fin 2) (bus : Bus) : Statement (.rnsRestoreDone bank bus) := by
  intro s; show ∃ g, execRnsRestoreDone bank bus s = live s g; unfold execRnsRestoreDone onBus; exact ⟨_, rfl⟩
theorem rnsLeaseExpire (bank : Fin 2) : Statement (.rnsLeaseExpire bank) := by
  intro s; show ∃ g, execRnsLeaseExpire bank s = live s g; unfold execRnsLeaseExpire; exact ⟨_, rfl⟩
theorem digestOpen (bus : Bus) : Statement (.digestOpen bus) := by
  intro s; show ∃ g, execDigestOpen bus s = live s g; unfold execDigestOpen onBus; exact ⟨_, rfl⟩
theorem digestFeed (bus : Bus) : Statement (.digestFeed bus) := by
  intro s; show ∃ g, execDigestFeed bus s = live s g; unfold execDigestFeed onBus; exact ⟨_, rfl⟩
theorem digestRead (bus : Bus) : Statement (.digestRead bus) := by
  intro s; show ∃ g, execDigestRead bus s = live s g; unfold execDigestRead onBus; exact ⟨_, rfl⟩
theorem digestClose : Statement .digestClose := by
  intro s; show ∃ g, execDigestClose s = live s g; unfold execDigestClose; exact ⟨_, rfl⟩
theorem digestQuery : Statement .digestQuery := by
  intro s; show ∃ g, execDigestQuery s = live s g; unfold execDigestQuery; exact ⟨_, rfl⟩
theorem digestChunkEnd (core : Fin 2) (bus : Bus) : Statement (.digestChunkEnd core bus) := by
  intro s; show ∃ g, execDigestChunkEnd core bus s = live s g; unfold execDigestChunkEnd onBus; exact ⟨_, rfl⟩
theorem digestSlotExpire (slot : Fin 64) : Statement (.digestSlotExpire slot) := by
  intro s; show ∃ g, execDigestSlotExpire slot s = live s g; unfold execDigestSlotExpire; exact ⟨_, rfl⟩
theorem mpRead (bus : Bus) : Statement (.mpRead bus) := by
  intro s; show ∃ g, execMpRead bus s = live s g; unfold execMpRead onBus; exact ⟨_, rfl⟩
theorem milepostExtend : Statement .milepostExtend := by
  intro s; show ∃ g, execMilepostExtend s = live s g; unfold execMilepostExtend; exact ⟨_, rfl⟩
theorem updateStage (bus : Bus) : Statement (.updateStage bus) := by
  intro s; show ∃ g, execUpdateStage bus s = live s g; unfold execUpdateStage onBus; exact ⟨_, rfl⟩
theorem updateActivate (bus : Bus) : Statement (.updateActivate bus) := by
  intro s; show ∃ g, execUpdateActivate bus s = live s g; unfold execUpdateActivate onBus; exact ⟨_, rfl⟩
theorem warmRestart (bus : Bus) : Statement (.warmRestart bus) := by
  intro s; show ∃ g, execWarmRestart bus s = live s g; unfold execWarmRestart onBus; exact ⟨_, rfl⟩
theorem updateConfirm (bus : Bus) : Statement (.updateConfirm bus) := by
  intro s; show ∃ g, execUpdateConfirm bus s = live s g; unfold execUpdateConfirm onBus; exact ⟨_, rfl⟩
theorem updateRevert (bus : Bus) : Statement (.updateRevert bus) := by
  intro s; show ∃ g, execUpdateRevert bus s = live s g; unfold execUpdateRevert onBus; exact ⟨_, rfl⟩
theorem updateDiscard (bus : Bus) : Statement (.updateDiscard bus) := by
  intro s; show ∃ g, execUpdateDiscard bus s = live s g; unfold execUpdateDiscard onBus; exact ⟨_, rfl⟩
theorem stageAborted : Statement .stageAborted := by
  intro s; show ∃ g, execStageAborted s = live s g; unfold execStageAborted; exact ⟨_, rfl⟩
theorem nvmWindowRead (bus : Bus) : Statement (.nvmWindowRead bus) := by
  intro s; show ∃ g, execNvmWindowRead bus s = live s g; unfold execNvmWindowRead onBus; exact ⟨_, rfl⟩
theorem waybillGet (bus : Bus) : Statement (.waybillGet bus) := by
  intro s; show ∃ g, execWaybillGet bus s = live s g; unfold execWaybillGet onBus; exact ⟨_, rfl⟩
theorem segmentWaybillGet (bus : Bus) : Statement (.segmentWaybillGet bus) := by
  intro s; show ∃ g, execSegmentWaybillGet bus s = live s g; unfold execSegmentWaybillGet onBus; exact ⟨_, rfl⟩
theorem remoteWaybillGet (bus : Bus) : Statement (.remoteWaybillGet bus) := by
  intro s; show ∃ g, execRemoteWaybillGet bus s = live s g; unfold execRemoteWaybillGet onBus; exact ⟨_, rfl⟩
theorem certRead (bus : Bus) : Statement (.certRead bus) := by
  intro s; show ∃ g, execCertRead bus s = live s g; unfold execCertRead onBus; exact ⟨_, rfl⟩
theorem relayBundleSend (bus : Bus) : Statement (.relayBundleSend bus) := by
  intro s; show ∃ g, execRelayBundleSend bus s = live s g; unfold execRelayBundleSend onBus; exact ⟨_, rfl⟩
theorem relayKeySend (bus : Bus) : Statement (.relayKeySend bus) := by
  intro s; show ∃ g, execRelayKeySend bus s = live s g; unfold execRelayKeySend onBus; exact ⟨_, rfl⟩
theorem peerOpen (bus : Bus) : Statement (.peerOpen bus) := by
  intro s; show ∃ g, execPeerOpen bus s = live s g; unfold execPeerOpen onBus; exact ⟨_, rfl⟩
theorem peerSend (bus : Bus) : Statement (.peerSend bus) := by
  intro s; show ∃ g, execPeerSend bus s = live s g; unfold execPeerSend onBus; exact ⟨_, rfl⟩
theorem peerClose (bus : Bus) : Statement (.peerClose bus) := by
  intro s; show ∃ g, execPeerClose bus s = live s g; unfold execPeerClose onBus; exact ⟨_, rfl⟩
theorem relayLinkReset : Statement .relayLinkReset := by
  intro s; show ∃ g, execRelayLinkReset s = live s g; unfold execRelayLinkReset; exact ⟨_, rfl⟩
theorem linkRise (d : Dir) : Statement (.linkRise d) := by
  intro s; show ∃ g, execLinkRise d s = live s g; unfold execLinkRise; exact ⟨_, rfl⟩
theorem linkFall (d : Dir) : Statement (.linkFall d) := by
  intro s; show ∃ g, execLinkFall d s = live s g; unfold execLinkFall; exact ⟨_, rfl⟩
theorem relayTxAck (d : Dir) : Statement (.relayTxAck d) := by
  intro s; show ∃ g, execRelayTxAck d s = live s g; unfold execRelayTxAck; exact ⟨_, rfl⟩
theorem hello (d : Dir) (beats : List RelayBeat) (bus : Bus) : Statement (.hello d beats bus) := by
  intro s; show ∃ g, execHello d beats bus s = live s g; unfold execHello receive onBus; exact ⟨_, rfl⟩
theorem kem (d : Dir) (beats : List RelayBeat) (bus : Bus) : Statement (.kem d beats bus) := by
  intro s; show ∃ g, execKem d beats bus s = live s g; unfold execKem receive onBus; exact ⟨_, rfl⟩
theorem finished (d : Dir) (beats : List RelayBeat) (bus : Bus) : Statement (.finished d beats bus) := by
  intro s; show ∃ g, execFinished d beats bus s = live s g; unfold execFinished receive onBus; exact ⟨_, rfl⟩
theorem credit (d : Dir) (beats : List RelayBeat) (bus : Bus) : Statement (.credit d beats bus) := by
  intro s; show ∃ g, execCredit d beats bus s = live s g; unfold execCredit receive onBus; exact ⟨_, rfl⟩
theorem rekey (d : Dir) (beats : List RelayBeat) (bus : Bus) : Statement (.rekey d beats bus) := by
  intro s; show ∃ g, execRekey d beats bus s = live s g; unfold execRekey receive onBus; exact ⟨_, rfl⟩
theorem bundle (d : Dir) (beats : List RelayBeat) (bus : Bus) : Statement (.bundle d beats bus) := by
  intro s; show ∃ g, execBundle d beats bus s = live s g; unfold execBundle receive onBus; exact ⟨_, rfl⟩
theorem waybillReq (d : Dir) (beats : List RelayBeat) (bus : Bus) : Statement (.waybillReq d beats bus) := by
  intro s; show ∃ g, execWaybillReq d beats bus s = live s g; unfold execWaybillReq receive onBus; exact ⟨_, rfl⟩
theorem waybill (d : Dir) (beats : List RelayBeat) (bus : Bus) : Statement (.waybill d beats bus) := by
  intro s; show ∃ g, execWaybill d beats bus s = live s g; unfold execWaybill receive onBus; exact ⟨_, rfl⟩
theorem segmentReq (d : Dir) (beats : List RelayBeat) (bus : Bus) : Statement (.segmentReq d beats bus) := by
  intro s; show ∃ g, execSegmentReq d beats bus s = live s g; unfold execSegmentReq receive onBus; exact ⟨_, rfl⟩
theorem segmentAnswer (d : Dir) (beats : List RelayBeat) (bus : Bus) : Statement (.segmentAnswer d beats bus) := by
  intro s; show ∃ g, execSegmentAnswer d beats bus s = live s g; unfold execSegmentAnswer receive onBus; exact ⟨_, rfl⟩
theorem keyMsg (d : Dir) (beats : List RelayBeat) (bus : Bus) : Statement (.keyMsg d beats bus) := by
  intro s; show ∃ g, execKeyMsg d beats bus s = live s g; unfold execKeyMsg receive onBus; exact ⟨_, rfl⟩
theorem keyResult (d : Dir) (beats : List RelayBeat) (bus : Bus) : Statement (.keyResult d beats bus) := by
  intro s; show ∃ g, execKeyResult d beats bus s = live s g; unfold execKeyResult receive onBus; exact ⟨_, rfl⟩
theorem peerOpenFrame (d : Dir) (beats : List RelayBeat) (bus : Bus) : Statement (.peerOpenFrame d beats bus) := by
  intro s; show ∃ g, execPeerOpenFrame d beats bus s = live s g; unfold execPeerOpenFrame receive onBus; exact ⟨_, rfl⟩
theorem peerMsg (d : Dir) (beats : List RelayBeat) (bus : Bus) : Statement (.peerMsg d beats bus) := by
  intro s; show ∃ g, execPeerMsg d beats bus s = live s g; unfold execPeerMsg receive onBus; exact ⟨_, rfl⟩
theorem peerAck (d : Dir) (beats : List RelayBeat) (bus : Bus) : Statement (.peerAck d beats bus) := by
  intro s; show ∃ g, execPeerAck d beats bus s = live s g; unfold execPeerAck receive onBus; exact ⟨_, rfl⟩
theorem peerCloseFrame (d : Dir) (beats : List RelayBeat) (bus : Bus) : Statement (.peerCloseFrame d beats bus) := by
  intro s; show ∃ g, execPeerCloseFrame d beats bus s = live s g; unfold execPeerCloseFrame receive onBus; exact ⟨_, rfl⟩
theorem helloRetryExpire (d : Dir) : Statement (.helloRetryExpire d) := by
  intro s; show ∃ g, execHelloRetryExpire d s = live s g; unfold execHelloRetryExpire; exact ⟨_, rfl⟩
theorem linkRekeyDue (d : Dir) : Statement (.linkRekeyDue d) := by
  intro s; show ∃ g, execLinkRekeyDue d s = live s g; unfold execLinkRekeyDue; exact ⟨_, rfl⟩
theorem creditDue (d : Dir) : Statement (.creditDue d) := by
  intro s; show ∃ g, execCreditDue d s = live s g; unfold execCreditDue; exact ⟨_, rfl⟩
theorem creditTimeout (d : Dir) : Statement (.creditTimeout d) := by
  intro s; show ∃ g, execCreditTimeout d s = live s g; unfold execCreditTimeout; exact ⟨_, rfl⟩
theorem remoteWaitExpire (bus : Bus) : Statement (.remoteWaitExpire bus) := by
  intro s; show ∃ g, execRemoteWaitExpire bus s = live s g; unfold execRemoteWaitExpire onBus; exact ⟨_, rfl⟩
theorem lcTransition (bus : Bus) : Statement (.lcTransition bus) := by
  intro s; show ∃ g, execLcTransition bus s = live s g; unfold execLcTransition onBus; exact ⟨_, rfl⟩
theorem debugInstall (bus : Bus) : Statement (.debugInstall bus) := by
  intro s; show ∃ g, execDebugInstall bus s = live s g; unfold execDebugInstall onBus; exact ⟨_, rfl⟩
theorem debugRemove (bus : Bus) : Statement (.debugRemove bus) := by
  intro s; show ∃ g, execDebugRemove bus s = live s g; unfold execDebugRemove onBus; exact ⟨_, rfl⟩
theorem tamperLogRead : Statement .tamperLogRead := by
  intro s; show ∃ g, execTamperLogRead s = live s g; unfold execTamperLogRead; exact ⟨_, rfl⟩
theorem snapshotVisible : Statement .snapshotVisible := by
  intro s; show ∃ g, execSnapshotVisible s = live s g; unfold execSnapshotVisible; exact ⟨_, rfl⟩
theorem couplingPhaseEnd : Statement .couplingPhaseEnd := by
  intro s; show ∃ g, execCouplingPhaseEnd s = live s g; unfold execCouplingPhaseEnd; exact ⟨_, rfl⟩
theorem vddVaultRise : Statement .vddVaultRise := fun _ => ⟨_, rfl⟩
theorem tamperInFall (n : Fin 9) : Statement (.tamperInFall n) := fun _ => ⟨tamperInputFalls n.val, rfl⟩
theorem relayFrameDiscard (d : Dir) (beats : List RelayBeat) : Statement (.relayFrameDiscard d beats) := by
  intro s; show ∃ g, execRelayFrameDiscard d beats s = live s g; unfold execRelayFrameDiscard; exact ⟨_, rfl⟩
theorem meKindReserved (mid : Mid) : Statement (.meKindReserved mid) := by
  intro s; show ∃ g, execMeKindReserved mid s = live s g; unfold execMeKindReserved; exact ⟨_, rfl⟩

/-- Every command's shape. -/
theorem all (i : Instr) : Statement i := by
  cases i
  case porstNAssert => exact Shape.porstNAssert
  case coldStart env bus => exact Shape.coldStart env bus
  case powerFailure => exact Shape.powerFailure
  case paceTick bus => exact Shape.paceTick bus
  case sensorSample mv tj => exact Shape.sensorSample mv tj
  case calibrationPeriod => exact Shape.calibrationPeriod
  case calibrationCountStart => exact Shape.calibrationCountStart
  case calibrationCountEnd count => exact Shape.calibrationCountEnd count
  case calibrationAbandoned => exact Shape.calibrationAbandoned
  case custInRequest ch b => exact Shape.custInRequest ch b
  case custInWriteBeat ch b => exact Shape.custInWriteBeat ch b
  case custInResponseAck ch => exact Shape.custInResponseAck ch
  case custOutRequestAck ch => exact Shape.custOutRequestAck ch
  case custOutResponse ch r bus => exact Shape.custOutResponse ch r bus
  case reqWithdrawn bundle changed => exact Shape.reqWithdrawn bundle changed
  case earlyAck bundle => exact Shape.earlyAck bundle
  case reqStuck bundle => exact Shape.reqStuck bundle
  case ackTimeout bundle => exact Shape.ackTimeout bundle
  case burstTimeout burst => exact Shape.burstTimeout burst
  case noResponse ch tag => exact Shape.noResponse ch tag
  case keyDerivation => exact Shape.keyDerivation
  case mapWalk bus => exact Shape.mapWalk bus
  case metadataFetch bus => exact Shape.metadataFetch bus
  case metadataWriteback bus => exact Shape.metadataWriteback bus
  case rekeyLine bus => exact Shape.rekeyLine bus
  case tileDelayExpire bus => exact Shape.tileDelayExpire bus
  case tileCompletionRead bus => exact Shape.tileCompletionRead bus
  case epochAdvance bus => exact Shape.epochAdvance bus
  case exceptionTake bus => exact Shape.exceptionTake bus
  case sweepPassStart bus => exact Shape.sweepPassStart bus
  case sweepMapLine bus => exact Shape.sweepMapLine bus
  case sweepPage bus => exact Shape.sweepPage bus
  case scrubPage bus => exact Shape.scrubPage bus
  case sramScrubPass found bus => exact Shape.sramScrubPass found bus
  case faultRestart u more hold bus => exact Shape.faultRestart u more hold bus
  case firmwareResume intact => exact Shape.firmwareResume intact
  case journalRecord => exact Shape.journalRecord
  case vaultShareRefresh => exact Shape.vaultShareRefresh
  case nvmOperationDone how bus => exact Shape.nvmOperationDone how bus
  case directoryChange ok bus => exact Shape.directoryChange ok bus
  case keyStoreCommit bus => exact Shape.keyStoreCommit bus
  case otpAck fail bus => exact Shape.otpAck fail bus
  case budgetCap cap => exact Shape.budgetCap cap
  case resetAsserted mid => exact Shape.resetAsserted mid
  case resetReleased mid => exact Shape.resetReleased mid
  case updateStrobeIn bus => exact Shape.updateStrobeIn bus
  case strobeApplied => exact Shape.strobeApplied
  case tamperIn n => exact Shape.tamperIn n
  case zeroizeAll => exact Shape.zeroizeAll
  case supplyGlitch => exact Shape.supplyGlitch
  case vaultUndervoltage => exact Shape.vaultUndervoltage
  case tamperedRestart bus => exact Shape.tamperedRestart bus
  case tapInstruction ir => exact Shape.tapInstruction ir
  case lcAccess dr => exact Shape.lcAccess dr
  case otpAccessRead addr ans => exact Shape.otpAccessRead addr ans
  case otpAccessProgram addr data ans => exact Shape.otpAccessProgram addr data ans
  case coreDebug op => exact Shape.coreDebug op
  case scan => exact Shape.scan
  case memTest => exact Shape.memTest
  case memTestComplete => exact Shape.memTestComplete
  case registerWrite mid off data => exact Shape.registerWrite mid off data
  case paceCountLo mid => exact Shape.paceCountLo mid
  case mpValue mid j => exact Shape.mpValue mid j
  case ctxRecord0 mid => exact Shape.ctxRecord0 mid
  case msgIn mid c data => exact Shape.msgIn mid c data
  case msgOut mid c => exact Shape.msgOut mid c
  case dbClear mid c data => exact Shape.dbClear mid c data
  case flush mid c => exact Shape.flush mid c
  case release mid c => exact Shape.release mid c
  case dropResponses mid c => exact Shape.dropResponses mid c
  case strobe mid bus => exact Shape.strobe mid bus
  case snapshotTake mid => exact Shape.snapshotTake mid
  case calibrate mid => exact Shape.calibrate mid
  case seqClear mid off seq => exact Shape.seqClear mid off seq
  case pairedWriteArm mid off data => exact Shape.pairedWriteArm mid off data
  case pairedWriteExpire mid => exact Shape.pairedWriteExpire mid
  case claim mid data => exact Shape.claim mid data
  case name mid data => exact Shape.name mid data
  case confirm mid data => exact Shape.confirm mid data
  case resign mid data => exact Shape.resign mid data
  case electionWindowClose => exact Shape.electionWindowClose
  case handoverExpire => exact Shape.handoverExpire
  case acctClearLane mid data => exact Shape.acctClearLane mid data
  case acctClearAll mid data => exact Shape.acctClearAll mid data
  case unknownOpcode => exact Shape.unknownOpcode
  case ping => exact Shape.ping
  case blockInfo => exact Shape.blockInfo
  case jobStatus => exact Shape.jobStatus
  case jobCancel bus => exact Shape.jobCancel bus
  case noticeFetch => exact Shape.noticeFetch
  case ctxOpen bus => exact Shape.ctxOpen bus
  case ctxRelease bus => exact Shape.ctxRelease bus
  case pageClaim bus => exact Shape.pageClaim bus
  case pageSeal bus => exact Shape.pageSeal bus
  case pageFreeze bus => exact Shape.pageFreeze bus
  case pageRenew bus => exact Shape.pageRenew bus
  case pageRelease bus => exact Shape.pageRelease bus
  case ctxQuery bus => exact Shape.ctxQuery bus
  case verdictFence bus => exact Shape.verdictFence bus
  case pageQuery bus => exact Shape.pageQuery bus
  case laneOpen => exact Shape.laneOpen
  case laneDrain => exact Shape.laneDrain
  case laneResume => exact Shape.laneResume
  case laneRelease bus => exact Shape.laneRelease bus
  case modelLoad bus => exact Shape.modelLoad bus
  case loaderTileWaitExpire bus => exact Shape.loaderTileWaitExpire bus
  case modelQuery bus => exact Shape.modelQuery bus
  case modelSignerSet bus => exact Shape.modelSignerSet bus
  case receiptOpen bus => exact Shape.receiptOpen bus
  case receiptClose bus => exact Shape.receiptClose bus
  case receiptAbandon bus => exact Shape.receiptAbandon bus
  case receiptRefold bus => exact Shape.receiptRefold bus
  case receiptVerdictsFinal bus => exact Shape.receiptVerdictsFinal bus
  case receiptEnter bus => exact Shape.receiptEnter bus
  case sheetFlush bus => exact Shape.sheetFlush bus
  case sheetCopy bus => exact Shape.sheetCopy bus
  case sheetCollect bus => exact Shape.sheetCollect bus
  case sheetStatus bus => exact Shape.sheetStatus bus
  case receiptFetch bus => exact Shape.receiptFetch bus
  case sheetAgeExpire bus => exact Shape.sheetAgeExpire bus
  case sheetSigned bus => exact Shape.sheetSigned bus
  case sheetSignRetry bus => exact Shape.sheetSignRetry bus
  case keyHandleOpen bus => exact Shape.keyHandleOpen bus
  case keyHandleClose => exact Shape.keyHandleClose
  case keyInfo => exact Shape.keyInfo
  case keyPublic bus => exact Shape.keyPublic bus
  case keyDestroy bus => exact Shape.keyDestroy bus
  case keyUpdate bus => exact Shape.keyUpdate bus
  case certInstall bus => exact Shape.certInstall bus
  case vaultSleep bus => exact Shape.vaultSleep bus
  case monoRead => exact Shape.monoRead
  case monoIncrement => exact Shape.monoIncrement
  case reenroll bus => exact Shape.reenroll bus
  case rnsEcdsaSign bus => exact Shape.rnsEcdsaSign bus
  case rnsEcdsaVerify bus => exact Shape.rnsEcdsaVerify bus
  case rnsEcdh bus => exact Shape.rnsEcdh bus
  case rnsMldsaSign bus => exact Shape.rnsMldsaSign bus
  case rnsMldsaVerify bus => exact Shape.rnsMldsaVerify bus
  case rnsMlkemKeygen bus => exact Shape.rnsMlkemKeygen bus
  case rnsMlkemEncaps bus => exact Shape.rnsMlkemEncaps bus
  case rnsMlkemDecaps bus => exact Shape.rnsMlkemDecaps bus
  case rnsInfo => exact Shape.rnsInfo
  case rnsLaneAbort bus => exact Shape.rnsLaneAbort bus
  case rnsBankGrant bus => exact Shape.rnsBankGrant bus
  case rnsLoadDone bank bus => exact Shape.rnsLoadDone bank bus
  case rnsValidationEnd bank => exact Shape.rnsValidationEnd bank
  case rnsBlockBoundary bank => exact Shape.rnsBlockBoundary bank
  case rnsRunDone bank bus => exact Shape.rnsRunDone bank bus
  case rnsCheckDone bank agrees => exact Shape.rnsCheckDone bank agrees
  case rnsWriteDone bank bus => exact Shape.rnsWriteDone bank bus
  case rnsClearDone bank bus => exact Shape.rnsClearDone bank bus
  case rnsSpillDone bank bus => exact Shape.rnsSpillDone bank bus
  case rnsRestoreDone bank bus => exact Shape.rnsRestoreDone bank bus
  case rnsLeaseExpire bank => exact Shape.rnsLeaseExpire bank
  case digestOpen bus => exact Shape.digestOpen bus
  case digestFeed bus => exact Shape.digestFeed bus
  case digestRead bus => exact Shape.digestRead bus
  case digestClose => exact Shape.digestClose
  case digestQuery => exact Shape.digestQuery
  case digestChunkEnd core bus => exact Shape.digestChunkEnd core bus
  case digestSlotExpire slot => exact Shape.digestSlotExpire slot
  case mpRead bus => exact Shape.mpRead bus
  case milepostExtend => exact Shape.milepostExtend
  case updateStage bus => exact Shape.updateStage bus
  case updateActivate bus => exact Shape.updateActivate bus
  case warmRestart bus => exact Shape.warmRestart bus
  case updateConfirm bus => exact Shape.updateConfirm bus
  case updateRevert bus => exact Shape.updateRevert bus
  case updateDiscard bus => exact Shape.updateDiscard bus
  case stageAborted => exact Shape.stageAborted
  case nvmWindowRead bus => exact Shape.nvmWindowRead bus
  case waybillGet bus => exact Shape.waybillGet bus
  case segmentWaybillGet bus => exact Shape.segmentWaybillGet bus
  case remoteWaybillGet bus => exact Shape.remoteWaybillGet bus
  case certRead bus => exact Shape.certRead bus
  case relayBundleSend bus => exact Shape.relayBundleSend bus
  case relayKeySend bus => exact Shape.relayKeySend bus
  case peerOpen bus => exact Shape.peerOpen bus
  case peerSend bus => exact Shape.peerSend bus
  case peerClose bus => exact Shape.peerClose bus
  case relayLinkReset => exact Shape.relayLinkReset
  case linkRise d => exact Shape.linkRise d
  case linkFall d => exact Shape.linkFall d
  case relayTxAck d => exact Shape.relayTxAck d
  case hello d beats bus => exact Shape.hello d beats bus
  case kem d beats bus => exact Shape.kem d beats bus
  case finished d beats bus => exact Shape.finished d beats bus
  case credit d beats bus => exact Shape.credit d beats bus
  case rekey d beats bus => exact Shape.rekey d beats bus
  case bundle d beats bus => exact Shape.bundle d beats bus
  case waybillReq d beats bus => exact Shape.waybillReq d beats bus
  case waybill d beats bus => exact Shape.waybill d beats bus
  case segmentReq d beats bus => exact Shape.segmentReq d beats bus
  case segmentAnswer d beats bus => exact Shape.segmentAnswer d beats bus
  case keyMsg d beats bus => exact Shape.keyMsg d beats bus
  case keyResult d beats bus => exact Shape.keyResult d beats bus
  case peerOpenFrame d beats bus => exact Shape.peerOpenFrame d beats bus
  case peerMsg d beats bus => exact Shape.peerMsg d beats bus
  case peerAck d beats bus => exact Shape.peerAck d beats bus
  case peerCloseFrame d beats bus => exact Shape.peerCloseFrame d beats bus
  case helloRetryExpire d => exact Shape.helloRetryExpire d
  case linkRekeyDue d => exact Shape.linkRekeyDue d
  case creditDue d => exact Shape.creditDue d
  case creditTimeout d => exact Shape.creditTimeout d
  case remoteWaitExpire bus => exact Shape.remoteWaitExpire bus
  case lcTransition bus => exact Shape.lcTransition bus
  case debugInstall bus => exact Shape.debugInstall bus
  case debugRemove bus => exact Shape.debugRemove bus
  case tamperLogRead => exact Shape.tamperLogRead
  case snapshotVisible => exact Shape.snapshotVisible
  case couplingPhaseEnd => exact Shape.couplingPhaseEnd
  case vddVaultRise => exact Shape.vddVaultRise
  case tamperInFall n => exact Shape.tamperInFall n
  case relayFrameDiscard d beats => exact Shape.relayFrameDiscard d beats
  case meKindReserved mid => exact Shape.meKindReserved mid

end Sys2Proof.Laws.Shape
end

