-- ==== Sys2Proof/Laws/Step.lean ====
section
/-!
SUPPORT. What one step can do, said once for every command; invariants of the whole machine start here.
-/

namespace Sys2Proof.Laws

open Sys2Proof Sys2Proof.Machine Sys2Proof.Safety

/-- A row of the running block: the state it ends in, or the same state while the block is held. -/
theorem exec_running (c : Instr) (s : State) (h : actsWhile c = .running) :
    ∃ u, exec c s = .next (if powered s then ended s u else s) := by
  have hs := Shape.all c s
  rw [h] at hs
  obtain ⟨f, hf⟩ := hs
  exact ⟨f s, hf⟩

/-- A row of the vault domain. -/
theorem exec_vaultSupplied (c : Instr) (s : State) (h : actsWhile c = .vaultSupplied) :
    ∃ f : State → State, exec c s = .next (if s.pins.vddVault then ended s (f s) else s) := by
  have hs := Shape.all c s
  rw [h] at hs
  obtain ⟨f, hf⟩ := hs
  exact ⟨f, hf⟩

/-- The rows that report PORST_N or a supply. -/
theorem actsWhile_always (c : Instr) (h : actsWhile c = .always) :
    c = .porstNAssert ∨ (∃ env bus, c = .coldStart env bus) ∨ c = .powerFailure ∨ c = .vddVaultRise := by
  cases c <;> first | (cases h; done) | simp

/-- The rows of the vault domain. -/
theorem actsWhile_vaultSupplied (c : Instr) (h : actsWhile c = .vaultSupplied) :
    (∃ n, c = .tamperIn n) ∨ (∃ n, c = .tamperInFall n) ∨ c = .zeroizeAll ∨ c = .vaultUndervoltage := by
  cases c <;> first | (cases h; done) | simp

/-- What a running block ends in has no answer of the memory controller left, and its queue, PORST_N and supplies as they were. -/
theorem exec_running_frame {c : Instr} {s t : State} (h : actsWhile c = .running) (e : exec c s = .next t) :
    t.pending = s.pending ∧ t.pins.porstN = s.pins.porstN ∧ t.pins.vddCore = s.pins.vddCore ∧ t.pins.vddVault = s.pins.vddVault ∧
      (powered s = true → t.bus = []) ∧ (powered s = false → t = s) := by
  obtain ⟨u, hu⟩ := exec_running c s h
  rw [hu] at e
  cases e
  cases hp : powered s <;> simp

end Sys2Proof.Laws
end

