-- ==== Sys2Proof/Tests/Slice0.lean ====
section
/-!
SUPPORT. Tests: a term that each check of WellFormed refuses, and states and operands that meet the hypotheses of the statements, clause by
clause. Values come from the spec's encodings and ranges.
-/

namespace Sys2Proof.Tests

set_option Elab.async false

open Sys2Proof Sys2Proof.Machine Sys2Proof.Safety

/-! ### Well-formed commands -/

/-- A beat as the fabric sends it. -/
def beat (op : BitVec 2) (la : LineAddr) (ctx : CtxId) : CustBeat :=
  { beat := 0, op := op, addr := la, len := 0, mid := 9, ctx := ctx, tag := 3, data := 0, mask := BitVec.allOnes 64 }

/-- A frame of a TYPE and a payload. -/
def frame (typ : Byte) (p : Octets) : Frame :=
  { header := [typ, 1] ++ beOctets 2 p.length ++ List.replicate 12 0, payload := p, tag := List.replicate 16 0 }

/-- What a start brings when nothing is wrong with it. -/
def env : StartEnv := { (default : StartEnv) with spares := List.replicate 9 0, otpSilent := [] }

theorem test_bus_answered_twice : busOk [⟨5, true, .err⟩, ⟨5, true, .silent⟩] = false := by decide
theorem test_bus_read_and_write : busOk [⟨5, true, .err⟩, ⟨5, false, .silent⟩] = true := by decide
theorem test_beat_of_15 : Instr.wf (.hello .up [{ data := 1 :: List.replicate 14 0, sof := true, eof := true, bytes := 0 }] []) = false := by decide
theorem test_frame_other_type : Instr.wf (.kem .up (beatsOf (frame 0x01 [])) []) = false := by decide
theorem test_frame_of_its_type : Instr.wf (.kem .up (beatsOf (frame 0x02 [])) []) = true := by decide
theorem test_first_beat_not_0 : Instr.wf (.custInRequest 0 { beat 1 5 1 with beat := 1 }) = false := by decide
theorem test_later_beat_0 : Instr.wf (.custInWriteBeat 0 (beat 1 5 1)) = false := by decide
theorem test_start_eight_srams : Instr.wf (.coldStart { env with spares := List.replicate 8 0 } []) = false := by decide
theorem test_start_word_twice : Instr.wf (.coldStart { env with otpSilent := [7, 7] } []) = false := by decide
theorem test_finding_outside : Instr.wf (.sramScrubPass [.regFile .milepost 32 false] []) = false := by decide
theorem test_hold_1025 : Instr.wf (.faultRestart (.vote 3) [] 1025 []) = false := by decide
theorem test_hold_1024 : Instr.wf (.faultRestart (.vote 3) [] 1024 []) = true := by decide
theorem test_pair_no_pw_register : Instr.wf (.pairedWriteArm 9 0x0006 0) = false := by decide
theorem test_pair_owner_claim : Instr.wf (.pairedWriteArm 9 0x0005 0) = true := by decide

/-! ### States -/

/-- A block that serves: master 9 holds right of way, masters 9 and 5 are candidates, the start has reached its end, and 100,000 paces have
elapsed. -/
def up : State := { State.reset with
  pins := { porstN := true }, own := { mid := 9, phase := .owned, cands := [(9, 1), (5, 2)] }
  boot := { phase := 6 }, pace := { now := 100000 } }

/-- The window's 32 pages begin at page 0x100, the last one holds the map; lane 1 is OPEN and bound to MID 9, its context 1 ACTIVE with one LIVE page of the OPEN class,
whose map line is cached. -/
def tenant : State := { up with
  cfg := {
    fixed := [(0x1000, 0x100), (0x1004, 32), (0x100C, 0x11F), (0x1018, 0x210), (0x1028, 0x400000), (0x1B0C, 0x410000), (0x2020, 0x420000),
      (0x2024, 0x430000), (0x3014, 0x440000)]
    active := [(0x1008, 32), (0x1108, 0x8100)], shadow := [(0x1008, 32), (0x1108, 0x8100)] }
  lanes := [(1, { state := .opened, held := 1 })]
  ctxs := [(1, { lane := 1, state := .active, permits := 15, quota := 20, held := 1 })]
  mapc := { lines := [(0, { words := mkEntry 1 .openC .live false true true 0 0 :: List.replicate 15 0, used := 0 })] }
  cust := { enabled := true }
  power := { credits := [10 ^ 12, 0, 0, 0, 0] } }

/-- A request of the owner, as it waits. -/
def req (op : Nat) (p : List W32) : Req :=
  { w0 := field 32 20 12 op ||| field 32 6 6 p.length, w1 := field 32 0 8 9 ||| flag 32 15 true, payload := p, at_ := 0 }

/-- A state in which that request is next. -/
def ask (s : State) (op : Nat) (p : List W32) : State :=
  { s with mbox := [(0, { holder := some 9, waiting := [req op p] })] }

/-- The request that a state starts, and the state in which it runs. -/
def begun (s : State) : Call × State :=
  match startRequest s ((pickChannel s).getD 0) with
  | some x => x
  | none => ({ ch := 0, req := req 0 [], owner := false, lane := 0, laneV := false }, s)

/-- Whether the controller starts a request of an opcode. -/
def startsOk (s : State) (op : Nat) : Bool :=
  match pickChannel s with
  | none => false
  | some c => match startRequest s c with
    | none => false
    | some x => decide (opcodeOf x.1.req.w0 = op) && decide (serving s op = .serves) && decide (requestRefusal x.2 x.1 = none)

theorem started_of {s : State} {op : Nat} (h : startsOk s op = true) : Started s op (begun s).1 (begun s).2 := by
  unfold startsOk at h
  unfold begun
  split at h
  · exact absurd h (by decide)
  · rename_i c hc
    split at h
    · exact absurd h (by decide)
    · rename_i x hx
      simp only [Bool.and_eq_true, decide_eq_true_eq] at h
      simp only [hc, Option.getD_some, hx]
      exact ⟨⟨c, hc, hx⟩, h.1.1, h.1.2, h.2⟩

/-- Words of a descriptor of context 1's page. -/
def descWords1 (off len : Nat) : List W32 := [1, BitVec.ofNat 32 (0x100000 + off), 0, BitVec.ofNat 32 len]

/-- A request of every opcode with a LEN that its chapter allows can start: the hypothesis `Started` of the statements about requests. -/
theorem test_every_opcode_starts :
    opTable.all (fun i => startsOk (ask tenant i.op (List.replicate (i.lens.headD 0) 0)) i.op) = true := by decide +kernel

/-- The state after a command. -/
def after (c : Instr) (s : State) : State :=
  match exec c s with
  | .next t => t
  | _ => s

/-- PING echoes its payload: word 0 with RESPONSE set, word 1 with DONE, then the payload (R95, R98). -/
theorem test_ping_echoes :
    (chanAt (after .ping (ask up 0x001 [7, 8])) 0).responses = [[0x00100081, 0x00000000, 7, 8]] := by decide +kernel

/-! ### The machine -/

theorem test_held_block : powered State.reset = false ∧ exec .ping State.reset = .next State.reset := ⟨by decide, rfl⟩

theorem test_reset_inv : Inv State.reset := ⟨rfl, fun _ => ⟨rfl, rfl, rfl, rfl, ⟨rfl, rfl, rfl, rfl⟩, ⟨rfl, rfl, rfl⟩, rfl, ⟨rfl, rfl, rfl⟩, ⟨rfl, rfl, rfl, rfl⟩,
  ⟨rfl, rfl, rfl, rfl, rfl⟩, rfl, rfl, ⟨rfl, rfl⟩, ⟨rfl, rfl, rfl⟩, rfl, rfl, ⟨rfl, rfl⟩⟩⟩

theorem test_step_inv_witness : Inv State.reset ∧ step State.reset = .next State.reset := ⟨test_reset_inv, rfl⟩

theorem test_memory_wf_witness : memoryWf { up with dram := [(5, 7), (9, 1)] } = true ∧ memoryWf { up with dram := [(9, 1), (5, 7)] } = false ∧
    memoryWf { up with dram := [(5, 0)] } = false := by decide +kernel

/-- A log whose last entry has been met 127 times. -/
def vlog127 : VLog := { entries := [(31, { port := 0x10, kind := 1, mid := 9, midv := true, rep := 127, pace := 4 })], head := 0, total := 0xFFFF }

theorem test_vlog_saturated : vEntry (vlogAdd vlog127 0x10 1 9 true 8) 31 = vEntry vlog127 31 ∧
    (vlogAdd vlog127 0x10 1 9 true 8).total = 0xFFFF ∧ (vlogAdd vlog127 0x10 1 9 true 8).seq = 1 := by decide +kernel

theorem test_vlog_other_mid : (vEntry (vlogAdd vlog127 0x10 1 5 true 8) 0).mid = 5 ∧ (vlogAdd vlog127 0x10 1 5 true 8).head = 1 := by
  decide +kernel

theorem test_counter_wraps :
    counter (count { up with cnt := [(0x7820, BitVec.allOnes 64)] } 0x7820 2) 0x7820 = 1 := by decide +kernel

/-! ### Right of way and paired writes -/

/-- A master's half at a PW register. -/
def armed (s : State) (mid : Mid) (off : Nat) (v : W32) : State :=
  { s with cfg := { s.cfg with armed := [(mid.toNat, { off := off, value := v, at_ := clock s - 64 })] } }

theorem half_of (s : State) (mid : Mid) (off : Nat) (v : W32) (h : canAct s mid = true) : HalfArmed (armed s mid off v) mid off v := by
  refine ⟨h, clock s - 64, ?_, ?_⟩
  · simp [armed, tfind]
  · show clock s ≤ clock s - 64 + 64
    omega

/-- An election window with a claim of the second rank. -/
def window : State := { up with own := { mid := 0, phase := .window, remaining := 100, claims := [5], cands := [(9, 1), (5, 2)] } }
/-- A handover to MID 5. -/
def handover : State := { up with own := { mid := 9, phase := .handover, successor := 5, remaining := 100, cands := [(9, 1), (5, 2)] } }

theorem test_claim_top_rank_hyp : HalfArmed (armed window 9 0x0014 (actionWord 1 0)) 9 0x0014 (actionWord 1 0) ∧
    rankOf window 9 = some (topRank window) ∧ window.own.remaining ≠ 0 ∧ (9 : Mid) ∉ window.own.claims :=
  ⟨half_of _ _ _ _ (by decide), by decide, by decide, by decide⟩

theorem test_claim_top_rank : (after (.claim 9 (~~~(actionWord 1 0))) (armed window 9 0x0014 (actionWord 1 0))).own =
    { mid := 9, phase := .owned, gen := 1, cands := [(9, 1), (5, 2)] } := by decide +kernel

theorem test_claim_other_rank : let s := { window with own := { window.own with claims := [] } }
    rankOf s 5 = some 2 ∧ topRank s = 1 ∧
    (after (.claim 5 (~~~(actionWord 1 0))) (armed s 5 0x0014 (actionWord 1 0))).own = { s.own with claims := [5] } := by decide +kernel

theorem test_window_closes_with_claim : let s := { window with own := { window.own with remaining := 0 } }
    bestClaim s = some (5, 2) ∧ (after .electionWindowClose s).own.mid = 5 := by decide +kernel

theorem test_uncontested_window : let s := { window with own := { window.own with remaining := 0, claims := [] } }
    bestClaim s = none ∧ (after .electionWindowClose s).own.phase = .opened ∧
    (after (.claim 5 (~~~(actionWord 1 0))) (armed (after .electionWindowClose s) 5 0x0014 (actionWord 1 0))).own.mid = 5 := by
  decide +kernel

theorem test_confirm : (after (.confirm 5 (~~~(actionWord 3 0))) (armed handover 5 0x0014 (actionWord 3 0))).own =
    { mid := 5, phase := .owned, gen := 1, cands := [(9, 1), (5, 2)] } := by decide +kernel

theorem test_name : isOwner up 9 = true ∧ (rankOf up 5).isSome = true ∧
    (after (.name 9 (~~~(actionWord 2 5))) (armed up 9 0x0014 (actionWord 2 5))).own =
      { up.own with phase := .handover, successor := 5, remaining := 4096 } := by decide +kernel

theorem test_name_self_cancels : (after (.name 9 (~~~(actionWord 2 9))) (armed handover 9 0x0014 (actionWord 2 9))).own = up.own := by
  decide +kernel

theorem test_handover_expires : let s := { handover with own := { handover.own with remaining := 0 } }
    (after .handoverExpire s).own = up.own := by decide +kernel

theorem test_resign : (after (.resign 9 (~~~(actionWord 4 0))) (armed up 9 0x0014 (actionWord 4 0))).own =
    { up.own with mid := 0, phase := .window, remaining := 8192, gen := 1 } := by decide +kernel

theorem test_action_refused : let s := armed up 5 0x0014 (actionWord 4 0)
    isOwner s 5 = false ∧ (after (.resign 5 (~~~(actionWord 4 0))) s).own = up.own ∧
    vEntry (after (.resign 5 (~~~(actionWord 4 0))) s).vlog 0 =
      { port := pCtl, kind := kAccessDenied, mid := 5, midv := true, rep := 1, pace := 100000 } := by decide +kernel

theorem test_pair_wrong_complement : HalfArmed (armed up 5 0x0014 (actionWord 1 0)) 5 0x0014 (actionWord 1 0) ∧
    (after (.claim 5 0) (armed up 5 0x0014 (actionWord 1 0))).cfg.armed = [] :=
  ⟨half_of _ _ _ _ (by decide), by decide +kernel⟩

theorem test_pair_expires : let s := { up with cfg := { up.cfg with armed := [(9, { off := 0x0014, value := 1, at_ := 99935 })] } }
    (after (.pairedWriteExpire 9) s).cfg.armed = [] ∧ (after (.pairedWriteExpire 9) s).vlog.total = 1 := by decide +kernel

theorem test_pair_stands_at_64 : let s := { up with cfg := { up.cfg with armed := [(9, { off := 0x0014, value := 1, at_ := 99936 })] } }
    exec (.pairedWriteExpire 9) s = .next s := rfl

theorem test_master_reset_hyp : up.pages = [] ∧ (∀ c : Fin 128, (chanAt up c.val).tickets = []) ∧
    (after (.resetAsserted 9) up).own.mid = 0 ∧ canAct (after (.resetAsserted 9) up) 9 = false := by decide +kernel

/-! ### Registers -/

theorem test_register_shadow : groupOf 0x1044 = some 0 ∨ (groupOf 0x1044).isSome = true := by decide +kernel

theorem test_register_write : canAct up 9 = true ∧ isOwner up 9 = true ∧ (groupOf 0x0440).isSome = true ∧
    shadowReg (after (.registerWrite 9 (0x0440 / 4) (some 0x01000100)) up) 0x0440 = 0x01000100 ∧
    activeReg (after (.registerWrite 9 (0x0440 / 4) (some 0x01000100)) up) 0x0440 = 0x02240258 := by decide +kernel

theorem test_register_plain : isPlain 0x301C = true ∧ isPlain 0x1A00 = true := by decide +kernel

theorem test_register_denied : isOwner up 5 = false ∧
    (vEntry (after (.registerWrite 5 (0x0440 / 4) (some 0)) up).vlog 0).kind = kAccessDenied := by decide +kernel

theorem test_seq_clear : let s := { up with power := { seq := 3, capLowered := true } }
    seqOf s 0x044C = some 3 ∧ (after (.seqClear 9 (0x044C / 4) 3) s).power.capLowered = false ∧
    (after (.seqClear 9 (0x044C / 4) 3) s).power.seq = 3 ∧ (after (.seqClear 9 (0x044C / 4) 2) s).power.capLowered = true := by
  decide +kernel

theorem test_strobe : let s := setShadow up 0x0440 0x00640064
    applying s = false ∧ dirtyIn s 0 = [] ∧ dirtyIn s 6 = [] ∧ activeReg (after (.strobe 9 []) s) 0x0440 = 0x00640064 ∧
    (after (.strobe 9 []) s).cfg.genTaken = 1 := by decide +kernel

theorem test_strobe_window_0 : let s := setShadow tenant 0x1008 0
    dirtyIn s 0 ≠ [] ∧ dirtyIn s 6 = [] ∧ bit (after (.strobe 9 []) s).cfg.refused 0 = true := by decide +kernel

theorem test_strobe_lane_0 : let s := setShadow up 0x1108 0x8000
    dirtyIn s 2 ≠ [] ∧ bindsLane0 s = true ∧ bit (after (.strobe 9 []) s).cfg.refused 2 = true := by decide +kernel

theorem test_strobe_echo : let s := { up with pins := { up.pins with strobeOutAt := some 99995 } }
    isEcho s = true ∧ isEcho { s with pins := { s.pins with strobeOutAt := some 99994 } } = false ∧
    exec (.updateStrobeIn []) s = .next s := ⟨by decide +kernel, by decide +kernel, rfl⟩

theorem test_strobe_held : let s := { up with cfg := { up.cfg with genTaken := 1 } }
    applying s = true ∧ isEcho s = false ∧ (after (.updateStrobeIn []) s).cfg.strobeHeld = true ∧
    (after .strobeApplied s).cfg.genApplied = 1 := by decide +kernel

theorem test_snapshot : let s := { up with cnt := [(0x7820, 5)] }
    let t := after .snapshotVisible (after (.snapshotTake 9) s)
    (after (.snapshotTake 9) s).cfg.holding = [] ∧ readReg t 0x7820 = 5 ∧ readReg t 0x7800 = 100000 ∧ t.cfg.snapSeq = 1 := by
  decide +kernel

theorem test_pace_count_latched : let s := { up with pace := { now := 2 ^ 32 + 7 } }
    (after (.paceCountLo 9) s).pins.ctlRdata = 7 ∧ readFor { after (.paceCountLo 9) s with pace := { now := 2 ^ 33 } } 9 0x0404 = 1 := by
  decide +kernel

theorem test_acct_clear_hyp : HalfArmed (armed up 9 0x6800 1) 9 0x6800 1 ∧ bit (1 : W32) 8 = false ∧ bit (0x100 : W32) 8 = true :=
  ⟨half_of _ _ _ _ (by decide), by decide, by decide⟩

theorem test_acct_clear : let s := armed { up with cnt := [(0x7020, 5), (0x7040, 6), (0x7808, 7)] } 9 0x6800 1
    (after (.acctClearLane 9 0xFFFFFFFE) s).cnt = [(0x7040, 6), (0x7808, 7)] := by decide +kernel

theorem test_calibrate : let s := { up with cfg := { up.cfg with fixed := [(0x0418, 25000)] } }
    tempoKhz s = 25000 ∧ (after (.calibrate 9) s).pace.running = true := by decide +kernel

/-! ### Channels -/

theorem test_message_whole : maySend up 9 3 = true ∧ composeLate up 3 = false ∧
    ((chanAt (after (.msgIn 9 3 0x00100000) up) 3).waiting.map Req.w1) = [0x00068009] := by decide +kernel

theorem test_message_begun : (chanAt (after (.msgIn 9 3 0x00100380) up) 3).compose = [0x00100380] ∧
    directHolder (chanAt (after (.msgIn 9 3 0x00100380) up) 3) = some 9 := by decide +kernel

theorem test_message_last_word : let s := { up with mbox := [(3, { holder := some 9, compose := [0x00100040], lastPush := 99000 })] }
    ((chanAt (after (.msgIn 9 3 77) s) 3).waiting.map Req.payload) = [[77]] := by decide +kernel

theorem test_bad_length : (chanAt (after (.msgIn 9 3 0x001003C0) up) 3).discarding = true ∧
    (chanAt (after (.msgIn 9 3 0x001003C0) up) 3).responses = [[0x00100001, 6]] := by decide +kernel

theorem test_overrun : let s := { up with mbox := [(3, { holder := some 9, responses := [[1, 0], [1, 0], [1, 0], [1, 0]] })] }
    slotsUsed (chanAt s 3) = 4 ∧ (chanAt (after (.msgIn 9 3 0x00100000) s) 3).overrun = true ∧
    (chanAt (after (.flush 9 3) (after (.msgIn 9 3 0x00100000) s)) 3).discarding = false := by decide +kernel

theorem test_push_denied : let s := { up with mbox := [(3, { holder := some 5 })] }
    maySend s 9 3 = false ∧ (after (.msgIn 9 3 0) s).mbox = s.mbox := by decide +kernel

theorem test_pop : let s := { up with mbox := [(3, { holder := some 9, responses := [[0x00100001, 0]] })] }
    mayUse s 9 3 = true ∧ (after (.msgOut 9 3) s).pins.ctlRdata = 0x00100001 ∧
    (chanAt (after (.msgOut 9 3) (after (.msgOut 9 3) s)) 3).responses = [] ∧ (after (.msgOut 5 3) s).mbox = s.mbox := by decide +kernel

theorem test_doorbell_clear : let s := { up with mbox := [(3, { holder := some 9, latched := 0x00010024 })] }
    (chanAt (after (.dbClear 9 3 0xFFFFFFDB) s) 3).latched = 0x00000024 := by decide +kernel

theorem test_channel_release : let s := { up with mbox := [(3, { holder := some 9 })] }
    slotsUsed (chanAt s 3) = 0 ∧ (after (.release 9 3) s).mbox = [] ∧ (after (.release 5 3) s).mbox = s.mbox := by decide +kernel

/-! ### Paces and readings -/

theorem test_quiet : Quiet up :=
  ⟨⟨rfl, rfl, rfl, by decide⟩, rfl, rfl, rfl, by decide, ⟨rfl, rfl, rfl⟩, ⟨rfl, rfl, rfl⟩, rfl, ⟨rfl, rfl⟩⟩

theorem test_sensor_hyp : outOfRange 25 = false ∧ outOfRange 130 = false ∧ outOfRange 131 = true ∧
    stepped 770 750 25 25 = true ∧ stepped 769 750 25 34 = false := by decide +kernel

theorem test_sensor_step : let s := { up with pace := { up.pace with vddMv := 750, tj := 25, lastSample := 99936, lastCal := some (90000, 750, 25) }
                                              cfg := { up.cfg with fixed := [(0x0418, 25000)] } }
    (after (.sensorSample 750 35) s).pace.running = true ∧ (after (.sensorSample 750 34) s).pace.running = false := by decide +kernel

/-- TEMPO of 25 MHz counted against a pace of 1 µs: W = 24,414 periods, 10^6 counts make PERIODS 976.6. -/
theorem test_calibration_count : let s := { up with pace := { up.pace with running := true, counting := true, calSince := 99000 }
                                                    cfg := { up.cfg with fixed := [(0x0418, 25000)] } }
    paceInRange 25000 1000000 = true ∧ (after (.calibrationCountEnd 1000000) s).pace.newPeriods = some 977 ∧
    paceInRange 25000 1 = false ∧ (after (.calibrationCountEnd 1) s).pace.discarded = true := by decide +kernel

theorem test_calibration_abandoned : let s := { up with pace := { up.pace with running := true, calSince := 97952 } }
    (after .calibrationAbandoned s).pace.tempoAbsent = true ∧ (after .calibrationAbandoned s).pace.running = false := by decide +kernel

theorem test_calibration_period : let s := { up with pace := { now := 67108964, lastCal := some (100, 750, 25) }
                                                     cfg := { up.cfg with fixed := [(0x0418, 25000)] } }
    (after .calibrationPeriod s).pace.running = true := by decide +kernel

theorem test_budget_cap : (after (.budgetCap 10) up).power.cap = 10 ∧ effectiveBudget (after (.budgetCap 10) up) = 63 ∧
    (after (.budgetCap 10) up).power.capLowered = true := by decide +kernel

/-! ### Port violations -/

/-- Custody serves an idle path. -/
theorem test_custody_idle : CustodyIdle tenant := ⟨rfl, by unfold NoneHeld; decide, rfl, rfl⟩

theorem test_burst_timeout_hyp :
    let w : OpenWrite := { first := { beat 1 0x4000 1 with len := 1 }, lines := [(0, 0)], lastBeat := 99744, reuse := false }
    let s := { tenant with cust := { tenant.cust with ins := [{ openWrite := some w }] } }
    (inChan (after (.burstTimeout (.custIn 0)) s) 0).openWrite = none ∧
    ((inChan (after (.burstTimeout (.custIn 0)) s) 0).rsp.map RspBeat.verdict) = [.failed] := by decide +kernel

theorem test_withdrawn_request : ((inChan (after (.reqWithdrawn (.custIn 2 (beat 0 0x4000 1)) false) tenant) 2).rsp.map RspBeat.verdict) =
    [.failed] := by decide +kernel

/-- An egress request on its wire. -/
def egress (acked : Bool) (write : Bool) (since : Nat) : EgReq :=
  { tag := 5, write := write, addr := 0x4000, data := 0, acked := acked, since := since, req := 0, line := 0, n := 1, got := 0, beatAt := 0
    superseded := false }

theorem test_egress_late : let s := { tenant with cust := { tenant.cust with outs := [{ reqs := [egress false false 95904] }] } }
    (onWire (outChan s 0)).isSome = true ∧ egressDown (after (.ackTimeout (.custRequest 0)) s) 0 = true := by decide +kernel

theorem test_no_response : let s := { tenant with cust := { tenant.cust with outs := [{ reqs := [egress true false 83616] }] } }
    (outChan (after (.noResponse 0 5) s) 0).reqs = [] ∧ (outChan (after (.noResponse 0 5) s) 0).retired.length = 1 := by decide +kernel

theorem test_compose_late : let s := { up with mbox := [(3, { holder := some 9, compose := [0x00100380], lastPush := 95903 })] }
    composeLate s 3 = true ∧ (chanAt (after (.burstTimeout (.message 3)) s) 3).compose = [] := by decide +kernel

/-! ### The custody path -/

theorem test_whole_request : WholeRequest tenant 0 (beat 0 0x4000 1) := ⟨⟨rfl, rfl, rfl⟩, rfl, ⟨rfl, rfl⟩, by decide, by decide +kernel⟩

theorem test_custody_failed : winBase tenant = 0x100 ∧ winPages tenant = 32 ∧ laneOfMid tenant 9 = some 1 ∧
    ((inChan (after (.custInRequest 0 { beat 0 0x3FFD 1 with len := 2 }) tenant) 0).rsp.map (fun x => (x.verdict, x.beat, x.last))) =
      [(.failed, 0, false), (.failed, 1, false), (.failed, 2, true)] := by decide +kernel

theorem test_custody_stale : let s := { tenant with ctxs := [(1, { lane := 1, state := .releasing, epoch := 1 })] }
    ((inChan (after (.custInRequest 0 (beat 0 0x4000 1)) s) 0).rsp.map RspBeat.verdict) = [.stale] ∧
    counter (after (.custInRequest 0 (beat 0 0x4000 1)) s) 0x7978 = 0 := by decide +kernel

theorem test_custody_issued : earlyRefusal tenant (beat 1 0x4000 1) = none ∧ regulated tenant 1 = false ∧
    energyScale * lineEnergy tenant .openC ≤ custodyCredit tenant ∧
    ((outChan (after (.custInRequest 0 (beat 1 0x4000 1)) tenant) (egressOf tenant 0x4000)).reqs.map (fun x => (x.addr, x.write))) =
      [(0x4000, true)] := by decide +kernel

theorem test_write_answered : let s := after (.custOutRequestAck 0) (after (.custInRequest 0 { beat 1 0x4000 1 with data := 77 }) tenant)
    let t := after (.custOutResponse 0 { tag := BitVec.ofNat _ ((outChan s 0).reqs.map EgReq.tag).head!, beat := 0, write := true, err := false
                                         data := 0 } []) s
    egressOf tenant 0x4000 = 0 ∧ t.dram = [(0x4000, 77)] ∧ t.cust.reqs = [] ∧ ((inChan t 0).rsp.map RspBeat.verdict) = [.clean] := by
  decide +kernel

theorem test_read_answered : let s := after (.custOutRequestAck 0) (after (.custInRequest 0 (beat 0 0x4000 1)) tenant)
    let t := after (.custOutResponse 0 { tag := BitVec.ofNat _ ((outChan s 0).reqs.map EgReq.tag).head!, beat := 0, write := false, err := false
                                         data := 77 } []) s
    t.cust.reqs = [] ∧ ((inChan t 0).rsp.map (fun x => (x.verdict, x.data))) = [(.clean, 77)] ∧
    ((inChan (after (.custInResponseAck 0) t) 0).rsp) = [] ∧ counter (after (.custInResponseAck 0) t) 0x7020 = 64 := by decide +kernel

theorem test_write_beat_out_of_order : let s := after (.custInRequest 0 { beat 1 0x4000 1 with len := 2 }) tenant
    ((inChan s 0).openWrite.map (fun w => w.lines.length)) = some 1 ∧
    ((inChan (after (.custInWriteBeat 0 { beat 1 0x4000 1 with beat := 2, len := 2 }) s) 0).rsp.map RspBeat.verdict) = [.failed] ∧
    ((inChan (after (.custInWriteBeat 0 { beat 1 0x4000 1 with beat := 1, len := 2 }) s) 0).openWrite.map (fun w => w.lines.length)) =
      some 2 := by decide +kernel

theorem test_write_beat_excess : (vEntry (after (.custInWriteBeat 0 { beat 1 0x4000 1 with beat := 1 }) tenant).vlog 0).kind = kBurstExcess := by
  decide +kernel

/-! ### Custody events and background work -/

/-- Cached metadata of the tenant's page and of the first map line's page: counter blocks whose minors are all 1, and zero seal lines. -/
def metaLine (item : Option TreeItem) (data : Line) : MetaLine :=
  { group := .treeG, item := item, data := data, dirty := false, dirtyAt := 0, used := 0 }

/-- A map line not cached, never written: the counter block of its page is all zero. -/
def unmapped : State := { tenant with
  mapc := {}, tree := { tenant.tree with lines := [(itemAddr tenant (.ctr 0x1F), metaLine (some (.ctr 0x1F)) 0)] } }

theorem test_map_line_never_written : let s := after (.custInRequest 0 (beat 0 0x4000 1)) unmapped
    let t := after (.mapWalk []) s
    (s.cust.reqs.map CustReq.stage) = [.walk] ∧ ((inChan t 0).rsp.map RspBeat.verdict) = [.failed] ∧
    (tfind t.mapc.lines 0).map MapLine.words = some (List.replicate 16 0) := by decide +kernel

theorem test_egress_acked : let s := after (.custInRequest 0 (beat 0 0x4000 1)) tenant
    ((outChan (after (.custOutRequestAck 0) s) 0).reqs.map EgReq.acked) = [true] := by decide +kernel

theorem test_key_derived : let s := { tenant with keys := { tenant.keys with inFlight := [1] } }
    (after .keyDerivation s).keys.inFlight = [] := rfl

theorem test_writeback : let s := { tenant with tree := { tenant.tree with lines := [(0x8400, { metaLine none 77 with dirty := true, dirtyAt := 1 })] } }
    oldestDirty s [] = some 0x8400 ∧ storedLine (after (.metadataWriteback []) s) 0x8400 = 77 ∧
    (tfind (after (.metadataWriteback []) s).tree.lines 0x8400).map MetaLine.dirty = some false := by decide +kernel

theorem test_tile_delay : let e : TileRead := { order := 4, page := 0x100, holder := 1, holderEpoch := 0, reader := 1, readerEpoch := 0, sum := 0
                                                mask := 1, flying := 0, lastAt := 99744, completing := false }
    let s := { tenant with tiles := { tenant.tiles with reads := [e] } }
    ((after (.tileDelayExpire []) s).tiles.reads.map TileRead.completing) = [true] := by decide +kernel

theorem test_rekey_done : let s := { tenant with tree := { tenant.tree with rekeys := [{ item := .ctr 0, old := 0, pending := 0, ctx := 1 }] } }
    (after (.rekeyLine []) s).tree.rekeys = [] := by decide +kernel

/-- A context whose 64 paces of release are complete. -/
def releasing (v : Ctx) : State := { tenant with
  ctxs := [(1, { v with lane := 1, state := .releasing, closedAt := some 99936, releaseOn := some 0 })]
  mbox := [(0, { holder := some 9, running := some (req 0x102 [1]) })] }

theorem test_epoch_advances : let s := releasing { epoch := 0xFFFFFF, keyGen := 2 }
    tkeys s.ctxs (fun c _ => releaseDue s c) = [1] ∧ (ctxAt (after (.epochAdvance []) s) 1).state = .free ∧
    (ctxAt (after (.epochAdvance []) s) 1).epoch = 0 ∧ (ctxAt (after (.epochAdvance []) s) 1).keyGen = 3 ∧
    (chanAt (after (.epochAdvance []) s) 0).responses = [[0x10200081, 0, 0xFFFFFF, 0]] := by decide +kernel

theorem test_context_retires : let s := releasing { epoch := 0xFFFFFF, keyGen := 0xFF }
    (ctxAt (after (.epochAdvance []) s) 1).state = .retired := by decide +kernel

theorem test_epoch_waits : let s := releasing { epoch := 7, depth := 15 }
    (ctxAt (after (.epochAdvance []) s) 1).epoch = 7 ∧
    (chanAt (after (.epochAdvance []) s) 0).responses = [[0x10200081, 0, 7, 1]] := by decide +kernel

theorem test_sweep_pass_starts : let s := { tenant with bg := { pendingPages := 1, cursor := 9 } }
    (after (.sweepPassStart []) s).bg.sweepActive = true ∧ (after (.sweepPassStart []) s).bg.cursor = 0 := by decide +kernel

theorem test_sweep_passes_over : let s := { unmapped with bg := { sweepActive := true, pendingPages := 1 } }
    (itemAtHand s (.ctr 0x1F)).isSome = true ∧ (after (.sweepMapLine []) s).bg.cursor = 16 := by decide +kernel

theorem test_scrub_page : let s := { tenant with bg := { scrubCursor := 31 } }
    bits (activeReg s 0x0870) 0 12 ≠ 0 ∧ pageLocked s 0x11F = false ∧ (after (.scrubPage []) s).bg.scrubCursor = 0 := by decide +kernel

theorem test_sram_scrub : let s := { tenant with pace := { now := 1048576 }, flt := { correctedRuns := [(3, 40, 2)] } }
    timesSeen s.flt.correctedRuns 3 40 = 2 ∧ (tget {} (after (.sramScrubPass [.sramWord 3 40 { data := 1, check := makeWordCheck 0 }] []) s).flt.health 3).spares = 1 := by
  decide +kernel

theorem test_exception_taken : let s := { tenant with flt := { queue := [⟨1, 2, 3, 4⟩, ⟨5, 6, 7, 8⟩] } }
    controllerRuns s = true ∧ (after (.exceptionTake []) s).flt.queue = [⟨5, 6, 7, 8⟩] := by decide +kernel

theorem test_fault_restart : let s := { up with boot := { phase := 6 } }
    (after (.faultRestart (.vote 3) [] 1024 []) s).pace.now = 101024 ∧ clock (after (.faultRestart (.vote 3) [] 1024 []) s) = 100000 ∧
    (after (.faultRestart (.vote 3) [] 1024 []) s).flt.resumeDue = true := by decide +kernel

theorem test_firmware_resumes : let s := { up with flt := { resumeDue := true } }
    (after (.firmwareResume true) s).flt.resumeDue = false := by decide +kernel

/-! ### Storage -/

theorem test_flash_journal : let s := { up with nvm := { ops := [.journal 0x1000 (List.replicate 64 7)] } }
    flashPeek (after (.nvmOperationDone ⟨true, true⟩ []) s) 0x1000 64 = List.replicate 64 7 ∧ (after (.nvmOperationDone ⟨false, true⟩ []) s).boot.nvmError = true := by
  decide +kernel

theorem test_otp_ack : let s := { up with
      otp := { queue := [{ user := .transition, word := 9, bits := 1 }, { user := .transition, word := 10, bits := 1 }] }
      lc := { job := some { target := lcTestLocked, token := 15, slot := 0, step := 1, input := [], caller := none } } }
    otpWord (after (.otpAck false []) s) 9 = 1 ∧ (after (.otpAck false []) s).otp.queue.length = 1 ∧
    (after (.otpAck true []) s).lc.job = none ∧ (after (.otpAck true []) s).otp.queue = [] := by decide +kernel

theorem test_shares_refreshed : let s := { up with
      pace := { now := 1048576 }, keys := { root := .bedrock }, vault := { controlA := 1, controlB := 1, controlC := 1, bedrockMasked := 5, mask := 6 } }
    (after .vaultShareRefresh s).vault.refreshedAt = 1048576 := by decide +kernel

/-! ### Tamper and the test access port -/

theorem test_tamper_unarmed : let s := { up with tamper := { arm := 0xFE } }
    (after (.tamperIn 0) s).tamper.inputs = 1 ∧ (after (.tamperIn 0) s).pins.tamperOut = false ∧
    (after (.tamperInFall 0) (after (.tamperIn 0) s)).tamper.inputs = 0 := by decide +kernel

theorem test_tamper_armed : let s := { up with
      tamper := { arm := 0x80 }, lc := { state := lcProduction }, pins := { porstN := true, gates := 3 }, vault := { controlA := 1, controlB := 1, controlC := 1, mask := 5 } }
    (after (.tamperIn 7) s).pins.tamperOut = true ∧ (after (.tamperIn 7) s).pins.gates = 0 ∧ (after (.tamperIn 7) s).vault.mask = 0 ∧
    (after (.tamperIn 7) s).vault.provisioned = false ∧ (after (.tamperIn 7) s).tamper.restartDue = true := by decide +kernel

theorem test_tap_gated : let s := { up with lc := { state := lcProduction } }
    tapPermitted s 0x30 = false ∧ (after (.tapInstruction 0x30) s).lc.ir = 0xFF ∧ (after (.tapInstruction 0x01) s).lc.ir = 0x01 := by
  decide +kernel

theorem test_scan_stops : let s := { up with lc := { state := lcReturn } }
    tapPermitted s 0x31 = true ∧ (after .scan s).lc.stopped = true := by decide +kernel

theorem test_otp_access : let s := { up with lc := { state := lcTestUnlocked, ir := 0x20 }, otp := { words := [(5, 77), (0x0F0, 3)] } }
    (after (.otpAccessRead 5 .ok) s).lc.tapData = 77 ∧ (after (.otpAccessRead 0x0F0 .ok) s).lc.tapData = 0 ∧
    tapPrograms s 0x098 = true ∧ otpWord (after (.otpAccessProgram 0x098 9 .ok) s) 0x098 = 9 := by decide +kernel

theorem test_core_debug : let s := { up with lc := { state := lcReturn, ir := 0x30 } }
    (after (.coreDebug .halt) s).lc.halted = true := by decide +kernel

theorem test_lc_access : let s := { up with lc := { state := lcTestUnlocked, ir := 0x11 } }
    let dr : BitVec 144 := BitVec.ofNat 144 (2 ^ 136 + lcTestLocked.toNat)
    transitionRefusal s lcTestLocked (List.replicate 16 0) = .ok 15 ∧ ((after (.lcAccess dr) s).otp.queue.length) = 3 := by decide +kernel

/-! ### Requests -/

/-- The answers that channel 0 holds after a command. -/
def answers (c : Instr) (s : State) : List (List W32) := (chanAt (after c s) 0).responses

/-- Status and payload of the answers. -/
def results (c : Instr) (s : State) : List (W32 × List W32) := (answers c s).map (fun r => (r.getD 1 0, r.drop 2))

theorem test_started_witness : Started (ask up 0x001 [7]) 0x001 (begun (ask up 0x001 [7])).1 (begun (ask up 0x001 [7])).2 :=
  started_of (by decide +kernel)

theorem test_unknown_opcode : opInfo 0x0FF = none ∧ results .unknownOpcode (ask up 0x0FF []) = [(5, [])] := by decide +kernel

theorem test_restarting : let s := { ask up 0x001 [] with boot := { phase := 7 } }
    serving s 0x001 = .restarts ∧ results .ping s = [(0xF, [])] := by decide +kernel

theorem test_waits : let s := { ask up 0x001 [] with flt := { resumeDue := true } }
    serving s 0x001 = .waits ∧ results .ping s = [] := by decide +kernel

theorem test_not_owner : requestRefusal (begun (ask { up with own := { up.own with mid := 5 } } 0x110 [1])).2
    (begun (ask { up with own := { up.own with mid := 5 } } 0x110 [1])).1 = some stNotOwner := by decide +kernel

theorem test_block_info : (results .blockInfo (ask up 0x002 [])).map (fun r => r.2.length) = [5] := by decide +kernel

/-- A channel with a job that runs. -/
def withJob (s : State) (op : Nat) (p : List W32) (st : Option (BitVec 8)) : State :=
  let k : Ticket := { op := 0x109, seq := 4, stamp := 9, status := st, result := [6], cancel := false }
  { s with mbox := [(0, { holder := some 9, waiting := [req op p], tickets := [(2, k)] })] }

theorem test_job_status : ticketWordOk 0x102 true = true ∧ (results .jobStatus (withJob up 0x003 [2] none)).map Prod.fst = [2] ∧
    (results .jobStatus (withJob up 0x003 [2] (some 0))).map (fun r => (r.1, r.2.drop 1)) = [(0, [6])] ∧
    (chanAt (after .jobStatus (withJob up 0x003 [2] (some 0))) 0).tickets = [] ∧
    (chanAt (after .jobStatus (withJob up 0x003 [0x102] (some 0))) 0).tickets.length = 1 := by decide +kernel

theorem test_job_cancel : (results (.jobCancel []) (withJob up 0x004 [2] none)) = [(0, [])] ∧
    ((chanAt (after (.jobCancel []) (withJob up 0x004 [2] none)) 0).tickets.map (fun x => x.2.cancel)) = [true] := by decide +kernel

theorem test_notice_fetch : let s := { up with mbox := [(0, { holder := some 9, waiting := [req 0x005 []], notices := [[3, 4], [5]] })] }
    results .noticeFetch s = [(0, [3, 4])] ∧ (chanAt (after .noticeFetch s) 0).notices = [[5]] := by decide +kernel

/-! ### Contexts, pages, lanes -/

/-- The metadata of the tenant's map line at hand, in a page whose minors are 1. -/
def atHand : State := { tenant with tree := { tenant.tree with lines := [
  (itemAddr tenant (.ctr 0x1F), metaLine (some (.ctr 0x1F)) (BitVec.allOnes 64 ++ (0 : BitVec 448))),
  ((lineSealAt tenant 0x1F 0).1, metaLine none 0)] } }

theorem test_ctx_open : (results (.ctxOpen []) (ask tenant 0x101 [0x0F010002, 7])) = [(0, [0, 0])] ∧
    (ctxAt (after (.ctxOpen []) (ask tenant 0x101 [0x0F010002, 7])) 2).state = .active ∧
    (ctxAt (after (.ctxOpen []) (ask tenant 0x101 [0x0F010002, 7])) 2).quota = 7 := by decide +kernel

theorem test_ctx_open_twice : (results (.ctxOpen []) (ask tenant 0x101 [0x0F010001, 7])).map Prod.fst = [0x29] := by decide +kernel

theorem test_ctx_release : (results (.ctxRelease []) (ask tenant 0x102 [1])) = [] ∧
    (ctxAt (after (.ctxRelease []) (ask tenant 0x102 [1])) 1).state = .releasing ∧
    (after (.ctxRelease []) (ask tenant 0x102 [1])).bg.pendingPages = 1 := by decide +kernel

theorem test_ctx_query : (results (.ctxQuery []) (ask tenant 0x108 [1])).map (fun r => (r.1, r.2.length)) = [(0, 5)] := by decide +kernel

theorem test_page_query : (results (.pageQuery []) (ask tenant 0x10A [1, 0x100])) =
    [(0, [mkEntry 1 .openC .live false true true 0 0, 0])] := by decide +kernel

theorem test_verdict_fence : (answers (.verdictFence []) (ask tenant 0x109 [1])).length = 1 ∧
    ((chanAt (after (.verdictFence []) (ask tenant 0x109 [1])) 0).tickets.map (fun x => (x.1, x.2.status))) = [(0, some 0)] := by
  decide +kernel

theorem test_page_freeze_hyp : let t := (begun (ask atHand PageOp.freeze.code [1, 0x100, 1])).2
    let k := (begun (ask atHand PageOp.freeze.code [1, 0x100, 1])).1
    startsOk (ask atHand PageOp.freeze.code [1, 0x100, 1]) PageOp.freeze.code = true ∧
    fieldsOk k [0x3FFF ||| PageOp.freeze.flags, 0xFFFFFF, 0x1FFFF] = true ∧ t.pages = [] ∧ inWindow t 0x100 = true ∧
    inOwnRegion t 0x100 = false ∧ dirtyLines t < 1000 := by decide +kernel

theorem test_page_freeze : (results (.pageFreeze []) (ask atHand 0x105 [1, 0x100, 1])) = [(0, [1, 0])] ∧
    ((tfind (after (.pageFreeze []) (ask atHand 0x105 [1, 0x100, 1])).mapc.lines 0).map (fun m => m.words.getD 0 0)) =
      some (mkEntry 1 .openC .frozen false false true 0 0) := by decide +kernel

theorem test_lane_open : results .laneOpen (ask tenant 0x110 [2]) = [(0, [1])] ∧
    (laneAt (after .laneOpen (ask tenant 0x110 [2])) 2).state = .opened ∧
    (results .laneOpen (ask tenant 0x110 [1])).map Prod.fst = [0x28] := by decide +kernel

theorem test_lane_drain : (laneAt (after .laneDrain (ask tenant 0x111 [1])) 1).state = .drained ∧
    ((chanAt (after .laneDrain (ask tenant 0x111 [1])) 0).tickets.map (fun x => x.2.status)) = [some 0] := by decide +kernel

theorem test_lane_resume : let s := { tenant with lanes := [(1, { state := .drained })] }
    results .laneResume (ask s 0x112 [1]) = [(0, [1])] := by decide +kernel

theorem test_lane_release : let s := { tenant with ctxs := [], keys := { vaultState := 2 } }
    (laneAt (after (.laneRelease []) (ask s 0x113 [1])) 1).state = .closed := by rfl

/-! ### Models, receipts, keys -/

theorem test_model_query : let m : Model := { measurement := 0, ctx := 1, lane := 1, epoch := 0, page := 0x100, batch := 4, parts := 1, pages := 2 }
    let s := { tenant with rcpt := { models := [(7, m)] }, ctxs := [(1, { lane := 1, state := .active, model := 7 })] }
    ((results (.modelQuery []) (ask s 0x202 [7])).map (fun r => r.2.length)) = [14] := by decide +kernel

theorem test_signer_set : ((after (.modelSignerSet []) (ask tenant 0x203 (0x101 :: List.replicate 12 5))).nvm.ops.length) = 1 := by
  decide +kernel

/-- A load whose tile wait has lasted 65,536 paces. -/
def waitingLoad : Load := {
  caller := .ticket 0 2, ctx := 1, epoch := 0, pkgCtx := 1, pkgEpoch := 0, shared := false, page := 0x100, pages := 2, done := 0, part := 0
  tensors := [], payload := 0, pos := 0, off := 0, key := none, ahead := [], bad := none, plain := [], digest := 0, measurement := 0, batch := 1, since := 34464 }

theorem test_loader_wait_ends : let s := { withJob tenant 0x001 [] none with rcpt := { load := some waitingLoad } }
    (after (.loaderTileWaitExpire []) s).rcpt.load = none ∧ (after (.loaderTileWaitExpire []) s).rcpt.loadStatus = stTileFull := by decide +kernel

/-- A receipt that stands open. -/
def receipt (st : ReceiptState) : Receipt := {
  state := st, lane := 1, ctx := 1, epoch := 0, keyGen := 0, handle := 3, modelCtx := 1, modelEpoch := 0, measurement := 0, serial := 1
  openPace := 0, closePace := 0, foldKey := 0, slots := [], verdict := 0, caller := none, tiles := [], order := 0 }

theorem test_receipt_close : let s := { tenant with rcpt := { receipts := [(3, receipt .opened)] } }
    ((after (.receiptClose []) (ask s 0x211 [3, 0])).rcpt.receipts.map (fun x => x.2.state)) = [.pending] := by decide +kernel

theorem test_receipt_abandon : let s := { tenant with rcpt := { receipts := [(3, receipt .opened)] } }
    results (.receiptAbandon []) (ask s 0x212 [3]) = [(0, [])] ∧
    ((after (.receiptAbandon []) (ask s 0x212 [3])).rcpt.receipts.map (fun x => (x.2.state, x.2.verdict))) = [(.entering, 2)] := by decide +kernel

theorem test_receipt_final : let s := { tenant with rcpt := { receipts := [(3, receipt .pending)] } }
    ((after (.receiptVerdictsFinal []) s).rcpt.receipts.map (fun x => (x.2.state, x.2.verdict))) = [(.entering, 0)] := by decide +kernel

theorem test_sheet_flush_empty : ((chanAt (after (.sheetFlush []) (ask tenant 0x220 [1])) 0).tickets.map (fun x => (x.2.status, x.2.result))) =
    [(some 0, [0])] := by decide +kernel

theorem test_sheet_collect_none : (results (.sheetCollect []) (ask tenant 0x222 [1, 5, 0])).map Prod.fst = [stReceiptState.zeroExtend 32] := by
  decide +kernel

/-- A handle of a SECRET of lane 1 (KIND 4, TYPE 2) opens at entry 0 and closes. -/
theorem test_handle_open : let s := ask tenant 0x301 [0x00010004, 2, 1, 2, 3, 4]
    (results (.keyHandleOpen []) s).map Prod.fst = [0] ∧ ((tfind (after (.keyHandleOpen []) s).keys.handles 0).map Handle.typ) = some 2 := by
  decide +kernel

theorem test_handle_close : let s := after (.keyHandleOpen []) (ask tenant 0x301 [0x00010004, 2, 1, 2, 3, 4])
    let w := handleWord s 0
    results .keyInfo (ask s 0x303 [w]) = [(0, [0x00020114, 2, 0])] ∧ results .keyHandleClose (ask s 0x302 [w]) = [(0, [])] ∧
    (after .keyHandleClose (ask s 0x302 [w])).keys.handles = [] ∧ (results .keyInfo (ask (after .keyHandleClose (ask s 0x302 [w])) 0x303 [w])).map
      Prod.fst = [stKeyHandle.zeroExtend 32] := by decide +kernel

theorem test_mono : let s := { tenant with vault := { mono := [(3, 0xFFFFFFFE)] } }
    results .monoRead (ask s 0x311 [3]) = [(0, monoWords 0xFFFFFFFE)] ∧ results .monoIncrement (ask s 0x312 [3]) = [(0, monoWords 0xFFFFFFFF)] ∧
    tget 0 (after .monoIncrement (ask s 0x312 [3])).vault.mono 3 = 0xFFFFFFFF := by decide +kernel

theorem test_mono_end : let s := { tenant with vault := { mono := [(3, 0xFFFFFFFFFFFFFFFF)] } }
    (results .monoIncrement (ask s 0x312 [3])).map Prod.fst = [stKeyMono.zeroExtend 32] := by decide +kernel

theorem test_key_destroy : let s := { tenant with keys := { root := .bedrock } }
    ((after (.keyDestroy []) (ask s 0x305 [0x0101, 0])).keys.rewrites.length) = 1 := by decide +kernel

theorem test_vault_sleep_hyp : maySleep up = true ∧ maySleep tenant = false := by decide +kernel

/-! ### Engine and digests -/

theorem test_rns_queued : let w : List W32 := [0x301] ++ descWords1 0 97 ++ descWords1 128 48 ++ descWords1 256 96
    let s := ask tenant 0x402 w
    (match rnsRefusal (begun s).2 (begun s).1 with | (.ok _, _) => true | _ => false) = true ∧
    ((after (.rnsEcdsaVerify []) s).rns.jobs.map RnsJob.phase) = [.queued] := by decide +kernel

theorem test_rns_info : ((results .rnsInfo (ask tenant 0x410 [])).map (fun r => (r.1, r.2.length))) = [(0, 3)] := by decide +kernel

/-- A verification that waits for a bank. -/
def rnsJob : RnsJob := { id := 0, op := 0x402, set := 0, prio := 3, lane := 1, caller := .ticket 0 2, descs := [], key := none, since := 0 }

theorem test_bank_granted : let s := { tenant with rns := { jobs := [rnsJob], next := 1 } }
    ((after (.rnsBankGrant []) s).rns.jobs.map (fun j => (j.bank, j.phase))) = [(some 0, .loading)] := by decide +kernel

theorem test_block_boundary : let j : RnsJob := { rnsJob with bank := some 0, phase := .running, prio := 3 }
    let o : RnsJob := { rnsJob with id := 1, bank := some 1, phase := .waiting, prio := 2 }
    let s := { tenant with rns := { jobs := [j, o], next := 2, lanes := some 0 } }
    effective s o < effective s j ∧ (after (.rnsBlockBoundary 0) s).rns.lanes = some 1 := by decide +kernel

theorem test_clear_done : let j : RnsJob := { rnsJob with bank := some 0, phase := .clearing, status := 0, words := [1], since := 99998 }
    let s := { withJob tenant 0x001 [] none with rns := { jobs := [j], next := 1 } }
    (after (.rnsClearDone 0 []) s).rns.jobs = [] ∧ counter (after (.rnsClearDone 0 []) s) 0x78D8 = 1 := by decide +kernel

theorem test_lease : let j : RnsJob := { rnsJob with bank := some 0, phase := .running, prio := 3 }
    let o : RnsJob := { rnsJob with id := 1, phase := .queued, prio := 2, key := some (0, {
        kind := 2, lane := 1, name := 0, typ := 0, label := [], laneGen := 0, epoch := 0, keyGen := 0, version := 0, stale := false
        owners := true }) }
    let s := { tenant with
      rns := { jobs := [j, o], next := 2, lanes := some 0 }
      keys := { wkr := some { job := 0, handle := 0, typ := 1, material := [], since := 99744 } } }
    ((after (.rnsLeaseExpire 0) s).rns.jobs.map RnsJob.spill) = [true, false] := by decide +kernel

theorem test_coupling_phase : let s := { tenant with rns := { coupling := some (0, 5) } }
    (after .couplingPhaseEnd s).rns.coupling = none := by decide +kernel

/-- SHA-384 over 239 octets: P = 256. -/
theorem test_digest_open : results (.digestOpen []) (ask tenant 0x501 [0, 0, 239, 0]) = [(0, [0, 256, 0])] ∧
    ((dslot (after (.digestOpen []) (ask tenant 0x501 [0, 0, 239, 0])) 0).state) = .opened := by decide +kernel

/-- A slot of the owner's own lane that has absorbed one block of two. -/
def slotOpen : State := { tenant with dig := { slots := [(0, { state := .opened, alg := 0, lane := 0, mlen := 239, p := 256, fed := 128, since := 0, wait := 65536 })] } }

theorem test_digest_feed : let s := ask slotOpen 0x502 (0 :: descWords1 0 128)
    (descRefusal (begun s).2 (begun s).1 (descAt (begun s).1 1) false).1 = none ∧
    ((dslot (after (.digestFeed []) s) 0).feed.map (fun f => f.take)) = some 128 := by decide +kernel

theorem test_digest_close_query : results .digestQuery (ask slotOpen 0x505 [0]) = [(0, [0x10, 128, 0, 256, 0])] ∧
    results .digestClose (ask slotOpen 0x504 [0]) = [(0, [])] ∧ (after .digestClose (ask slotOpen 0x504 [0])).dig.slots = [] := by decide +kernel

theorem test_digest_expires : (dslot (after (.digestSlotExpire 0) slotOpen) 0).state = .expired ∧
    (results (.digestRead []) (ask (after (.digestSlotExpire 0) slotOpen) 0x503 [0])).map Prod.fst = [0xD] := by decide +kernel

theorem test_mp_read : let s := { tenant with miles := { posts := [(3, { value := 5, count := 9 })] } }
    ((results (.mpRead []) (ask s 0x510 [3])).map (fun r => (r.1, r.2.take 2, r.2.drop 13))) = [(0, [9, 0], [5])] := by decide +kernel

theorem test_broken_milepost : let s := { tenant with miles := { posts := [(3, { count := 9, broken := true })], queue := [{ mp := 3, d := [1], slot := none }] } }
    (after .milepostExtend s).miles.refused = true ∧ (milepost (after .milepostExtend s) 3).count = 9 := by decide +kernel

/-! ### Start and update -/

theorem test_porst : let s := { up with pins := { up.pins with gates := 3, tamperOut := true }, vault := { tamperCount := 4 } }
    (after .porstNAssert s).pins = { porstN := false, tamperOut := true } ∧ (after .porstNAssert s).vault.tamperCount = 4 ∧
    (after .porstNAssert s).own = {} := by decide +kernel

theorem test_power_failure : (after .powerFailure tenant).pins.vddCore = false ∧ (after .powerFailure tenant).lanes = [] := by decide +kernel

theorem test_vdd_vault_rise : (after .vddVaultRise { up with vault := { tamperCount := 4 } }).vault = {} ∧
    (after .vddVaultRise up).tamper.arm = 0xFF := by decide +kernel

/-- A directory with a bundle staged, or on trial. -/
def dirState (update stage : Nat) : State := { up with
  boot := { up.boot with dir := some { update := update, stage := stage } } }

theorem test_update_states : (theDir (dirState 2 0)).update = 2 ∧ (results (.updateActivate []) (ask (dirState 2 0) 0x602 [])).map Prod.fst =
    [stUpdateState.zeroExtend 32] ∧ (results (.updateConfirm []) (ask (dirState 0 0) 0x603 [])).map Prod.fst = [stUpdateState.zeroExtend 32] := by
  decide +kernel

theorem test_update_discard : results (.updateDiscard []) (ask (dirState 0 2) 0x605 []) = [(0, [])] ∧
    (theDir (after (.updateDiscard []) (ask (dirState 0 2) 0x605 []))).stage = 0 := by decide +kernel

theorem test_update_revert : (after (.updateRevert []) (ask (dirState 2 0) 0x604 [])).boot.restart.isSome = true := by decide +kernel

theorem test_stage_aborted : let g : Staging := { buffer := [], done := 0, total := 64, source := none, meas := 0, head := [], lastAt := 100 }
    let s := { dirState 0 1 with pace := { now := 16777316 }, boot := { (dirState 0 1).boot with staging := some g } }
    (after .stageAborted s).boot.staging = none ∧ (after .stageAborted s).boot.aborted = true := by decide +kernel

/-! ### Relay -/

/-- A device at position 2 of segment 1 with both links UP, all its ports enabled. -/
def relay : State := { tenant with
  cfg := { tenant.cfg with active := [(0x1008, 32), (0x1108, 0x8100), (0x6000, 3)] }
  relay := { index := 66, valid := true, linkUp := { level := true, phase := .up }, linkDn := { level := true, phase := .up } } }

theorem test_relay_runs : relayRuns relay = true ∧ portEnabled relay .up = true ∧ portEnabled relay .dn = true ∧ isHead relay = false ∧
    routeTo relay 64 = some .up ∧ routeTo relay 70 = some .dn ∧ dstRefusal relay 66 = some stUnreachable ∧ dstRefusal relay 5 = some stUnreachable := by
  decide +kernel

theorem test_waybill_hyp : let k := (begun (ask relay 0x701 ([0x00080000] ++ descWords1 0 4096 ++ [1, 2]))).1
    nonceRefusal k 0x00FF013F = none ∧ k.len = 7 ∧ startsOk (ask relay 0x701 ([0x00080000] ++ descWords1 0 4096 ++ [1, 2])) 0x701 = true := by
  decide +kernel

theorem test_waybill_size : (results (.waybillGet []) (ask relay 0x701 ([0x00080000] ++ descWords1 0 4096 ++ [1, 2]))).map Prod.fst = [0x5E] := by
  decide +kernel

/-- A waybill's output of 16 KiB is taken, and with four waybill jobs running BUSY answers (R408). -/
theorem test_waybill_busy :
    let pages := mkEntry 1 .openC .live false true true 0 0 |> List.replicate 4
    let wide : State := { relay with mapc := { lines := [(0, { words := pages ++ List.replicate 12 0, used := 0 })] } }
    let ws := (List.range 4).map (fun n => (0, RemoteWait.waybill 64 { ctx := 0, addr := 0, len := 0, epoch := 0 } (.ticket 1 n)))
    let full : State := { wide with relay := { wide.relay with waits := ws } }
    let b := begun (ask wide 0x701 ([0x00080000] ++ descWords1 0 16384 ++ [1, 2]))
    (descRefusal b.2 b.1 (descAt b.1 1) true).1 = none ∧ waybillJobs b.2 = 0 ∧ waybillJobs full = 4 ∧
    (results (.waybillGet []) (ask full 0x701 ([0x00080000] ++ descWords1 0 16384 ++ [1, 2]))).map Prod.fst = [stBusy.zeroExtend 32] := by
  decide +kernel

theorem test_cert_read : let s := ask relay 0x704 ([0] ++ descWords1 0 64)
    ((chanAt (after (.certRead []) s) 0).tickets.map (fun x => (x.2.status, x.2.result))) = [(some 0, [0])] := by decide +kernel

theorem test_bundle_not_head : (results (.relayBundleSend []) (ask relay 0x710 (descWords1 0 64))).map Prod.fst = [4] := by decide +kernel

theorem test_key_send_hyp : let s := ask relay 0x711 ([64] ++ descWords1 0 64)
    (descRefusal (begun s).2 (begun s).1 (descAt (begun s).1 1) false).1 = none ∧ dstRefusal (begun s).2 64 = none ∧
    (after (.relayKeySend []) s).relay.waits = [(100000 + 4096 * 64, .keySend 64 (.ticket 0 0))] := by decide +kernel

/-- A peering that is UP. -/
def peering : Peering := {
  state := .up, lane := 1, ctx := 1, epoch := 0, keyGen := 0, peer := 5, peerLane := 1, peerCtx := 1, shared := [7], ringAddr := 0x100000
  ringLen := 8192 }

theorem test_peer_close : let s := { relay with relay := { relay.relay with peerings := [(4, peering)] } }
    results (.peerClose []) (ask s 0x722 [4]) = [(0, [])] ∧ (after (.peerClose []) (ask s 0x722 [4])).relay.peerings = [] := by decide +kernel

theorem test_link_reset_hyp : startsOk (ask relay 0x730 [1]) 0x730 = true := by decide +kernel

theorem test_link_falls : let t := after (.linkFall .up) relay
    t.relay.linkUp.phase = .down ∧ t.relay.linkUp.level = false ∧ t.relay.linkLost = true ∧ t.relay.valid = false ∧
    t.relay.linkDn.phase = .down := by decide +kernel

theorem test_tx_beat : let w : WireFrame := { frame := { header := [], payload := [], tag := [] }, left := 3, up := true, since := 0,
                                              out := { typ := 4, mode := 0, last := true, src := 0, dst := 0, payload := [] } }
    let s := setLink relay .dn { linkOf relay .dn with wire := some w }
    ((linkOf (after (.relayTxAck .dn) s) .dn).wire.map WireFrame.left) = some 2 := by decide +kernel

theorem test_credit_timeout : let s := setLink relay .dn { linkOf relay .dn with spentAt := some 34464 }
    (linkOf (after (.creditTimeout .dn) s) .dn).phase = .down := by decide +kernel

theorem test_remote_wait : let s := { withJob relay 0x001 [] none with
      relay := { relay.relay with waits := [(0, .keySend 64 (.ticket 0 2))] }, pace := { now := 4096 * 64 } }
    remoteWait s = 4096 * 64 ∧ ((chanAt (after (.remoteWaitExpire []) s) 0).tickets.map (fun x => x.2.status)) = [some 0x5C] := by decide +kernel

theorem test_frame_check : let f : Frame := { header := [0x02, 0x01, 0, 2] ++ List.replicate 12 0, payload := [1, 2], tag := List.replicate 16 0 }
    let s := { relay with relay := { relay.relay with linkDn := { level := true } } }
    (rxHead f).typ = 0x02 ∧ rxCheck s .dn (rxHead f) f = (some [1, 2], s) ∧ rxRoute s .dn (rxHead f) = .consumed ∧
    (rxCheck relay .dn (rxHead f) f).1 = none ∧ (after (.kem .dn (beatsOf f) []) relay).relay.stale = true := by decide +kernel

/-! ### Life cycle -/

theorem test_transition : let s := { up with lc := { state := lcTestUnlocked } }
    let t := after (.lcTransition []) (ask s 0x801 [lcTestLocked.zeroExtend 32, 0, 0, 0, 0])
    t.otp.queue.length = 3 ∧ (t.lc.job.map (fun j => (j.target, j.step))) = some (lcTestLocked, 1) ∧ t.lc.state = lcTestUnlocked := by decide +kernel

theorem test_transition_denied : let s := { up with lc := { state := lcProduction } }
    (results (.lcTransition []) (ask s 0x801 [lcTestLocked.zeroExtend 32, 0, 0, 0, 0])).map Prod.fst = [0x60] := by decide +kernel

theorem test_debug_length : (results (.debugInstall []) (ask tenant 0x802 (descWords1 0 64))).map Prod.fst = [6] := by decide +kernel

theorem test_debug_remove : (after (.debugRemove []) (ask up 0x803 [])).nvm.ops.length = 1 := by decide +kernel

theorem test_tamper_log : let s := { up with vault := { tlog := [(2, 0x0102030405060708090A0B0C0D0E0F10)] } }
    results .tamperLogRead (ask s 0x804 [2]) = [(0, [0x04030201, 0x08070605, 0x0C0B0A09, 0x100F0E0D, 3])] := by decide +kernel

/-! ### Cold start and the line code -/

/-- A device with nothing in its OTP is BLANK: cold start ends with the surroundings up and the start not run. -/
theorem test_cold_start_blank : let t := after (.coldStart env []) State.reset
    powered t = true ∧ t.pins.nvmResetN = true ∧ t.lc.state = lcBlank ∧ lcStarts t.lc.state = false ∧
    exec (.coldStart env []) up = .next up := ⟨by decide +kernel, by decide +kernel, by decide +kernel, by decide +kernel, rfl⟩

/-- The last data symbol, flipped whole, is corrected; so is the first by its least value. -/
theorem test_symbol_corrected : decodeSeal ((77 : Line) ^^^ BitVec.ofNat 512 (15 <<< (4 * 127))) (makeSeal 77 5) =
      some { item := 77, mac := 5, fixed := true } ∧
    decodeSealedLine ((77 : Line) ^^^ 1) (makeCheck 77) = some (77, true) := by decide +kernel

theorem test_entry_at_hand : tfind atHand.mapc.lines (pageIndex atHand 0x100 / 16) ≠ none ∧ mapLineAddr atHand 0 / 64 = 0x11F ∧
    minorOf (BitVec.allOnes 64 ++ (0 : BitVec 448)) 0 = 0 ∧ pageIndex atHand 0x11F = 0x1F := by decide +kernel

/-- State slot 0 and its compact group programmed: TEST_LOCKED, a state that starts, and its flash holds no directory (R381, R442). -/
theorem test_cold_start_hyp : let s := { State.reset with otp := { words := tripleOps (stateSlot 0) (stateWord 0 lcTestLocked) ++ [(0x090, 0xFFFFFFFF)] } }
    s.pins.porstN = false ∧ lcStarts (startStep1 env s).2.lc.state = true ∧ env.erase4k = false ∧
    (readDirectory State.reset).1 = none := by decide +kernel

/-! ### Clauses of the statements -/

/-- A master that is no candidate, no owner and no successor may not write OWNER_CLAIM (R80). -/
theorem test_arm_denied : mayClaim up 5 = true ∧ mayClaim up 7 = false ∧ canAct up 7 = true ∧
    (after (.pairedWriteArm 5 0x0005 1) up).cfg.armed = [(5, { off := 0x0014, value := 1, at_ := 100000 })] ∧
    (after (.pairedWriteArm 7 0x0005 1) up).cfg.armed = [] ∧ (vEntry (after (.pairedWriteArm 7 0x0005 1) up).vlog 0).kind = kAccessDenied := by
  decide +kernel

/-- Any master reads a register; a write leaves zero on CTL (R41, R42). -/
theorem test_register_read : latchedBy 0x0440 = none ∧ (after (.registerWrite 5 (0x0440 / 4) none) up).pins.ctlRdata = 0x02240258 ∧
    (after (.registerWrite 9 (0x0440 / 4) (some 0)) up).pins.ctlRdata = 0 := by decide +kernel

/-- A regulator with debt pays it from the refill. -/
theorem test_debt_paid : let s := { up with
      cfg := { up.cfg with active := [(0x1410, 0x00FF1008)] }, lanes := [(1, { state := .opened, reg := 0x00FF1008, tokens := -3, owed := 2 })] }
    let t := after (.paceTick []) s
    bit (activeReg s 0x1410) 12 = true ∧ t.pace.now = 100001 ∧ (laneAt t 1).tokens = 3 ∧ (laneAt t 1).owed = 0 := by decide +kernel

/-- A beat of a frame. -/
def rbeat (sof eof : Bool) (n : BitVec 4) : RelayBeat := { data := List.replicate 16 2, sof := sof, eof := eof, bytes := n }

/-- Beats that make no frame: no SOF, a second SOF, one beat alone, 259 beats; two beats with SOF and EOF make one (R50, R68). -/
theorem test_beats_no_frame : frameOf [rbeat false true 0] = .error .badField ∧
    frameOf [rbeat true false 0, rbeat true true 0] = .error .burstShort ∧ frameOf [rbeat true true 0] = .error .badField ∧
    frameOf (rbeat true false 0 :: List.replicate 258 (rbeat false false 0)) = .error .burstExcess ∧
    (frameOf [rbeat true false 0, rbeat false true 0]).toOption.isSome = true := by decide +kernel

theorem test_frame_timeout : portTakes relay .dn = true ∧ frameOpen [rbeat true false 0] = true ∧
    (after (.burstTimeout (.relayRx .dn [rbeat true false 0] 98976)) relay).vlog.total = 1 ∧
    (after (.burstTimeout (.relayRx .dn [rbeat true false 0] 98977)) relay).vlog.total = 0 := by decide +kernel

/-- One egress read of two lines in flight for the only request. -/
def reading : State := { tenant with cust := { tenant.cust with
  outs := [{ reqs := [{ egress true false 99000 with n := 2 }] }] } }

/-- An answer beat. -/
def mbeat (tag : Tag) (beat : BitVec 2) : MemBeat := { tag := tag, beat := beat, write := false, err := false, data := 7 }

/-- Beats of the controller's answers: in order, out of order, for no request, late, and with another answer open (R68). -/
theorem test_answer_beats :
    ((outChan (after (.custOutResponse 0 (mbeat 5 0) []) reading) 0).reqs.map EgReq.got) = [1] ∧
    (vEntry (after (.custOutResponse 0 (mbeat 5 1) []) reading).vlog 0).kind = kBurstExcess ∧
    (vEntry (after (.custOutResponse 0 (mbeat 6 0) []) reading).vlog 0).kind = kUnsolicited ∧
    (let s := after (.custOutResponse 0 (mbeat 5 0) []) reading
     (openResponse (outChan s 0)).isSome = true ∧ (vEntry (after (.custOutResponse 0 (mbeat 6 0) []) s).vlog 0).kind = kBurstShort) := by
  decide +kernel

theorem test_answer_late : let s := { tenant with cust := { tenant.cust with
      outs := [{ retired := [{ tag := 5, write := true, addr := 0x4000, data := 9, left := 1, superseded := false }] }] } }
    let t := after (.custOutResponse 0 { mbeat 5 0 with write := true } []) s
    (outChan t 0).retired = [] ∧ t.dram = [(0x4000, 9)] := by decide +kernel

/-- A request that waits alone for the one line of a page of the class. -/
def waitingReq (c : CustClass) (st : Stage) : CustReq := {
  seq := 0, ch := 0, op := 0, addr := 0x4000, n := 1, mid := 9, lane := 1, ctx := 1, epoch := 0, owner := 1, ownerEpoch := 0
  entry := mkEntry 1 c .live false true true 0 0, tag := 3, lines := [], stage := st, keys := [], res := [.waiting]
  fault := none, tiles := [], under := none, counted := true }

theorem test_one_line : OneLine { tenant with cust := { tenant.cust with reqs := [waitingReq .openC .reading] } } (waitingReq .openC .reading) :=
  ⟨⟨rfl, ⟨rfl, rfl⟩, rfl, by unfold NoneHeld; decide⟩, ⟨rfl, rfl⟩, by decide⟩

/-- The tenant with its page VERSIONED and never written, and its key derived: the fetch answers zeros. -/
def versioned : State := { tenant with
  mapc := { lines := [(0, { words := mkEntry 1 .versionedC .live false true true 0 0 :: List.replicate 15 0, used := 0 })] }
  tree := { tenant.tree with lines := [(itemAddr tenant (.ctr 0), metaLine (some (.ctr 0)) 0), ((lineSealAt tenant 0 0).1, metaLine none 0)] }
  keys := { tenant.keys with cache := [(1, { epoch := 0, keyGen := 0, laneGen := 0, key := { enc := 1, hash := 2 }, used := 0 })] } }

theorem test_rekey_line : let s := { versioned with tree := { versioned.tree with rekeys := [{ item := .ctr 0, old := 0, pending := 4, ctx := 1 }] } }
    let t := after (.rekeyLine []) s
    lowestPending 4 = some 2 ∧ backgroundMay s = true ∧ t.tree.rekeys = [] ∧
    (itemAtHand t (.ctr 0)).map (fun z => minorOf z 2) = some 1 := by decide +kernel

theorem test_fetch_never_written : let s := { versioned with cust := { versioned.cust with reqs := [waitingReq .versionedC .fetch] } }
    tagsHold s (waitingReq .versionedC .fetch) = true ∧ (cachedKey s 1).isSome = true ∧
    ((inChan (after (.metadataFetch []) s) 0).rsp.map (fun x => (x.verdict, x.data))) = [(.clean, 0)] := by decide +kernel

theorem test_completion_read : let e : TileRead := { order := 4, page := 0x100, holder := 1, holderEpoch := 0, reader := 1, readerEpoch := 0, sum := 0
                                                     mask := 1, flying := 0, lastAt := 0, completing := true }
    let s := { versioned with
      mapc := { lines := [(0, { words := mkEntry 1 .sealedC .live false true true 0 0 :: List.replicate 15 0, used := 0 })] }
      tree := { tenant.tree with lines := [(itemAddr tenant (.ctr 0), metaLine (some (.ctr 0)) (withFill 0 1)),
        ((lineCheckAt tenant 0 1).1, metaLine none 0)] }
      tiles := { tenant.tiles with reads := [e] } }
    completionDue s = some (e, 1) ∧ ((after (.tileCompletionRead []) s).tiles.reads.map TileRead.mask) = [3] := by decide +kernel

/-- A map line that marks the tenant's page to sweep, and the page then finished. -/
theorem test_sweep_page : let s := { versioned with
      mapc := { lines := [(0, { words := mkEntry 1 .versionedC .sweeping false false false 0 0 :: List.replicate 15 0, used := 0 })] }
      tree := { versioned.tree with lines := versioned.tree.lines ++ atHand.tree.lines }
      bg := { sweepActive := true, pendingPages := 2, marked := [0x100, 0x101] } }
    backgroundMay s = true ∧ (after (.sweepPage []) s).bg.marked = [0x101] ∧
    ((tfind (after (.sweepPage []) s).mapc.lines 0).map (fun m => m.words.getD 0 1)) = some 0 := by decide +kernel

theorem test_sweep_locked : let s := { tenant with bg := { sweepActive := true, pendingPages := 2, marked := [0x101] } }
    pageLocked s 0x101 = false ∧ (mapEntry s 0x101).1 = .ok 0 ∧ (after (.sweepPage []) s).bg.marked = [] := by decide +kernel

/-- A single wrong copy and a word that decodes are put right without a restart (R86, R460). -/
theorem test_no_restart : needsRestart (.copyWrong 3) = false ∧ needsRestart (.sramWord 3 7 { data := 1, check := makeWordCheck 0 }) = false ∧
    needsRestart (.vote 3) = true ∧ (after (.faultRestart (.copyWrong 3) [] 0 []) up).flt.resumeDue = false := by decide +kernel

theorem test_journal : let s := { up with bg := { journalDue := true }, keys := { root := .bedrock } }
    journalWanted s = true ∧ exec .journalRecord { s with keys := {} } = .next { s with keys := {} } :=
  ⟨by decide +kernel, rfl⟩

/-- A flash operation of each kind at the front, and its end. -/
theorem test_flash_ends : [NvmOp.window 0 64 1 0 0x100000 (.ticket 0 2), .signer 1 0 none (.ticket 0 2), .cert 0 [] (.ticket 0 2), .debugErase (.ticket 0 2),
      .journal 0x1000 (List.replicate 64 7), .eraseStore false, .store, .stage, .activate].all (fun o =>
    let s := { withJob tenant 0x001 [] none with nvm := { ops := [o] } }
    ((after (.nvmOperationDone ⟨false, true⟩ []) s).nvm.ops.all (fun x => x != o || o == .eraseStore false))) = true := by decide +kernel

theorem test_directory_changes : let s := { up with nvm := { ops := [.directory { (theDir up) with stage := 2 } .plain] } }
    (theDir (after (.directoryChange true []) s)).stage = 0 ∧ (after (.directoryChange true []) s).nvm.ops = [] ∧
    (after (.directoryChange false []) s).boot.nvmError = true := by decide +kernel

/-- The store image commits with STORE_GEN, and is put off where its job is to be cancelled. -/
theorem test_store_commit_hyp : let s := { withJob tenant 0x001 [] none with
      nvm := { ops := [.store] }, keys := { root := .bedrock, rewrites := [.destroyLane 1 (.ticket 0 2)] } }
    cancelled s (.ticket 0 2) = false ∧ (rewritten s.keys.store (.destroyLane 1 (.ticket 0 2))) = [] := by decide +kernel

theorem test_otp_cancelled : let j : Ticket := { op := 0x801, seq := 4, stamp := 9, status := none, result := [], cancel := true }
    let s := { up with
      mbox := [(0, { holder := some 9, tickets := [(2, j)] })]
      otp := { queue := [{ user := .transition, word := 9, bits := 1 }] }
      lc := { job := some { target := lcTestLocked, token := 15, slot := 0, step := 1, input := [], caller := some (.ticket 0 2) } } }
    otpCancelled s .transition = some (.ticket 0 2) ∧
    ((chanAt (after (.otpAck false []) s) 0).tickets.map (fun x => x.2.status)) = [some stAborted] := by decide +kernel

theorem test_zeroize_levels : let s := { up with tamper := { zeroize := true } }
    exec .zeroizeAll s = .next s ∧ (after (.tamperInFall 8) s).tamper.zeroize = false ∧
    (after .zeroizeAll up).tamper.zeroize = true ∧ (after .zeroizeAll up).vault.mask = 0 := ⟨rfl, rfl, by decide +kernel, by decide +kernel⟩

theorem test_asleep_response : let s := { up with keys := { asleep := true }, tamper := { arm := 0xFF, restartDue := false } }
    (after (.tamperIn 0) s).pins.tamperOut = true ∧ (after (.tamperIn 0) s).tamper.restartDue = false := by decide +kernel

theorem test_tampered_restart : let s := { up with tamper := { restartDue := true } }
    s.mbox = [] ∧ s.tamper.restartDue = true ∧ Quiet s ∧ exec (.tamperedRestart []) up = .next up :=
  ⟨rfl, rfl, ⟨⟨rfl, rfl, rfl, by decide⟩, rfl, rfl, rfl, by decide, ⟨rfl, rfl, rfl⟩, ⟨rfl, rfl, rfl⟩, rfl, ⟨rfl, rfl⟩⟩, rfl⟩

/-- IDCODE carries version 0x1, part 0x0071 and bit 0 (R57). -/
theorem test_idcode : bits (tapCapture up 0x01) 28 4 = 1 ∧ bits (tapCapture up 0x01) 12 16 = 0x0071 ∧ bit (tapCapture up 0x01) 0 = true ∧
    tapCapture up 0xFF = 0 := by
  unfold tapCapture idcode bits bit field
  refine ⟨?_, ?_, ?_, rfl⟩ <;> generalize Config.manufacturer = m <;> revert m <;> decide +kernel

/-- A call and its state for a page command. -/
def pageCall (op : PageOp) : Call × State := begun (ask atHand op.code [1, 0x100, 1])

theorem test_page_change : let k := (pageCall .freeze).1
    let t := (pageCall .freeze).2
    let j := { newPageJob .freeze k (.running k.ch) with locked := 1 }
    (pageCheck t j).1 = none ∧ (mapEntry t 0x100).1 = .ok (mkEntry 1 .openC .live false true true 0 0) ∧
    pageStill { j with checked := true } t (mkEntry 1 .openC .live false true true 0 0) = none ∧ changeReady j t 0x100 = true ∧
    (payFill t j 0x100).isNone = true ∧ olderTraffic t 0x100 t.cust.nextSeq = false := by decide +kernel

theorem test_page_refused : let k := (begun (ask atHand PageOp.freeze.code [1, 0x120, 1])).1
    let t := (begun (ask atHand PageOp.freeze.code [1, 0x120, 1])).2
    (pageCheck t { newPageJob .freeze k (.running k.ch) with locked := 1 }).1 = some (0, stOutsideWindow) := by decide +kernel

/-- A package of 64 octets of zeros has no PKG_HEADER. -/
theorem test_load_rejected : let s := ask tenant 0x201 ([1, 0x100] ++ descWords1 0 64)
    (loadRefusal (begun s).2 (begun s).1).1 = none ∧ (pkgHeader (List.replicate 64 0) 64).toOption = none := by decide +kernel

theorem test_load_current : loadCurrent tenant waitingLoad = true ∧ (freeModel tenant).isSome = true ∧
    ({ waitingLoad with done := 2 } : Load).done = waitingLoad.pages := by decide +kernel

theorem test_kum_counts : let s := { up with keys := { kumDue := some { kind := 4, digest := 7, who := .job (.ticket 0 2) } } }
    (kumStep s).vault.kumCount = 1 ∧ (kumStep s).keys.kumDue = none ∧ (kumStep s).miles.queue.length = 1 := by decide +kernel

theorem test_sleep_cancelled : let s := { up with
      keys := { sleeping := some (.ticket 0 2) }, cust := { stopped := true, enabled := true }
      mbox := [(0, { holder := some 9, waiting := [req 0x004 [2]] })] }
    cancelCaptured s (.ticket 0 2) = true ∧ (sleepStep s).keys.sleeping = none ∧ (sleepStep s).keys.asleep = false ∧
    (sleepStep s).cust.stopped = false := by decide +kernel

theorem test_sheet_waits : let v : Sheet := { state := .signing }
    let s := { tenant with rcpt := { sheets := [(5, v)] } }
    nextSigning s = some 5 ∧ covers s crRns (rnsUnit s) 1 = false ∧ exec (.sheetSigned []) s = .next s := ⟨by decide +kernel, by decide +kernel, rfl⟩

theorem test_validation_end : let j : RnsJob := { rnsJob with bank := some 0, phase := .validating, since := 99997 }
    let s := { tenant with rns := { jobs := [j], next := 1, lanes := some 0 } }
    (validate j).isSome = true ∧ ((after (.rnsValidationEnd 0) s).rns.jobs.map RnsJob.phase) = [.clearing] := by decide +kernel

/-- Without a permit for its pace a program does not end; an abort ends it at the boundary. -/
theorem test_not_covered : let j : RnsJob := { rnsJob with bank := some 0, phase := .running }
    let s := { tenant with rns := { jobs := [j], next := 1, lanes := some 0 } }
    exec (.rnsRunDone 0 []) s = .next s ∧
    ((after (.rnsBlockBoundary 0) { s with rns := { s.rns with jobs := [{ j with abort := some (stAborted, 0xFF) }] } }).rns.jobs.map RnsJob.status) =
      [stAborted] := ⟨rfl, by decide +kernel⟩

/-- A slot that absorbs one block of its two, with the block covered by the engine's credit. -/
def slotFeeds : State := { tenant with
  power := { credits := [10 ^ 12, 10 ^ 12, 10 ^ 12, 10 ^ 12, 10 ^ 12] }
  dig := {
    cores := [{ slot := some 0 }]
    slots := [(0, {
      state := .opened, alg := 0, lane := 0, mlen := 239, p := 256, fed := 0, since := 0, wait := 65536, words := digestInit 0 []
      feed := some { caller := .ticket 0 2, desc := { ctx := 1, addr := 0x100000, len := 128, epoch := 0 }, done := 0, take := 128, excess := 0 } })] } }

theorem test_chunk_covered : let s := coverChunk slotFeeds 0
    (coreAt slotFeeds 0).slot = some 0 ∧ ((dslot s 0).feed.map (fun f => chunkOwed (dslot s 0) f)) = some 0 ∧
    ((dslot slotFeeds 0).feed.map (fun f => chunkOwed (dslot slotFeeds 0) f)) = some 2 := by decide +kernel

theorem test_digest_waits : loadMayRun tenant 1 = true ∧
    loadMayRun { tenant with keys := { wkr := some { job := 0, handle := 0, typ := 1, material := [], since := 0 } } } 1 = false := by decide +kernel

/-- A link with a session whose timers have run: a retry, a re-key and a credit become due exactly then (R413, R417, R420). -/
theorem test_link_timers : let d : Link := { level := true, phase := .up, finishedAt := 0, freedAt := some 99984, freed := 1, wire := none }
    let s := { relay with pace := { now := 1073741824 } }
    linkStands d = true ∧ (linkOf s .dn).finishedAt + 1073741824 ≤ s.pace.now ∧
    creditWaits (linkOf (askCredit (setLink relay .dn d) .dn) .dn) = true ∧
    exec (.linkRekeyDue .dn) relay = .next relay ∧ exec (.creditDue .dn) relay = .next relay ∧ exec (.helloRetryExpire .dn) relay = .next relay ∧
    exec (.creditTimeout .dn) relay = .next relay ∧ exec (.remoteWaitExpire []) relay = .next relay :=
  ⟨rfl, by decide +kernel, by decide +kernel, rfl, rfl, rfl, rfl, rfl⟩

theorem test_link_rises : let s := setLink { relay with cfg := tenant.cfg } .dn {}
    mayBringUp (setLink s .dn { linkOf s .dn with level := true }) .dn = false ∧
    (linkOf (after (.linkRise .dn) s) .dn).level = true ∧ exec (.linkRise .dn) relay = .next relay := ⟨by decide +kernel, by decide +kernel, rfl⟩

theorem test_peer_open_hyp : ringOk { ctx := 1, addr := 0x100000, len := 8192 } = true ∧ ringOk { ctx := 1, addr := 0x100000, len := 4096 } = false ∧
    (handleMaterial tenant { kind := 4, lane := 1, name := 1, typ := 2, label := [], laneGen := 0, epoch := 0, keyGen := 0, version := 0, stale := false
                             owners := false }).1.toOption.isSome = true := by decide +kernel

/-- A log entry that cannot be read (R457). -/
theorem test_tamper_log_broken : let s := { up with vault := { tlogBroken := [2] } }
    results .tamperLogRead (ask s 0x804 [2]) = [(stTamperLog.zeroExtend 32, [0, 0, 0, 0, 0])] := by decide +kernel

end Sys2Proof.Tests
end

section
/-!
PROOF. How shared tables and channels read after the block-wide updates of a change of owner (R76), and the change itself as one rule.
-/

namespace Sys2Proof.Proofs

open Sys2Proof Sys2Proof.Machine Sys2Proof.Safety

/-! ### Tables -/

/-- A key that a table does not list reads the default. -/
theorem tget_of_notMem {α : Type} (d : α) (t : Table α) {k : Nat} (h : k ∉ t.map Prod.fst) : tget d t k = d := by
  induction t with
  | nil => rfl
  | cons e t ih =>
    obtain ⟨j, v⟩ := e
    simp only [List.map_cons, List.mem_cons, not_or] at h
    obtain ⟨hj, ht⟩ := h
    simp [tget, Ne.symm hj, ih ht]

/-- Every entry changed by a function that keeps the default: so is every reading. -/
theorem tget_map {α : Type} (d : α) (f : α → α) (hd : f d = d) (t : Table α) (k : Nat) :
    tget d (t.map (fun e => (e.1, f e.2))) k = f (tget d t k) := by
  induction t with
  | nil => exact hd.symm
  | cons e t ih =>
    obtain ⟨j, v⟩ := e
    simp only [List.map_cons, tget, ih]
    split <;> rfl

/-! ### Channels -/

/-- The channels after a doorbell bit was raised on one. -/
theorem chanAt_raiseBell (s : State) (c c' b : Nat) :
    chanAt (raiseBell s c b) c' =
      if c' = c then { chanAt s c' with latched := (chanAt s c').latched ||| BitVec.ofNat 32 (2 ^ b) } else chanAt s c' := by
  simp only [raiseBell, chanAt_setChan]
  split
  · next h => rw [h]
  · rfl

/-- The channels after a doorbell bit was raised on several; one listed twice is as one listed once. -/
theorem chanAt_raiseBells (s : State) (cs : List Nat) (c b : Nat) :
    chanAt (raiseBells s cs b) c =
      if c ∈ cs then { chanAt s c with latched := (chanAt s c).latched ||| BitVec.ofNat 32 (2 ^ b) } else chanAt s c := by
  induction cs generalizing s with
  | nil => rfl
  | cons d cs ih =>
    rw [show raiseBells s (d :: cs) b = raiseBells (raiseBell s d b) cs b from rfl, ih, chanAt_raiseBell]
    by_cases hd : c = d <;> by_cases hc : c ∈ cs <;> simp [hd, hc, BitVec.or_assoc]

/-- A channel never written is not active. -/
theorem isActive_eq_false_of_default {s : State} {c : Nat} (h : chanAt s c = {}) : isActive s c = false := by
  simp [isActive, h, directHolder]

/-- The channels that a change of owner tells are the active ones. -/
theorem mem_channelsWhere_isActive (s : State) (c : Nat) : c ∈ channelsWhere s (isActive s) ↔ isActive s c = true := by
  rw [channelsWhere, List.mem_filter]
  refine ⟨And.right, fun h => ⟨?_, h⟩⟩
  by_contra hc
  have hd : isActive s c = false := isActive_eq_false_of_default (tget_of_notMem ({} : Channel) s.mbox hc)
  simp [hd] at h

/-- Every channel's waiting requests lose the owner's stamp. -/
@[simp] theorem chanAt_stampsLost (s : State) (c : Nat) : chanAt (stampsLost s) c = stampsGone (chanAt s c) :=
  tget_map ({} : Channel) stampsGone rfl s.mbox c

@[simp] theorem isActive_stampsLost (s : State) (c : Nat) : isActive (stampsLost s) c = isActive s c := by
  simp [isActive, stampsGone, directHolder]

/-! ### A change of owner (R76) -/

/-- The state that a change of owner tells the channels of: stamps lost, shadows returned, GEN raised. -/
def ownerSettled (s : State) : State :=
  dropShadows { stampsLost s with own := { s.own with gen := s.own.gen + 1 } }

theorem ownerChanged_eq (s : State) : ownerChanged s =
    requestExtend (raiseBells (ownerSettled s) (channelsWhere (ownerSettled s) (isActive (ownerSettled s))) bellOwner) 6
      (beOctets 4 (ownerWord (ownerSettled s)).toNat) := rfl

@[simp] theorem chanAt_ownerSettled (s : State) (c : Nat) : chanAt (ownerSettled s) c = stampsGone (chanAt s c) :=
  chanAt_stampsLost s c

@[simp] theorem isActive_ownerSettled (s : State) (c : Nat) : isActive (ownerSettled s) c = isActive s c :=
  isActive_stampsLost s c

/-- The channels after a change of owner. -/
theorem chanAt_ownerChanged (s : State) (c : Nat) : chanAt (ownerChanged s) c =
    if isActive s c then { stampsGone (chanAt s c) with latched := (stampsGone (chanAt s c)).latched ||| 0x20 }
    else stampsGone (chanAt s c) := by
  have h := chanAt_raiseBells (ownerSettled s) (channelsWhere (ownerSettled s) (isActive (ownerSettled s))) c bellOwner
  simp only [mem_channelsWhere_isActive, isActive_ownerSettled, chanAt_ownerSettled] at h
  exact h

/-- New values of right of way, and what follows from a change of owner, are the whole effect on the state. -/
theorem ownerChanged_ownerChange (s : State) (own : Own) (hg : own.gen = s.own.gen) :
    OwnerChange s (ownerChanged { s with own := own }) own := by
  have hb := chanAt_ownerChanged { s with own := own }
  rw [ownerChanged_eq] at hb ⊢
  obtain ⟨m, hm⟩ := raiseBells_frame (ownerSettled { s with own := own })
    (channelsWhere (ownerSettled { s with own := own }) (isActive (ownerSettled { s with own := own }))) bellOwner
  rw [hm] at hb ⊢
  have ho : (ownerSettled { s with own := own }).own = { own with gen := s.own.gen + 1 } := by rw [← hg]; rfl
  exact { own := ho, shadows := rfl, bells := hb, milepost := rfl, rest := rfl }

/-- A change of owner made by a write on CTL. -/
theorem ownerChange_ctlWrote {s t : State} {own : Own} (h : OwnerChange s t own) : OwnerChange (ctlWrote s) (ctlWrote t) own where
  own := h.own
  shadows := h.shadows
  bells := h.bells
  milepost := h.milepost
  rest := congrArg ctlWrote h.rest

/-- A change of owner in a step. -/
theorem ownerChange_ended {s t : State} {own : Own} (u : State) (h : OwnerChange s t own) :
    OwnerChange (ended u s) (ended u t) own where
  own := h.own
  shadows := h.shadows
  bells := h.bells
  milepost := h.milepost
  rest := congrArg (ended u) h.rest

/-- A master that takes right of way holds it, with the whole effect of a change of owner (R76). -/
theorem takeRightOfWay_ownerChange (s : State) (mid : Mid) : OwnerChange s (takeRightOfWay s mid)
    { s.own with mid := mid, phase := .owned, successor := 0, remaining := 0, claims := [] } :=
  ownerChanged_ownerChange s _ rfl

end Sys2Proof.Proofs
end

section
/-!
PROOF. Paired writes whose half stands armed (R84), and a window that closes with no claim (R73).
-/

namespace Sys2Proof.Proofs

open Sys2Proof Sys2Proof.Machine Sys2Proof.Safety

/-! ### Paired writes (R84) -/

/-- A half that stands armed has not expired. -/
theorem expireHalf_of_halfArmed {s : State} {mid : Mid} {off : Nat} {v : W32} (h : HalfArmed s mid off v) : expireHalf s mid = s := by
  obtain ⟨p, hp, hc⟩ := h.half
  simp [expireHalf, hp, halfExpired, hc]

/-- The complement completes the pair with the value of the first half. -/
theorem completePair_of_halfArmed {s : State} {mid : Mid} {off : Nat} {v : W32} (h : HalfArmed s mid off v) :
    completePair s mid off (~~~v) = (some v, disarm s mid) := by
  have he := expireHalf_of_halfArmed h
  obtain ⟨p, hp, -⟩ := h.half
  simp [completePair, he, hp]

/-- The row that the armed half names takes its complement. -/
theorem rowMatches_of_halfArmed {s : State} {mid : Mid} {v : W32} {act : Nat} (h : HalfArmed s mid 0x0014 v) (ha : bits v 0 8 = act) :
    rowMatches s mid act = true := by
  obtain ⟨p, hp, -⟩ := h.half
  simp [rowMatches, hp, ha]

/-- An action that a master completes in time is taken on the state without its half (R71). -/
theorem ownerRow_of_halfArmed {s : State} {mid : Mid} {v : W32} {act : Nat} (h : HalfArmed s mid 0x0014 v) (ha : bits v 0 8 = act)
    (hm : mayClaim s mid = true) : ownerRow act mid (~~~v) s = ctlWrote (ownerAction (disarm s mid) mid v) := by
  simp [ownerRow, ownerClaimComplement, h.acts, rowMatches_of_halfArmed h ha, hm, completePair_of_halfArmed h]

/-! ### Right of way (R73) -/

@[simp] theorem disarm_own (s : State) (mid : Mid) : (disarm s mid).own = s.own := rfl

@[simp] theorem rankOf_disarm (s : State) (mid m : Mid) : rankOf (disarm s mid) m = rankOf s m := rfl

/-- A candidate may write `OWNER_CLAIM` (R80). -/
theorem mayClaim_of_candidate {s : State} {mid : Mid} (h : (rankOf s mid).isSome = true) : mayClaim s mid = true := by
  simp [mayClaim, h]

/-- In OPEN no window and no handover is left to settle. -/
theorem settleOwner_of_opened {s : State} (h : s.own.phase = .opened) : settleOwner s = s := by
  simp [settleOwner, h]

/-- The word that asks for CLAIM asks for it once what was due is settled (R71). -/
theorem ownerAction_claim (s : State) (mid : Mid) : ownerAction s mid (actionWord 1 0) = claimAction (settleOwner s) mid := by
  have hact : bits (actionWord 1 0) 0 8 = 1 := by decide
  have htarget : bits (actionWord 1 0) 8 8 = 0 := by decide
  have hkey : bits (actionWord 1 0) 16 16 = 0x57A7 := by decide
  simp only [ownerAction, hact, htarget, hkey]
  rfl

/-- In OPEN the first claim of a candidate wins at once (R73). -/
theorem claimAction_of_opened {s : State} {mid : Mid} (h : s.own.phase = .opened) (hr : (rankOf s mid).isSome = true) :
    claimAction s mid = takeRightOfWay s mid := by
  obtain ⟨r, hr⟩ := Option.isSome_iff_exists.1 hr
  simp [claimAction, hr, h]

/-- A window without a claim closes to OPEN (R73). -/
theorem closeWindow_of_noClaim {s : State} (h : bestClaim s = none) :
    closeWindow s = { s with own := { s.own with phase := .opened, remaining := 0, claims := [] } } := by
  simp [closeWindow, h]

/-- The row that ends an uncontested window. -/
theorem exec_electionWindowClose_of_noClaim {s : State} (hp : powered s = true) (hw : s.own.phase = .window) (hr : s.own.remaining = 0)
    (hb : bestClaim s = none) : exec .electionWindowClose s =
      .next (ended s { s with own := { s.own with phase := .opened, remaining := 0, claims := [] } }) := by
  change execElectionWindowClose s = _
  rw [execElectionWindowClose, live_powered s hp, if_pos ⟨hw, hr⟩, closeWindow_of_noClaim hb]

/-- A CLAIM completed in OPEN by a candidate. -/
theorem exec_claim_of_opened {s : State} {mid : Mid} (hp : powered s = true) (ho : s.own.phase = .opened)
    (h : HalfArmed s mid 0x0014 (actionWord 1 0)) (hr : (rankOf s mid).isSome = true) :
    exec (.claim mid (~~~(actionWord 1 0))) s = .next (ended s (ctlWrote (takeRightOfWay (disarm s mid) mid))) := by
  have ho' : (disarm s mid).own.phase = .opened := ho
  have hact : ownerAction (disarm s mid) mid (actionWord 1 0) = takeRightOfWay (disarm s mid) mid := by
    rw [ownerAction_claim, settleOwner_of_opened ho', claimAction_of_opened ho' hr]
  change execClaim mid _ s = _
  rw [execClaim, live_powered s hp, ownerRow_of_halfArmed h (by decide) (mayClaim_of_candidate hr), hact]

/-- Settles O15: the row that ends the window makes the phase OPEN, and there a candidate's claim takes right of way. -/
theorem uncontestedWindow : Obligations.UncontestedWindow := by
  unfold Obligations.UncontestedWindow
  intro s mid hp
  refine ⟨exec_electionWindowClose_of_noClaim hp, fun ho h hr => ⟨_, exec_claim_of_opened hp ho h hr, ?_⟩⟩
  exact ownerChange_ended s (ownerChange_ctlWrote (takeRightOfWay_ownerChange (disarm s mid) mid))

end Sys2Proof.Proofs
end

section
/-!
PROOF. A push into a channel that discards (R94): the state it leaves is that of a free channel taken, or the state before it.
-/

namespace Sys2Proof.Proofs

open Sys2Proof Sys2Proof.Machine Sys2Proof.Safety

/-- Taking a channel leaves whether it discards. -/
theorem discarding_takeChannel (s : State) (mid : Mid) (c : Nat) :
    (chanAt (takeChannel s mid c) c).discarding = (chanAt s c).discarding := by
  unfold takeChannel
  dsimp only
  split
  · rw [chanAt_setChan_same]
  · rfl

/-- A free direct channel is taken by the master that pushes (R90). -/
theorem takeChannel_free {s : State} {c : Nat} (mid : Mid) (hd : isDirect c = true) (hp : (chanAt s c).pinned = false)
    (hf : (chanAt s c).holder = none) : takeChannel s mid c = setChan s c { chanAt s c with holder := some mid } := by
  simp [takeChannel, hd, hp, hf]

/-- A push into a channel that discards does no more than take the channel where it is free (R90, R94). -/
theorem pushWord_discarding {s : State} {mid : Mid} {c : Nat} (w : W32) (hm : maySend s mid c = true)
    (hd : (chanAt s c).discarding = true) (hl : composeLate s c = false) : pushWord s mid c w = takeChannel s mid c := by
  simp [pushWord, hm, hl, discarding_takeChannel, hd]

/-- MSG_IN into a channel that discards. -/
theorem exec_msgIn_discarding {s : State} {mid : Mid} {c : Fin 128} (d : W32) (hp : powered s = true) (ha : canAct s mid = true)
    (hm : maySend s mid c.val = true) (hd : (chanAt s c.val).discarding = true) (hl : composeLate s c.val = false) :
    exec (.msgIn mid c d) s = .next (ended s (ctlWrote (takeChannel s mid c.val))) := by
  change execMsgIn mid c d s = _
  rw [execMsgIn, live_powered s hp, if_pos ha, pushWord_discarding d hm hd hl]

/-- A running block whose direct channel 3 is free and discards pushes, as its last holder left it: RELEASE keeps DISCARDING. -/
def leftDiscarding : State := { State.reset with pins := { porstN := true }, mbox := [(3, { discarding := true })] }

/-- The block comes to that state: master 9 pushes a word 0 with LEN 15 into the free channel, reads the two words of its BAD_LENGTH answer,
and releases the channel. -/
theorem leftDiscarding_reached :
    core.run 4 { leftDiscarding with
      mbox := [], pending := [.msgIn 9 3 0x001003C0, .msgOut 9 3, .msgOut 9 3, .release 9 3] } = .next leftDiscarding := rfl

/-- Refutes O25: the third clause has a push into a channel that discards change nothing, but a direct channel may be free and discard, as
`leftDiscarding` is after a RELEASE; there the push of master 9 takes channel 3 (R90). -/
theorem not_badPushes : ¬ Obligations.BadPushes := by
  unfold Obligations.BadPushes
  intro h
  obtain ⟨-, -, discards, -⟩ := h leftDiscarding 9 3 0 rfl rfl
  have unchanged := discards rfl rfl rfl
  have taken := exec_msgIn_discarding (s := leftDiscarding) (mid := 9) (c := 3) 0 rfl rfl rfl rfl rfl
  rw [takeChannel_free 9 rfl rfl rfl, unchanged] at taken
  have same := congrArg State.mbox (Host.Outcome.next.inj taken)
  exact absurd same (by decide)

end Sys2Proof.Proofs
end

section
/-!
PROOF. What holds of every command: it completes, a held block takes only the start and the vault's events, and the invariant is kept (R59 to
R62, R472).
-/

namespace Sys2Proof.Proofs

open Sys2Proof Sys2Proof.Machine Sys2Proof.Safety Sys2Proof.Laws

/-! ### Completion -/

/-- Settles O1: it is how a step is defined. -/
theorem stepRunsFrontCommand : Obligations.StepRunsFrontCommand := by
  unfold Obligations.StepRunsFrontCommand
  intro c rest s
  rfl

/-- PORST_N falling leaves the queue. -/
theorem porstFalls_pending (s : State) : (porstFalls s).pending = s.pending := by
  unfold porstFalls
  split <;> rfl

/-- Settles O2: by when the command acts, through the shape of its row. -/
theorem everyCommandCompletes : Obligations.EveryCommandCompletes := by
  unfold Obligations.EveryCommandCompletes
  intro c s
  cases ha : actsWhile c with
  | running =>
    obtain ⟨u, hu⟩ := exec_running c s ha
    obtain ⟨hq, hn, hc, hv, -⟩ := exec_running_frame ha hu
    exact ⟨_, hu, hq, fun _ _ _ _ => ⟨hn, hc, hv⟩⟩
  | vaultSupplied =>
    obtain ⟨f, hf⟩ := exec_vaultSupplied c s ha
    refine ⟨_, hf, ?_, fun _ _ _ _ => ?_⟩ <;> split <;> simp
  | always =>
    obtain rfl | ⟨env, bus, rfl⟩ | rfl | rfl := actsWhile_always c ha
    · exact ⟨_, rfl, porstFalls_pending s, fun _ h => absurd rfl h⟩
    · refine ⟨_, rfl, ?_, fun h => absurd rfl (h env bus)⟩
      split <;> simp
    · refine ⟨_, rfl, ?_, fun _ _ h => absurd rfl h⟩
      split <;> rfl
    · exact ⟨_, rfl, rfl, fun _ _ _ h => absurd rfl h⟩

/-- Settles O3: a row of the running block answers a held one unchanged, and of the rows that act always a failing supply is left. -/
theorem heldBlockTakesNothing : Obligations.HeldBlockTakesNothing := by
  unfold Obligations.HeldBlockTakesNothing
  intro c s hp hstart hporst hrise htamper hfall hzero hlow
  cases ha : actsWhile c with
  | running =>
    obtain ⟨u, hu⟩ := exec_running c s ha
    simpa [hp] using hu
  | vaultSupplied =>
    obtain ⟨n, rfl⟩ | ⟨n, rfl⟩ | rfl | rfl := actsWhile_vaultSupplied c ha
    · exact absurd rfl (htamper n)
    · exact absurd rfl (hfall n)
    · exact absurd rfl hzero
    · exact absurd rfl hlow
  | always =>
    obtain rfl | ⟨env, bus, rfl⟩ | rfl | rfl := actsWhile_always c ha
    · exact absurd rfl hporst
    · exact absurd rfl (hstart env bus)
    · change execPowerFailure s = _
      simp [execPowerFailure, hp]
    · exact absurd rfl hrise

/-! ### The invariant -/

/-- A held block that differs from a cleared one in the vault, the tamper registers, the supply of the vault and TAMPER_OUT alone is cleared. -/
theorem cleared_of_vaultDomain {s t : State} (h : Cleared s) (b c : Bool) (v : Vault) (x : Tamper)
    (ht : { s with pins := { s.pins with tamperOut := b, vddVault := c }, vault := v, tamper := x } = t) : Cleared t := by
  subst ht
  exact { h with }

/-- A source recognised while the block is held acts on the vault domain alone (R47, R450). -/
theorem tamperSource_held {s : State} (hp : powered s = false) (src : Nat) : ∃ v,
    tamperSource s src = { s with pins := { s.pins with tamperOut := true }, vault := v } := by
  have hp' : powered { s with pins := { s.pins with tamperOut := true }, vault := tamperVault src s.vault } = false := hp
  simp only [tamperSource, hp, Bool.false_and, Bool.false_eq_true, if_false, tamperZero, hp']
  exact ⟨_, rfl⟩

/-- What an event of the vault domain may change of a held block. -/
def VaultDomainOnly (s t : State) : Prop := ∃ b v x, t = { s with pins := { s.pins with tamperOut := b }, vault := v, tamper := x }

theorem vaultDomainOnly_refl (s : State) : VaultDomainOnly s s := ⟨_, _, _, rfl⟩

theorem vaultDomainOnly_tamper (s : State) (x : Tamper) : VaultDomainOnly s { s with tamper := x } := ⟨_, _, _, rfl⟩

/-- A source recognised while the block is held, with the level that it records. -/
theorem vaultDomainOnly_tamperSource {s : State} (hp : powered s = false) (x : Tamper) (src : Nat) :
    VaultDomainOnly s (tamperSource { s with tamper := x } src) := by
  have hp' : powered { s with tamper := x } = false := hp
  obtain ⟨v, hv⟩ := tamperSource_held hp' src
  exact ⟨_, _, _, hv⟩

theorem tamperInput_vaultDomainOnly {s : State} (hp : powered s = false) (n : Nat) : VaultDomainOnly s (tamperInput n s) := by
  unfold tamperInput
  split
  · exact vaultDomainOnly_refl s
  · dsimp only
    split
    · exact vaultDomainOnly_tamperSource hp _ n
    · exact vaultDomainOnly_tamper s _

theorem tamperInputFalls_vaultDomainOnly (s : State) (n : Nat) : VaultDomainOnly s (tamperInputFalls n s) := by
  unfold tamperInputFalls
  split <;> exact vaultDomainOnly_tamper s _

theorem zeroizeInput_vaultDomainOnly {s : State} (hp : powered s = false) : VaultDomainOnly s (zeroizeInput s) := by
  unfold zeroizeInput
  split
  · exact vaultDomainOnly_refl s
  · exact vaultDomainOnly_tamperSource hp _ 8

theorem vaultSupplyLow_vaultDomainOnly {s : State} (hp : powered s = false) : VaultDomainOnly s (vaultSupplyLow s) := by
  unfold vaultSupplyLow
  dsimp only
  split
  · exact vaultDomainOnly_tamperSource hp _ 10
  · exact vaultDomainOnly_tamper s _

/-- An event of the vault domain keeps the invariant, where on a held block it acts on the vault domain alone. -/
theorem inv_vaultDomain {s t : State} {f : State → State} (h : Inv s) (hf : powered s = false → VaultDomainOnly s (f s))
    (e : vaultDomain s f = .next t) : Inv t := by
  obtain ⟨hb, hc⟩ := h
  unfold vaultDomain at e
  cases e
  split
  · refine ⟨rfl, fun hp => ?_⟩
    rw [powered_ended] at hp
    obtain ⟨b, v, x, hx⟩ := hf hp
    rw [hx]
    exact cleared_of_vaultDomain (hc hp) b s.pins.vddVault v x (by simp [ended, ← hb])
  · exact ⟨hb, hc⟩

/-- What reset leaves is cleared, with PORST_N and the supply of the core at any level (R59, R61, R472). -/
theorem cleared_clearVolatile (s : State) (n v : Bool) :
    Cleared { clearVolatile s with pins := { (clearVolatile s).pins with porstN := n, vddCore := v } } := by
  constructor <;> simp [clearVolatile]

theorem inv_porstFalls {s : State} (h : Inv s) : Inv (porstFalls s) := by
  unfold porstFalls
  split
  · exact ⟨rfl, fun _ => cleared_clearVolatile s false s.pins.vddCore⟩
  · exact h

theorem inv_powerFails (s : State) : Inv (powerFails s) :=
  ⟨rfl, fun _ => cleared_clearVolatile s s.pins.porstN false⟩

/-- Every command keeps the invariant. -/
theorem inv_exec {c : Instr} {s t : State} (h : Inv s) (e : exec c s = .next t) : Inv t := by
  cases ha : actsWhile c with
  | running =>
    obtain ⟨-, hn, hc, -, hbus, hsame⟩ := exec_running_frame ha e
    have hpow : powered t = powered s := by simp [powered, hn, hc]
    cases hp : powered s with
    | true => exact ⟨hbus hp, fun ht => by simp [hpow, hp] at ht⟩
    | false => rw [hsame hp]; exact h
  | vaultSupplied =>
    obtain ⟨n, rfl⟩ | ⟨n, rfl⟩ | rfl | rfl := actsWhile_vaultSupplied c ha
    · exact inv_vaultDomain h (fun hp => tamperInput_vaultDomainOnly hp n.val) e
    · exact inv_vaultDomain h (fun _ => tamperInputFalls_vaultDomainOnly s n.val) e
    · exact inv_vaultDomain h zeroizeInput_vaultDomainOnly e
    · exact inv_vaultDomain h vaultSupplyLow_vaultDomainOnly e
  | always =>
    obtain rfl | ⟨env, bus, rfl⟩ | rfl | rfl := actsWhile_always c ha
    · cases e
      exact inv_porstFalls h
    · cases e
      split
      · exact h
      · exact ⟨rfl, fun hp => by simp [powered] at hp⟩
    · cases e
      split
      · exact inv_powerFails s
      · exact h
    · cases e
      exact ⟨h.1, fun hp => cleared_of_vaultDomain (h.2 hp) false true {} _ rfl⟩

/-- Settles O4: the front command keeps the invariant, which does not speak of the queue. -/
theorem stepKeepsInvariant : Obligations.StepKeepsInvariant := by
  unfold Obligations.StepKeepsInvariant
  intro s t h e
  unfold step at e
  split at e
  · cases e
    exact h
  · next rest _ =>
    have hq : Inv { s with pending := rest } := ⟨h.1, fun hp => { h.2 hp with }⟩
    exact inv_exec hq e

/-- Settles O5. -/
theorem resetMeetsInvariant : Obligations.ResetMeetsInvariant := by
  unfold Obligations.ResetMeetsInvariant
  exact ⟨⟨rfl, fun _ => by constructor <;> simp [State.reset]⟩, rfl, rfl⟩

/-! ### Reset values -/

theorem dbLine_reset (c : Nat) : dbLine State.reset c = false := by
  have hc : chanAt State.reset c = {} := rfl
  rw [dbLine, hc]
  decide

/-- Settles O6: a table of the reset state lists nothing, so every reading is the default's. -/
theorem resetValues : Obligations.ResetValues := by
  unfold Obligations.ResetValues
  refine ⟨rfl, dbLine_reset, rfl, rfl, fun _ => rfl, rfl, rfl, rfl, fun l hl => ?_, fun c hc => ?_⟩
  · change (laneReset l).state = .closed
    simp [laneReset, hl]
  · change (ctxReset c).state = .free
    simp [ctxReset, hc]

end Sys2Proof.Proofs
end

section
/-!
PROOF. Stored lines, counters and the violation log: what is written is read back, and nothing else changes (R63, R485).
-/

namespace Sys2Proof.Proofs

open Sys2Proof Sys2Proof.Machine Sys2Proof.Safety Sys2Proof.Laws

/-! ### Stored lines -/

/-- A store on its way to a line, as a newer one to another line leaves it. -/
def overtaken (la : Nat) (r : EgReq) : EgReq := if r.write && decide (r.addr = la) then { r with superseded := true } else r

theorem overtaken_of_ne {la : Nat} {r : EgReq} (h : r.addr ≠ la) : overtaken la r = r := by simp [overtaken, h]

@[simp] theorem overtaken_addr (la : Nat) (r : EgReq) : (overtaken la r).addr = r.addr := by
  unfold overtaken
  split <;> rfl

@[simp] theorem overtaken_write (la : Nat) (r : EgReq) : (overtaken la r).write = r.write := by
  unfold overtaken
  split <;> rfl

/-- Superseding changes the requests of every channel one by one. -/
theorem storesInFlight_supersede (s : State) (la la' : Nat) : storesInFlight (supersede s la) la' =
    s.cust.outs.flatMap (fun o => (o.reqs.map (overtaken la)).filter (fun r => r.write && decide (r.addr = la') && !r.superseded)) := by
  simp only [storesInFlight, supersede, List.flatMap_map]
  rfl

/-- No store that is still to be stored is on its way to a line that a newer store has overtaken. -/
theorem storesInFlight_supersede_same (s : State) (la : Nat) : storesInFlight (supersede s la) la = [] := by
  rw [storesInFlight_supersede, List.flatMap_eq_nil_iff]
  intro o _
  rw [List.filter_eq_nil_iff]
  intro r hr
  obtain ⟨x, -, rfl⟩ := List.mem_map.1 hr
  by_cases hx : x.write && decide (x.addr = la)
  · simp [overtaken, hx]
  · rw [overtaken, if_neg hx]
    simp at hx ⊢
    exact fun hw ha => absurd ha (hx hw)

/-- Stores on their way to another line are not overtaken. -/
theorem storesInFlight_supersede_ne (s : State) {la la' : Nat} (h : la' ≠ la) :
    storesInFlight (supersede s la) la' = storesInFlight s la' := by
  rw [storesInFlight_supersede, storesInFlight]
  refine congrArg (s.cust.outs.flatMap ·) (funext fun o => ?_)
  induction o.reqs with
  | nil => rfl
  | cons r rs ih =>
    by_cases hr : r.addr = la
    · have hne : ¬la = la' := fun hl => h hl.symm
      simpa [List.filter_cons, hr, hne] using ih
    · simp [List.filter_cons, overtaken_of_ne hr, ih]

/-- A line stored is what the block reads back. -/
@[simp] theorem storedLine_storeLine_same (s : State) (la : Nat) (l : Line) : storedLine (storeLine s la l) la = l := by
  have h : storesInFlight (storeLine s la l) la = [] := storesInFlight_supersede_same _ la
  simp [storedLine, h]

/-- Every other line reads as before. -/
theorem storedLine_storeLine_ne (s : State) {la la' : Nat} (l : Line) (h : la' ≠ la) :
    storedLine (storeLine s la l) la' = storedLine s la' := by
  have hf : storesInFlight (storeLine s la l) la' = storesInFlight s la' := storesInFlight_supersede_ne _ h
  simp only [storedLine, hf, storeLine_dram, tget_tset_ne _ _ _ h]

/-- Settles O7. -/
theorem storedLineReadsBack : Obligations.StoredLineReadsBack := by
  unfold Obligations.StoredLineReadsBack
  intro s la l
  exact ⟨⟨storesInFlight_supersede_same _ la, storedLine_storeLine_same s la l⟩, fun _ h => storedLine_storeLine_ne s l h,
    storeLine_wf la l⟩

/-! ### Counters -/

/-- Settles O8: the readings of a table with one entry written, modulo 2^64. -/
theorem counterRises : Obligations.CounterRises := by
  unfold Obligations.CounterRises
  intro s off n
  refine ⟨?_, fun off' h => ?_, rfl⟩
  · rw [counter_count, if_pos rfl, BitVec.toNat_add, BitVec.toNat_ofNat, Nat.add_mod_mod]
  · rw [counter_count, if_neg h]

/-! ### The violation log -/

/-- Settles O9: one entry of the log is written, the most recent one or the one at HEAD. -/
theorem violationLogMerges : Obligations.ViolationLogMerges := by
  unfold Obligations.ViolationLogMerges
  intro v port kind mid midv pace
  dsimp only
  refine ⟨fun h => ?_, fun h => ?_, ?_⟩
  · rw [vlogAdd, if_pos h]
    exact ⟨rfl, rfl, tget_tset_same _ _ _ _, fun k hk => tget_tset_ne _ _ _ hk⟩
  · rw [vlogAdd, if_neg h]
    exact ⟨rfl, tget_tset_same _ _ _ _, fun k hk => tget_tset_ne _ _ _ hk⟩
  · unfold vlogAdd
    dsimp only
    split <;> exact ⟨rfl, rfl⟩

end Sys2Proof.Proofs
end

section
/-!
PROOF. The check code as a linear code over GF(2): the symbols of a line with one symbol in error are those of the line XOR those of the
error, S12 and P4 are linear, and the powers of α times a symbol differ at every two positions of a line (R173, R174).
-/

namespace Sys2Proof.Proofs

open Sys2Proof Sys2Proof.Machine Sys2Proof.Safety Sys2Proof.Laws

/-! ### GF(2^12) -/

/-- The double of a value is the value with a 0 appended. -/
theorem two_mul_xor (a b : Nat) : 2 * (a ^^^ b) = (2 * a) ^^^ (2 * b) := by
  have h := Nat.shiftLeft_xor_distrib (a := a) (b := b) (i := 1)
  simpa [Nat.shiftLeft_eq, Nat.mul_comm] using h

/-- Multiplication by α, by the bit that it carries out of the twelve (R173). -/
theorem alphaTimes_eq {a : Nat} (ha : a < 4096) : alphaTimes a = (2 * a) ^^^ (if a / 2 ^ 11 = 1 then 0x1053 else 0) := by
  unfold alphaTimes
  dsimp only
  split
  · rw [if_pos (by omega)]
  · rw [if_neg (by omega), Nat.xor_zero]

theorem alphaTimes_lt {a : Nat} (ha : a < 4096) : alphaTimes a < 4096 := by
  have carry : alphaTimes a / 2 ^ 12 = 0 := by
    rw [alphaTimes_eq ha, Nat.xor_div_two_pow]
    split
    · rw [show 2 * a / 2 ^ 12 = 1 by omega]
      rfl
    · rw [show 2 * a / 2 ^ 12 = 0 by omega]
      rfl
  omega

theorem alphaTimes_xor {a b : Nat} (ha : a < 4096) (hb : b < 4096) : alphaTimes (a ^^^ b) = alphaTimes a ^^^ alphaTimes b := by
  have hab : a ^^^ b < 4096 := Nat.xor_lt_two_pow (n := 12) ha hb
  have hd : (a ^^^ b) / 2 ^ 11 = (a / 2 ^ 11) ^^^ (b / 2 ^ 11) := Nat.xor_div_two_pow
  have ha2 : a / 2 ^ 11 = 0 ∨ a / 2 ^ 11 = 1 := by omega
  have hb2 : b / 2 ^ 11 = 0 ∨ b / 2 ^ 11 = 1 := by omega
  rw [alphaTimes_eq ha, alphaTimes_eq hb, alphaTimes_eq hab, hd, two_mul_xor]
  obtain h0 | h0 := ha2 <;> obtain h1 | h1 := hb2 <;> rw [h0, h1] <;>
    simp [Nat.xor_assoc, Nat.xor_comm, Nat.xor_left_comm]

theorem alphaTimes_eq_zero {a : Nat} (ha : a < 4096) (h : alphaTimes a = 0) : a = 0 := by
  rw [alphaTimes_eq ha] at h
  have h2 := Nat.xor_eq_zero_iff.1 h
  split at h2 <;> omega

theorem alphaTimes_inj {a b : Nat} (ha : a < 4096) (hb : b < 4096) (h : alphaTimes a = alphaTimes b) : a = b := by
  have hz : alphaTimes (a ^^^ b) = 0 := by rw [alphaTimes_xor ha hb, h, Nat.xor_self]
  exact Nat.xor_eq_zero_iff.1 (alphaTimes_eq_zero (Nat.xor_lt_two_pow (n := 12) ha hb) hz)

/-! ### Symbols -/

/-- The table of the sixteen symbols, evaluated. -/
theorem symbolTable_eq : symbolTable = 5017082374227330699564209224929598179500271671645604679680 := by
  decide +kernel

theorem symbol_lt (n : Nat) : symbol n < 4096 := Nat.mod_lt _ (by decide)

@[simp] theorem symbol_zero : symbol 0 = 0 := by
  simp only [symbol, symbolTable_eq]
  decide

/-- The symbol of a nibble is linear in it. -/
theorem symbol_xor (a b : Nat) : symbol (a ^^^ b) = symbol a ^^^ symbol b := by
  have table : ∀ a < 16, ∀ b < 16, symbol (a ^^^ b) = symbol a ^^^ symbol b := by
    simp only [symbol, symbolTable_eq]
    decide +kernel
  have low (n : Nat) : symbol (n % 16) = symbol n := by simp [symbol]
  have h := table (a % 16) (Nat.mod_lt _ (by decide)) (b % 16) (Nat.mod_lt _ (by decide))
  rwa [← Nat.xor_mod_two_pow (n := 4), low, low, low] at h

/-- No power of α below the 140th but 1 keeps a symbol: where the decoder seeks an error's position it meets none twice (R174). -/
theorem symbolPosition_orbit : ∀ e < 16, 0 < e → symbolPosition (symbol e) e 139 1 (alphaTimes (symbol e)) = none := by
  simp only [symbol, symbolTable_eq]
  decide +kernel

/-! ### Nibbles, S12 and P4 -/

/-- Symbols XORed one by one. -/
def xorSymbols (a b : List Nat) : List Nat := List.zipWith (· ^^^ ·) a b

/-- The n symbols of an error of value e at place i alone. -/
def errorAt (n i e : Nat) : List Nat := List.replicate i 0 ++ e :: List.replicate (n - i - 1) 0

theorem nibbles_length (n v : Nat) : (nibbles n v).length = n := by
  induction n generalizing v with
  | zero => rfl
  | succ n ih => simp [nibbles, ih]

theorem nibbles_zero (n : Nat) : nibbles n 0 = List.replicate n 0 := by
  induction n with
  | zero => rfl
  | succ n ih => simp [nibbles, ih, List.replicate_succ]

theorem nibbles_xor (n v w : Nat) : nibbles n (v ^^^ w) = xorSymbols (nibbles n v) (nibbles n w) := by
  induction n generalizing v w with
  | zero => rfl
  | succ n ih =>
    have hm : (v ^^^ w) % 16 = v % 16 ^^^ w % 16 := Nat.xor_mod_two_pow (n := 4)
    have hd : (v ^^^ w) / 16 = v / 16 ^^^ w / 16 := Nat.xor_div_two_pow (n := 4)
    simp [nibbles, xorSymbols, hm, hd, ih]

theorem nibbles_shift {n i e : Nat} (he : e < 16) (hi : i < n) : nibbles n (e <<< (4 * i)) = errorAt n i e := by
  induction n generalizing i with
  | zero => omega
  | succ n ih =>
    cases i with
    | zero =>
      have hd : e / 16 = 0 := by omega
      have hm : e % 16 = e := by omega
      simp [nibbles, errorAt, hd, hm, nibbles_zero]
    | succ i =>
      have hm : e <<< (4 * (i + 1)) % 16 = 0 := by
        rw [Nat.shiftLeft_eq, Nat.mul_add, Nat.pow_add, ← Nat.mul_assoc]
        exact Nat.mul_mod_left _ 16
      have hd : e <<< (4 * (i + 1)) / 16 = e <<< (4 * i) := by
        rw [Nat.shiftLeft_eq, Nat.shiftLeft_eq, Nat.mul_add, Nat.pow_add, ← Nat.mul_assoc]
        exact Nat.mul_div_left _ (by decide)
      simp [nibbles, hm, hd, ih (Nat.lt_of_succ_lt_succ hi), errorAt, List.replicate_succ]

/-- S12 before it is cut to twelve bits. -/
def s12Sum (syms : List Nat) : Nat := syms.foldr (fun e acc => alphaTimes acc ^^^ symbol e) 0

theorem s12_eq (syms : List Nat) : s12 syms = BitVec.ofNat 12 (s12Sum syms) := rfl

theorem s12Sum_lt (syms : List Nat) : s12Sum syms < 4096 := by
  induction syms with
  | nil => decide
  | cons e syms ih => exact Nat.xor_lt_two_pow (n := 12) (alphaTimes_lt ih) (symbol_lt e)

theorem s12Sum_xor {a b : List Nat} (h : a.length = b.length) : s12Sum (xorSymbols a b) = s12Sum a ^^^ s12Sum b := by
  induction a generalizing b with
  | nil =>
    obtain rfl := List.length_eq_zero_iff.1 h.symm
    rfl
  | cons x a ih =>
    obtain ⟨y, b, rfl⟩ := List.exists_cons_of_length_eq_add_one h.symm
    have ha := s12Sum_lt a
    have hb := s12Sum_lt b
    have hab := ih (Nat.succ.inj h)
    change alphaTimes (s12Sum (xorSymbols a b)) ^^^ symbol (x ^^^ y) =
      (alphaTimes (s12Sum a) ^^^ symbol x) ^^^ (alphaTimes (s12Sum b) ^^^ symbol y)
    rw [hab, alphaTimes_xor ha hb, symbol_xor]
    simp only [Nat.xor_assoc, Nat.xor_left_comm]

theorem s12Sum_zeros (n : Nat) : s12Sum (List.replicate n 0) = 0 := by
  induction n with
  | zero => rfl
  | succ n ih =>
    change alphaTimes (s12Sum (List.replicate n 0)) ^^^ symbol 0 = 0
    rw [ih, symbol_zero]
    rfl

/-- α^i times a value. -/
def alphaShift (i x : Nat) : Nat := alphaTimes^[i] x

theorem alphaShift_lt {x : Nat} (i : Nat) (hx : x < 4096) : alphaShift i x < 4096 := by
  induction i with
  | zero => exact hx
  | succ i ih => rw [alphaShift, Function.iterate_succ_apply']; exact alphaTimes_lt ih

theorem alphaShift_succ (i x : Nat) : alphaShift (i + 1) x = alphaTimes (alphaShift i x) := Function.iterate_succ_apply' _ _ _

theorem s12Sum_zeros_append (i : Nat) (l : List Nat) : s12Sum (List.replicate i 0 ++ l) = alphaShift i (s12Sum l) := by
  induction i with
  | zero => rfl
  | succ i ih =>
    change alphaTimes (s12Sum (List.replicate i 0 ++ l)) ^^^ symbol 0 = _
    rw [ih, symbol_zero, Nat.xor_zero, alphaShift_succ]

/-- An error of value e at place i adds α^i times its symbol to S12 (R173). -/
theorem s12Sum_errorAt (n i e : Nat) : s12Sum (errorAt n i e) = alphaShift i (symbol e) := by
  have tail : s12Sum (e :: List.replicate (n - i - 1) 0) = symbol e := by
    change alphaTimes (s12Sum (List.replicate (n - i - 1) 0)) ^^^ symbol e = symbol e
    rw [s12Sum_zeros, show alphaTimes 0 = 0 from rfl, Nat.zero_xor]
  rw [errorAt, s12Sum_zeros_append, tail]

/-- P4 before it is cut to four bits. -/
def p4Sum (syms : List Nat) : Nat := syms.foldl (fun a e => a ^^^ e) 0

theorem p4_eq (syms : List Nat) : p4 syms = BitVec.ofNat 4 (p4Sum syms) := rfl

theorem foldl_xor (syms : List Nat) (x : Nat) : syms.foldl (fun a e => a ^^^ e) x = x ^^^ p4Sum syms := by
  induction syms generalizing x with
  | nil => simp [p4Sum]
  | cons e syms ih => rw [p4Sum, List.foldl_cons, List.foldl_cons, ih, ih (0 ^^^ e), Nat.zero_xor, Nat.xor_assoc]

theorem p4Sum_cons (e : Nat) (syms : List Nat) : p4Sum (e :: syms) = e ^^^ p4Sum syms := by
  rw [p4Sum, List.foldl_cons, foldl_xor, Nat.zero_xor]

theorem p4Sum_xor {a b : List Nat} (h : a.length = b.length) : p4Sum (xorSymbols a b) = p4Sum a ^^^ p4Sum b := by
  induction a generalizing b with
  | nil =>
    obtain rfl := List.length_eq_zero_iff.1 h.symm
    rfl
  | cons x a ih =>
    obtain ⟨y, b, rfl⟩ := List.exists_cons_of_length_eq_add_one h.symm
    change p4Sum ((x ^^^ y) :: xorSymbols a b) = _
    rw [p4Sum_cons, p4Sum_cons, p4Sum_cons, ih (Nat.succ.inj h)]
    simp only [Nat.xor_assoc, Nat.xor_left_comm]

theorem p4Sum_zeros_append (i : Nat) (l : List Nat) : p4Sum (List.replicate i 0 ++ l) = p4Sum l := by
  induction i with
  | zero => rfl
  | succ i ih => rw [List.replicate_succ, List.cons_append, p4Sum_cons, ih, Nat.zero_xor]

theorem p4Sum_errorAt (n i e : Nat) : p4Sum (errorAt n i e) = e := by
  have zeros := p4Sum_zeros_append (n - i - 1) []
  rw [List.append_nil] at zeros
  rw [errorAt, p4Sum_zeros_append, p4Sum_cons, zeros]
  exact Nat.xor_zero e

/-! ### The decoder (R174) -/

/-- Check bits XOR those of a changed word are those of the change. -/
theorem ofNat_xor_ofNat_xor (w a b : Nat) : BitVec.ofNat w a ^^^ BitVec.ofNat w (a ^^^ b) = BitVec.ofNat w b := by
  rw [← BitVec.ofNat_xor, ← Nat.xor_assoc, Nat.xor_self, Nat.zero_xor]

theorem alphaShift_add (i j x : Nat) : alphaShift (i + j) x = alphaShift i (alphaShift j x) := Function.iterate_add_apply _ _ _ _

theorem alphaShift_inj {x y : Nat} (i : Nat) (hx : x < 4096) (hy : y < 4096) (h : alphaShift i x = alphaShift i y) : x = y := by
  induction i with
  | zero => exact h
  | succ i ih =>
    rw [alphaShift_succ, alphaShift_succ] at h
    exact ih (alphaTimes_inj (alphaShift_lt i hx) (alphaShift_lt i hy) h)

theorem alphaShift_ne_zero {x : Nat} (i : Nat) (hx : x < 4096) (h0 : x ≠ 0) : alphaShift i x ≠ 0 := by
  induction i with
  | zero => exact h0
  | succ i ih => exact fun h => ih (alphaTimes_eq_zero (alphaShift_lt i hx) (by rwa [alphaShift_succ] at h))

/-- A search that finds nothing met no value it sought. -/
theorem alphaShift_ne_of_symbolPosition {s v f i x : Nat} (h : symbolPosition s v f i x = none) :
    ∀ k < f, alphaShift k x ≠ s := by
  induction f generalizing i x with
  | zero => exact fun k hk => absurd hk (Nat.not_lt_zero k)
  | succ f ih =>
    simp only [symbolPosition] at h
    split at h
    · cases h
    · next hx =>
      intro k hk
      cases k with
      | zero => exact hx
      | succ k =>
        rw [alphaShift, Function.iterate_succ_apply]
        exact ih h k (Nat.lt_of_succ_lt_succ hk)

/-- A search finds the first place at which it meets what it seeks. -/
theorem symbolPosition_alphaShift {s v f i x k : Nat} (hk : k < f) (hs : alphaShift k x = s) (hne : ∀ j < k, alphaShift j x ≠ s) :
    symbolPosition s v f i x = some (i + k) := by
  induction k generalizing f i x with
  | zero =>
    obtain ⟨f, rfl⟩ := Nat.exists_eq_succ_of_ne_zero (Nat.ne_of_gt hk)
    have hx : x = s := hs
    simp [symbolPosition, hx]
  | succ k ih =>
    obtain ⟨f, rfl⟩ := Nat.exists_eq_succ_of_ne_zero (Nat.ne_zero_of_lt hk)
    have hx : x ≠ s := hne 0 (Nat.succ_pos k)
    have step (j : Nat) : alphaShift j (alphaTimes x) = alphaShift (j + 1) x := (Function.iterate_succ_apply _ _ _).symm
    simp only [symbolPosition, hx, if_false]
    rw [ih (Nat.lt_of_succ_lt_succ hk) (by rw [step, hs]) (fun j hj => by rw [step]; exact hne (j + 1) (Nat.succ_lt_succ hj))]
    simp [Nat.add_comm, Nat.add_left_comm]

/-- Two powers of α below the 140th take a symbol to two values. -/
theorem alphaShift_symbol_ne {e i j : Nat} (he0 : 0 < e) (he : e < 16) (hj : j < i) (hi : i < 140) :
    alphaShift j (symbol e) ≠ alphaShift i (symbol e) := by
  intro h
  obtain ⟨k, rfl⟩ := Nat.exists_eq_add_of_lt hj
  rw [Nat.add_assoc, alphaShift_add] at h
  have hback := alphaShift_inj j (symbol_lt e) (alphaShift_lt (k + 1) (symbol_lt e)) h
  have hk : k < 139 := by omega
  have orbit := alphaShift_ne_of_symbolPosition (symbolPosition_orbit e he he0) k hk
  have turn : alphaShift k (alphaTimes (symbol e)) = symbol e :=
    (hback.trans (Function.iterate_succ_apply alphaTimes k (symbol e))).symm
  exact orbit turn

theorem symbol_ne_zero {e : Nat} (he0 : 0 < e) (he : e < 16) : symbol e ≠ 0 := by
  have table : ∀ e < 16, 0 < e → symbol e ≠ 0 := by
    simp only [symbol, symbolTable_eq]
    decide +kernel
  exact table e he he0

/-- The decoder finds a single wrong symbol and its value, whatever the word (R174). -/
theorem decodeCheck_errorAt {syms : List Nat} {n i e : Nat} (hl : syms.length = n) (hn : n ≤ 140) (hi : i < n) (he0 : 0 < e)
    (he : e < 16) : decodeCheck (xorSymbols syms (errorAt n i e)) (s12 syms) (p4 syms) = .symbolAt i e := by
  have hlen : syms.length = (errorAt n i e).length := by simp [errorAt]; omega
  have hs : s12 syms ^^^ s12 (xorSymbols syms (errorAt n i e)) = BitVec.ofNat 12 (alphaShift i (symbol e)) := by
    rw [s12_eq, s12_eq, s12Sum_xor hlen, ofNat_xor_ofNat_xor, s12Sum_errorAt]
  have hp : p4 syms ^^^ p4 (xorSymbols syms (errorAt n i e)) = BitVec.ofNat 4 e := by
    rw [p4_eq, p4_eq, p4Sum_xor hlen, ofNat_xor_ofNat_xor, p4Sum_errorAt]
  have hsn : (BitVec.ofNat 12 (alphaShift i (symbol e))).toNat = alphaShift i (symbol e) := by
    rw [BitVec.toNat_ofNat, Nat.mod_eq_of_lt (alphaShift_lt i (symbol_lt e))]
  have hpn : (BitVec.ofNat 4 e).toNat = e := by rw [BitVec.toNat_ofNat, Nat.mod_eq_of_lt he]
  have hs0 : BitVec.ofNat 12 (alphaShift i (symbol e)) ≠ 0 := fun h =>
    alphaShift_ne_zero i (symbol_lt e) (symbol_ne_zero he0 he) (by rw [← hsn, h]; rfl)
  have hp0 : BitVec.ofNat 4 e ≠ 0 := fun h => by
    rw [h] at hpn
    exact Nat.ne_of_gt he0 hpn.symm
  have hxl : (xorSymbols syms (errorAt n i e)).length = n := by simp [xorSymbols, ← hlen, hl]
  have hfind : symbolPosition (alphaShift i (symbol e)) e n 0 (symbol e) = some (0 + i) :=
    symbolPosition_alphaShift hi rfl (fun j hj => alphaShift_symbol_ne he0 he hj (by omega))
  unfold decodeCheck
  dsimp only
  rw [hs, hp, if_neg (fun h => hs0 h.1), if_neg hp0, if_neg hs0, hsn, hpn, hxl, hfind, Nat.zero_add]

/-- The decoder finds no error in the symbols that the check bits were made from. -/
theorem decodeCheck_clean (syms : List Nat) : decodeCheck syms (s12 syms) (p4 syms) = .clean := by
  simp [decodeCheck]

/-! ### Seals and checks (R166) -/

/-- The number of a seal: MAC48, S12 and P4 side by side. -/
theorem toNat_makeSeal (item : Line) (mac : BitVec 48) : (makeSeal item mac).toNat =
    mac.toNat * 65536 + (s12 (sealedSymbols item mac)).toNat * 16 + (p4 (sealedSymbols item mac)).toNat := by
  have hm := mac.isLt
  have hs := (s12 (sealedSymbols item mac)).isLt
  have hp := (p4 (sealedSymbols item mac)).isLt
  rw [makeSeal, BitVec.toNat_ofNat]
  exact Nat.mod_eq_of_lt (by omega)

/-- The number of a SEALED line's check: S12 and P4 side by side. -/
theorem toNat_makeCheck (item : Line) : (makeCheck item).toNat = (s12 (dataSymbols item)).toNat * 16 + (p4 (dataSymbols item)).toNat := by
  have hs := (s12 (dataSymbols item)).isLt
  have hp := (p4 (dataSymbols item)).isLt
  rw [makeCheck, BitVec.toNat_ofNat]
  exact Nat.mod_eq_of_lt (by omega)

@[simp] theorem sealMac_makeSeal (item : Line) (mac : BitVec 48) : sealMac (makeSeal item mac) = mac := by
  have hs := (s12 (sealedSymbols item mac)).isLt
  have hp := (p4 (sealedSymbols item mac)).isLt
  apply BitVec.eq_of_toNat_eq
  have hm := mac.isLt
  rw [sealMac, BitVec.toNat_ofNat, toNat_makeSeal]
  omega

@[simp] theorem s12_makeSeal (item : Line) (mac : BitVec 48) :
    BitVec.ofNat 12 (bits (makeSeal item mac) 4 12) = s12 (sealedSymbols item mac) := by
  have hs := (s12 (sealedSymbols item mac)).isLt
  have hp := (p4 (sealedSymbols item mac)).isLt
  apply BitVec.eq_of_toNat_eq
  rw [bits, BitVec.toNat_ofNat, Nat.shiftRight_eq_div_pow, toNat_makeSeal]
  omega

@[simp] theorem p4_makeSeal (item : Line) (mac : BitVec 48) :
    BitVec.ofNat 4 (bits (makeSeal item mac) 0 4) = p4 (sealedSymbols item mac) := by
  have hp := (p4 (sealedSymbols item mac)).isLt
  apply BitVec.eq_of_toNat_eq
  rw [bits, BitVec.toNat_ofNat, Nat.shiftRight_zero, toNat_makeSeal]
  omega

@[simp] theorem s12_makeCheck (item : Line) : BitVec.ofNat 12 (bits (makeCheck item) 4 12) = s12 (dataSymbols item) := by
  have hs := (s12 (dataSymbols item)).isLt
  have hp := (p4 (dataSymbols item)).isLt
  apply BitVec.eq_of_toNat_eq
  rw [bits, BitVec.toNat_ofNat, Nat.shiftRight_eq_div_pow, toNat_makeCheck]
  omega

@[simp] theorem p4_makeCheck (item : Line) : BitVec.ofNat 4 (bits (makeCheck item) 0 4) = p4 (dataSymbols item) := by
  have hp := (p4 (dataSymbols item)).isLt
  apply BitVec.eq_of_toNat_eq
  rw [bits, BitVec.toNat_ofNat, Nat.shiftRight_zero, toNat_makeCheck]
  omega

/-- An item decodes against its own seal unchanged. -/
theorem decodeSeal_makeSeal (item : Line) (mac : BitVec 48) :
    decodeSeal item (makeSeal item mac) = some { item := item, mac := mac, fixed := false } := by
  simp [decodeSeal, decodeCheck_clean]

theorem decodeSealedLine_makeCheck (item : Line) : decodeSealedLine item (makeCheck item) = some (item, false) := by
  simp [decodeSealedLine, decodeCheck_clean]

/-! ### Single-symbol errors -/

/-- A nibble at place i stays within the places that a word has. -/
theorem shift_lt {e i n : Nat} (he : e < 16) (hi : 4 + 4 * i ≤ n) : e <<< (4 * i) < 2 ^ n :=
  Nat.lt_of_lt_of_le (Nat.shiftLeft_lt (n := 4) he) (Nat.pow_le_pow_right Nat.two_pos hi)

/-- The symbols of a line with a symbol in error. -/
theorem dataSymbols_xor (item : Line) {i e : Nat} (hi : i < 128) (he : e < 16) :
    dataSymbols (item ^^^ BitVec.ofNat 512 (e <<< (4 * i))) = xorSymbols (dataSymbols item) (errorAt 128 i e) := by
  rw [dataSymbols, BitVec.toNat_xor, BitVec.toNat_ofNat, Nat.mod_eq_of_lt (shift_lt (n := 512) he (by omega)), nibbles_xor, nibbles_shift he hi]
  rfl

/-- The same with the MAC48 behind it. -/
theorem sealedSymbols_xor (item : Line) (mac : BitVec 48) {i e : Nat} (hi : i < 128) (he : e < 16) :
    sealedSymbols (item ^^^ BitVec.ofNat 512 (e <<< (4 * i))) mac = xorSymbols (sealedSymbols item mac) (errorAt 140 i e) := by
  have hmac : xorSymbols (nibbles 12 mac.toNat) (List.replicate 12 0) = nibbles 12 mac.toNat := by
    rw [← nibbles_zero, ← nibbles_xor, Nat.xor_zero]
  have herr : errorAt 140 i e = errorAt 128 i e ++ List.replicate 12 0 := by
    rw [errorAt, errorAt, List.append_assoc, List.cons_append, List.replicate_append_replicate,
      show 128 - i - 1 + 12 = 140 - i - 1 by omega]
  have hlen : (dataSymbols item).length = (errorAt 128 i e).length := by
    simp [dataSymbols, nibbles_length, errorAt]
    omega
  have split : xorSymbols (dataSymbols item ++ nibbles 12 mac.toNat) (errorAt 128 i e ++ List.replicate 12 0) =
      xorSymbols (dataSymbols item) (errorAt 128 i e) ++ xorSymbols (nibbles 12 mac.toNat) (List.replicate 12 0) :=
    List.zipWith_append hlen
  rw [sealedSymbols, sealedSymbols, dataSymbols_xor item hi he, herr, split, hmac]

/-- A symbol changed twice by one value is as it was. -/
theorem fixLine_xor (item : Line) {i : Nat} (hi : i < 128) (e : Nat) : fixLine (item ^^^ BitVec.ofNat 512 (e <<< (4 * i))) i e = item := by
  rw [fixLine, if_pos hi, BitVec.xor_assoc, BitVec.xor_self, BitVec.xor_zero]

/-- Settles O11: the decoder finds the wrong symbol and its value, since the powers of α that it tries differ at every two positions. -/
theorem oneSymbolCorrected : Obligations.OneSymbolCorrected := by
  unfold Obligations.OneSymbolCorrected
  refine ⟨fun item mac i e hi he0 he => ?_, fun item i e hi he0 he => ?_⟩
  · have hl : (sealedSymbols item mac).length = 140 := by simp [sealedSymbols, dataSymbols, nibbles_length]
    have hmac : fixMac mac i e = mac := if_neg (by omega)
    simp [decodeSeal, sealedSymbols_xor item mac hi he, decodeCheck_errorAt hl (Nat.le_refl 140) (Nat.lt_trans hi (by decide)) he0 he,
      fixLine_xor item hi, hmac]
  · have hl : (dataSymbols item).length = 128 := nibbles_length 128 _
    simp [decodeSealedLine, dataSymbols_xor item hi he, decodeCheck_errorAt hl (by decide) hi he0 he, fixLine_xor item hi]

/-! ### Lines sealed and opened -/

/-- Settles O10: the decoder finds no error, the MAC48 agrees, and the keystream cancels. -/
theorem sealedLineOpens : Obligations.SealedLineOpens := by
  unfold Obligations.SealedLineOpens
  intro k c major minor la p
  have cancel (x ks : Line) : x ^^^ ks ^^^ ks = x := by rw [BitVec.xor_assoc, BitVec.xor_self, BitVec.xor_zero]
  cases c with
  | openC => rfl
  | sealedC => simp only [sealLine, openLine, decodeSealedLine_makeCheck, cancel]
  | versionedC => simp only [sealLine, openLine, decodeSeal_makeSeal, cancel, if_true]
  | streamC => simp only [sealLine, openLine, decodeSeal_makeSeal, cancel, if_true]

end Sys2Proof.Proofs
end

section
/-!
PROOF. Right of way: the actions of OWNER_CLAIM, taken and refused, and the halves of paired writes (R71 to R76, R80, R84).
-/

namespace Sys2Proof.Proofs

open Sys2Proof Sys2Proof.Machine Sys2Proof.Safety Sys2Proof.Laws

/-! ### The word of an action (R71, R78) -/

theorem actionWord_act (target : Mid) {act : Nat} (ha : act < 5) : bits (actionWord act target) 0 8 = act := by
  have h : ∀ act < 5, ∀ t : BitVec 8, bits (actionWord act t) 0 8 = act := by decide +kernel
  exact h act ha target

theorem actionWord_target (target : Mid) {act : Nat} (ha : act < 5) :
    BitVec.ofNat 8 (bits (actionWord act target) 8 8) = target := by
  have h : ∀ act < 5, ∀ t : BitVec 8, BitVec.ofNat 8 (bits (actionWord act t) 8 8) = t := by decide +kernel
  exact h act ha target

theorem actionWord_key (target : Mid) {act : Nat} (ha : act < 5) : bits (actionWord act target) 16 16 = 0x57A7 := by
  have h : ∀ act < 5, ∀ t : BitVec 8, bits (actionWord act t) 16 16 = 0x57A7 := by decide +kernel
  exact h act ha target

/-! ### A pair completed (R84) -/

/-- An action of a master that may not write OWNER_CLAIM is refused, and its armed half stays (R80). -/
theorem ownerRow_of_notMayClaim {s : State} {mid : Mid} {v : W32} {act : Nat} (h : HalfArmed s mid 0x0014 v) (ha : bits v 0 8 = act)
    (hm : mayClaim s mid = false) : ownerRow act mid (~~~v) s = ctlWrote (refuseAction s mid) := by
  simp [ownerRow, ownerClaimComplement, h.acts, rowMatches_of_halfArmed h ha, hm]

/-- An action that is refused once its pair is complete: with the half or without it, by whether the master may write OWNER_CLAIM. -/
theorem ownerRow_denied {s : State} {mid : Mid} {v : W32} {act : Nat} (h : HalfArmed s mid 0x0014 v) (ha : bits v 0 8 = act)
    (hr : ownerAction (disarm s mid) mid v = refuseAction (disarm s mid) mid) : ownerRow act mid (~~~v) s = actionDenied s mid := by
  unfold actionDenied
  cases hm : mayClaim s mid with
  | true => simp [ownerRow_of_halfArmed h ha hm, hr, refuseAction]
  | false => simp [ownerRow_of_notMayClaim h ha hm, refuseAction]

/-! The rows of the owner's actions on a running block. -/

theorem exec_claim {s : State} (hp : powered s = true) (mid : Mid) (w : W32) :
    exec (.claim mid w) s = .next (ended s (ownerRow 1 mid w s)) := live_powered s hp

theorem exec_name {s : State} (hp : powered s = true) (mid : Mid) (w : W32) :
    exec (.name mid w) s = .next (ended s (ownerRow 2 mid w s)) := live_powered s hp

theorem exec_confirm {s : State} (hp : powered s = true) (mid : Mid) (w : W32) :
    exec (.confirm mid w) s = .next (ended s (ownerRow 3 mid w s)) := live_powered s hp

theorem exec_resign {s : State} (hp : powered s = true) (mid : Mid) (w : W32) :
    exec (.resign mid w) s = .next (ended s (ownerRow 4 mid w s)) := live_powered s hp

/-! ### Actions on a state with nothing left to settle -/

/-- Neither a window nor a handover waits to be settled (R72, R74). -/
def Settled (s : State) : Prop := s.own.phase = .window ∨ s.own.phase = .handover → s.own.remaining ≠ 0

theorem settleOwner_of_settled {s : State} (h : Settled s) : settleOwner s = s := by
  unfold settleOwner Settled at *
  split
  · rfl
  · next h0 =>
    have hw : s.own.phase ≠ .window := fun hw => h (.inl hw) (not_not.1 h0)
    have hh : s.own.phase ≠ .handover := fun hh => h (.inr hh) (not_not.1 h0)
    simp [hw, hh]

/-- Without a window open, only a handover is left to settle. -/
theorem settled_of_owner {s : State} {mid : Mid} (ho : isOwner s mid = true) (h : s.own.phase = .handover → s.own.remaining ≠ 0) :
    Settled s := by
  rintro (hw | hh)
  · simp [isOwner, hw] at ho
  · exact h hh

/-- What each action word asks for (R71). -/
theorem ownerAction_name {s : State} (h : Settled s) (mid target : Mid) :
    ownerAction s mid (actionWord 2 target) = nameAction s mid target := by
  simp [ownerAction, actionWord_act target (show 2 < 5 by decide), actionWord_target target (show 2 < 5 by decide),
    actionWord_key target (show 2 < 5 by decide), settleOwner_of_settled h]

theorem ownerAction_confirm {s : State} (h : Settled s) (mid : Mid) :
    ownerAction s mid (actionWord 3 0) = confirmAction s mid := by
  simp only [ownerAction, actionWord_act 0 (show 3 < 5 by decide), actionWord_target 0 (show 3 < 5 by decide),
    actionWord_key 0 (show 3 < 5 by decide), settleOwner_of_settled h]
  rfl

theorem ownerAction_resign {s : State} (h : Settled s) (mid : Mid) :
    ownerAction s mid (actionWord 4 0) = resignAction s mid := by
  simp only [ownerAction, actionWord_act 0 (show 4 < 5 by decide), actionWord_target 0 (show 4 < 5 by decide),
    actionWord_key 0 (show 4 < 5 by decide), settleOwner_of_settled h]
  rfl

theorem ownerAction_claim_settled {s : State} (h : Settled s) (mid : Mid) :
    ownerAction s mid (actionWord 1 0) = claimAction s mid := by
  rw [ownerAction_claim, settleOwner_of_settled h]

@[simp] theorem settled_disarm (s : State) (mid : Mid) : Settled (disarm s mid) ↔ Settled s := Iff.rfl

@[simp] theorem isOwner_disarm (s : State) (mid m : Mid) : isOwner (disarm s mid) m = isOwner s m := rfl

theorem mayClaim_of_owner {s : State} {mid : Mid} (h : isOwner s mid = true) : mayClaim s mid = true := by simp [mayClaim, h]

theorem mayClaim_of_successor {s : State} {mid : Mid} (hp : s.own.phase = .handover) (h : s.own.successor = mid) :
    mayClaim s mid = true := by
  simp [mayClaim, hp, h]

/-- RESIGN vacates right of way with the whole effect of a change of owner (R74, R76). -/
theorem vacate_ownerChange (s : State) :
    OwnerChange s (vacate s) { s.own with mid := 0, phase := .window, successor := 0, remaining := 8192, claims := [] } :=
  ownerChanged_ownerChange s _ rfl

/-- A change of owner that a completed action makes, in the step that completes it. -/
theorem ownerChange_of_action {s t : State} {mid : Mid} {own : Own} (h : OwnerChange (disarm s mid) t own) :
    OwnerChange (ended s (ctlWrote (disarm s mid))) (ended s (ctlWrote t)) own :=
  ownerChange_ended s (ownerChange_ctlWrote h)

/-! ### Right of way taken -/

/-- A claim of the highest rank wins within the window (R72). -/
theorem claimAction_topRank {s : State} {mid : Mid} (hw : s.own.phase = .window) (hr : rankOf s mid = some (topRank s))
    (hc : mid ∉ s.own.claims) : claimAction s mid = takeRightOfWay s mid := by
  simp [claimAction, hr, hw, hc]

/-- A claim of another rank waits (R72). -/
theorem claimAction_waits {s : State} {mid : Mid} {r : Nat} (hw : s.own.phase = .window) (hr : rankOf s mid = some r)
    (hne : r ≠ topRank s) (hc : mid ∉ s.own.claims) :
    claimAction s mid = { s with own := { s.own with claims := s.own.claims ++ [mid] } } := by
  simp [claimAction, hr, hw, hc, hne]

/-- Settles O13: each of the three ends in `takeRightOfWay`, whose whole effect is that of a change of owner. -/
theorem rightOfWayTaken : Obligations.RightOfWayTaken := by
  unfold Obligations.RightOfWayTaken
  intro s mid hp
  refine ⟨fun h ⟨hw, hrem, hr, hc⟩ => ?_, fun h hh hrem hsucc => ?_, fun r hw hrem hb => ?_⟩
  · have hset : Settled (disarm s mid) := fun _ => hrem
    have hmay : mayClaim s mid = true := mayClaim_of_candidate (by simp [hr])
    have hact : ownerAction (disarm s mid) mid (actionWord 1 0) = takeRightOfWay (disarm s mid) mid := by
      rw [ownerAction_claim_settled hset]
      exact claimAction_topRank (s := disarm s mid) hw hr hc
    rw [exec_claim hp, ownerRow_of_halfArmed h (by decide) hmay, hact]
    exact ⟨_, rfl, ownerChange_of_action (takeRightOfWay_ownerChange _ mid)⟩
  · have hset : Settled (disarm s mid) := fun _ => hrem
    have hact : ownerAction (disarm s mid) mid (actionWord 3 0) = takeRightOfWay (disarm s mid) mid := by
      rw [ownerAction_confirm hset]
      exact if_pos ⟨hh, hsucc⟩
    rw [exec_confirm hp, ownerRow_of_halfArmed h (by decide) (mayClaim_of_successor hh hsucc), hact]
    exact ⟨_, rfl, ownerChange_of_action (takeRightOfWay_ownerChange _ mid)⟩
  · change Completes (execElectionWindowClose s) _
    rw [execElectionWindowClose, live_powered s hp, if_pos ⟨hw, hrem⟩, closeWindow, hb]
    exact ⟨_, rfl, ownerChange_ended s (takeRightOfWay_ownerChange s mid)⟩

/-! ### Right of way kept -/

/-- The actions of a master that may take them. -/
theorem rightOfWay_actions (s : State) (mid target : Mid) (hp : powered s = true) :
    (∀ r, HalfArmed s mid 0x0014 (actionWord 1 0) → s.own.phase = .window → s.own.remaining ≠ 0 → rankOf s mid = some r →
       r ≠ topRank s → mid ∉ s.own.claims →
       exec (.claim mid (~~~(actionWord 1 0))) s =
         .next (ended s (ctlWrote { disarm s mid with own := { s.own with claims := s.own.claims ++ [mid] } }))) ∧
     (HalfArmed s mid 0x0014 (actionWord 2 target) → isOwner s mid = true → (s.own.phase = .handover → s.own.remaining ≠ 0) →
       target ≠ mid → (rankOf s target).isSome = true →
       exec (.name mid (~~~(actionWord 2 target))) s =
         .next (ended s (ctlWrote { disarm s mid with own := { s.own with phase := .handover, successor := target, remaining := 4096 } }))) ∧
     (HalfArmed s mid 0x0014 (actionWord 2 mid) → isOwner s mid = true → (s.own.phase = .handover → s.own.remaining ≠ 0) →
       exec (.name mid (~~~(actionWord 2 mid))) s =
         .next (ended s (ctlWrote (if s.own.phase = .handover
           then { disarm s mid with own := { s.own with phase := .owned, successor := 0, remaining := 0 } } else disarm s mid)))) ∧
     (s.own.phase = .handover → s.own.remaining = 0 →
       exec .handoverExpire s = .next (ended s { s with own := { s.own with phase := .owned, successor := 0 } })) ∧
     (HalfArmed s mid 0x0014 (actionWord 4 0) → isOwner s mid = true → (s.own.phase = .handover → s.own.remaining ≠ 0) →
       Completes (exec (.resign mid (~~~(actionWord 4 0))) s) (fun t => OwnerChange (ended s (ctlWrote (disarm s mid))) t
         { s.own with mid := 0, phase := .window, successor := 0, remaining := 8192, claims := [] })) := by
  refine ⟨fun r h hw hrem hr hne hc => ?_, fun h ho hrem hne hr => ?_, fun h ho hrem => ?_, fun hh hrem => ?_, fun h ho hrem => ?_⟩
  · have hset : Settled (disarm s mid) := fun _ => hrem
    have hmay : mayClaim s mid = true := mayClaim_of_candidate (by simp [hr])
    rw [exec_claim hp, ownerRow_of_halfArmed h (by decide) hmay, ownerAction_claim_settled hset,
      claimAction_waits (s := disarm s mid) hw hr hne hc, disarm_own]
  · have hset : Settled (disarm s mid) := settled_of_owner (s := s) ho hrem
    have hname : nameAction (disarm s mid) mid target =
        { disarm s mid with own := { s.own with phase := .handover, successor := target, remaining := 4096 } } := by
      simp [nameAction, ho, hne, hr]
    rw [exec_name hp, ownerRow_of_halfArmed h (actionWord_act target (by decide)) (mayClaim_of_owner ho),
      ownerAction_name hset, hname]
  · have hset : Settled (disarm s mid) := settled_of_owner (s := s) ho hrem
    have hname : nameAction (disarm s mid) mid mid = if s.own.phase = .handover
        then { disarm s mid with own := { s.own with phase := .owned, successor := 0, remaining := 0 } } else disarm s mid := by
      rw [nameAction, isOwner_disarm, if_pos ho, if_pos rfl, disarm_own]
    rw [exec_name hp, ownerRow_of_halfArmed h (actionWord_act mid (by decide)) (mayClaim_of_owner ho),
      ownerAction_name hset, hname]
  · change execHandoverExpire s = _
    rw [execHandoverExpire, live_powered s hp, if_pos ⟨hh, hrem⟩]
  · have hset : Settled (disarm s mid) := settled_of_owner (s := s) ho hrem
    have hact : ownerAction (disarm s mid) mid (actionWord 4 0) = vacate (disarm s mid) := by
      rw [ownerAction_resign hset]
      exact if_pos ho
    rw [exec_resign hp, ownerRow_of_halfArmed h (by decide) (mayClaim_of_owner ho), hact]
    exact ⟨_, rfl, ownerChange_of_action (vacate_ownerChange _)⟩

/-- The actions of a master that may not take them. -/
theorem rightOfWay_denied (s : State) (mid target : Mid) (hp : powered s = true)
    (hset : s.own.phase = .window ∨ s.own.phase = .handover → s.own.remaining ≠ 0) :
     (HalfArmed s mid 0x0014 (actionWord 1 0) → rankOf s mid = none ∨ (s.own.phase ≠ .window ∧ s.own.phase ≠ .opened) →
       exec (.claim mid (~~~(actionWord 1 0))) s = .next (ended s (actionDenied s mid))) ∧
     (HalfArmed s mid 0x0014 (actionWord 2 target) → isOwner s mid = false →
       exec (.name mid (~~~(actionWord 2 target))) s = .next (ended s (actionDenied s mid))) ∧
     (HalfArmed s mid 0x0014 (actionWord 2 target) → target ≠ mid → rankOf s target = none →
       exec (.name mid (~~~(actionWord 2 target))) s = .next (ended s (actionDenied s mid))) ∧
     (HalfArmed s mid 0x0014 (actionWord 3 0) → s.own.successor ≠ mid ∨ s.own.phase ≠ .handover →
       exec (.confirm mid (~~~(actionWord 3 0))) s = .next (ended s (actionDenied s mid))) ∧
     (HalfArmed s mid 0x0014 (actionWord 4 0) → isOwner s mid = false →
       exec (.resign mid (~~~(actionWord 4 0))) s = .next (ended s (actionDenied s mid))) := by
  have hset : Settled (disarm s mid) := hset
  refine ⟨fun h hc => ?_, fun h ho => ?_, fun h hne hr => ?_, fun h hc => ?_, fun h ho => ?_⟩
  · rw [exec_claim hp, ownerRow_denied h (by decide)]
    rw [ownerAction_claim_settled hset, claimAction, rankOf_disarm]
    obtain hr | ⟨hw, ho⟩ := hc
    · rw [hr]
    · cases rankOf s mid <;> simp [hw, ho]
  · rw [exec_name hp, ownerRow_denied h (actionWord_act target (by decide))]
    rw [ownerAction_name hset, nameAction, isOwner_disarm, ho]
    rfl
  · rw [exec_name hp, ownerRow_denied h (actionWord_act target (by decide))]
    rw [ownerAction_name hset]
    simp [nameAction, hne, hr]
  · rw [exec_confirm hp, ownerRow_denied h (by decide)]
    rw [ownerAction_confirm hset]
    exact if_neg (fun hboth => hc.elim (fun hs => hs hboth.2) (fun hh => hh hboth.1))
  · rw [exec_resign hp, ownerRow_denied h (by decide)]
    rw [ownerAction_resign hset, resignAction, isOwner_disarm, ho]
    rfl

/-- Settles O14. -/
theorem rightOfWayKept : Obligations.RightOfWayKept := by
  unfold Obligations.RightOfWayKept
  exact ⟨rightOfWay_actions, rightOfWay_denied⟩

/-! ### Halves of paired writes -/

/-- A MID whose armed half, if any, has not expired has none to drop (R84). -/
theorem expireHalf_of_fresh {s : State} {mid : Mid} (h : ∀ a, tfind s.cfg.armed mid.toNat = some a → clock s ≤ a.at_ + 64) :
    expireHalf s mid = s := by
  unfold expireHalf
  split
  · next a ha => simp [halfExpired, h a ha]
  · rfl

/-- A write of a first half at an address of a PW register. -/
theorem exec_pairedWriteArm {s : State} {mid : Mid} {off : BitVec 14} (v : W32) (hp : powered s = true) (ha : canAct s mid = true)
    (hoff : isPaired (4 * off.toNat) = true) : exec (.pairedWriteArm mid off v) s = .next (ended s (ctlWrote
      (if mayPair s mid (4 * off.toNat) then armHalf s mid (4 * off.toNat) v else refuseAction s mid))) := by
  change execPairedWriteArm mid off v s = _
  simp [execPairedWriteArm, live_powered s hp, ha, hoff]

/-- Settles O16. -/
theorem pairedWrites : Obligations.PairedWrites := by
  unfold Obligations.PairedWrites
  intro s mid v d hp
  refine ⟨fun off ha hmay hfresh => ?_, fun off ha hmay => ?_, fun a harm => ?_, fun ha hmay hnone => ?_, fun h hmay hv hd => ?_⟩
  · have hoff : isPaired (4 * off.toNat) = true := by obtain ⟨rfl, -⟩ | ⟨rfl, -⟩ := hmay <;> decide
    have hpair : mayPair s mid (4 * off.toNat) = true := by obtain ⟨rfl, h⟩ | ⟨rfl, h⟩ := hmay <;> exact h
    rw [exec_pairedWriteArm v hp ha hoff, hpair, if_pos rfl, armHalf, expireHalf_of_fresh hfresh]
  · have hoff : isPaired (4 * off.toNat) = true := by obtain ⟨rfl, -⟩ | ⟨rfl, -⟩ := hmay <;> decide
    have hpair : mayPair s mid (4 * off.toNat) = false := by obtain ⟨rfl, h⟩ | ⟨rfl, h⟩ := hmay <;> exact h
    rw [exec_pairedWriteArm v hp ha hoff, hpair]
    rfl
  · change execPairedWriteExpire mid s = _
    simp [execPairedWriteExpire, live_powered s hp, expireHalf, harm, halfExpired]
  · have hexp : expireHalf s mid = s := expireHalf_of_fresh (by simp [hnone])
    rw [exec_claim hp]
    simp [ownerRow, ha, rowMatches, hnone, ownerClaimComplement, hmay, completePair, hexp]
  · obtain ⟨p, harm, -⟩ := h.half
    rw [exec_claim hp]
    simp [ownerRow, h.acts, rowMatches_of_halfArmed h hv, ownerClaimComplement, hmay, completePair, expireHalf_of_halfArmed h, harm, hd]

end Sys2Proof.Proofs
end

section
/-!
PROOF. Power and the pace: the arbiter's grants (R115 to R118), the readings of the sensors (R112), the budget cap (R114, R122) and the
calibration (R108 to R111).
-/

namespace Sys2Proof.Proofs

open Sys2Proof Sys2Proof.Machine Sys2Proof.Safety Sys2Proof.Laws

/-! ### The pool (R116) -/

/-- Permits that the engines of a pool have. -/
def gotSum (ps : List PoolShare) : Nat := (ps.map PoolShare.got).sum

theorem give_got_le (p : PoolShare) (n : Nat) : (p.give n).got ≤ p.got + n :=
  Nat.add_le_add_left (Nat.min_le_left n p.want) p.got

/-- One engine's turn adds at most what it is given. -/
theorem gotSum_modify_le (ps : List PoolShare) (i : Nat) (f : PoolShare → PoolShare) (n : Nat) (h : ∀ p, (f p).got ≤ p.got + n) :
    gotSum (ps.modify i f) ≤ gotSum ps + n := by
  induction ps generalizing i with
  | nil => simp [gotSum]
  | cons p ps ih =>
    cases i with
    | zero =>
      have := h p
      simp [gotSum]
      omega
    | succ i =>
      have := ih i
      simp [gotSum] at *
      omega

/-- The permits left over go out one by one. -/
theorem gotSum_poolRest_le (ps : List PoolShare) (n : Nat) : gotSum (poolRest ps n) ≤ gotSum ps + n := by
  induction n generalizing ps with
  | zero => exact Nat.le_refl _
  | succ n ih =>
    unfold poolRest
    split
    · omega
    · next i _ =>
      have hone := gotSum_modify_le ps i (fun p => { p.give 1 with rest := p.rest + 1 }) 1 (fun p => give_got_le p 1)
      have hrest := ih (ps.modify i (fun p => { p.give 1 with rest := p.rest + 1 }))
      omega

/-- Shares by weight, each rounded down, come to no more than what is shared. -/
theorem gotSum_round_le (ps : List PoolShare) (n w : Nat) :
    gotSum (ps.map (fun p => if p.want = 0 then p else p.give (n * p.weight / w))) ≤
      gotSum ps + n * (ps.map (fun p => if p.want = 0 then 0 else p.weight)).sum / w := by
  induction ps with
  | nil => simp [gotSum]
  | cons p ps ih =>
    have hdiv := Nat.div_add_div_le_add_div (x := n * (if p.want = 0 then 0 else p.weight))
      (y := n * (ps.map (fun p => if p.want = 0 then 0 else p.weight)).sum) (z := w)
    have hgive : (if p.want = 0 then p else p.give (n * p.weight / w)).got ≤ p.got + n * (if p.want = 0 then 0 else p.weight) / w := by
      split
      · exact Nat.le_add_right _ _
      · exact give_got_le p _
    simp only [gotSum, List.map_cons, List.sum_cons, Nat.mul_add] at *
    generalize (if p.want = 0 then 0 else p.weight) = v at hdiv hgive ⊢
    generalize (if p.want = 0 then p else p.give (n * p.weight / w)) = q at hgive ⊢
    omega

/-- The division gives out no more than the pool (R116). -/
theorem gotSum_poolRounds_le (fuel n : Nat) (ps : List PoolShare) : gotSum (poolRounds fuel n ps) ≤ gotSum ps + n := by
  induction fuel generalizing n ps with
  | zero => exact gotSum_poolRest_le ps n
  | succ fuel ih =>
    unfold poolRounds
    dsimp only
    split
    · exact gotSum_poolRest_le ps n
    · next hw =>
      have hpos : 0 < (ps.map (fun p => if p.want = 0 then 0 else p.weight)).sum := Nat.pos_of_ne_zero (fun h => hw (.inr h))
      have hround := gotSum_round_le ps n (ps.map (fun p => if p.want = 0 then 0 else p.weight)).sum
      rw [Nat.mul_div_cancel _ hpos] at hround
      split
      · exact gotSum_poolRest_le ps n
      · have hrec := ih (n - (gotSum (ps.map (fun p => if p.want = 0 then p else
          p.give (n * p.weight / (ps.map (fun p => if p.want = 0 then 0 else p.weight)).sum))) - gotSum ps))
          (ps.map (fun p => if p.want = 0 then p else p.give (n * p.weight / (ps.map (fun p => if p.want = 0 then 0 else p.weight)).sum)))
        simp only [gotSum] at *
        omega

/-- The first three engines have no more than all. -/
theorem poolSum_firstThree_le (ps : List PoolShare) :
    poolSum (((ps[0]?).getD default).got, ((ps[1]?).getD default).got, ((ps[2]?).getD default).got) ≤ gotSum ps := by
  have hd : (default : PoolShare).got = 0 := rfl
  match ps with
  | [] => simp [poolSum, gotSum, hd]
  | [_] => simp [poolSum, gotSum, hd]
  | [_, _] => simp [poolSum, gotSum, hd]
  | _ :: _ :: _ :: _ => simp [poolSum, gotSum]; omega

theorem poolSum_poolSplit_le (s : State) (n : Nat) : poolSum (poolSplit s n) ≤ n := by
  unfold poolSplit
  dsimp only
  refine Nat.le_trans (poolSum_firstThree_le _) (Nat.le_trans (gotSum_poolRounds_le 64 n _) ?_)
  simp [gotSum]

/-! ### The arbiter (R115, R117, R118) -/

/-- The grants where the budget does not reach the floors (R118). -/
theorem grants_short {s : State} (h : effectiveBudget s < ceilDiv (standingMw s) 4 + 22) :
    grants s = { standing := ceilDiv (standingMw s) 4, custody := 4, pool := (0, 0, 0), floorShort := true } := by
  simp [grants, h]

/-- The grants where it does. -/
theorem grants_enough {s : State} (h : ceilDiv (standingMw s) 4 + 22 ≤ effectiveBudget s) :
    let b := effectiveBudget s
    let st := ceilDiv (standingMw s) 4
    let room := s.power.granted.toNat + 16 - 18
    let cust := min (min (custodyDemand s) (b - st - 18)) room
    grants s = { standing := st, custody := cust, pool := poolSplit s (min (b - st - 18 - cust) (room - cust)), floorShort := false } := by
  dsimp only
  rw [grants, if_neg (Nat.not_lt.2 h)]

/-- Settles O12: custody takes its share of what the budget and the rise leave, and the pool no more than what is then left. -/
theorem arbiterWithinBudget : Obligations.ArbiterWithinBudget := by
  unfold Obligations.ArbiterWithinBudget
  intro s
  refine ⟨fun h => ?_, fun h => ?_⟩
  · rw [grants_short h]
    exact ⟨rfl, rfl, rfl⟩
  · have hg := grants_enough h
    dsimp only at hg
    have hpool := poolSum_poolSplit_le s (min (effectiveBudget s - ceilDiv (standingMw s) 4 - 18 -
      min (min (custodyDemand s) (effectiveBudget s - ceilDiv (standingMw s) 4 - 18)) (s.power.granted.toNat + 16 - 18))
      (s.power.granted.toNat + 16 - 18 -
      min (min (custodyDemand s) (effectiveBudget s - ceilDiv (standingMw s) 4 - 18)) (s.power.granted.toNat + 16 - 18)))
    rw [hg]
    dsimp only
    generalize poolSum _ = n at hpool ⊢
    omega

/-! ### Readings (R112) -/

/-- A reading that comes in its time is taken after what its step asks for. -/
theorem sample_taken {s : State} (mv : BitVec 10) {tj : BitVec 9} (hd : s.pace.vddMv = 0 ∨ s.pace.lastSample + 64 ≤ s.pace.now)
    (hr : outOfRange tj = false) : sample s mv tj = { senseStep s mv tj with
      pace := { (senseStep s mv tj).pace with vddMv := mv, tj := tj, lastSample := (senseStep s mv tj).pace.now }
      tamper := { (senseStep s mv tj).tamper with temp := false, tempRun := 0 } } := by
  have hguard : ¬(s.pace.vddMv ≠ 0 ∧ s.pace.now < s.pace.lastSample + 64) := fun h => hd.elim h.1 (fun hl => Nat.not_lt.2 hl h.2)
  rw [sample, if_neg hguard]
  simp [senseTamper, hr]

/-- Without a step from the last accepted calibration a reading asks for nothing. -/
theorem senseStep_still {s : State} {mv : BitVec 10} {tj : BitVec 9}
    (h : ∀ p mv0 tj0, s.pace.lastCal = some (p, mv0, tj0) → stepped mv mv0 tj tj0 = false) : senseStep s mv tj = s := by
  unfold senseStep
  split
  · rfl
  · next p mv0 tj0 hl => simp [h p mv0 tj0 hl]

/-- A first step asks for a calibration (R109). -/
theorem senseStep_stepped {s : State} {mv mv0 : BitVec 10} {tj tj0 : BitVec 9} {p : Nat} (hl : s.pace.lastCal = some (p, mv0, tj0))
    (hs : stepped mv mv0 tj tj0 = true) (hp : s.pace.stepPending = false) :
    senseStep s mv tj = triggerCalibration { s with pace := { s.pace with stepPending := true } } := by
  simp [senseStep, hl, hs, hp]

/-- The pace's registers after a trigger (R109). -/
theorem triggerCalibration_pace (s : State) : (triggerCalibration s).pace =
    if tempoKhz s = 0 then s.pace
    else if s.pace.running then { s.pace with calHeld := true }
    else { s.pace with running := true, counting := false, calSince := s.pace.now, calHeld := false } := by
  unfold triggerCalibration startCalibration
  split
  · rfl
  · split <;> rfl

/-- Settles O28. -/
theorem readingsTaken : Obligations.ReadingsTaken := by
  unfold Obligations.ReadingsTaken
  refine ⟨fun s mv tj hp hd hr => ⟨fun hstill => ?_, fun p mv0 tj0 hl hs hpend => ?_⟩, fun s cap hp => ?_⟩
  · change execSensorSample mv tj s = _
    rw [execSensorSample, live_powered s hp, sample_taken mv hd hr, senseStep_still hstill]
  · have hs : stepped mv mv0 tj tj0 = true := decide_eq_true hs
    change Completes (execSensorSample mv tj s) _
    rw [execSensorSample, live_powered s hp]
    refine ⟨_, rfl, ?_⟩
    rw [sample_taken mv hd hr, senseStep_stepped hl hs hpend]
    simp only [ended_pace, triggerCalibration_pace]
    have ht : tempoKhz { s with pace := { s.pace with stepPending := true } } = tempoKhz s := rfl
    rw [ht]
    by_cases h0 : tempoKhz s = 0 <;> cases hrun : s.pace.running <;> simp [h0]
  · change Completes (execBudgetCap cap s) _
    rw [execBudgetCap, live_powered s hp]
    refine ⟨_, rfl, ?_⟩
    dsimp only
    split
    · next hlow => exact ⟨rfl, rfl, fun _ => ⟨rfl, rfl⟩, fun h => absurd hlow (Nat.not_lt.2 h), rfl⟩
    · next hlow => exact ⟨rfl, rfl, fun h => absurd h hlow, fun _ => ⟨rfl, rfl⟩, rfl⟩

/-! ### The calibration (R108 to R111) -/

/-- The end of a calibration: the trim's registers stay, and a held trigger starts the next. -/
theorem endCalibration_pace (s : State) : (endCalibration s).pace = { s.pace with
    running := s.pace.calHeld, counting := false, calHeld := false
    calSince := if s.pace.calHeld then s.pace.now else s.pace.calSince } := by
  unfold endCalibration startCalibration
  cases hh : s.pace.calHeld <;> simp [hh]

@[simp] theorem endCalibration_vlog (s : State) : (endCalibration s).vlog = s.vlog := by
  unfold endCalibration startCalibration
  dsimp only
  split <;> rfl

/-- A count within the bounds is accepted (R108, R111). -/
theorem finishCount_accepted {s : State} {c : Nat} (h : paceInRange (tempoKhz s) c = true) :
    (finishCount s c).vlog = s.vlog ∧ (finishCount s c).pace = { s.pace with
      rawPace := BitVec.ofNat 16 (rawPaceOf (tempoKhz s) c), newPeriods := some (BitVec.ofNat 12 (newTrim (tempoKhz s) c))
      calibrated := true, stepPending := false, calCount := s.pace.calCount + 1, lastCal := some (s.pace.now, s.pace.vddMv, s.pace.tj)
      running := s.pace.calHeld, counting := false, calHeld := false
      calSince := if s.pace.calHeld then s.pace.now else s.pace.calSince } := by
  have hc : c ≠ 0 := by
    rintro rfl
    simp [paceInRange] at h
  simp [finishCount, h, hc, endCalibration_pace, raiseSck]

/-- A count beyond the bounds changes no trim and is logged (R111). -/
theorem finishCount_discarded {s : State} {c : Nat} (h : paceInRange (tempoKhz s) c = false) :
    (finishCount s c).vlog = (violate s pTempo kSignalRange none).vlog ∧ (finishCount s c).pace = { s.pace with
      rawPace := if c = 0 then 0xFFFF else BitVec.ofNat 16 (rawPaceOf (tempoKhz s) c), discarded := true, seq := s.pace.seq + 1
      running := s.pace.calHeld, counting := false, calHeld := false
      calSince := if s.pace.calHeld then s.pace.now else s.pace.calSince } := by
  simp only [finishCount, h, Bool.false_eq_true, if_false, endCalibration_vlog, endCalibration_pace, violate_pace]
  exact ⟨rfl, rfl⟩

/-- Settles O29. -/
theorem calibration : Obligations.Calibration := by
  unfold Obligations.Calibration
  intro s hp
  refine ⟨fun p x hl hdue ht hrun => ?_, fun hrun hcount hdue => ?_, fun n hrun hcount hr => ?_, fun n hrun hcount hr => ?_,
    fun hrun hdue => ?_⟩
  · change execCalibrationPeriod s = _
    rw [execCalibrationPeriod, live_powered s hp]
    simp [hl, hdue, triggerCalibration, ht, hrun, startCalibration]
  · change execCalibrationCountStart s = _
    rw [execCalibrationCountStart, live_powered s hp]
    simp [hrun, hcount, hdue]
  · change Completes (execCalibrationCountEnd n s) _
    rw [execCalibrationCountEnd, live_powered s hp]
    refine ⟨_, rfl, ?_⟩
    obtain ⟨hlog, hpace⟩ := finishCount_accepted hr
    rw [if_pos (by simp [hrun, hcount]), ended_pace, ended_vlog, hpace, hlog]
    exact ⟨rfl, rfl, rfl, rfl, rfl, rfl, rfl, rfl⟩
  · change Completes (execCalibrationCountEnd n s) _
    rw [execCalibrationCountEnd, live_powered s hp]
    refine ⟨_, rfl, ?_⟩
    obtain ⟨hlog, hpace⟩ := finishCount_discarded hr
    rw [if_pos (by simp [hrun, hcount]), ended_pace, ended_vlog, hpace, hlog]
    exact ⟨rfl, rfl, rfl, rfl, rfl⟩
  · change Completes (execCalibrationAbandoned s) _
    rw [execCalibrationAbandoned, live_powered s hp]
    refine ⟨_, rfl, ?_⟩
    dsimp only
    rw [if_pos (by simp [hrun, hdue]), ended_pace, ended_vlog, endCalibration_pace, endCalibration_vlog, violate_pace]
    exact ⟨rfl, rfl, rfl, rfl, rfl, rfl⟩

end Sys2Proof.Proofs
end

section
/-!
PROOF. The channel windows: composing a message (R90, R93) and the registers of a channel (R92, R101).
-/

namespace Sys2Proof.Proofs

open Sys2Proof Sys2Proof.Machine Sys2Proof.Safety Sys2Proof.Laws

/-! ### Composing -/

/-- A running block whose direct channel 3 has no holder but a message of two words of which word 0 has come. -/
def heldByNone : State :=
  { State.reset with pins := { porstN := true }, mbox := [(3, { compose := [0x00000080] })] }

/-- Refutes O24: its third clause has a later word change the message being composed and LASTPUSH alone, in every state in which a master may
send; where a direct channel without a holder composes, as in `heldByNone`, the word also takes the channel for the master that pushes it. -/
theorem not_messagePosted : ¬ Obligations.MessagePosted := by
  unfold Obligations.MessagePosted
  intro h
  obtain ⟨-, -, composes, -⟩ := h heldByNone 9 3 0 rfl rfl rfl (by decide) rfl
  obtain ⟨t, ht, hc⟩ := composes (by decide) (by decide)
  change execMsgIn 9 3 0 heldByNone = _ at ht
  rw [execMsgIn, live_powered heldByNone rfl] at ht
  cases ht
  have holder := congrArg Channel.holder hc
  exact absurd holder (by decide)

/-! ### Channel registers -/

/-- A pop of the oldest response of a channel that a master may use (R92). -/
theorem popWord_cons {s : State} {mid : Mid} {c : Nat} {w : W32} {ws : List W32} {rest : List (List W32)} (hu : mayUse s mid c = true)
    (hr : (chanAt s c).responses = (w :: ws) :: rest) :
    popWord s mid c = (w, setChan s c { chanAt s c with responses := if ws = [] then rest else ws :: rest }) := by
  cases ws <;> simp [popWord, hu, hr]

/-- A pop that finds nothing, or that a master may not make. -/
theorem popWord_nothing {s : State} {mid : Mid} {c : Nat} (h : mayUse s mid c = false ∨ (chanAt s c).responses = []) :
    popWord s mid c = (0, s) := by
  unfold popWord
  obtain hu | hr := h
  · simp [hu]
  · simp [hr]

/-- A channel holds nothing exactly when none of its slots is used (R92). -/
theorem slotsUsed_eq_zero (v : Channel) :
    slotsUsed v = 0 ↔ v.compose = [] ∧ v.waiting = [] ∧ v.running = none ∧ v.responses = [] := by
  unfold slotsUsed
  cases v.compose <;> cases v.running <;> simp

/-- An idle unpinned direct channel is released (R90). -/
theorem releaseChannel_idle {s : State} {c : Nat} (hd : isDirect c = true) (hp : (chanAt s c).pinned = false)
    (hs : slotsUsed (chanAt s c) = 0) (ht : (chanAt s c).tickets = []) :
    releaseChannel s c = setChan s c { chanAt s c with holder := none, lastLane := none } := by
  obtain ⟨hcomp, hwait, hrun, hresp⟩ := (slotsUsed_eq_zero _).1 hs
  simp [releaseChannel, hd, hp, hcomp, hwait, hrun, hresp, ht]

/-- Any other is not. -/
theorem releaseChannel_busy {s : State} {c : Nat}
    (h : isDirect c = false ∨ (chanAt s c).pinned = true ∨ slotsUsed (chanAt s c) ≠ 0 ∨ (chanAt s c).tickets ≠ []) :
    releaseChannel s c = s := by
  unfold releaseChannel
  refine if_neg (fun hidle => ?_)
  simp only [Bool.and_eq_true, Bool.not_eq_true', List.isEmpty_iff, Option.isNone_iff_eq_none] at hidle
  obtain ⟨⟨⟨⟨⟨⟨hd, hp⟩, hcomp⟩, hwait⟩, hrun⟩, hresp⟩, ht⟩ := hidle
  have hs : slotsUsed (chanAt s c) = 0 := (slotsUsed_eq_zero _).2 ⟨hcomp, hwait, hrun, hresp⟩
  simp [hd, hp, hs, ht] at h

/-- The rows that write a channel's registers, on a running block: what each does where the master may use the channel. -/
theorem exec_channelRow {s : State} {mid : Mid} {c : Fin 128} {i : Instr} {f : State → State} (hp : powered s = true)
    (ha : canAct s mid = true) (hi : exec i s = live s (fun s => if canAct s mid then ctlWrote (channelWrite s mid c.val f) else s)) :
    exec i s = .next (ended s (ctlWrote (if mayUse s mid c.val then f s else violate s pCtl kAccessDenied (some mid)))) := by
  rw [hi, live_powered s hp, if_pos ha]
  rfl

/-- Settles O26: each row by what it does where the master may use the channel, and the refusal that they share where it may not. -/
theorem channelRegisters : Obligations.ChannelRegisters := by
  unfold Obligations.ChannelRegisters
  refine ⟨fun s mid c hp ha => ⟨fun w ws rest hu hr => ?_, fun h => ?_⟩, fun s mid c d hp ha => ?_⟩
  · change execMsgOut mid c s = _
    rw [execMsgOut, live_powered s hp, if_pos ha, popWord_cons hu hr]
  · change execMsgOut mid c s = _
    rw [execMsgOut, live_powered s hp, if_pos ha, popWord_nothing h]
  · have hclear := exec_channelRow (c := c) (f := fun t => clearBells t c.val d) hp ha (i := .dbClear mid c d) rfl
    have hflush := exec_channelRow (c := c) (f := fun t => flushChannel t c.val) hp ha (i := .flush mid c) rfl
    have hdrop := exec_channelRow (c := c) (f := fun t => dropResponses t c.val) hp ha (i := .dropResponses mid c) rfl
    have hrelease := exec_channelRow (c := c) (f := fun t => releaseChannel t c.val) hp ha (i := .release mid c) rfl
    refine ⟨fun hu => ?_, fun hu i hi => ?_⟩
    · rw [hclear, hflush, hdrop, hrelease, if_pos hu, if_pos hu, if_pos hu, if_pos hu]
      exact ⟨rfl, rfl, rfl, fun hd hpin hs ht => by rw [releaseChannel_idle hd hpin hs ht], fun h => by rw [releaseChannel_busy h]⟩
    · have hu : ¬mayUse s mid c.val = true := by simp [hu]
      simp only [List.mem_cons, List.not_mem_nil, or_false] at hi
      obtain rfl | rfl | rfl | rfl := hi
      · rw [hclear, if_neg hu]
      · rw [hflush, if_neg hu]
      · rw [hdrop, if_neg hu]
      · rw [hrelease, if_neg hu]

end Sys2Proof.Proofs
end

section
/-!
PROOF. Registers: writes by the owner and by others (R80, R87), sequence clears (R85), snapshots (R89), latching reads (R489), and the owner's
paired actions (R109, R127).
-/

namespace Sys2Proof.Proofs

open Sys2Proof Sys2Proof.Machine Sys2Proof.Safety Sys2Proof.Laws

/-! ### Writes (R80, R87) -/

/-- Where shadowed registers lie: outside the channel windows and apart from the registers with actions of their own. -/
theorem groupOf_place {o : Nat} (h : (groupOf o).isSome = true) :
    ¬(0x4000 ≤ o ∧ o < 0x6000) ∧ o ∉ [0x0014, 0x0018, 0x0020, 0x0024, 0x0414, 0x6800, 0x6804] ∧ isPlain o = false := by
  unfold groupOf at h
  simp only [List.mem_cons, List.not_mem_nil, or_false, not_or, isPlain, decide_eq_false_iff_not]
  split_ifs at h
  on_goal 9 => exact absurd h Bool.false_ne_true
  all_goals omega

/-- Where the other registers lie that hold what is written. -/
theorem isPlain_place {o : Nat} (h : isPlain o = true) :
    ¬(0x4000 ≤ o ∧ o < 0x6000) ∧ o ∉ [0x0014, 0x0018, 0x0020, 0x0024, 0x0414, 0x6800, 0x6804] ∧ groupOf o = none := by
  have hg : (groupOf o).isSome = false := by
    by_contra hg
    have := (groupOf_place (Bool.not_eq_false _ ▸ hg)).2.2
    simp [h] at this
  simp only [isPlain, decide_eq_true_eq] at h
  refine ⟨by omega, ?_, by simpa using hg⟩
  simp only [List.mem_cons, List.not_mem_nil, or_false, not_or]
  omega

/-- A write that reaches no window, no paired register and no complement is the owner's. -/
theorem registerWrite_owner {s : State} {mid : Mid} {o : Nat} (d : W32) (ho : isOwner s mid = true) (hw : ¬(0x4000 ≤ o ∧ o < 0x6000))
    (hs : o ∉ [0x0014, 0x0018, 0x0020, 0x0024, 0x0414, 0x6800, 0x6804]) : registerWrite s mid o d = ownerWrite s o d := by
  simp only [List.mem_cons, List.not_mem_nil, or_false, not_or] at hs
  simp [registerWrite, hw, hs, isPaired, ho]

/-- A write of the owner to a register that neither holds it nor acts on it. -/
theorem ownerWrite_ignored {s : State} {o : Nat} (d : W32) (hg : groupOf o = none) (hpl : isPlain o = false) (hq : seqOf s o = none)
    (hs : o ∉ [0x0014, 0x0018, 0x0020, 0x0024, 0x0414, 0x6800, 0x6804]) : ownerWrite s o d = s := by
  simp only [List.mem_cons, List.not_mem_nil, or_false, not_or] at hs
  simp [ownerWrite, hg, hpl, hs, seqWrite, hq]

/-- A write outside the windows of a master that has no right of way, to a register other than OWNER_CLAIM. -/
theorem registerWrite_denied {s : State} {mid : Mid} {o : Nat} (d : W32) (ho : isOwner s mid = false) (hw : ¬(0x4000 ≤ o ∧ o < 0x6000))
    (h14 : o ≠ 0x0014) (h18 : o ≠ 0x0018) : registerWrite s mid o d = violate s pCtl kAccessDenied (some mid) := by
  have hpair : mayPair s mid 0x6800 = false := ho
  have hclear : acctComplement s mid d = refuseAction s mid := by simp [acctComplement, hpair]
  have hkeep : mayPair s mid o = false := by simp [mayPair, h14, ho]
  rw [registerWrite, if_neg hw, if_neg h18, hkeep, hclear, ho]
  simp [refuseAction]

/-- A read that neither pops nor latches. -/
theorem registerRead_plain {s : State} {mid : Mid} {o : Nat} (hw : ¬(0x4000 ≤ o ∧ o < 0x6000)) (hl : latchedBy o = none) (h1 : o ≠ 0x0400)
    (h2 : o ≠ 0x1A04) (h3 : ¬(0x3800 ≤ o ∧ o < 0x3E00)) : registerRead s mid o = ctlRead s (readReg s o) := by
  have hw' : ¬(0x4000 ≤ o ∧ o < 0x6000 ∧ o % 64 = 4) := fun h => hw ⟨h.1, h.2.1⟩
  have h3' : ¬(0x3800 ≤ o ∧ o < 0x3E00 ∧ (o - 0x3800) % 48 = 0) := fun h => h3 ⟨h.1, h.2.1⟩
  rw [registerRead, if_neg hw', if_neg h1, if_neg h3', if_neg h2, readFor, hl]

/-- A CTL write of a master that reaches its registers. -/
theorem exec_registerWrite {s : State} {mid : Mid} (off : BitVec 14) (d : W32) (hp : powered s = true) (ha : canAct s mid = true) :
    exec (.registerWrite mid off (some d)) s = .next (ended s (ctlWrote (registerWrite s mid (4 * off.toNat) d))) := by
  change execRegisterWrite mid off (some d) s = _
  rw [execRegisterWrite, live_powered s hp]
  simp [ha]

/-- A CTL read. -/
theorem exec_registerRead {s : State} {mid : Mid} (off : BitVec 14) (hp : powered s = true) (ha : canAct s mid = true) :
    exec (.registerWrite mid off none) s = .next (ended s (registerRead s mid (4 * off.toNat))) := by
  change execRegisterWrite mid off none s = _
  rw [execRegisterWrite, live_powered s hp]
  simp [ha]

/-- Settles O18: by where the address lies. -/
theorem registerWrites : Obligations.RegisterWrites := by
  unfold Obligations.RegisterWrites
  intro s mid off d hp ha
  have outside (h : 4 * off.toNat < 0x4000 ∨ 0x6000 ≤ 4 * off.toNat) : ¬(0x4000 ≤ 4 * off.toNat ∧ 4 * off.toNat < 0x6000) := by omega
  refine ⟨fun ho hg => ?_, fun ho hpl => ?_, fun ho hw hg hpl hq hs => ?_, fun ho hw h14 h18 => ?_, fun hw hl h1 h2 h3 => ?_⟩
  · obtain ⟨hw, hs, -⟩ := groupOf_place hg
    rw [exec_registerWrite off d hp ha, registerWrite_owner d ho hw hs, ownerWrite, if_pos hg]
  · obtain ⟨hw, hs, hg⟩ := isPlain_place hpl
    rw [exec_registerWrite off d hp ha, registerWrite_owner d ho hw hs, ownerWrite, hg]
    simp [hpl]
  · rw [exec_registerWrite off d hp ha, registerWrite_owner d ho (outside hw) hs, ownerWrite_ignored d hg hpl hq hs]
  · rw [exec_registerWrite off d hp ha, registerWrite_denied d ho (outside hw) h14 h18]
  · rw [exec_registerRead off hp ha, registerRead_plain (outside hw) hl h1 h2 h3]

/-! ### Sequence clears (R85) -/

/-- An entry put twice is put once. -/
theorem tput_tput_same {α : Type} (t : Table α) (k : Nat) (v w : α) : tput (tput t k v) k w = tput t k w := by
  induction t with
  | nil => simp [tput]
  | cons e t ih =>
    obtain ⟨j, x⟩ := e
    simp only [tput]
    split
    · simp [tput]
    · next h1 =>
      split
      · simp [tput]
      · next h2 => simp [tput, h1, h2, ih]

/-- A value written twice is written once. -/
theorem tset_tset_same {α : Type} [DecidableEq α] (d : α) (t : Table α) (k : Nat) (v : α) : tset d (tset d t k v) k v = tset d t k v := by
  unfold tset
  split
  · simp [tdel]
  · exact tput_tput_same t k v v

theorem setLane_setLane_same (s : State) (l : Nat) (v : Lane) : setLane (setLane s l v) l v = setLane s l v := by
  simp only [setLane, tset_tset_same]

/-- The SC registers but the lanes' own (R85). -/
def scOffsets : List Nat :=
  [0x0030, 0x0408, 0x044C, 0x0800, 0x0850, 0x0C08, 0x1014, 0x1020, 0x1034, 0x1B04, 0x2004, 0x3010, 0x3408, 0x3EA4, 0x6018, 0x642C]

/-- The event registers of the lanes' regulators. -/
def LaneEvents (off : Nat) : Prop := 0x1400 ≤ off ∧ off < 0x1800 ∧ off % 16 = 8

theorem clearEvents_lane (s : State) {off : Nat} (h : LaneEvents off) : clearEvents s off =
    setLane s ((off - 0x1400) / 16) { laneAt s ((off - 0x1400) / 16) with throttled := false, hol := false } := by
  unfold LaneEvents at h
  unfold clearEvents
  iterate 9 rw [if_neg (by omega)]
  rw [if_pos h]

theorem seqOf_lane (s : State) {off : Nat} (h : LaneEvents off) : seqOf s off = some (laneAt s ((off - 0x1400) / 16)).regSeq := by
  unfold LaneEvents at h
  unfold seqOf
  iterate 9 rw [if_neg (by omega)]
  rw [if_pos h]

/-- An offset that is no SC register has no event fields. -/
theorem clearEvents_other (s : State) {off : Nat} (h : off ∉ scOffsets) (hl : ¬LaneEvents off) : clearEvents s off = s := by
  simp only [scOffsets, List.mem_cons, List.not_mem_nil, or_false, not_or] at h
  have hl' : ¬(0x1400 ≤ off ∧ off < 0x1800 ∧ off % 16 = 8) := hl
  simp only [clearEvents, h, hl', if_false]

theorem seqOf_other (s : State) {off : Nat} (h : off ∉ scOffsets) (hl : ¬LaneEvents off) : seqOf s off = none := by
  simp only [scOffsets, List.mem_cons, List.not_mem_nil, or_false, not_or] at h
  have hl' : ¬(0x1400 ≤ off ∧ off < 0x1800 ∧ off % 16 = 8) := hl
  simp only [seqOf, h, hl', if_false]

/-- A clear leaves SEQ, and a second one after the end of the write changes nothing. -/
def ClearEffect (s u : State) (off : Nat) : Prop :=
  seqOf (ended s (ctlWrote (clearEvents u off))) off = seqOf u off ∧
  clearEvents (ended s (ctlWrote (clearEvents u off))) off = ended s (ctlWrote (clearEvents u off))

theorem clearEffect_sc (s u : State) : ∀ off ∈ scOffsets, ClearEffect s u off := by
  unfold scOffsets
  iterate 16 refine List.forall_mem_cons.2 ⟨⟨rfl, rfl⟩, ?_⟩
  exact List.forall_mem_nil _

theorem setLane_ended (s t : State) (k : Nat) (v : Lane) :
    setLane (ended s (ctlWrote t)) k v = ended s (ctlWrote (setLane t k v)) := rfl

theorem laneAt_ended (s t : State) (k : Nat) : laneAt (ended s (ctlWrote t)) k = laneAt t k := rfl

theorem clearEffect_lane (s u : State) {off : Nat} (hl : LaneEvents off) : ClearEffect s u off := by
  unfold ClearEffect
  rw [clearEvents_lane _ hl, clearEvents_lane _ hl, seqOf_lane _ hl, seqOf_lane _ hl, laneAt_ended, laneAt_setLane_same,
    setLane_ended, setLane_setLane_same]
  exact ⟨rfl, rfl⟩

theorem clearEvents_effect (s u : State) (off : Nat) : ClearEffect s u off := by
  by_cases hs : off ∈ scOffsets
  · exact clearEffect_sc s u off hs
  by_cases hl : LaneEvents off
  · exact clearEffect_lane s u hl
  · unfold ClearEffect
    rw [clearEvents_other _ hs hl, clearEvents_other _ hs hl, seqOf_other _ hs hl, seqOf_other _ hs hl]
    exact ⟨rfl, rfl⟩

/-- An SC register written by the owner. -/
theorem exec_seqClear {s : State} {mid : Mid} {off : BitVec 14} (q : BitVec 8) (hp : powered s = true) (ha : canAct s mid = true)
    (ho : isOwner s mid = true) (hq : (seqOf s (4 * off.toNat)).isSome = true) :
    exec (.seqClear mid off q) s = .next (ended s (ctlWrote (seqWrite s (4 * off.toNat) q))) := by
  change execSeqClear mid off q s = _
  rw [execSeqClear, live_powered s hp]
  simp [hq, ownerOnly, ha, ho]

/-- Settles O19. -/
theorem sequenceClear : Obligations.SequenceClear := by
  unfold Obligations.SequenceClear
  intro s mid off q hp ha ho
  refine ⟨fun hq => ⟨_, exec_seqClear q hp ha ho (by simp [hq]), ?_⟩, fun q' hq hne => ?_⟩
  · obtain ⟨hseq, hclear⟩ := clearEvents_effect s s (4 * off.toNat)
    rw [seqWrite, if_pos hq]
    exact ⟨rfl, hseq.trans hq, hclear⟩
  · rw [exec_seqClear q hp ha ho (by simp [hq]), seqWrite, if_neg (by simp [hq, hne])]

/-! ### Snapshots (R89) -/

/-- The back buffer of a copy: every counter as it stood, with the pace. -/
theorem tget_copy (s : State) (off : Nat) : tget 0 (tset 0 s.cnt 0x7800 (BitVec.ofNat 64 s.pace.now)) off =
    if off = 0x7800 then BitVec.ofNat 64 s.pace.now else counter s off := tget_tset 0 s.cnt 0x7800 off _

/-- The words of HOLDING. -/
theorem readReg_holding (s : State) {off : Nat} (h1 : 0x7000 ≤ off) (h2 : off < 0x8000) (h3 : off % 8 = 0) :
    readReg s off = BitVec.ofNat 32 (tget 0 s.cfg.holding off).toNat ∧
    readReg s (off + 4) = BitVec.ofNat 32 ((tget 0 s.cfg.holding off).toNat / 2 ^ 32) := by
  have low (n : Nat) (hn : 0x7000 ≤ n) (hn' : n < 0x8000) (hm : n % 4 = 0) : readReg s n = regHolding s n := by
    unfold readReg
    rw [if_neg (by omega)]
    iterate 18 rw [if_neg (by omega)]
    rw [if_pos hn']
  rw [low off h1 h2 (by omega), low (off + 4) (by omega) (by omega) (by omega)]
  have hoff : off + 4 - (off + 4) % 8 = off := by omega
  have hodd : (off + 4) % 8 ≠ 0 := by omega
  simp [regHolding, h3, hoff, hodd]

/-- An owner's write that acts. -/
theorem ownerOnly_owner {s : State} {mid : Mid} (f : State → State) (ha : canAct s mid = true) (ho : isOwner s mid = true) :
    ownerOnly mid f s = ctlWrote (f s) := by
  simp [ownerOnly, ha, ho]

/-- Settles O21. -/
theorem snapshotConsistent : Obligations.SnapshotConsistent := by
  unfold Obligations.SnapshotConsistent
  intro s mid hp
  have row (ha : canAct s mid = true) (ho : isOwner s mid = true) :
      exec (.snapshotTake mid) s = .next (ended s (ctlWrote (takeSnapshot s))) := by
    change execSnapshotTake mid s = _
    rw [execSnapshotTake, live_powered s hp, ownerOnly_owner _ ha ho]
  refine ⟨fun ha ho hb => ?_, fun ha ho hb => ?_, fun b hb => ?_⟩
  · refine ⟨_, row ha ho, ?_⟩
    rw [takeSnapshot, hb]
    refine ⟨rfl, rfl, _, rfl, ?_, fun off hoff => ?_⟩
    · rw [tget_copy, if_pos rfl]
    · rw [tget_copy, if_neg hoff]
  · have hsome : s.cfg.backBuffer.isSome = true := Option.isSome_iff_ne_none.2 hb
    rw [row ha ho, takeSnapshot, if_pos hsome]
  · change Completes (execSnapshotVisible s) _
    rw [execSnapshotVisible, live_powered s hp]
    refine ⟨_, rfl, ?_⟩
    have hold : (ended s (snapshotVisible s)).cfg.holding = b := by
      simp only [snapshotVisible, hb]
      split <;> rfl
    refine ⟨?_, fun off h1 h2 h3 => ?_, ?_, ?_⟩
    · simp only [snapshotVisible, hb]
      split <;> rfl
    · have h := readReg_holding (ended s (snapshotVisible s)) h1 h2 h3
      rwa [hold] at h
    · simp only [snapshotVisible, hb]
      split <;> rfl
    · simp only [snapshotVisible, hb]
      split <;> simp_all [beginCopy]

/-! ### Latching reads (R489) -/

/-- What a MID's holding set keeps, whatever the registers do afterwards. -/
theorem latched_latch {u : State} (s : State) (reg : Nat) (mid : Mid) (ws : List W32)
    (hu : u.cfg.latches = (latch s reg mid ws).cfg.latches) : latched u reg mid = some ws := by
  simp [latched, hu, latch]

/-- A read that the holding set of a latching register answers. -/
theorem readFor_latched {u : State} {mid : Mid} {off reg i : Nat} {ws : List W32} (hl : latchedBy off = some (reg, i))
    (h : latched u reg mid = some ws) (hi : i < ws.length) : readFor u mid off = ws[i] := by
  simp [readFor, hl, h, hi]

/-- A string of whole pieces is cut into them. -/
theorem chunksAux_length (n k f : Nat) (l : Octets) (hn : 0 < n) (hl : l.length = n * k) (hf : k ≤ f) : (chunksAux n f l).length = k := by
  induction k generalizing f l with
  | zero =>
    have : l = [] := List.length_eq_zero_iff.1 (by simpa using hl)
    subst this
    cases f <;> rfl
  | succ k ih =>
    obtain ⟨f, rfl⟩ := Nat.exists_eq_succ_of_ne_zero (Nat.ne_of_gt (Nat.lt_of_lt_of_le (Nat.succ_pos k) hf))
    have hne : l ≠ [] := by
      rintro rfl
      rw [List.length_nil, Nat.mul_succ] at hl
      omega
    have hdrop : (l.drop n).length = n * k := by
      rw [List.length_drop, hl, Nat.mul_succ]
      omega
    simp [chunksAux, hne, ih f (l.drop n) hdrop (Nat.le_of_succ_le_succ hf)]

theorem leOctets_length (n v : Nat) : (leOctets n v).length = n := by
  induction n generalizing v with
  | zero => rfl
  | succ n ih => simp [leOctets, ih]

theorem beOctets_length (n v : Nat) : (beOctets n v).length = n := by simp [beOctets, leOctets_length]

theorem mileOctets_length (m : Milepost) : (mileOctets m).length = 48 := by
  unfold mileOctets
  split
  · simp
  · exact beOctets_length 48 _

theorem mileWords_length (s : State) (j : Nat) : (mileWords s j).length = 12 := by
  have h := mileOctets_length (milepost s j)
  rw [mileWords, List.length_map, chunks, h]
  exact chunksAux_length 4 12 48 _ (by decide) h (by decide)

/-- The registers of a milepost's value. -/
theorem readReg_mileWord (s : State) {j i : Nat} (hj : j < 32) (hi : i < 12) :
    readReg s (0x3800 + 48 * j + 4 * i) = (mileWords s j).getD i 0 := by
  have hdiv : (0x3800 + 48 * j + 4 * i - 0x3800) / 48 = j := by omega
  have hmod : (0x3800 + 48 * j + 4 * i - 0x3800) % 48 / 4 = i := by omega
  have hreg : regMiles s (0x3800 + 48 * j + 4 * i) = (mileWords s j).getD i 0 := by
    rw [regMiles, if_pos (by omega), hdiv, hmod]
  unfold readReg
  rw [if_neg (by omega)]
  iterate 13 rw [if_neg (by omega)]
  rw [if_pos (by omega), hreg]

/-- Settles O22: the holding set of the reader keeps the words that its latching read took. -/
theorem latchingReads : Obligations.LatchingReads := by
  unfold Obligations.LatchingReads
  intro s mid hp ha
  refine ⟨?_, fun j => ?_, ?_⟩
  · change Completes (execPaceCountLo mid s) _
    rw [execPaceCountLo, live_powered s hp, if_pos ha]
    refine ⟨_, rfl, rfl, fun u hu => ?_⟩
    have hl := latched_latch (ctlRead s (readReg s 0x0400)) 0x0400 mid [readReg s 0x0404] hu
    exact readFor_latched (i := 0) (by decide) hl (by simp)
  · change Completes (execMpValue mid j s) _
    rw [execMpValue, live_powered s hp, if_pos ha]
    refine ⟨_, rfl, rfl, fun u hu => ?_⟩
    have hl := latched_latch (ctlRead s (readReg s (0x3800 + 48 * j.val))) (0x3800 + 48 * j.val) mid
      ((mileWords s j.val).drop 1 ++ [readReg s (0x3E00 + 4 * j.val)]) hu
    have hlen := mileWords_length s j.val
    refine ⟨fun i hi0 hi => ?_, ?_⟩
    · have hby : latchedBy (0x3800 + 48 * j.val + 4 * i) = some (0x3800 + 48 * j.val, i - 1) := by
        unfold latchedBy
        rw [if_neg (by omega), if_neg (by omega), if_pos (by omega)]
        have hmod : (0x3800 + 48 * j.val + 4 * i - 0x3800) % 48 = 4 * i := by omega
        rw [hmod]
        exact congrArg some (Prod.ext (by dsimp only; omega) (by dsimp only; omega))
      rw [readFor_latched hby hl (by simp [hlen]; omega), readReg_mileWord s j.isLt hi]
      have hi1 : 1 + (i - 1) = i := by omega
      have hlt : i - 1 < (List.drop 1 (mileWords s j.val)).length := by simp [hlen]; omega
      rw [List.getElem_append_left hlt, List.getElem_drop]
      simp [hi1, hlen, hi]
    · have hby : latchedBy (0x3E00 + 4 * j.val) = some (0x3800 + 48 * j.val, 11) := by
        unfold latchedBy
        rw [if_neg (by omega), if_neg (by omega), if_neg (by omega), if_pos (by omega)]
        exact congrArg some (Prod.ext (by dsimp only; omega) rfl)
      rw [readFor_latched hby hl (by simp [hlen])]
      have hge : (List.drop 1 (mileWords s j.val)).length ≤ 11 := by simp [hlen]
      rw [List.getElem_append_right hge]
      simp
  · change Completes (execCtxRecord0 mid s) _
    rw [execCtxRecord0, live_powered s hp, if_pos ha]
    refine ⟨_, rfl, rfl, fun u hu i hi => ?_⟩
    have hl := latched_latch (ctlRead s (readReg s 0x1A04)) 0x1A04 mid [readReg s 0x1A08, readReg s 0x1A0C, readReg s 0x1A10] hu
    match i, hi with
    | 0, _ => exact readFor_latched (i := 0) (by decide) hl (by simp)
    | 1, _ => exact readFor_latched (i := 1) (by decide) hl (by simp)
    | 2, _ => exact readFor_latched (i := 2) (by decide) hl (by simp)

/-! ### The owner's paired actions (R109, R127) -/

/-- Counters cleared one after the other. -/
theorem counter_foldl_clearCounter (l : List Nat) (s : State) (off : Nat) :
    counter (l.foldl clearCounter s) off = if off ∈ l then 0 else counter s off := by
  induction l generalizing s with
  | nil => simp
  | cons o l ih =>
    rw [List.foldl_cons, ih, counter_clearCounter]
    by_cases h1 : off ∈ l <;> by_cases h2 : off = o <;> simp [h1, h2]

/-- They change nothing else. -/
theorem foldl_clearCounter_frame (l : List Nat) (s : State) : ∃ c, l.foldl clearCounter s = { s with cnt := c } := by
  induction l generalizing s with
  | nil => exact ⟨s.cnt, rfl⟩
  | cons o l ih =>
    obtain ⟨c, hc⟩ := ih (clearCounter s o)
    exact ⟨c, hc⟩

/-- The counters of all lanes. -/
theorem mem_allLaneCounters (off : Nat) :
    off ∈ (List.range 64).flatMap laneCounters ↔ 0x7000 ≤ off ∧ off < 0x7800 ∧ off % 8 = 0 := by
  simp only [List.mem_flatMap, List.mem_range, laneCounters, List.mem_cons, List.not_mem_nil, or_false]
  refine ⟨fun ⟨l, hl, h⟩ => by omega, fun h => ⟨(off - 0x7000) / 32, by omega, by omega⟩⟩

/-- A pair at ACCT_CLEAR completed by the owner clears what its value names (R127). -/
theorem acctRow_of_halfArmed {s : State} {mid : Mid} {v : W32} (h : HalfArmed s mid 0x6800 v) (ho : isOwner s mid = true) :
    acctRow (bit v 8) mid (~~~v) s = ctlWrote ((acctCleared v).foldl clearCounter (disarm s mid)) := by
  obtain ⟨p, harm, -⟩ := h.half
  have hpair : mayPair s mid 0x6800 = true := ho
  simp [acctRow, harm, h.acts, acctComplement, hpair, completePair_of_halfArmed h]

/-- What such a step does: the counters that the value names, and no other field. -/
theorem acctCleared_effect (s u : State) (l : List Nat) :
    (∀ off, counter (ended s (ctlWrote (l.foldl clearCounter u))) off = if off ∈ l then 0 else counter u off) ∧
    { ended s (ctlWrote (l.foldl clearCounter u)) with cnt := u.cnt } = ended s (ctlWrote u) := by
  refine ⟨fun off => counter_foldl_clearCounter l u off, ?_⟩
  obtain ⟨c, hc⟩ := foldl_clearCounter_frame l u
  rw [hc]
  rfl

/-- Settles O23. -/
theorem ownerActions : Obligations.OwnerActions := by
  unfold Obligations.OwnerActions
  intro s mid hp ho
  refine ⟨fun v h hv => ?_, fun v h hv => ?_, fun ha => ?_⟩
  · change Completes (execAcctClearLane mid (~~~v) s) _
    have hrow := acctRow_of_halfArmed h ho
    rw [hv] at hrow
    rw [execAcctClearLane, live_powered s hp, hrow]
    have hclear : acctCleared v = laneCounters (bits v 0 6) := by simp [acctCleared, hv]
    rw [hclear]
    exact ⟨_, rfl, acctCleared_effect s (disarm s mid) _⟩
  · change Completes (execAcctClearAll mid (~~~v) s) _
    have hrow := acctRow_of_halfArmed h ho
    rw [hv] at hrow
    rw [execAcctClearAll, live_powered s hp, hrow]
    obtain ⟨hcnt, hrest⟩ := acctCleared_effect s (disarm s mid) (acctCleared v)
    refine ⟨_, rfl, fun off => ?_, hrest⟩
    have hmem : off ∈ acctCleared v ↔ (0x7000 ≤ off ∧ off < 0x7800 ∧ off % 8 = 0) ∨ off = 0x7808 ∨ off = 0x7810 := by
      simp only [acctCleared, hv, if_true, List.mem_append, mem_allLaneCounters, List.mem_cons, List.not_mem_nil, or_false]
    simp only [hcnt off, hmem]
    rfl
  · change execCalibrate mid s = _
    rw [execCalibrate, live_powered s hp, ownerOnly_owner _ ha ho]
    rfl

end Sys2Proof.Proofs
end

section
/-!
PROOF. A master's reset (R53, R75, R103): what it does to right of way, and channel by channel.
-/
namespace Sys2Proof.Proofs

open Sys2Proof Sys2Proof.Machine Sys2Proof.Safety Sys2Proof.Laws

/-- Two states whose channels are the same master's, with the same tickets, and the same page commands. -/
structure SameUse (s t : State) : Prop where
  pages : t.pages = s.pages
  chan : ∀ c, (chanAt t c).pinned = (chanAt s c).pinned ∧ (chanAt t c).holder = (chanAt s c).holder ∧
    (chanAt t c).sender = (chanAt s c).sender ∧ (chanAt t c).bound = (chanAt s c).bound ∧ (chanAt t c).tickets = (chanAt s c).tickets

theorem sameUse_of_eq {s t : State} (hp : t.pages = s.pages) (hm : t.mbox = s.mbox) : SameUse s t :=
  ⟨hp, fun c => by simp [chanAt, hm]⟩

theorem sameUse_of_ownerChange {s t : State} {own : Own} (h : OwnerChange s t own) : SameUse s t :=
  ⟨by have := congrArg State.pages h.rest; exact this, fun c => by rw [h.bells]; dsimp only; split <;> simp [stampsGone]⟩

theorem resetOwner_sameUse (s : State) (m : Mid) : SameUse s (resetOwner s m) := by
  unfold resetOwner
  split
  · exact sameUse_of_ownerChange (vacate_ownerChange s)
  · split
    · exact sameUse_of_eq rfl rfl
    · split
      · exact sameUse_of_eq rfl rfl
      · exact sameUse_of_eq rfl rfl

/-- A master's reset leaves who is in reset and which halves are armed to its first step. -/
theorem resetOwner_frame (s : State) (m : Mid) :
    (resetOwner s m).own.inReset = s.own.inReset ∧ (resetOwner s m).cfg.armed = s.cfg.armed := by
  unfold resetOwner
  split
  · rw [(vacate_ownerChange s).own, (vacate_ownerChange s).shadows]
    exact ⟨rfl, rfl⟩
  · split
    · exact ⟨rfl, rfl⟩
    · split <;> exact ⟨rfl, rfl⟩

theorem resetOwner_owner {s : State} {m : Mid} (h : isOwner s m = true) : resetOwner s m = vacate s := if_pos h

theorem resetOwner_successor {s : State} {m : Mid} (ho : isOwner s m = false) (hp : s.own.phase = .handover) (hs : s.own.successor = m) :
    resetOwner s m = { s with own := { s.own with phase := .owned, successor := 0, remaining := 0 } } := by
  simp [resetOwner, ho, hp, hs]

theorem resetOwner_claimant {s : State} {m : Mid} (hp : s.own.phase = .window) :
    resetOwner s m = { s with own := { s.own with claims := s.own.claims.filter (fun x => decide (x ≠ m)) } } := by
  simp [resetOwner, isOwner, hp]

/-- A channel as if unused, but for its binding and the notices lost. -/
def Unused (v : Channel) : Prop :=
  v.compose = [] ∧ v.waiting = [] ∧ v.running = none ∧ v.responses = [] ∧ v.notices = [] ∧ v.tickets = [] ∧ v.mask = 0 ∧ v.holder = none

theorem unused_default : Unused {} := ⟨rfl, rfl, rfl, rfl, rfl, rfl, rfl, rfl⟩

/-- With no page command there is none to cancel. -/
theorem cancelPages_nil (w : Caller) {s : State} (h : s.pages = []) : cancelPages w s = s := by
  cases s
  cases h
  rfl

/-- A channel without tickets reset: it is as if unused, and no other channel changes. -/
structure ChannelReset (s t : State) (c : Nat) : Prop where
  own : t.own = s.own
  cfg : t.cfg = s.cfg
  pages : t.pages = []
  same : Unused (chanAt t c)
  other : ∀ d, d ≠ c → chanAt t d = chanAt s d

theorem resetChannel_reset {s : State} {c : Nat} (hp : s.pages = []) (ht : (chanAt s c).tickets = []) :
    ChannelReset s (resetChannel s c) c := by
  unfold resetChannel
  simp only [ht, List.filter_nil, List.map_nil, List.foldl_nil, cancelPages_nil _ hp]
  exact { own := rfl, cfg := rfl, pages := congrArg (List.map _) hp
          same := by simp [Unused]
          other := fun d hd => chanAt_setChan_ne _ _ hd }

/-- Several channels without tickets reset. -/
theorem foldl_resetChannel (cs : List Nat) (s : State) (hp : s.pages = []) (ht : ∀ c ∈ cs, (chanAt s c).tickets = []) :
    (cs.foldl resetChannel s).own = s.own ∧ (cs.foldl resetChannel s).cfg = s.cfg ∧
    (∀ c ∈ cs, Unused (chanAt (cs.foldl resetChannel s) c)) ∧ ∀ c ∉ cs, chanAt (cs.foldl resetChannel s) c = chanAt s c := by
  induction cs generalizing s with
  | nil => exact ⟨rfl, rfl, fun c hc => absurd hc List.not_mem_nil, fun c _ => rfl⟩
  | cons d cs ih =>
    have hd := resetChannel_reset hp (ht d List.mem_cons_self)
    have ht' : ∀ c ∈ cs, (chanAt (resetChannel s d) c).tickets = [] := by
      intro c hc
      by_cases h : c = d
      · obtain ⟨-, -, -, -, -, h6, -⟩ := hd.same
        rw [h]
        exact h6
      · rw [hd.other c h]
        exact ht c (List.mem_cons_of_mem d hc)
    obtain ⟨hown, hcfg, hin, hout⟩ := ih (resetChannel s d) hd.pages ht'
    rw [List.foldl_cons]
    refine ⟨hown.trans hd.own, hcfg.trans hd.cfg, fun c hc => ?_, fun c hc => ?_⟩
    · by_cases h : c ∈ cs
      · exact hin c h
      · rw [hout c h, (List.mem_cons.1 hc).resolve_right h]
        exact hd.same
    · rw [List.mem_cons, not_or] at hc
      obtain ⟨hcd, hcs⟩ := hc
      rw [hout c hcs, hd.other c hcd]

theorem chanAt_resetWatched (s : State) (d c : Nat) : chanAt (resetWatched s d) c =
    if c = d then { chanAt s c with responses := [], notices := [], latched := 0, mask := 0 } else chanAt s c := by
  rw [resetWatched, chanAt_setChan]
  split
  · next h => rw [h]
  · rfl

/-- The channels that the master only watches: an unused one stays unused. -/
theorem foldl_resetWatched (cs : List Nat) (s : State) :
    (cs.foldl resetWatched s).own = s.own ∧ (cs.foldl resetWatched s).cfg = s.cfg ∧
    ∀ c, Unused (chanAt s c) → Unused (chanAt (cs.foldl resetWatched s) c) := by
  induction cs generalizing s with
  | nil => exact ⟨rfl, rfl, fun c h => h⟩
  | cons d cs ih =>
    obtain ⟨hown, hcfg, hch⟩ := ih (resetWatched s d)
    rw [List.foldl_cons]
    refine ⟨hown, hcfg, fun c h => hch c ?_⟩
    rw [chanAt_resetWatched]
    split
    · obtain ⟨h1, h2, h3, h4, h5, h6, h7, h8⟩ := h
      exact ⟨h1, h2, h3, rfl, rfl, h6, rfl, h8⟩
    · exact h

/-- The first step of a master's reset: no half of it is armed, and it reaches no register. -/
def resetBegun (s : State) (m : Mid) : State :=
  disarm { s with own := { s.own with inReset := s.own.inReset.filter (fun x => decide (x ≠ m)) ++ [m] } } m

/-- Whether a channel is the master's own. -/
def MineAt (s : State) (m : Mid) (c : Nat) : Prop :=
  if isDirect c then directHolder (chanAt s c) = some m else (chanAt s c).bound = true ∧ (chanAt s c).sender = m

theorem mineAt_of_sameUse {s t : State} (h : SameUse s t) (m : Mid) (c : Nat) : MineAt t m c ↔ MineAt s m c := by
  obtain ⟨h1, h2, h3, h4, -⟩ := h.chan c
  simp [MineAt, directHolder, h1, h2, h3, h4]

/-- The model's test for a master's own channel. -/
def ownsChannel (s : State) (m : Mid) (c : Nat) : Bool :=
  if isDirect c then decide (directHolder (chanAt s c) = some m) else (chanAt s c).bound && decide ((chanAt s c).sender = m)

theorem ownsChannel_iff (s : State) (m : Mid) (c : Nat) : ownsChannel s m c = true ↔ MineAt s m c := by
  unfold ownsChannel MineAt
  split <;> simp

/-- The model's test for a channel that the master only watches. -/
def watchesChannel (s : State) (m : Mid) (c : Nat) : Bool :=
  !isDirect c && (chanAt s c).bound && decide ((chanAt s c).watcher = m) && !ownsChannel s m c

/-- Right of way after the first step of a master's reset. -/
def resetOwned (s : State) (m : Mid) : State := resetOwner (resetBegun s m) m

theorem masterReset_eq (s : State) (m : Mid) : masterReset s m =
    (channelsWhere (resetOwned s m) (watchesChannel (resetOwned s m) m)).foldl resetWatched
      ((channelsWhere (resetOwned s m) (ownsChannel (resetOwned s m) m)).foldl resetChannel (resetOwned s m)) := rfl

theorem resetOwned_sameUse (s : State) (m : Mid) : SameUse s (resetOwned s m) := by
  have h := resetOwner_sameUse (resetBegun s m) m
  exact ⟨h.pages, h.chan⟩

/-- A master's reset: right of way as `resetOwner` leaves it, its own channels unused. -/
theorem masterReset_effect {s : State} {m : Mid} (hp : s.pages = [])
    (ht : ∀ c, directHolder (chanAt s c) = some m ∨ (chanAt s c).sender = m → (chanAt s c).tickets = []) :
    (masterReset s m).own = (resetOwned s m).own ∧ (masterReset s m).cfg = (resetOwned s m).cfg ∧
    ∀ c, MineAt s m c → Unused (chanAt (masterReset s m) c) := by
  have hu : SameUse s (resetOwned s m) := resetOwned_sameUse s m
  have htick (c : Nat) (h : ownsChannel (resetOwned s m) m c = true) : (chanAt (resetOwned s m) c).tickets = [] := by
    obtain ⟨-, -, -, -, h5⟩ := hu.chan c
    rw [h5]
    refine ht c ?_
    rw [ownsChannel_iff, mineAt_of_sameUse hu, MineAt] at h
    split at h
    · exact .inl h
    · exact .inr h.2
  obtain ⟨hown, hcfg, hin, hout⟩ := foldl_resetChannel (channelsWhere (resetOwned s m) (ownsChannel (resetOwned s m) m)) (resetOwned s m)
    (hu.pages.trans hp) (fun c hc => htick c (List.mem_filter.1 hc).2)
  obtain ⟨hown', hcfg', hkeep⟩ := foldl_resetWatched (channelsWhere (resetOwned s m) (watchesChannel (resetOwned s m) m))
    ((channelsWhere (resetOwned s m) (ownsChannel (resetOwned s m) m)).foldl resetChannel (resetOwned s m))
  rw [masterReset_eq]
  refine ⟨hown'.trans hown, hcfg'.trans hcfg, fun c hc => hkeep c ?_⟩
  by_cases hm : c ∈ (resetOwned s m).mbox.map Prod.fst
  · exact hin c (List.mem_filter.2 ⟨hm, (ownsChannel_iff _ m c).2 ((mineAt_of_sameUse hu m c).2 hc)⟩)
  · rw [hout c (fun h => hm (List.mem_filter.1 h).1), chanAt, tget_of_notMem ({} : Channel) _ hm]
    exact unused_default

theorem exec_resetAsserted {s : State} (hp : powered s = true) (mid : Mid) :
    exec (.resetAsserted mid) s = .next (ended s (Machine.masterReset (reqFell s pMasterEvent) mid)) :=
  live_powered (f := fun s => Machine.masterReset (reqFell s pMasterEvent) mid) s hp

theorem exec_resetReleased {s : State} (hp : powered s = true) (mid : Mid) : exec (.resetReleased mid) s =
    .next (ended s { reqFell s pMasterEvent with own := { s.own with inReset := s.own.inReset.filter (fun m => decide (m ≠ mid)) } }) :=
  live_powered (f := fun s => { reqFell s pMasterEvent with own := { (reqFell s pMasterEvent).own with
    inReset := (reqFell s pMasterEvent).own.inReset.filter (fun m => decide (m ≠ mid)) } }) s hp

/-- Settles O17: by what becomes of right of way, and of the channels one by one. -/
theorem masterReset : Obligations.MasterReset := by
  unfold Obligations.MasterReset
  intro s mid hp hpg ht
  obtain ⟨hown, hcfg, hch⟩ := masterReset_effect (s := reqFell s pMasterEvent) (m := mid) hpg ht
  obtain ⟨hres, harm⟩ := resetOwner_frame (resetBegun (reqFell s pMasterEvent) mid) mid
  refine ⟨⟨_, exec_resetAsserted hp mid, ?_, ?_, fun ho => ?_, fun h1 h2 h3 => ?_, fun hw => ?_, fun c hc => hch c hc⟩,
    exec_resetReleased hp mid⟩
  · change (!(Machine.masterReset (reqFell s pMasterEvent) mid).own.inReset.contains mid) = false
    rw [hown, resetOwned, hres]
    simp [resetBegun, disarm]
  · change tfind (Machine.masterReset (reqFell s pMasterEvent) mid).cfg.armed mid.toNat = none
    rw [hcfg, resetOwned, harm]
    exact tfind_tdel_same _ _
  · have h := (vacate_ownerChange (resetBegun (reqFell s pMasterEvent) mid)).own
    rw [resetOwned, resetOwner_owner (s := resetBegun (reqFell s pMasterEvent) mid) ho, h] at hown
    change (Machine.masterReset (reqFell s pMasterEvent) mid).own.mid = 0 ∧ (Machine.masterReset (reqFell s pMasterEvent) mid).own.phase = _ ∧
      (Machine.masterReset (reqFell s pMasterEvent) mid).own.remaining = _ ∧ (Machine.masterReset (reqFell s pMasterEvent) mid).own.gen = _
    rw [hown]
    exact ⟨rfl, rfl, rfl, rfl⟩
  · rw [resetOwned, resetOwner_successor (s := resetBegun (reqFell s pMasterEvent) mid) h3 h1 h2] at hown
    change (Machine.masterReset (reqFell s pMasterEvent) mid).own.phase = _ ∧ (Machine.masterReset (reqFell s pMasterEvent) mid).own.mid = _ ∧
      (Machine.masterReset (reqFell s pMasterEvent) mid).own.gen = _
    rw [hown]
    exact ⟨rfl, rfl, rfl⟩
  · rw [resetOwned, resetOwner_claimant (s := resetBegun (reqFell s pMasterEvent) mid) hw] at hown
    change mid ∉ (Machine.masterReset (reqFell s pMasterEvent) mid).own.claims ∧
      (Machine.masterReset (reqFell s pMasterEvent) mid).own.gen = _ ∧
      ∀ m, m ≠ mid → (m ∈ (Machine.masterReset (reqFell s pMasterEvent) mid).own.claims ↔ _)
    rw [hown]
    refine ⟨by simp, rfl, fun m hm => ?_⟩
    simp only [List.mem_filter, decide_eq_true_eq, hm, ne_eq, not_false_eq_true, and_true]
    rfl

end Sys2Proof.Proofs
end

section
/-!
PROOF. The update strobe (R55, R56, R88, R157, R158): what each group does to the registers, and the eight of them together.
-/
namespace Sys2Proof.Proofs

open Sys2Proof Sys2Proof.Machine Sys2Proof.Safety Sys2Proof.Laws

/-! ### Shadowed registers written -/

theorem shadowReg_setShadow (s : State) (k o : Nat) (v : W32) :
    shadowReg (setShadow s k v) o = if o = k then v else shadowReg s o := by
  unfold shadowReg setShadow
  split
  · next h => rw [h]; exact tget_tset_same _ _ _ _
  · next h =>
    change tget (regElse o) (tset (regElse k) s.cfg.shadow k v) o = _
    rw [tget_eq, tget_eq, tset]
    split
    · rw [tfind_tdel_ne _ h]
    · rw [tfind_tput_ne _ _ h]

theorem activeReg_setShadow (s : State) (k o : Nat) (v : W32) : activeReg (setShadow s k v) o = activeReg s o := rfl

theorem shadowReg_setBoth (s : State) (k o : Nat) (v : W32) : shadowReg (setBoth s k v) o = if o = k then v else shadowReg s o :=
  shadowReg_setShadow s k o v

theorem activeReg_setBoth (s : State) (k o : Nat) (v : W32) : activeReg (setBoth s k v) o = if o = k then v else activeReg s o := by
  have h := shadowReg_setShadow { s with cfg := { s.cfg with shadow := s.cfg.active } } k o v
  exact h

/-- Shadows returned to the active values. -/
theorem foldl_returnShadow (offs : List Nat) (s : State) : ∃ sh,
    offs.foldl (fun t o => setShadow t o (activeReg t o)) s = { s with cfg := { s.cfg with shadow := sh } } ∧
    ∀ o, tget (regElse o) sh o = if o ∈ offs then activeReg s o else shadowReg s o := by
  induction offs generalizing s with
  | nil => exact ⟨s.cfg.shadow, rfl, fun o => rfl⟩
  | cons k offs ih =>
    obtain ⟨sh, heq, hsh⟩ := ih (setShadow s k (activeReg s k))
    refine ⟨sh, heq, fun o => ?_⟩
    rw [hsh, activeReg_setShadow, shadowReg_setShadow]
    by_cases h : o ∈ offs <;> by_cases hk : o = k <;> simp [h, hk]

/-- Shadows taken into the active values. -/
theorem foldl_takeShadow (offs : List Nat) (s : State) : ∃ sh ac,
    offs.foldl (fun t o => setBoth t o (shadowReg t o)) s = { s with cfg := { s.cfg with shadow := sh, active := ac } } ∧
    ∀ o, tget (regElse o) sh o = shadowReg s o ∧ tget (regElse o) ac o = if o ∈ offs then shadowReg s o else activeReg s o := by
  induction offs generalizing s with
  | nil => exact ⟨s.cfg.shadow, s.cfg.active, rfl, fun o => ⟨rfl, rfl⟩⟩
  | cons k offs ih =>
    obtain ⟨sh, ac, heq, hreg⟩ := ih (setBoth s k (shadowReg s k))
    refine ⟨sh, ac, heq, fun o => ?_⟩
    obtain ⟨hsh, hac⟩ := hreg o
    rw [hsh, hac, activeReg_setBoth, shadowReg_setBoth]
    by_cases h : o ∈ offs <;> by_cases hk : o = k <;> simp [h, hk]

/-! ### A register whose shadow differs -/

theorem regElse_of_notMem (t : Table W32) {o : Nat} (h : o ∉ t.map Prod.fst) : tget (regElse o) t o = regElse o :=
  tget_of_notMem _ t h

theorem mem_dirtyIn (s : State) (g o : Nat) : o ∈ dirtyIn s g ↔ groupOf o = some g ∧ shadowReg s o ≠ activeReg s o := by
  simp only [dirtyIn, dirtyOffsets, List.mem_filter, decide_eq_true_eq]
  refine ⟨fun ⟨⟨_, hd⟩, hg⟩ => ⟨hg, hd⟩, fun ⟨hg, hd⟩ => ⟨⟨?_, hd⟩, hg⟩⟩
  by_cases ha : o ∈ s.cfg.active.map Prod.fst
  · exact List.mem_append_left _ ha
  · refine List.mem_append_right _ (List.mem_filter.2 ⟨?_, by simpa using ha⟩)
    by_contra hs
    exact hd ((regElse_of_notMem _ hs).trans (regElse_of_notMem _ ha).symm)

theorem clean_of_dirtyIn_nil {s : State} {g o : Nat} (h : dirtyIn s g = []) (hg : groupOf o = some g) : shadowReg s o = activeReg s o := by
  by_contra hd
  have hm : o ∈ dirtyIn s g := (mem_dirtyIn s g o).2 ⟨hg, hd⟩
  simp [h] at hm

/-! ### One group -/

/-- What groups of P leave unchanged: the registers of the others, their REFUSED bits, and what counts the strobes. -/
structure GroupsOnly (s t : State) (P : Nat → Prop) : Prop where
  kept : ∀ o, (∀ g, groupOf o = some g → ¬P g) → activeReg t o = activeReg s o ∧ shadowReg t o = shadowReg s o
  refused : ∀ g, g < 8 → ¬P g → bit t.cfg.refused g = bit s.cfg.refused g
  layout : ¬P 0 → t.cfg.layoutRefused = s.cfg.layoutRefused ∧ t.cfg.layoutReason = s.cfg.layoutReason
  pins : t.pins = s.pins
  strobes : t.cfg.genTaken = s.cfg.genTaken ∧ t.cfg.genApplied = s.cfg.genApplied ∧ t.cfg.strobeHeld = s.cfg.strobeHeld

/-- Every register of the groups of P has taken its shadow. -/
def Taken (s t : State) (P : Nat → Prop) : Prop :=
  ∀ o g, groupOf o = some g → P g → activeReg t o = shadowReg s o ∧ shadowReg t o = shadowReg s o

theorem groupsOnly_refl (s : State) (P : Nat → Prop) : GroupsOnly s s P :=
  ⟨fun _ _ => ⟨rfl, rfl⟩, fun _ _ _ => rfl, fun _ => ⟨rfl, rfl⟩, rfl, rfl, rfl, rfl⟩

theorem groupsOnly_trans {s t u : State} {P Q R : Nat → Prop} (h1 : GroupsOnly s t P) (h2 : GroupsOnly t u Q)
    (hP : ∀ g, P g → R g) (hQ : ∀ g, Q g → R g) : GroupsOnly s u R where
  kept o ho :=
    have a := h1.kept o fun g hg hp => ho g hg (hP g hp)
    have b := h2.kept o fun g hg hq => ho g hg (hQ g hq)
    ⟨b.1.trans a.1, b.2.trans a.2⟩
  refused g hg hr := (h2.refused g hg fun hq => hr (hQ g hq)).trans (h1.refused g hg fun hp => hr (hP g hp))
  layout hr :=
    have a := h1.layout fun hp => hr (hP 0 hp)
    have b := h2.layout fun hq => hr (hQ 0 hq)
    ⟨b.1.trans a.1, b.2.trans a.2⟩
  pins := h2.pins.trans h1.pins
  strobes := by
    obtain ⟨a1, a2, a3⟩ := h1.strobes
    obtain ⟨b1, b2, b3⟩ := h2.strobes
    exact ⟨b1.trans a1, b2.trans a2, b3.trans a3⟩

theorem bit_or_twoPow_same (v : BitVec 8) {g : Nat} (h : g < 8) : bit (v ||| BitVec.ofNat 8 (2 ^ g)) g = true := by
  unfold bit
  rw [BitVec.getLsbD_or, BitVec.getLsbD_ofNat, Nat.testBit_two_pow]
  simp [h]

theorem bit_or_twoPow_ne (v : BitVec 8) {g k : Nat} (h : k ≠ g) : bit (v ||| BitVec.ofNat 8 (2 ^ g)) k = bit v k := by
  unfold bit
  rw [BitVec.getLsbD_or, BitVec.getLsbD_ofNat, Nat.testBit_two_pow]
  simp [Ne.symm h]

theorem bit_and_not_twoPow_ne (v : BitVec 8) {g k : Nat} (hk : k < 8) (h : k ≠ g) : bit (v &&& ~~~(BitVec.ofNat 8 (2 ^ g))) k = bit v k := by
  unfold bit
  rw [BitVec.getLsbD_and, BitVec.getLsbD_not, BitVec.getLsbD_ofNat, Nat.testBit_two_pow]
  simp [Ne.symm h, hk]

/-- A group with no difference. -/
theorem applyGroup_clean {s : State} {g : Nat} (h : dirtyIn s g = []) : applyGroup s g = s := by
  simp [applyGroup, h]

/-- A group refused: its registers keep their active values, and its shadows return to them. -/
theorem refuseGroup_effect (s : State) {g : Nat} (r : BitVec 8) (hg : g < 8) :
    GroupsOnly s (refuseGroup s g r (dirtyIn s g)) (· = g) ∧ bit (refuseGroup s g r (dirtyIn s g)).cfg.refused g = true ∧
    (∀ o, groupOf o = some g → activeReg (refuseGroup s g r (dirtyIn s g)) o = activeReg s o ∧
      shadowReg (refuseGroup s g r (dirtyIn s g)) o = activeReg s o) ∧
    (g = 0 → (refuseGroup s g r (dirtyIn s g)).cfg.layoutRefused = true ∧ (refuseGroup s g r (dirtyIn s g)).cfg.layoutReason = r) := by
  obtain ⟨sh, heq, hsh⟩ := foldl_returnShadow (dirtyIn s g) s
  have hreg (o : Nat) : activeReg (refuseGroup s g r (dirtyIn s g)) o = activeReg s o ∧
      shadowReg (refuseGroup s g r (dirtyIn s g)) o = if o ∈ dirtyIn s g then activeReg s o else shadowReg s o := by
    rw [← hsh, refuseGroup, heq]
    by_cases h : g = 0 <;> simp [h, activeReg, shadowReg]
  have hcfg : (refuseGroup s g r (dirtyIn s g)).cfg.refused = s.cfg.refused ||| BitVec.ofNat 8 (2 ^ g) := by
    rw [refuseGroup, heq]
    by_cases h : g = 0 <;> simp [h]
  refine ⟨⟨fun o ho => ?_, fun k hk hne => ?_, fun h0 => ?_, ?_, ?_⟩, ?_, fun o ho => ?_, fun h => ?_⟩
  · obtain ⟨ha, hs⟩ := hreg o
    refine ⟨ha, hs.trans (if_neg fun hm => ho g ((mem_dirtyIn s g o).1 hm).1 rfl)⟩
  · rw [hcfg, bit_or_twoPow_ne _ hne]
  · rw [refuseGroup, heq]
    simp [Ne.symm h0]
  · rw [refuseGroup, heq]
  · rw [refuseGroup, heq]
    by_cases h : g = 0 <;> simp [h]
  · rw [hcfg, bit_or_twoPow_same _ hg]
  · obtain ⟨ha, hs⟩ := hreg o
    refine ⟨ha, hs.trans ?_⟩
    split
    · rfl
    · next hm => exact not_not.1 fun hd => hm ((mem_dirtyIn s g o).2 ⟨ho, hd⟩)
  · rw [refuseGroup, heq]
    simp [h]

/-- A group applied that is not the relay's. -/
theorem acceptGroup_effect (s : State) {g : Nat} (h6 : g ≠ 6) :
    GroupsOnly s (acceptGroup s g (dirtyIn s g)) (· = g) ∧ Taken s (acceptGroup s g (dirtyIn s g)) (· = g) := by
  obtain ⟨sh, ac, heq, hreg⟩ := foldl_takeShadow (dirtyIn s g) s
  rw [acceptGroup, heq]
  simp only [h6, if_false]
  refine ⟨⟨fun o ho => ?_, fun k hk hne => bit_and_not_twoPow_ne _ hk hne, fun _ => ⟨rfl, rfl⟩, rfl, rfl, rfl, rfl⟩, fun o k ho hk => ?_⟩
  · obtain ⟨hs, ha⟩ := hreg o
    exact ⟨ha.trans (if_neg fun hm => ho g ((mem_dirtyIn s g o).1 hm).1 rfl), hs⟩
  · obtain ⟨hs, ha⟩ := hreg o
    refine ⟨ha.trans ?_, hs⟩
    split
    · rfl
    · next hm => exact (not_not.1 fun hd => hm ((mem_dirtyIn s g o).2 ⟨hk ▸ ho, hd⟩)).symm

/-- A group that may not be refused, or has no difference. -/
theorem applyGroup_taken (s : State) {g : Nat} (h : g = 0 ∨ g = 6 → dirtyIn s g = []) (h2 : g = 2 → bindsLane0 s = false) :
    GroupsOnly s (applyGroup s g) (· = g) ∧ Taken s (applyGroup s g) (· = g) := by
  by_cases hd : dirtyIn s g = []
  · rw [applyGroup_clean hd]
    refine ⟨groupsOnly_refl _ _, fun o k ho hk => ?_⟩
    exact ⟨(clean_of_dirtyIn_nil hd (hk ▸ ho)).symm, rfl⟩
  · have h0 : g ≠ 0 := fun e => hd (h (.inl e))
    have h6 : g ≠ 6 := fun e => hd (h (.inr e))
    have hb : ¬(g = 2 ∧ bindsLane0 s = true) := fun ⟨e, hb⟩ => by simp [h2 e] at hb
    have e : applyGroup s g = acceptGroup s g (dirtyIn s g) := by simp [applyGroup, hd, h0, hb]
    rw [e]
    exact acceptGroup_effect s h6

/-- Group 2 where a binding names lane 0. -/
theorem applyGroup_bindings {s : State} (hb : bindsLane0 s = true) (hd : dirtyIn s 2 ≠ []) :
    applyGroup s 2 = refuseGroup s 2 0 (dirtyIn s 2) := by
  simp [applyGroup, hd, hb]

/-- Whatever a group does, it does to its own registers. -/
theorem applyGroup_only (s : State) {g : Nat} (h : g = 0 ∨ g = 6 → dirtyIn s g = []) : GroupsOnly s (applyGroup s g) (· = g) := by
  by_cases hb : g = 2 ∧ bindsLane0 s = true ∧ dirtyIn s g ≠ []
  · obtain ⟨rfl, hb, hd⟩ := hb
    rw [applyGroup_bindings hb hd]
    exact (refuseGroup_effect s 0 (by decide)).1
  · by_cases hd : dirtyIn s g = []
    · rw [applyGroup_clean hd]
      exact groupsOnly_refl _ _
    · refine (applyGroup_taken s h fun h2 => ?_).1
      by_contra hbt
      exact hb ⟨h2, by simpa using hbt, hd⟩

/-! ### Several groups -/

theorem dirtyIn_nil_of_kept {s t : State} {P : Nat → Prop} (h : GroupsOnly s t P) {g : Nat} (hg : ¬P g) (hd : dirtyIn s g = []) :
    dirtyIn t g = [] := by
  rw [List.eq_nil_iff_forall_not_mem]
  intro o ho
  obtain ⟨ho, hne⟩ := (mem_dirtyIn t g o).1 ho
  obtain ⟨ha, hs⟩ := h.kept o fun k hk hp => hg (Option.some.inj (ho.symm.trans hk) ▸ hp)
  exact hne (by rw [ha, hs, clean_of_dirtyIn_nil hd ho])

/-- Groups in a row, each of them once. -/
theorem foldl_applyGroup_only (gs : List Nat) (s : State) (hn : gs.Nodup) (h : ∀ g ∈ gs, g = 0 ∨ g = 6 → dirtyIn s g = []) :
    GroupsOnly s (gs.foldl applyGroup s) (· ∈ gs) := by
  induction gs generalizing s with
  | nil => exact groupsOnly_refl _ _
  | cons g gs ih =>
    obtain ⟨hg, hn⟩ := List.nodup_cons.1 hn
    have hone := applyGroup_only s (h g List.mem_cons_self)
    refine groupsOnly_trans hone (ih _ hn fun k hk hz => ?_) (fun k hk => hk ▸ List.mem_cons_self) fun k hk => List.mem_cons_of_mem g hk
    exact dirtyIn_nil_of_kept hone (fun e => hg (e ▸ hk)) (h k (List.mem_cons_of_mem g hk) hz)

/-- Groups in a row that may not be refused take their shadows. -/
theorem foldl_applyGroup_taken (gs : List Nat) (s : State) (hn : gs.Nodup) (h : ∀ g ∈ gs, g = 0 ∨ g = 6 → dirtyIn s g = []) (h2 : 2 ∉ gs) :
    Taken s (gs.foldl applyGroup s) (· ∈ gs) := by
  induction gs generalizing s with
  | nil => exact fun o g _ hg => absurd hg List.not_mem_nil
  | cons g gs ih =>
    obtain ⟨hg, hn⟩ := List.nodup_cons.1 hn
    obtain ⟨hone, htook⟩ := applyGroup_taken s (h g List.mem_cons_self) fun e => absurd (e ▸ List.mem_cons_self) h2
    have hrest : ∀ k ∈ gs, k = 0 ∨ k = 6 → dirtyIn (applyGroup s g) k = [] := fun k hk hz =>
      dirtyIn_nil_of_kept hone (fun e => hg (e ▸ hk)) (h k (List.mem_cons_of_mem g hk) hz)
    intro o k ho hk
    rw [List.foldl_cons]
    by_cases hkg : k = g
    · have hkept := (foldl_applyGroup_only gs _ hn hrest).kept o fun j hj hm => hg (by rwa [← hkg, Option.some.inj (ho.symm.trans hj)])
      rw [hkept.1, hkept.2]
      exact htook o k ho hkg
    · have hkept := hone.kept o fun j hj e => hkg (by rw [← e]; exact Option.some.inj (ho.symm.trans hj))
      rw [← hkept.2]
      exact ih _ hn hrest (fun hm => h2 (List.mem_cons_of_mem g hm)) o k ho ((List.mem_cons.1 hk).resolve_left hkg)

theorem groupOf_binding {m : Nat} (h : m < 256) : groupOf (0x1100 + 4 * (m / 4)) = some 2 := by
  unfold groupOf
  rw [if_neg (by omega), if_neg (by omega), if_pos (by omega)]

/-- Groups other than 2 leave the bindings. -/
theorem bindsLane0_of_kept {s t : State} {P : Nat → Prop} (h : GroupsOnly s t P) (h2 : ¬P 2) : bindsLane0 t = bindsLane0 s := by
  rw [Bool.eq_iff_iff, bindsLane0, bindsLane0, List.any_eq_true, List.any_eq_true]
  refine exists_congr fun m => and_congr_right fun hm => ?_
  have ho := groupOf_binding (List.mem_range.1 hm)
  obtain ⟨-, hs⟩ := h.kept _ fun g hg hp => h2 (Option.some.inj (ho.symm.trans hg) ▸ hp)
  rw [hs]

theorem groupOf_lt {o g : Nat} (h : groupOf o = some g) : g < 8 := by
  unfold groupOf at h
  iterate 8
    split at h
    · cases h
      decide
  cases h

/-! ### A strobe taken -/

/-- The state in which the groups are applied: the strobe is counted and mirrored. -/
def strobeCounted (s : State) : State :=
  { s with cfg := { s.cfg with genTaken := s.cfg.genTaken + 1 }, pins := { s.pins with strobeOutAt := some s.pace.now } }

theorem takeStrobe_eq (s : State) : takeStrobe s = [3, 4, 5, 6, 7].foldl applyGroup (applyGroup ([0, 1].foldl applyGroup (strobeCounted s)) 2) := by
  rw [show takeStrobe s = (List.range 8).foldl applyGroup (strobeCounted s) from rfl,
    show List.range 8 = [0, 1] ++ 2 :: [3, 4, 5, 6, 7] from rfl, List.foldl_append, List.foldl_cons]

theorem takeStrobe_eq_cons (s : State) :
    takeStrobe s = [1, 2, 3, 4, 5, 6, 7].foldl applyGroup (applyGroup (strobeCounted s) 0) := by
  rw [show takeStrobe s = (List.range 8).foldl applyGroup (strobeCounted s) from rfl,
    show List.range 8 = 0 :: [1, 2, 3, 4, 5, 6, 7] from rfl, List.foldl_cons]

/-- A strobe taken while groups 0 and 6 have no difference: every register keeps to its own group. -/
theorem takeStrobe_only {s : State} (h0 : dirtyIn s 0 = []) (h6 : dirtyIn s 6 = []) :
    GroupsOnly (strobeCounted s) (takeStrobe s) (· < 8) := by
  rw [show takeStrobe s = (List.range 8).foldl applyGroup (strobeCounted s) from rfl]
  have h := foldl_applyGroup_only (List.range 8) (strobeCounted s) List.nodup_range fun g _ hg => hg.elim (fun e => e ▸ h0) fun e => e ▸ h6
  simpa only [List.mem_range] using h

/-- The registers of the groups that may not be refused, and of group 2 where no binding names lane 0 or where one does. -/
theorem takeStrobe_taken {s : State} (h0 : dirtyIn s 0 = []) (h6 : dirtyIn s 6 = []) :
    (∀ o g, groupOf o = some g → g ≠ 2 → activeReg (takeStrobe s) o = shadowReg s o ∧ shadowReg (takeStrobe s) o = shadowReg s o) ∧
    (bindsLane0 s = false → ∀ o, groupOf o = some 2 → activeReg (takeStrobe s) o = shadowReg s o) ∧
    (bindsLane0 s = true → dirtyIn s 2 ≠ [] → bit (takeStrobe s).cfg.refused 2 = true ∧
      ∀ o, groupOf o = some 2 → activeReg (takeStrobe s) o = activeReg s o ∧ shadowReg (takeStrobe s) o = activeReg s o) := by
  have hfirst : ∀ g ∈ [0, 1], g = 0 ∨ g = 6 → dirtyIn (strobeCounted s) g = [] := fun g _ hz => hz.elim (fun e => e ▸ h0) fun e => e ▸ h6
  have honly01 := foldl_applyGroup_only [0, 1] (strobeCounted s) (by decide) hfirst
  have htook01 := foldl_applyGroup_taken [0, 1] (strobeCounted s) (by decide) hfirst (by decide)
  have hbind : bindsLane0 ([0, 1].foldl applyGroup (strobeCounted s)) = bindsLane0 s :=
    (bindsLane0_of_kept honly01 (by decide)).trans rfl
  rw [takeStrobe_eq]
  generalize hb : [0, 1].foldl applyGroup (strobeCounted s) = b at honly01 htook01 hbind
  have honly2 := applyGroup_only b (g := 2) fun h => absurd h (by decide)
  have hlast : ∀ g ∈ [3, 4, 5, 6, 7], g = 0 ∨ g = 6 → dirtyIn (applyGroup b 2) g = [] := by
    intro g hg hz
    have h6' : g = 6 := hz.resolve_left fun e => by simp [e] at hg
    rw [h6']
    exact dirtyIn_nil_of_kept honly2 (by decide) (dirtyIn_nil_of_kept honly01 (by decide) h6)
  have honly37 := foldl_applyGroup_only [3, 4, 5, 6, 7] (applyGroup b 2) (by decide) hlast
  have htook37 := foldl_applyGroup_taken [3, 4, 5, 6, 7] (applyGroup b 2) (by decide) hlast (by decide)
  generalize [3, 4, 5, 6, 7].foldl applyGroup (applyGroup b 2) = t at honly37 htook37
  have hat {P : Nat → Prop} {u v : State} (h : GroupsOnly u v P) {o g : Nat} (ho : groupOf o = some g) (hg : ¬P g) :
      activeReg v o = activeReg u o ∧ shadowReg v o = shadowReg u o :=
    h.kept o fun k hk hp => hg (Option.some.inj (ho.symm.trans hk) ▸ hp)
  have hin2 (o : Nat) (ho : groupOf o = some 2) : activeReg b o = activeReg s o ∧ shadowReg b o = shadowReg s o := hat honly01 ho (by decide)
  refine ⟨fun o g ho h2 => ?_, fun hbl o ho => ?_, fun hbl hd => ?_⟩
  · by_cases h3 : g ∈ [3, 4, 5, 6, 7]
    · have hg : g ∉ [0, 1] := fun hm => by simp at h3 hm; omega
      obtain ⟨-, h1⟩ := hat honly01 ho hg
      obtain ⟨-, h4⟩ := hat honly2 ho h2
      have h5 := htook37 o g ho h3
      rw [h4, h1] at h5
      exact h5
    · have hg : g ∈ [0, 1] := by have := groupOf_lt ho; simp at h3 ⊢; omega
      obtain ⟨h5, h6⟩ := hat honly37 ho h3
      obtain ⟨h7, h8⟩ := hat honly2 ho h2
      rw [h5, h6, h7, h8]
      exact htook01 o g ho hg
  · obtain ⟨h5, -⟩ := hat honly37 ho (by decide)
    obtain ⟨h7, -⟩ := (applyGroup_taken b (g := 2) (fun h => absurd h (by decide)) fun _ => hbind.trans hbl).2 o 2 ho rfl
    rw [h5, h7, (hin2 o ho).2]
  · have hd2 : dirtyIn b 2 ≠ [] := by
      obtain ⟨o, ho⟩ := List.exists_mem_of_ne_nil _ hd
      obtain ⟨ho, hne⟩ := (mem_dirtyIn s 2 o).1 ho
      refine List.ne_nil_of_mem ((mem_dirtyIn b 2 o).2 ⟨ho, ?_⟩)
      rwa [(hin2 o ho).1, (hin2 o ho).2]
    obtain ⟨-, hbit, hreg, -⟩ := refuseGroup_effect b (g := 2) 0 (by decide)
    rw [← applyGroup_bindings (hbind.trans hbl) hd2] at hbit hreg
    refine ⟨(honly37.refused 2 (by decide) (by decide)).trans hbit, fun o ho => ?_⟩
    obtain ⟨h5, h6⟩ := hat honly37 ho (by decide)
    rw [h5, h6, ← (hin2 o ho).1]
    exact hreg o ho

theorem takeStrobe_layoutRefused {s : State} (hd : dirtyIn s 0 ≠ []) (h6 : dirtyIn s 6 = []) (hw : bits (shadowReg s 0x1008) 0 25 = 0) :
    activeReg (takeStrobe s) 0x1008 = activeReg s 0x1008 ∧ shadowReg (takeStrobe s) 0x1008 = activeReg s 0x1008 ∧
    bit (takeStrobe s).cfg.refused 0 = true ∧ (takeStrobe s).cfg.layoutRefused = true ∧ (takeStrobe s).cfg.layoutReason = stBadField := by
  have hw' : bits (shadowReg (strobeCounted s) 0x1008) 0 25 = 0 := hw
  have hd' : dirtyIn (strobeCounted s) 0 ≠ [] := hd
  have h1 : applyGroup (strobeCounted s) 0 = refuseGroup (strobeCounted s) 0 stBadField (dirtyIn (strobeCounted s) 0) := by
    simp [applyGroup, hd', layoutRefusal, hw']
  obtain ⟨honly, hbit, hreg, hlay⟩ := refuseGroup_effect (strobeCounted s) (g := 0) stBadField (by decide)
  rw [takeStrobe_eq_cons, h1]
  have hrest := foldl_applyGroup_only [1, 2, 3, 4, 5, 6, 7] (refuseGroup (strobeCounted s) 0 stBadField (dirtyIn (strobeCounted s) 0))
    (by decide) fun g hg hz => by
      have hg6 : g = 6 := hz.resolve_left fun e => by simp [e] at hg
      rw [hg6]
      exact dirtyIn_nil_of_kept honly (by decide) h6
  have hg0 : groupOf 0x1008 = some 0 := rfl
  obtain ⟨ha, hs⟩ := hrest.kept 0x1008 fun k hk hm => by
    rw [← Option.some.inj (hg0.symm.trans hk)] at hm
    simp at hm
  obtain ⟨hl1, hl2⟩ := hrest.layout (by decide)
  obtain ⟨hr1, hr2⟩ := hreg 0x1008 hg0
  obtain ⟨hr3, hr4⟩ := hlay rfl
  rw [ha, hs, hrest.refused 0 (by decide) (by decide), hl1, hl2]
  exact ⟨hr1, hr2, hbit, hr3, hr4⟩

/-! ### The commands -/

theorem exec_strobe {s : State} {mid : Mid} (bus : Bus) (hp : powered s = true) (ha : canAct s mid = true) (ho : isOwner s mid = true)
    (hb : applying s = false) : exec (.strobe mid bus) s = .next (ended s (ctlWrote (takeStrobe { s with bus := bus }))) := by
  change onBus s bus (ownerOnly mid strobe) = _
  have ha' : canAct { s with bus := bus } mid = true := ha
  have ho' : isOwner { s with bus := bus } mid = true := ho
  have hb' : applying { s with bus := bus } = false := hb
  rw [onBus_powered s hp]
  simp [ownerOnly, ha', ho', strobe, hb']

theorem exec_updateStrobeIn {s : State} (bus : Bus) (hp : powered s = true) : exec (.updateStrobeIn bus) s =
    .next (ended s (if isEcho s then { s with bus := bus } else strobe { s with bus := bus })) := by
  change onBus s bus (fun s => if isEcho s then s else strobe s) = _
  rw [onBus_powered s hp]
  rfl

theorem exec_strobeApplied {s : State} (hp : powered s = true) (h : applying s = true) :
    exec .strobeApplied s = .next (ended s (strobeApplied s)) := by
  change live s (fun s => if applying s then strobeApplied s else s) = _
  rw [live_powered s hp, if_pos h]

/-- Settles O20: group by group, since what a group does stays with its own registers. -/
theorem strobeApplies : Obligations.StrobeApplies := by
  unfold Obligations.StrobeApplies
  intro s mid bus hp
  refine ⟨fun ha ho hb h0 h6 => ?_, fun ha ho hb h0 h6 hw => ?_, fun hb he => ?_, fun he => ?_, fun he hb h0 h6 => ?_, fun hb hh => ?_,
    fun hb hh h0 h6 => ?_⟩
  · refine ⟨_, exec_strobe bus hp ha ho hb, ?_⟩
    have hone := takeStrobe_only (s := { s with bus := bus }) h0 h6
    obtain ⟨hg, h2, h2'⟩ := takeStrobe_taken (s := { s with bus := bus }) h0 h6
    generalize takeStrobe { s with bus := bus } = t at hone hg h2 h2' ⊢
    exact ⟨hone.strobes.1, congrArg Pins.strobeOutAt hone.pins, hg, h2, h2'⟩
  · refine ⟨_, exec_strobe bus hp ha ho hb, ?_⟩
    have hl := takeStrobe_layoutRefused (s := { s with bus := bus }) h0 h6 hw
    generalize takeStrobe { s with bus := bus } = t at hl ⊢
    exact hl
  · have hb' : applying { s with bus := bus } = true := hb
    rw [exec_updateStrobeIn bus hp, he, if_neg (by decide), strobe, if_pos hb']
    rfl
  · rw [exec_updateStrobeIn bus hp, if_pos he]
    rfl
  · refine ⟨_, exec_updateStrobeIn bus hp, ?_⟩
    have hb' : ¬applying { s with bus := bus } = true := by rw [show applying { s with bus := bus } = applying s from rfl, hb]; decide
    rw [he, if_neg (by decide), strobe, if_neg hb']
    have hone := takeStrobe_only (s := { s with bus := bus }) h0 h6
    generalize takeStrobe { s with bus := bus } = t at hone ⊢
    exact ⟨hone.strobes.1, congrArg Pins.strobeOutAt hone.pins⟩
  · rw [exec_strobeApplied hp hb, strobeApplied, if_neg (by rw [hh]; decide)]
    exact congrArg (fun h => Host.Outcome.next (ended s { s with cfg := { s.cfg with genApplied := s.cfg.genTaken, strobeHeld := h } })) hh.symm
  · refine ⟨_, exec_strobeApplied hp hb, ?_⟩
    rw [strobeApplied, if_pos hh]
    obtain ⟨ht, ha, hs⟩ := (takeStrobe_only (s := { s with cfg := { s.cfg with genApplied := s.cfg.genTaken, strobeHeld := false } }) h0 h6).strobes
    generalize takeStrobe { s with cfg := { s.cfg with genApplied := s.cfg.genTaken, strobeHeld := false } } = t at ht ha hs ⊢
    exact ⟨ha, ht, hs⟩

end Sys2Proof.Proofs
end

section
/-!
PROOF. One pace (R73, R107, R108, R114, R115, R230, R232): the units that have no work are left, the arbiter and the regulators act.
-/
namespace Sys2Proof.Proofs

open Sys2Proof Sys2Proof.Machine Sys2Proof.Safety Sys2Proof.Laws

/-! ### The custody path at rest -/

theorem settleBroken_nil {s : State} (h : s.tree.broken = []) : settleBroken s = s := by
  rw [settleBroken, h, List.foldl_nil, ← h]

theorem settleLost_nil {s : State} (h : NoneLost s) : settleLost s = (0, s) := by
  obtain ⟨hl, hb⟩ := h
  rw [settleLost, settleBroken_nil hb]
  simp [hl]

theorem settleReqs_nil {s : State} (h : s.cust.reqs = []) : settleReqs s = s := by
  rw [settleReqs, settleSteps, h]
  rfl

/-- A custody path with nothing in it has nothing to settle. -/
theorem settle_idle {s : State} (h : CustodyIdle s) : settle s = s := by
  obtain ⟨hr, hh, hl⟩ := h
  rw [settle, settleLost_nil hl, settleReqs_nil hr]
  have hdrain (ch : Fin 4) : drainHeld ch (inChan s ch.val).held.length s = s := by rw [hh ch]; rfl
  simp only [List.foldl_cons, List.foldl_nil, hdrain]

/-! ### The regulators -/

theorem laneAt_setLane (s : State) (l k : Nat) (v : Lane) : laneAt (setLane s l v) k = if k = l then v else laneAt s k := by
  by_cases h : k = l
  · rw [h, laneAt_setLane_same, if_pos rfl]
  · rw [laneAt_setLane_ne _ _ h, if_neg h]

/-- A lane after a pace boundary. -/
def refilled (s : State) (l : Nat) : Lane :=
  let v := laneAt s l
  let r := activeReg s (0x1400 + 16 * l)
  let burst : Int := (bits r 16 16 : Nat)
  let t : Int := if bit r 12 && bit v.reg 12 then min burst (v.tokens + (bits r 0 12 : Nat)) else burst
  let paid := if bit r 12 then min v.owed t.toNat else v.owed
  if !bit r 12 ∧ v.reg = r ∧ v.owed = 0 then v
  else { v with reg := r, tokens := if bit r 12 then t - paid else t, owed := v.owed - paid }

theorem refill_eq (s : State) (l : Nat) : ∃ ls, refill s l = { s with lanes := ls } ∧
    ∀ k, laneAt { s with lanes := ls } k = if k = l then refilled s l else laneAt s k := by
  unfold refill refilled
  dsimp only
  split
  · refine ⟨s.lanes, rfl, fun k => ?_⟩
    split
    · next h => rw [h]
    · rfl
  · exact ⟨_, rfl, fun k => laneAt_setLane s l k _⟩

/-- Regulators in a row, each of them once. -/
theorem foldl_refill (ls : List Nat) (s : State) (hn : ls.Nodup) : ∃ t, ls.foldl refill s = { s with lanes := t } ∧
    ∀ k, laneAt { s with lanes := t } k = if k ∈ ls then refilled s k else laneAt s k := by
  induction ls generalizing s with
  | nil => exact ⟨s.lanes, rfl, fun k => rfl⟩
  | cons l ls ih =>
    obtain ⟨hl, hn⟩ := List.nodup_cons.1 hn
    obtain ⟨t1, h1, hlane1⟩ := refill_eq s l
    obtain ⟨t2, h2, hlane2⟩ := ih { s with lanes := t1 } hn
    refine ⟨t2, by rw [List.foldl_cons, h1, h2], fun k => ?_⟩
    have hk := hlane2 k
    rw [show laneAt { s with lanes := t2 } k = laneAt { { s with lanes := t1 } with lanes := t2 } k from rfl, hk]
    by_cases hkl : k ∈ ls
    · have hne : k ≠ l := fun e => hl (e ▸ hkl)
      have hsame : laneAt { s with lanes := t1 } k = laneAt s k := (hlane1 k).trans (if_neg hne)
      have hreg : activeReg { s with lanes := t1 } (0x1400 + 16 * k) = activeReg s (0x1400 + 16 * k) := rfl
      rw [if_pos hkl, if_pos (List.mem_cons_of_mem l hkl), refilled, hsame, hreg]
      rfl
    · rw [if_neg hkl, hlane1 k]
      by_cases hkl' : k = l <;> simp [hkl, hkl']

theorem refilled_reg (s : State) (l : Nat) : (refilled s l).reg = activeReg s (0x1400 + 16 * l) ∧ (refilled s l).state = (laneAt s l).state := by
  unfold refilled
  dsimp only
  split
  · next h => exact ⟨h.2.1, rfl⟩
  · exact ⟨rfl, rfl⟩

theorem refilled_tokens {s : State} {l : Nat} (h : bit (activeReg s (0x1400 + 16 * l)) 12 = true) :
    let r := activeReg s (0x1400 + 16 * l)
    let full : Int := if bit (laneAt s l).reg 12 then min (bits r 16 16 : Int) ((laneAt s l).tokens + (bits r 0 12 : Nat)) else (bits r 16 16 : Nat)
    (refilled s l).tokens = full - min (laneAt s l).owed full.toNat ∧
    (refilled s l).owed = (laneAt s l).owed - min (laneAt s l).owed full.toNat := by
  simp [refilled, h]

/-! ### The arbiter -/

/-- An evaluation writes the grants and counts. -/
theorem evaluate_eq (s : State) : ∃ p c, evaluate s = { s with power := p, cnt := c } ∧
    p.effective = BitVec.ofNat 10 (effectiveBudget s) ∧ p.granted = BitVec.ofNat 10 (18 + (grants s).custody + poolSum (grants s).pool) ∧
    p.custody = BitVec.ofNat 10 (grants s).custody := by
  unfold evaluate
  dsimp only
  split <;> exact ⟨_, _, rfl, rfl, rfl, rfl⟩

theorem effectiveBudget_lt (s : State) : effectiveBudget s < 1024 := by
  unfold effectiveBudget
  dsimp only
  omega

theorem granted_lt (s : State) : 18 + (grants s).custody + poolSum (grants s).pool < 1024 := by
  have hb := effectiveBudget_lt s
  by_cases h : effectiveBudget s < ceilDiv (standingMw s) 4 + 22
  · rw [grants_short h]
    exact Nat.lt_of_sub_pos (Nat.succ_pos 1001)
  · have hg := grants_enough (Nat.not_lt.1 h)
    dsimp only at hg
    rw [hg]
    dsimp only
    have hpool := poolSum_poolSplit_le s (min (effectiveBudget s - ceilDiv (standingMw s) 4 - 18 -
      min (min (custodyDemand s) (effectiveBudget s - ceilDiv (standingMw s) 4 - 18)) (s.power.granted.toNat + 16 - 18))
      (s.power.granted.toNat + 16 - 18 -
      min (min (custodyDemand s) (effectiveBudget s - ceilDiv (standingMw s) 4 - 18)) (s.power.granted.toNat + 16 - 18)))
    generalize poolSum _ = n at hpool ⊢
    omega

/-! ### What a pace does in a quiet block -/

/-- The elapsed-pace count, the trim and the owner's timer. -/
theorem advance_eq (s : State) : ∃ p, advance s = { s with pace := p, own := { s.own with remaining := s.own.remaining - (if s.own.remaining = 0 then 0 else 1) } } ∧
    p.periods = s.pace.newPeriods.getD s.pace.periods ∧ p.newPeriods = none ∧
    p.vddMv = s.pace.vddMv ∧ p.tj = s.pace.tj ∧ p.calibrated = s.pace.calibrated := by
  unfold advance
  dsimp only
  split
  · next h => exact ⟨_, rfl, by simp [h], rfl, rfl, rfl, rfl⟩
  · next h => exact ⟨_, rfl, by simp [h], h, rfl, rfl, rfl⟩

/-- The grants do not look at the elapsed-pace count, the trim, the owner's timer or the alarms. -/
theorem grants_congr (s : State) (p : Pace) (o : Own) (a : Tamper) (h1 : p.vddMv = s.pace.vddMv) (h2 : p.tj = s.pace.tj)
    (h3 : p.calibrated = s.pace.calibrated) : grants { s with pace := p, own := o, tamper := a } = grants s := by
  have hst : standingMw { s with pace := p, own := o, tamper := a } = standingMw s := by simp only [standingMw, h1, h2]
  have hpe : permitEnergy { s with pace := p, own := o, tamper := a } = permitEnergy s := by simp only [permitEnergy, h3]
  have hle (c : CustClass) : lineEnergy { s with pace := p, own := o, tamper := a } c = lineEnergy s c := by
    cases c <;> simp only [lineEnergy, h1]
  have hru : rnsUnit { s with pace := p, own := o, tamper := a } = rnsUnit s := by simp only [rnsUnit, h1]
  have hdu : digestUnit { s with pace := p, own := o, tamper := a } = digestUnit s := by simp only [digestUnit, h1]
  have hlu : relayUnit { s with pace := p, own := o, tamper := a } = relayUnit s := by simp only [relayUnit, h1]
  have hcd : custodyDemand { s with pace := p, own := o, tamper := a } = custodyDemand s := by
    have hre : reqEnergy { s with pace := p, own := o, tamper := a } = reqEnergy s := funext fun r => by simp only [reqEnergy, hle]
    simp only [custodyDemand, permitsFor, hpe, hre]
    rfl
  have hpr : poolRequests { s with pace := p, own := o, tamper := a } = poolRequests s := by
    simp only [poolRequests, permitsFor, hpe, hru, hdu, hlu]
    rfl
  have hps (n : Nat) : poolSplit { s with pace := p, own := o, tamper := a } n = poolSplit s n := by
    unfold poolSplit
    rw [hpr]
    rfl
  simp only [grants, hst, hcd, hps]
  rfl

/-- No job of the RNS engine has its pace covered: none holds the lanes. -/
theorem rnsPace_eq {s : State} (h : s.rns.lanes = none) : ∃ js, rnsPace s = { s with rns := { s.rns with jobs := js } } := by
  unfold rnsPace
  simp only [h]
  exact ⟨_, rfl⟩

theorem foldl_corePace {s : State} (cs : List DCore) (h : ∀ c ∈ cs, c.slot = none) : cs.foldl corePace s = s := by
  induction cs with
  | nil => rfl
  | cons c cs ih =>
    rw [List.foldl_cons, show corePace s c = s by rw [corePace, h c List.mem_cons_self]]
    exact ih fun d hd => h d (List.mem_cons_of_mem c hd)

theorem raiseBeat_none {s : State} {d : Dir} (h : (linkOf s d).wire = none) : raiseBeat d s = s := by
  simp [raiseBeat, h]

theorem enginesPace_quiet {s : State} (h : Quiet s) : ∃ js, enginesPace s = { s with rns := { s.rns with jobs := js } } := by
  obtain ⟨js, hr⟩ := rnsPace_eq h.rns
  obtain ⟨hup, hdn⟩ := h.relay
  refine ⟨js, ?_⟩
  unfold enginesPace
  have hu : raiseBeat .up { s with rns := { s.rns with jobs := js } } = { s with rns := { s.rns with jobs := js } } := raiseBeat_none hup
  have hd : raiseBeat .dn { s with rns := { s.rns with jobs := js } } = { s with rns := { s.rns with jobs := js } } := raiseBeat_none hdn
  rw [hr, foldl_corePace s.dig.cores h.digest, hu, hd]

theorem waitPaces_quiet {s : State} (h : Quiet s) : waitPaces s = s := by
  obtain ⟨hw, -, -⟩ := h.keys
  obtain ⟨ho, -, -⟩ := h.storage
  simp [waitPaces, hw, ho]

theorem waitersPace_quiet {s : State} (h : Quiet s) : waitersPace s = s := by
  obtain ⟨-, hk, hs⟩ := h.keys
  obtain ⟨-, hg, ha⟩ := h.storage
  simp only [waitersPace, resumeLoad, h.loader, stageResume, hg, activateResume, ha, serveOpen, h.opens, kumStep, hk, sleepStep, hs]

theorem pageTurns_nil {s : State} (h : s.pages = []) : pageTurns s = s := by
  simp [pageTurns, h]

/-- In a quiet block a pace is the arbiter's and the regulators'; the RNS engine's jobs alone are looked at besides. -/
theorem paceWork_quiet {s : State} (h : Quiet s) : ∃ js ls p c,
    paceWork s = { alarmsEnd (advance s) with power := p, cnt := c, lanes := ls, rns := { s.rns with jobs := js } } ∧
    (∀ k, laneAt { s with lanes := ls } k = if k ∈ List.range 64 then refilled s k else laneAt s k) ∧
    p.effective = BitVec.ofNat 10 (effectiveBudget s) ∧ p.granted = BitVec.ofNat 10 (18 + (grants s).custody + poolSum (grants s).pool) ∧
    p.custody = BitVec.ofNat 10 (grants s).custody := by
  obtain ⟨q, hadv, -, -, hmv, htj, hcal⟩ := advance_eq s
  obtain ⟨p, c, hev, h1, h2, h3⟩ := evaluate_eq (alarmsEnd (advance s))
  obtain ⟨ls, href, hlane⟩ := foldl_refill (List.range 64) (evaluate (alarmsEnd (advance s))) List.nodup_range
  rw [hev] at href hlane
  rw [hadv] at h1 h2 h3
  have hg := grants_congr s q { s.own with remaining := s.own.remaining - (if s.own.remaining = 0 then 0 else 1) }
    { s.tamper with glitch := false, vaultUv := false } hmv htj hcal
  have hq : Quiet { alarmsEnd (advance s) with power := p, cnt := c, lanes := ls } := by
    rw [hadv]
    exact ⟨h.custody, h.pages, h.loader, h.rns, h.digest, h.storage, h.keys, h.opens, h.relay⟩
  obtain ⟨js, hen⟩ := enginesPace_quiet hq
  have hq2 : Quiet { alarmsEnd (advance s) with power := p, cnt := c, lanes := ls, rns := { s.rns with jobs := js } } := by
    rw [hadv]
    exact ⟨h.custody, h.pages, h.loader, h.rns, h.digest, h.storage, h.keys, h.opens, h.relay⟩
  have hrns : (alarmsEnd (advance s)).rns = s.rns := by rw [hadv]; rfl
  refine ⟨js, ls, p, c, ?_, ?_, h1, ?_, ?_⟩
  · rw [paceWork, refillAll, hev, href, hen]
    dsimp only
    rw [hrns, waitPaces_quiet hq2, waitersPace_quiet hq2, pageTurns_nil hq2.pages]
    obtain ⟨hr, hl, hb, hh⟩ := hq2.custody
    exact settle_idle ⟨hr, hh, hl, hb⟩
  · intro k
    have hk := hlane k
    rw [hadv] at hk
    exact hk
  · rw [h2]
    exact congrArg (fun g => BitVec.ofNat 10 (18 + g.custody + poolSum g.pool)) hg
  · rw [h3]
    exact congrArg (fun g => BitVec.ofNat 10 g.custody) hg

theorem exec_paceTick {s : State} (bus : Bus) (hp : powered s = true) : exec (.paceTick bus) s = .next (ended s (tick { s with bus := bus })) :=
  onBus_powered (f := tick) s hp

/-- Settles O27. -/
theorem paceElapses : Obligations.PaceElapses := by
  unfold Obligations.PaceElapses
  intro s bus hp
  refine ⟨⟨_, exec_paceTick bus hp, rfl⟩, fun hq => ⟨_, exec_paceTick bus hp, ?_⟩⟩
  have hq' : Quiet { s with bus := bus } := ⟨hq.custody, hq.pages, hq.loader, hq.rns, hq.digest, hq.storage, hq.keys, hq.opens, hq.relay⟩
  obtain ⟨js, ls, p, c, hw, hlane, heff, hgr, hcu⟩ := paceWork_quiet hq'
  obtain ⟨q, hadv, hper, hnew, -, -, -⟩ := advance_eq { s with bus := bus }
  have hgl := granted_lt s
  rw [tick, hw, hadv]
  refine ⟨?_, hper, hnew, ?_, ?_, ?_, fun l hl => ?_, rfl, rfl, rfl, rfl, rfl⟩
  · change { s.own with remaining := s.own.remaining - (if s.own.remaining = 0 then 0 else 1) } = _
    rw [show s.own.remaining - (if s.own.remaining = 0 then 0 else 1) = if s.own.remaining = 0 then 0 else s.own.remaining - 1 by
      by_cases h : s.own.remaining = 0
      · rw [if_pos h, if_pos h, h]
        rfl
      · rw [if_neg h, if_neg h]]
  · change p.effective.toNat = _
    rw [heff, BitVec.toNat_ofNat]
    exact Nat.mod_eq_of_lt (effectiveBudget_lt s)
  · change p.granted.toNat = 18 + (grants s).custody + poolSum (grants s).pool
    rw [hgr, BitVec.toNat_ofNat]
    exact Nat.mod_eq_of_lt hgl
  · change p.custody.toNat = (grants s).custody
    rw [hcu, BitVec.toNat_ofNat]
    exact Nat.mod_eq_of_lt (a := (grants s).custody) (by omega)
  · have hk : laneAt { s with lanes := ls } l = refilled s l := (hlane l).trans (if_pos (List.mem_range.2 hl))
    obtain ⟨hreg, hst⟩ := refilled_reg s l
    rw [← hk] at hreg hst
    exact ⟨fun hb => by have h := refilled_tokens (s := s) hb; rw [← hk] at h; exact h, hreg, hst⟩

end Sys2Proof.Proofs
end

section
/-!
PROOF. The custody path from outside (R36 to R40, R62, R66 to R68): its channels, a request that is answered at once, and every partner
protocol violation.
-/
namespace Sys2Proof.Proofs

open Sys2Proof Sys2Proof.Machine Sys2Proof.Safety Sys2Proof.Laws

/-! ### Channels of the custody path -/

theorem inChan_setIn (s : State) (ch c : Nat) (v : InChannel) : inChan (setIn s ch v) c = if c = ch then v else inChan s c :=
  getD_setAt ({} : InChannel) s.cust.ins ch c v

theorem inChan_setIn_same (s : State) (ch : Nat) (v : InChannel) : inChan (setIn s ch v) ch = v := by
  rw [inChan_setIn, if_pos rfl]

theorem outChan_setOut (s : State) (ch c : Nat) (v : OutChannel) : outChan (setOut s ch v) c = if c = ch then v else outChan s c :=
  getD_setAt ({} : OutChannel) s.cust.outs ch c v

theorem outChan_setOut_same (s : State) (ch : Nat) (v : OutChannel) : outChan (setOut s ch v) ch = v := by
  rw [outChan_setOut, if_pos rfl]

theorem noneHeld_setIn {s : State} (h : NoneHeld s) (ch : Nat) {v : InChannel} (hv : v.held = []) : NoneHeld (setIn s ch v) := by
  intro c
  rw [inChan_setIn]
  split
  · exact hv
  · exact h c

/-! ### Exception records -/

/-- A record changes the marks of receipts, the queue of records and their counters alone. -/
theorem exception_eq (s : State) (kind : Nat) (a : ExcAt) : ∃ rc f c, exception s kind a = { s with rcpt := rc, flt := f, cnt := c } ∧
    (∀ off, tget 0 c off = if s.cust.enabled = true ∧ off = 0x7978 then counter s off + 1 else counter s off) := by
  have hm : ∃ rc, markInputs s kind a = { s with rcpt := rc } := by
    unfold markInputs
    split
    · exact ⟨s.rcpt, rfl⟩
    · exact ⟨_, rfl⟩
  obtain ⟨rc, hm⟩ := hm
  unfold exception
  simp only [hm]
  by_cases he : s.cust.enabled = true
  · simp only [he, Bool.not_true, Bool.false_eq_true, if_false, true_and]
    have hc (off : Nat) : tget 0 (count { s with rcpt := rc } 0x7978 1).cnt off = if off = 0x7978 then counter s off + 1 else counter s off := by
      have h := counter_count (s := { s with rcpt := rc }) 0x7978 1 off
      rw [counter] at h
      rw [h]
      split
      · next h => rw [h]; rfl
      · rfl
    split
    · exact ⟨rc, _, _, rfl, hc⟩
    · exact ⟨rc, _, _, rfl, hc⟩
  · simp only [he, Bool.false_eq_true, false_and, if_false]
    exact ⟨rc, s.flt, s.cnt, rfl, fun off => rfl⟩

/-! ### A request answered at once -/

/-- The beats of an answer given on a channel, with nothing else in the queues. -/
structure AnswerGiven (s t : State) (ch : Nat) (bs : List RspBeat) : Prop where
  rsp : (inChan t ch).rsp = (inChan s ch).rsp ++ bs
  openWrite : (inChan t ch).openWrite = (inChan s ch).openWrite
  rest : ∃ i n, t = { s with cust := { s.cust with ins := i, reqs := [], nextSeq := n } }
  held : NoneHeld s → NoneHeld t

theorem answerReq_given {s : State} {r : CustReq} (h : s.cust.reqs = [r]) : AnswerGiven s (answerReq s r) r.ch.val
    (answerBeats r.tag r.mid r.lane r.ctx r.owner r.counted (decide (r.op ≠ opRead)) (reqResults r)) := by
  have hf : s.cust.reqs.filter (fun x => decide (x.seq ≠ r.seq)) = [] := by simp [h]
  unfold answerReq
  simp only [hf]
  generalize answerBeats _ _ _ _ _ _ _ _ = bs
  unfold pushBeats
  split
  · next hb =>
    rw [List.isEmpty_iff.1 hb]
    exact ⟨(List.append_nil _).symm, rfl, ⟨s.cust.ins, s.cust.nextSeq, rfl⟩, fun hh c => hh c⟩
  · refine ⟨?_, ?_, ⟨_, s.cust.nextSeq, rfl⟩, fun hh => noneHeld_setIn (fun c => hh c) _ (hh r.ch)⟩
    · rw [inChan_setIn_same]
      rfl
    · rw [inChan_setIn_same]
      rfl

/-- The only request of the path, its answer at hand, is answered. -/
theorem settleReqs_answering {s : State} {r : CustReq} (h : s.cust.reqs = [r]) (hs : r.stage = .answering) : settleReqs s = answerReq s r := by
  obtain ⟨i, n, hrest⟩ := (answerReq_given h).rest
  have hmove : moveReq s r = some (answerReq s r) := by
    simp [moveReq, hs, answerWaits, h]
  rw [settleReqs, h]
  change settleSteps (17 + 1) s = _
  rw [settleSteps, h]
  simp only [List.foldr_cons, List.foldr_nil, insertTurn, moveFirst, Bool.false_and, Bool.false_eq_true, if_false, hmove]
  change settleSteps (16 + 1) (answerReq s r) = _
  rw [settleSteps, show (answerReq s r).cust.reqs = [] by rw [hrest]]
  rfl

theorem settle_answering {s : State} {r : CustReq} (h : s.cust.reqs = [r]) (hs : r.stage = .answering) (hh : NoneHeld s) (hl : NoneLost s) :
    settle s = answerReq s r := by
  have hheld := (answerReq_given h).held hh
  have hdrain (ch : Fin 4) : drainHeld ch (inChan (answerReq s r) ch.val).held.length (answerReq s r) = answerReq s r := by
    rw [hheld ch]
    rfl
  rw [settle, settleLost_nil hl]
  simp only [settleReqs_answering h hs, List.foldl_cons, List.foldl_nil, hdrain]

/-- The request that FAILED owed for a bundle puts into the queues (R37, R38, R68). -/
def owedReq (s : State) (ch : Fin 4) (b : CustBeat) (write : Bool) (lines answers : Nat) : CustReq :=
  { seq := s.cust.nextSeq, ch := ch, op := if write then 1 else 0, addr := if lines = 0 then 2 ^ 31 else b.addr.toNat, n := lines,
    mid := b.mid, lane := 0, ctx := 0, epoch := 0, owner := 0, ownerEpoch := 0, entry := 0, tag := b.tag, lines := [],
    stage := .answering, keys := [], res := List.replicate answers (.got .failed 0), fault := none, tiles := [],
    under := none, counted := false }

theorem owe_eq (s : State) (ch : Fin 4) (b : CustBeat) (write : Bool) (lines answers : Nat) : owe s ch b write lines answers =
    { s with cust := { s.cust with reqs := s.cust.reqs ++ [owedReq s ch b write lines answers], nextSeq := s.cust.nextSeq + 1 } } := rfl

/-- One owed answer is one beat. -/
theorem answerBeats_owedReq (s : State) (ch : Fin 4) (b : CustBeat) (write : Bool) (lines : Nat) :
    let r := owedReq s ch b write lines 1
    answerBeats r.tag r.mid r.lane r.ctx r.owner r.counted (decide (r.op ≠ opRead)) (reqResults r) = [refusal b write .failed] := by
  cases write <;> rfl

/-- FAILED owed for a bundle, in a path with nothing in it, is given at once: one answer. -/
theorem settle_owe {s : State} (h : CustodyIdle s) (ch : Fin 4) (b : CustBeat) (write : Bool) (lines : Nat) :
    AnswerGiven s (settle (owe s ch b write lines 1)) ch.val [refusal b write .failed] := by
  obtain ⟨hr, hh, hl⟩ := h
  have hreq : (owe s ch b write lines 1).cust.reqs = [owedReq s ch b write lines 1] := by
    rw [owe_eq, hr]
    rfl
  rw [settle_answering hreq rfl hh hl]
  have hg := answerReq_given hreq
  rw [answerBeats_owedReq] at hg
  obtain ⟨i, n, hrest⟩ := hg.rest
  exact ⟨hg.rsp, hg.openWrite, ⟨i, n, hrest⟩, fun _ => hg.held hh⟩

/-- A state whose custody path differs from another's in nothing but what stands on its channels is at rest as that one is. -/
theorem custodyIdle_of {s t : State} (h : CustodyIdle s) (hr : t.cust.reqs = s.cust.reqs) (hh : NoneHeld t) (ht : t.tree = s.tree) :
    CustodyIdle t := by
  obtain ⟨h1, -, h2⟩ := h
  exact ⟨hr.trans h1, hh, by rw [NoneLost, ht]; exact h2⟩

/-- What a violation that ends a bundle does in a path with nothing in it: one record, one FAILED answer. -/
theorem settle_owe_exception {s : State} (h : CustodyIdle s) (kind : Nat) (a : ExcAt) (ch : Fin 4) (b : CustBeat) (write : Bool) (lines : Nat) :
    (inChan (settle (owe (exception s kind a) ch b write lines 1)) ch.val).rsp = (inChan s ch.val).rsp ++ [refusal b write .failed] ∧
    (inChan (settle (owe (exception s kind a) ch b write lines 1)) ch.val).openWrite = (inChan s ch.val).openWrite ∧
    (settle (owe (exception s kind a) ch b write lines 1)).cust.reqs = [] ∧
    (settle (owe (exception s kind a) ch b write lines 1)).dram = s.dram ∧
    (settle (owe (exception s kind a) ch b write lines 1)).vlog = s.vlog := by
  obtain ⟨rc, f, c, he, -⟩ := exception_eq s kind a
  rw [he]
  have hg := settle_owe (s := { s with rcpt := rc, flt := f, cnt := c }) h ch b write lines
  obtain ⟨i, n, hrest⟩ := hg.rest
  refine ⟨hg.rsp, hg.openWrite, ?_, ?_, ?_⟩ <;> rw [hrest]

/-! ### Bundles withdrawn and bursts cut short -/

theorem beatWithdrawn_first {s : State} {ch : Fin 4} {b : CustBeat} (kind : BitVec 8) (h : CustodyIdle s) (h0 : b.beat = 0) (h3 : b.op ≠ 3) :
    beatWithdrawn s ch b kind = owe (exception (violate (setIn s ch.val { inChan s ch.val with held := [] }) (pCustIn ch) kind (some b.mid)) 0x0B
      (beatExc ch.val b)) ch b (decide (b.op ≠ 0)) (b.len.toNat + 1) 1 := by
  obtain ⟨-, hh, -⟩ := h
  have hw : (true && decide (b.op ≠ opRead) && decide (b.op ≠ 3)) = decide (b.op ≠ 0) := by
    rw [decide_eq_true h3, Bool.and_true, Bool.true_and]
    rfl
  unfold beatWithdrawn
  rw [hh ch]
  simp only [h0, decide_true, List.filter_nil]
  split
  · next h => exact absurd h (by simp)
  · rw [hw]
    rfl

/-- A request withdrawn before its ACK. -/
theorem withdrawn_first {s : State} {ch : Fin 4} {b : CustBeat} (kind : BitVec 8) (h : CustodyIdle s) (h0 : b.beat = 0) (h3 : b.op ≠ 3) :
    (inChan (settle (beatWithdrawn s ch b kind)) ch.val).rsp = (inChan s ch.val).rsp ++ [refusal b (decide (b.op ≠ 0)) .failed] ∧
    (inChan (settle (beatWithdrawn s ch b kind)) ch.val).openWrite = (inChan s ch.val).openWrite ∧
    (settle (beatWithdrawn s ch b kind)).cust.reqs = [] ∧ (settle (beatWithdrawn s ch b kind)).dram = s.dram ∧
    (settle (beatWithdrawn s ch b kind)).vlog = (violate s (pCustIn ch) kind (some b.mid)).vlog := by
  rw [beatWithdrawn_first kind h h0 h3]
  have hidle : CustodyIdle (violate (setIn s ch.val { inChan s ch.val with held := [] }) (pCustIn ch) kind (some b.mid)) :=
    custodyIdle_of h rfl (noneHeld_setIn h.2.1 _ rfl) rfl
  obtain ⟨h1, h2, h3, h4, h5⟩ := settle_owe_exception hidle 0x0B (beatExc ch.val b) ch b (decide (b.op ≠ 0)) (b.len.toNat + 1)
  have hv : inChan (violate (setIn s ch.val { inChan s ch.val with held := [] }) (pCustIn ch) kind (some b.mid)) ch.val =
      { inChan s ch.val with held := [] } := inChan_setIn_same s ch.val _
  rw [hv] at h1 h2
  generalize settle _ = t at h1 h2 h3 h4 h5 ⊢
  exact ⟨h1, h2, h3, h4, h5⟩

/-- An open write that is ended (R68). -/
theorem settle_discardWrite {s : State} {ch : Fin 4} {w : OpenWrite} (kind : BitVec 8) (h : CustodyIdle s) (hw : w.first.op ≠ 0) :
    (inChan (settle (discardWrite s ch w kind)) ch.val).rsp = (inChan s ch.val).rsp ++ [refusal w.first true .failed] ∧
    (inChan (settle (discardWrite s ch w kind)) ch.val).openWrite = none ∧
    (settle (discardWrite s ch w kind)).cust.reqs = [] ∧ (settle (discardWrite s ch w kind)).dram = s.dram ∧
    (settle (discardWrite s ch w kind)).vlog = (violate s (pCustIn ch) kind (some w.first.mid)).vlog := by
  have hop : decide (w.first.op ≠ opRead) = true := decide_eq_true hw
  have hd : discardWrite s ch w kind = owe (exception (violate (setIn s ch.val { inChan s ch.val with openWrite := none }) (pCustIn ch) kind
      (some w.first.mid)) 0x0B (beatExc ch.val w.first)) ch w.first true (w.first.len.toNat + 1) 1 := by
    rw [discardWrite, oweAll, hop, if_neg (show ¬w.first.op = opRead from hw)]
  rw [hd]
  have hidle : CustodyIdle (violate (setIn s ch.val { inChan s ch.val with openWrite := none }) (pCustIn ch) kind (some w.first.mid)) :=
    custodyIdle_of h rfl (noneHeld_setIn h.2.1 _ (h.2.1 ch)) rfl
  obtain ⟨h1, h2, h3, h4, h5⟩ := settle_owe_exception hidle 0x0B (beatExc ch.val w.first) ch w.first true (w.first.len.toNat + 1)
  have hv : inChan (violate (setIn s ch.val { inChan s ch.val with openWrite := none }) (pCustIn ch) kind (some w.first.mid)) ch.val =
      { inChan s ch.val with openWrite := none } := inChan_setIn_same s ch.val _
  rw [hv] at h1 h2
  generalize settle _ = t at h1 h2 h3 h4 h5 ⊢
  exact ⟨h1, h2, h3, h4, h5⟩

/-! ### Timeouts of the egress -/

/-- With no request in the queues an egress fault meets none. -/
theorem faultReq_nil {s : State} (h : s.cust.reqs = []) (n : Nat) : faultReq s n = s := by
  simp [faultReq, reqAt, h]

theorem foldl_faultReq_nil {s : State} (h : s.cust.reqs = []) (es : List EgReq) : es.foldl (fun t e => faultReq t e.req) s = s := by
  induction es with
  | nil => rfl
  | cons e es ih => rw [List.foldl_cons, faultReq_nil h, ih]

theorem failWaiting_nil {s : State} (h : s.cust.reqs = []) (ch : Nat) : failWaiting s ch = setOut s ch { outChan s ch with
    reqs := (outChan s ch).reqs.filter (fun e => e.acked || e.write || decide (some e.tag = (onWire (outChan s ch)).map EgReq.tag)) } := by
  simp only [failWaiting, foldl_faultReq_nil h]

/-- An egress channel whose request got no ACK is stalled. -/
theorem egressAckTimeout_idle {s : State} {ch : Fin 4} {e : EgReq} (h : CustodyIdle s) (hw : onWire (outChan s ch.val) = some e)
    (ht : e.since + 4096 ≤ clock s) (hs : (outChan s ch.val).stalled = false) :
    egressAckTimeout s ch = setOut (violate (setOut s ch.val { outChan s ch.val with stalled := true }) (pCustOut ch) kAckTimeout none) ch.val
      { outChan s ch.val with stalled := true, reqs := (outChan s ch.val).reqs.filter (fun x => x.acked || x.write || decide (x.tag = e.tag)) } := by
  obtain ⟨hr, hh, hl⟩ := h
  unfold egressAckTimeout
  simp only [hw, hs, Bool.false_eq_true, false_or, Nat.not_lt.2 ht, if_false]
  have hv : outChan (violate (setOut s ch.val { outChan s ch.val with stalled := true }) (pCustOut ch) kAckTimeout none) ch.val =
      { outChan s ch.val with stalled := true } := outChan_setOut_same s ch.val _
  have hw' : onWire { outChan s ch.val with stalled := true } = some e := hw
  have hfw := failWaiting_nil (s := violate (setOut s ch.val { outChan s ch.val with stalled := true }) (pCustOut ch) kAckTimeout none) hr ch.val
  rw [hv, hw'] at hfw
  simp only [Option.map_some, Option.some.injEq] at hfw
  rw [hfw]
  exact settle_idle ⟨hr, hh, hl⟩

/-- An egress request that got no answer gives up its tag. -/
theorem noResponse_idle {s : State} {ch : Fin 4} {tag : Nat} {e : EgReq} (h : CustodyIdle s)
    (he : (outChan s ch.val).reqs.find? (fun x => decide (x.tag = tag) && x.acked && decide (x.got = 0)) = some e)
    (ht : e.since + 16384 ≤ clock s) (hr : (outChan s ch.val).retired.length < 63) :
    noResponse s ch tag = violate (setOut s ch.val { outChan s ch.val with
      reqs := (outChan s ch.val).reqs.filter (fun y => decide (y.tag ≠ e.tag))
      retired := (outChan s ch.val).retired ++
        [{ tag := e.tag, write := e.write, addr := e.addr, data := e.data, left := e.n, superseded := e.superseded }] })
      (pCustOut ch) kNoResponse none := by
  obtain ⟨hq, hh, hl⟩ := h
  unfold noResponse
  simp only [he, Nat.not_lt.2 ht, if_false]
  rw [faultReq_nil (by exact hq), if_neg (by rw [List.length_append, List.length_singleton]; omega)]
  exact settle_idle ⟨hq, hh, hl⟩

theorem tag_of_find {es : List EgReq} {tag : Nat} {e : EgReq}
    (h : es.find? (fun x => decide (x.tag = tag) && x.acked && decide (x.got = 0)) = some e) : e.tag = tag := by
  have := List.find?_some h
  simp only [Bool.and_eq_true, decide_eq_true_eq] at this
  exact this.1.1

/-! ### Relay frames discarded -/

/-- A frame that its beats show to be broken is logged and counted. -/
theorem frameDiscarded_error {s : State} {d : Dir} {bs : List RelayBeat} {e : FrameFault} (h : frameOf bs = .error e) :
    frameDiscarded s d bs = count (violate (reqFell s (pRelay d)) (pRelay d) (faultKind e) none) 0x7950 1 := by
  simp [frameDiscarded, h, frameBroken, relayFell]

theorem frameOf_notFirst {bs : List RelayBeat} (h : (bs.head?.map RelayBeat.sof).getD false = false) : frameOf bs = .error .badField := by
  simp only [frameOf, h, Bool.not_false, if_true]

theorem frameOf_short {bs : List RelayBeat} (h : (bs.head?.map RelayBeat.sof).getD false = true) (h2 : (bs.drop 1).any RelayBeat.sof = true) :
    frameOf bs = .error .burstShort := by
  simp only [frameOf, h, h2, Bool.not_true, Bool.false_eq_true, if_false, if_true]

theorem frameOf_excess {bs : List RelayBeat} (h : (bs.head?.map RelayBeat.sof).getD false = true) (h2 : (bs.drop 1).any RelayBeat.sof = false)
    (hl : 258 < bs.length) : frameOf bs = .error .burstExcess := by
  simp only [frameOf, h, h2, hl, Bool.not_true, Bool.false_eq_true, if_false, if_true]

theorem frameOf_single {bs : List RelayBeat} (h : (bs.head?.map RelayBeat.sof).getD false = true) (hl : bs.length = 1) :
    frameOf bs = .error .badField := by
  obtain ⟨b, rfl⟩ := List.length_eq_one_iff.1 hl
  simp only [frameOf, h]
  simp

/-- A frame whose header breaks a check, on a link without a session. -/
theorem frameDiscarded_form {s : State} {d : Dir} {bs : List RelayBeat} {f : Frame} (h : frameOf bs = .ok f) (hf : rxFormOk (rxHead f) f = false)
    (hl : linkStands (linkOf s d) = false) :
    frameDiscarded s d bs = count (violate (reqFell s (pRelay d)) (pRelay d) kBadField none) 0x7950 1 := by
  have hl' : linkStands (linkOf (count (violate (reqFell s (pRelay d)) (pRelay d) kBadField none) 0x7950 1) d) = false := by
    cases d <;> exact hl
  simp [frameDiscarded, h, hf, discardFrame, hl', relayFell]

/-! ### The obligation -/

theorem custodyIdle_reqFell {s : State} (h : CustodyIdle s) (port : BitVec 8) : CustodyIdle (reqFell s port) := h

/-! ### The commands -/

theorem exec_reqWithdrawn {s : State} (hp : powered s = true) (b : Withdrawn) (changed : Bool) : exec (.reqWithdrawn b changed) s =
    .next (ended s (withdrawn (reqFell s (withdrawnPort b)) (if changed then kBundleChanged else kReqWithdrawn) b)) :=
  live_powered (f := fun s => withdrawn (reqFell s (withdrawnPort b)) (if changed then kBundleChanged else kReqWithdrawn) b) s hp

theorem exec_earlyAck {s : State} (hp : powered s = true) (b : SentBundle) : exec (.earlyAck b) s = .next (ended s (earlyAck s b)) :=
  live_powered (f := fun s => earlyAck s b) s hp

theorem exec_reqStuck {s : State} (hp : powered s = true) (b : RecvBundle) : exec (.reqStuck b) s = .next (ended s (reqStuck s b)) :=
  live_powered (f := fun s => reqStuck s b) s hp

theorem exec_ackTimeout {s : State} (hp : powered s = true) (b : SentBundle) : exec (.ackTimeout b) s = .next (ended s (ackTimeout s b)) :=
  live_powered (f := fun s => ackTimeout s b) s hp

theorem exec_burstTimeout {s : State} (hp : powered s = true) (b : OpenBurst) : exec (.burstTimeout b) s = .next (ended s (burstTimeout s b)) :=
  live_powered (f := fun s => burstTimeout s b) s hp

theorem exec_noResponse {s : State} (hp : powered s = true) (ch : Fin 4) (tag : Tag) :
    exec (.noResponse ch tag) s = .next (ended s (noResponse s ch tag.toNat)) :=
  live_powered (f := fun s => noResponse s ch tag.toNat) s hp

theorem exec_relayFrameDiscard {s : State} (hp : powered s = true) (d : Dir) (bs : List RelayBeat) :
    exec (.relayFrameDiscard d bs) s = .next (ended s (frameDiscarded s d bs)) :=
  live_powered (f := fun s => frameDiscarded s d bs) s hp

/-- Settles O30: the violations that are only logged each by their row, the others by what settling an idle custody path leaves. -/
theorem portViolations : Obligations.PortViolations := by
  unfold Obligations.PortViolations
  refine ⟨fun s mid changed d ch hp => ⟨fun w => ?_, ?_, ?_, ?_, ?_, fun bs => ⟨?_, ?_, ?_, ?_, ?_, ?_⟩⟩,
    fun s ch hp => ⟨fun b changed hi h0 h3 => ?_, fun w hi hw hop ht => ?_, fun x rest hx ht hl => ?_, fun e hi he ht hs => ?_,
      fun tag e hi he ht hr => ?_, fun c hc => ?_⟩⟩
  · exact exec_reqWithdrawn hp _ _
  · intro x hx
    simp only [List.mem_cons, List.not_mem_nil, or_false] at hx
    obtain rfl | rfl | rfl | rfl := hx <;> exact exec_reqWithdrawn hp _ _
  · exact live_powered (f := fun s => violate (reqFell s pMasterEvent) pMasterEvent kBadField (some mid)) s hp
  · intro x hx
    simp only [List.mem_cons, List.not_mem_nil, or_false] at hx
    obtain rfl | rfl | rfl | rfl := hx <;> exact exec_earlyAck hp _
  · intro x hx
    simp only [List.mem_cons, List.not_mem_nil, or_false] at hx
    obtain rfl | rfl | rfl | rfl | rfl | rfl := hx <;> exact exec_reqStuck hp _
  · intro h
    rw [exec_relayFrameDiscard hp, frameDiscarded_error (frameOf_notFirst h)]
    rfl
  · intro h h2
    rw [exec_relayFrameDiscard hp, frameDiscarded_error (frameOf_short h h2)]
    rfl
  · intro h h2 hl
    rw [exec_relayFrameDiscard hp, frameDiscarded_error (frameOf_excess h h2 hl)]
    rfl
  · intro h hl
    rw [exec_relayFrameDiscard hp, frameDiscarded_error (frameOf_single h hl)]
    rfl
  · intro f hf hform hl
    rw [exec_relayFrameDiscard hp, frameDiscarded_form hf hform hl]
  · intro last hpt ho ht
    rw [exec_burstTimeout hp, burstTimeout, frameTimeout, hpt, ho, decide_eq_true ht]
    rfl
  · have hw := withdrawn_first (ch := ch) (if changed then kBundleChanged else kReqWithdrawn) (custodyIdle_reqFell hi (pCustIn ch)) h0 h3
    refine ⟨_, exec_reqWithdrawn hp _ _, ?_⟩
    rw [withdrawn, withdrawnPort]
    generalize settle _ = t at hw ⊢
    exact hw
  · refine ⟨_, exec_burstTimeout hp _, ?_⟩
    have hb : burstTimeout s (.custIn ch) = settle (discardWrite s ch w kBurstTimeout) := by
      simp [burstTimeout, writeBurstTimeout, hw, Nat.not_lt.2 ht]
    rw [hb]
    have hd := settle_discardWrite (ch := ch) kBurstTimeout hi hop
    generalize settle _ = t at hd ⊢
    exact hd
  · rw [exec_ackTimeout hp]
    simp [ackTimeout, ingressAckTimeout, hx, hl, Nat.not_lt.2 ht]
  · refine ⟨_, exec_ackTimeout hp _, ?_⟩
    rw [ackTimeout, egressAckTimeout_idle hi he ht hs]
    generalize hv : ({ outChan s ch.val with
      stalled := true, reqs := (outChan s ch.val).reqs.filter (fun x => x.acked || x.write || decide (x.tag = e.tag)) } : OutChannel) = v
    have ho : outChan (ended s (setOut (violate (setOut s ch.val { outChan s ch.val with stalled := true }) (pCustOut ch) kAckTimeout none)
        ch.val v)) ch.val = v := outChan_setOut_same _ ch.val v
    refine ⟨?_, rfl, rfl, fun x hx => ?_⟩
    · rw [egressDown, ho, ← hv]
      rfl
    · rw [ho, ← hv] at hx
      simpa [or_assoc] using (List.mem_filter.1 hx).2
  · refine ⟨_, exec_noResponse hp _ _, ?_⟩
    rw [noResponse_idle hi he ht hr, tag_of_find he]
    generalize hv : ({ outChan s ch.val with
      reqs := (outChan s ch.val).reqs.filter (fun y => decide (y.tag ≠ tag.toNat))
      retired := (outChan s ch.val).retired ++ [{ tag := tag.toNat, write := e.write, addr := e.addr, data := e.data, left := e.n, superseded := e.superseded }]
      } : OutChannel) = v
    have ho : outChan (ended s (violate (setOut s ch.val v) (pCustOut ch) kNoResponse none)) ch.val = v := outChan_setOut_same s ch.val v
    rw [ho, ← hv]
    exact ⟨rfl, rfl, rfl, rfl⟩
  · rw [exec_burstTimeout hp, burstTimeout, if_pos hc]
    rfl

end Sys2Proof.Proofs
end

section
/-!
PROOF. A request taken from its channel (R27, R36 to R38, R151, R153): its capture, and the checks that refuse it before the map is read.
-/
namespace Sys2Proof.Proofs

open Sys2Proof Sys2Proof.Machine Sys2Proof.Safety Sys2Proof.Laws

/-! ### A bundle captured -/

theorem setAt_setAt {α : Type} (d : α) (l : List α) (i : Nat) (v w : α) : setAt d (setAt d l i v) i w = setAt d l i w := by
  unfold setAt
  by_cases h : i < l.length
  · rw [if_pos h, if_pos (by rwa [List.length_set]), if_pos h, List.set_set]
  · have hl : (l ++ List.replicate (i - l.length) d).length = i := by
      rw [List.length_append, List.length_replicate]
      omega
    rw [if_neg h, if_pos (by rw [List.length_append, hl, List.length_singleton]; omega), if_neg h,
      List.set_append_right _ _ (le_of_eq hl), hl, Nat.sub_self]
    rfl

theorem setIn_setIn (s : State) (ch : Nat) (v w : InChannel) : setIn (setIn s ch v) ch w = setIn s ch w := by
  unfold setIn
  dsimp only
  rw [setAt_setAt]

/-- A fold in which one member of the list alone has an effect, once. -/
theorem foldl_once {α β : Type} [DecidableEq α] {f : β → α → β} {a : α} {s t : β} (ho : ∀ x, x ≠ a → f s x = s) (ha : f s a = t)
    (ht : ∀ x, f t x = t) {l : List α} (hl : a ∈ l) : l.foldl f s = t := by
  induction l with
  | nil => exact absurd hl List.not_mem_nil
  | cons x l ih =>
    rw [List.foldl_cons]
    by_cases hx : x = a
    · rw [hx, ha]
      exact List.foldl_fixed' ht l
    · rw [ho x hx]
      exact ih ((List.mem_cons.1 hl).resolve_left (Ne.symm hx))

/-- The state in which a bundle is captured: REQ has fallen since the last one, and no HOL stands marked. -/
def bundleTaken (s : State) (ch : Fin 4) : State :=
  setIn (reqFell s (pCustIn ch)) ch.val { inChan s ch.val with holMarked := false }

theorem inChan_bundleTaken (s : State) (ch : Fin 4) : inChan (bundleTaken s ch) ch.val = { inChan s ch.val with holMarked := false } :=
  inChan_setIn_same _ _ _

theorem custodyIdle_bundleTaken {s : State} (h : CustodyIdle s) (ch : Fin 4) : CustodyIdle (bundleTaken s ch) :=
  custodyIdle_of h rfl (noneHeld_setIn h.2.1 _ (h.2.1 ch)) rfl

theorem ackWithheld_congr {s t : State} {ch : Fin 4} {b : CustBeat} (hr : t.cust.reqs = s.cust.reqs)
    (hi : (inChan t ch.val).rsp = (inChan s ch.val).rsp ∧ (inChan t ch.val).openWrite = (inChan s ch.val).openWrite) (hc : t.cfg = s.cfg) :
    ackWithheld t ch b = ackWithheld s ch b := by
  obtain ⟨h1, h2⟩ := hi
  simp only [ackWithheld, outstandingOn, laneWaiting, laneOfMid, activeReg, hr, h1, h2, hc]
  rfl

/-- In a custody path with nothing in it a bundle that is not withheld is captured at once. -/
theorem captureBeat_idle {s : State} {ch : Fin 4} {b : CustBeat} (h : CustodyIdle s) (ha : s.keys.asleep = false)
    (hw : ackWithheld s ch b = false) (hh : NoneHeld (settleReqs (capture (bundleTaken s ch) ch b))) :
    captureBeat s ch b = settleReqs (capture (bundleTaken s ch) ch b) := by
  obtain ⟨hr, hheld, hl⟩ := h
  have hq : { inChan (reqFell s (pCustIn ch)) ch.val with held := (inChan (reqFell s (pCustIn ch)) ch.val).held ++ [b] } =
      { inChan s ch.val with held := [b] } := by
    rw [show (inChan (reqFell s (pCustIn ch)) ch.val).held = [] from hheld ch]
    rfl
  unfold captureBeat
  rw [ha, if_neg (by decide)]
  simp only [hq]
  generalize hs1 : setIn (reqFell s (pCustIn ch)) ch.val { inChan s ch.val with held := [b] } = s1
  have hin (c : Fin 4) : inChan s1 c.val = if c.val = ch.val then { inChan s ch.val with held := [b] } else inChan s c.val := by
    rw [← hs1]
    exact inChan_setIn _ _ _ _
  have hreqs : s1.cust.reqs = [] := by rw [← hs1]; exact hr
  have hlost : NoneLost s1 := by rw [← hs1]; exact hl
  have hmine : (inChan s1 ch.val).held = [b] := by rw [hin ch, if_pos rfl]
  have hack : ackWithheld s1 ch b = false := by
    rw [← hw, ← hs1]
    exact ackWithheld_congr rfl (by rw [inChan_setIn_same]; exact ⟨rfl, rfl⟩) rfl
  have htaken : setIn s1 ch.val { inChan s1 ch.val with held := [], holMarked := false } = bundleTaken s ch := by
    rw [hin ch, if_pos rfl, ← hs1, setIn_setIn, bundleTaken]
    exact congrArg (fun q => setIn (reqFell s (pCustIn ch)) ch.val { inChan s ch.val with held := q, holMarked := false }) (hheld ch).symm
  rw [settle, settleLost_nil hlost, settleReqs_nil hreqs]
  refine foldl_once (a := ch) (fun c hc => ?_) ?_ (fun c => ?_) ?_
  · have hc' : c.val ≠ ch.val := fun e => hc (Fin.ext e)
    rw [hin c, if_neg hc', hheld c]
    rfl
  · rw [hmine]
    change drainHeld ch 1 s1 = _
    rw [drainHeld, hmine]
    simp only [hack, Bool.false_eq_true, if_false, htaken]
    rfl
  · rw [hh c]
    rfl
  · fin_cases ch <;> decide

/-! ### A whole request -/

/-- A whole request is submitted as it comes. -/
theorem capture_whole {s : State} {ch : Fin 4} {b : CustBeat} (h : WholeRequest s ch b) : capture (bundleTaken s ch) ch b =
    submit (bundleTaken s ch) ch b (if b.op = 0 then [] else [(b.data, b.mask)]) := by
  obtain ⟨h0, hopen⟩ := h.first
  obtain ⟨h3, hlen, hspan⟩ := h.shape
  obtain ⟨-, htag⟩ := h.taken
  have hopen' : (inChan (bundleTaken s ch) ch.val).openWrite = none := by rw [inChan_bundleTaken]; exact hopen
  have htag' : tagOut (bundleTaken s ch) ch.val b.tag = false := by
    rw [← htag, tagOut, tagOut, inChan_bundleTaken]
    rfl
  have hpage : crossesPage b = false := decide_eq_false (by omega)
  rw [capture, if_pos h0, captureFirst]
  simp only [hopen', h3, if_false, htag', hpage, Bool.false_eq_true]
  by_cases hop : b.op = 0
  · rw [if_pos (show b.op = opRead from hop), if_pos hop, completeRequest, hpage]
    rfl
  · rw [if_neg (show ¬b.op = opRead from hop), if_neg hop, if_pos (hlen hop), completeRequest, hpage]
    rfl

/-! ### Refused before the map is read -/

/-- The request that a whole bundle becomes. -/
def submitted (s : State) (ch : Fin 4) (b : CustBeat) (lines : List (Line × BitVec 64)) : CustReq :=
  { seq := s.cust.nextSeq, ch := ch, op := b.op, addr := b.addr.toNat, n := b.len.toNat + 1, mid := b.mid,
    lane := BitVec.ofNat 6 ((laneOfMid s b.mid.toNat).getD 0), ctx := b.ctx.toNat, epoch := (ctxAt s b.ctx.toNat).epoch.toNat,
    owner := b.ctx.toNat, ownerEpoch := (ctxAt s b.ctx.toNat).epoch.toNat, entry := 0, tag := b.tag, lines := lines, stage := .walk,
    keys := [], res := [], fault := none, tiles := [], under := none, counted := (earlyRefusal s b).isNone }

/-- The queues with it. -/
def withRequest (s : State) (r : CustReq) : State :=
  { s with cust := { s.cust with reqs := s.cust.reqs ++ [r], nextSeq := s.cust.nextSeq + 1 } }

theorem submit_early {s : State} {ch : Fin 4} {b : CustBeat} {lines : List (Line × BitVec 64)} {v : Verdict} {k : Option Nat}
    (he : s.cust.enabled = true) (hs : s.cust.stopped = false) (h : earlyRefusal s b = some (v, k)) :
    submit s ch b lines = refuseReq (if (laneOfMid s b.mid.toNat).isSome
      then chargeEnergy (withRequest s (submitted s ch b lines)) (submitted s ch b lines).lane.toNat
        (reqEnergy (withRequest s (submitted s ch b lines)) (submitted s ch b lines))
      else withRequest s (submitted s ch b lines)) (submitted s ch b lines) v k := by
  have hb : (!s.cust.enabled || s.cust.stopped) = false := by rw [he, hs]; rfl
  unfold submit
  rw [hb]
  simp only [Bool.false_eq_true, if_false]
  split
  · next v' k' h' =>
    obtain ⟨rfl, rfl⟩ := Prod.mk.inj (Option.some.inj (h.symm.trans h'))
    rfl
  · next h' => exact absurd (h.symm.trans h') (by simp)

/-- A request refused alone in the queues, before it has taken anything: it waits to be answered, with a record where one is written. -/
theorem refuseReq_alone {s : State} {r : CustReq} (v : Verdict) (k : Option Nat) (h : s.cust.reqs = [r]) (ht : r.tiles = [])
    (hc : r.counted = false) : ∃ rc f c, refuseReq s r v k =
      { s with cust := { s.cust with reqs := [withVerdict r v] }, rcpt := rc, flt := f, cnt := c } ∧
      ∀ off, tget 0 c off = if k.isSome = true ∧ s.cust.enabled = true ∧ off = 0x7978 then counter s off + 1 else counter s off := by
  have hun (t : State) : unflyAll t r = t := by rw [unflyAll, ht]; rfl
  have hch (t : State) : chargeRefused t r = t := by simp [chargeRefused, hc]
  have hset (t : State) (hq : t.cust.reqs = [r]) : setReq t (withVerdict r v) = { t with cust := { t.cust with reqs := [withVerdict r v] } } := by
    simp [setReq, hq, withVerdict]
  unfold refuseReq
  dsimp only
  rw [hch, hun]
  cases k with
  | none => exact ⟨s.rcpt, s.flt, s.cnt, hset s h, fun off => by simp [counter]⟩
  | some k =>
    obtain ⟨rc, f, c, he, hcnt⟩ := exception_eq s k (reqExc r v r.addr)
    refine ⟨rc, f, c, ?_, fun off => by rw [hcnt]; simp⟩
    dsimp only
    rw [he]
    exact hset _ h

/-- One beat of an answer that gives every line one verdict and no data. -/
def verdictBeat (r : CustReq) (v : Verdict) (write : Bool) (i : Nat) (last : Bool) : RspBeat :=
  { tag := r.tag, beat := i, write := write, verdict := v, data := 0, mid := r.mid, lane := r.lane, last := last, counted := r.counted,
    ctx := r.ctx, owner := r.owner }

/-- The beats of one verdict for every line of a read, or for a write. -/
theorem answerBeats_withVerdict (r : CustReq) (v : Verdict) :
    answerBeats r.tag r.mid r.lane r.ctx r.owner r.counted (decide (r.op ≠ opRead)) (reqResults (withVerdict r v)) =
      if r.op = 0 then (List.range r.n).map (fun i => verdictBeat r v false i (decide (i + 1 = r.n))) else [verdictBeat r v true 0 true] := by
  by_cases h : r.op = 0
  · have hres : reqResults (withVerdict r v) = List.replicate r.n (v, 0) := by simp [reqResults, withVerdict, opRead, h]
    rw [hres, if_pos h, answerBeats, List.length_replicate]
    refine List.map_congr_left fun i hi => ?_
    simp [List.mem_range.1 hi, h, opRead, verdictBeat]
  · have hn : ¬r.op = opRead := h
    have hres : reqResults (withVerdict r v) = [(v, 0)] := by
      rw [reqResults, if_neg (show ¬(withVerdict r v).op = opRead from hn), withVerdict, if_neg hn]
      rfl
    rw [hres, if_neg h, decide_eq_true (show r.op ≠ opRead from hn)]
    rfl

/-- Whether checks 1 to 4 fail: the reasons for FAILED that do not look at the context's state. -/
theorem earlyRefusal_failed {s : State} {b : CustBeat}
    (h : (b.addr.toNat / 64 < winBase s ∨ winBase s + winPages s ≤ b.addr.toNat / 64) ∨ laneOfMid s b.mid.toNat = none ∨
      (∃ l, laneOfMid s b.mid.toNat = some l ∧ ((laneAt s l).state ≠ .opened ∨ (ctxAt s b.ctx.toNat).lane.toNat ≠ l)) ∨ b.ctx = 0) :
    earlyRefusal s b = some (.failed, some 0x01) := by
  unfold earlyRefusal
  by_cases hw : inWindow s (pageOfLine b.addr.toNat) = true
  · simp only [hw, Bool.not_true, Bool.false_eq_true, if_false]
    have hwin : winBase s ≤ b.addr.toNat / 64 ∧ b.addr.toNat / 64 < winBase s + winPages s := of_decide_eq_true hw
    split
    · rfl
    · next l hl =>
      by_cases ho : (laneAt s l).state ≠ .opened
      · rw [if_pos ho]
      · rw [if_neg ho]
        by_cases hc : b.ctx = 0
        · rw [if_pos hc]
        · rw [if_neg hc, if_pos]
          obtain h | h | ⟨l', hl', h⟩ | h := h
          · omega
          · exact absurd (hl.symm.trans h) (by simp)
          · rw [Option.some.inj (hl.symm.trans hl')] at ho ⊢
            exact h.resolve_left ho
          · exact absurd h hc
  · rw [Bool.not_eq_true] at hw
    rw [hw]
    rfl

/-- Check 5: a context that was opened before and is not ACTIVE answers STALE. -/
theorem earlyRefusal_stale {s : State} {b : CustBeat} {l : Nat} (h1 : winBase s ≤ b.addr.toNat / 64)
    (h2 : b.addr.toNat / 64 < winBase s + winPages s) (hl : laneOfMid s b.mid.toNat = some l) (ho : (laneAt s l).state = .opened)
    (hv : (ctxAt s b.ctx.toNat).lane.toNat = l) (hc : b.ctx ≠ 0)
    (hs : (ctxAt s b.ctx.toNat).state = .releasing ∨ (ctxAt s b.ctx.toNat).state = .retired ∨
      (ctxAt s b.ctx.toNat).state = .free ∧ ((ctxAt s b.ctx.toNat).epoch ≠ 0 ∨ (ctxAt s b.ctx.toNat).keyGen ≠ 0)) :
    earlyRefusal s b = some (.stale, none) := by
  have hw : inWindow s (pageOfLine b.addr.toNat) = true := decide_eq_true ⟨h1, h2⟩
  unfold earlyRefusal
  simp only [hw, Bool.not_true, Bool.false_eq_true, if_false, hl]
  rw [if_neg (not_not.2 ho), if_neg hc, if_neg (not_not.2 hv), ctxRefusal]
  obtain h | h | ⟨h, he⟩ := hs
  · rw [h]
  · rw [h]
  · rw [h]
    dsimp only
    rw [if_neg (fun hz => he.elim (fun h => h hz.1) (fun h => h hz.2))]

/-- The named beats of a refusal are those of the request that a bundle becomes. -/
theorem verdictBeat_submitted (s : State) (ch : Fin 4) (b : CustBeat) (lines : List (Line × BitVec 64)) (v : Verdict) (write : Bool) (i : Nat)
    (last : Bool) (h : (earlyRefusal s b).isNone = false) : verdictBeat (submitted s ch b lines) v write i last =
      { refusal b write v with lane := BitVec.ofNat 6 ((laneOfMid s b.mid.toNat).getD 0), ctx := b.ctx.toNat, owner := b.ctx.toNat
                               beat := i, last := last } := by
  rw [verdictBeat, submitted, h]
  rfl

theorem earlyRefusal_bundleTaken (s : State) (ch : Fin 4) (b : CustBeat) : earlyRefusal (bundleTaken s ch) b = earlyRefusal s b := rfl

/-- The energy charged to a lane's counter: no other counter is changed. -/
theorem chargeEnergy_eq (s : State) (l : LaneId) (e : Nat) : ∃ c, chargeEnergy s l.toNat e = { s with cnt := c } ∧
    ∀ off, off ≠ 0x7010 + 32 * l.toNat → tget 0 c off = counter s off := by
  refine ⟨_, rfl, fun off h => ?_⟩
  have hc := counter_count (s := s) (0x7010 + 32 * l.toNat) (energyUnits e) off
  rw [if_neg h] at hc
  exact hc

/-- A request refused alone in the queues is answered in the same step. -/
theorem settleReqs_refuseReq {s : State} {r : CustReq} (v : Verdict) (k : Option Nat) (h : s.cust.reqs = [r]) (ht : r.tiles = [])
    (hc : r.counted = false) (hh : NoneHeld s) :
    (inChan (settleReqs (refuseReq s r v k)) r.ch.val).rsp = (inChan s r.ch.val).rsp ++
      (if r.op = 0 then (List.range r.n).map (fun i => verdictBeat r v false i (decide (i + 1 = r.n))) else [verdictBeat r v true 0 true]) ∧
    (settleReqs (refuseReq s r v k)).cust.reqs = [] ∧
    counter (settleReqs (refuseReq s r v k)) 0x7978 =
      (if k.isSome = true ∧ s.cust.enabled = true then counter s 0x7978 + 1 else counter s 0x7978) ∧
    (settleReqs (refuseReq s r v k)).dram = s.dram ∧ NoneHeld (settleReqs (refuseReq s r v k)) := by
  obtain ⟨rc, f, c, href, hcnt⟩ := refuseReq_alone v k h ht hc
  rw [href]
  generalize hu : ({ s with cust := { s.cust with reqs := [withVerdict r v] }, rcpt := rc, flt := f, cnt := c } : State) = u
  have hreqs : u.cust.reqs = [withVerdict r v] := by rw [← hu]
  have hg := answerReq_given hreqs
  rw [settleReqs_answering hreqs rfl]
  obtain ⟨i, n, hrest⟩ := hg.rest
  have hrsp := hg.rsp
  rw [show inChan u (withVerdict r v).ch.val = inChan s r.ch.val by rw [← hu]; rfl] at hrsp
  have hheld : NoneHeld u := by rw [← hu]; exact hh
  refine ⟨hrsp.trans (congrArg₂ _ rfl (answerBeats_withVerdict r v)), by rw [hrest], ?_, ?_, hg.held hheld⟩
  · rw [hrest, ← hu]
    refine (hcnt 0x7978).trans ?_
    simp
  · rw [hrest, ← hu]

/-- A bundle that checks 1 to 5 refuse, in a path with nothing in it, is the only request in the queues. -/
theorem submit_refused {s : State} {ch : Fin 4} {b : CustBeat} {lines : List (Line × BitVec 64)} {v : Verdict} {k : Option Nat}
    (h : s.cust.reqs = []) (hen : s.cust.enabled = true) (hst : s.cust.stopped = false) (hh : NoneHeld s)
    (he : earlyRefusal s b = some (v, k)) : ∃ u, submit s ch b lines = refuseReq u (submitted s ch b lines) v k ∧
      u.cust.reqs = [submitted s ch b lines] ∧ u.cust.enabled = true ∧ NoneHeld u ∧ inChan u ch.val = inChan s ch.val ∧
      counter u 0x7978 = counter s 0x7978 ∧ u.dram = s.dram := by
  have hreqs : (withRequest s (submitted s ch b lines)).cust.reqs = [submitted s ch b lines] := by rw [withRequest, h]; rfl
  rw [submit_early hen hst he]
  split
  · obtain ⟨c, hc, hcnt⟩ := chargeEnergy_eq (withRequest s (submitted s ch b lines)) (submitted s ch b lines).lane
      (reqEnergy (withRequest s (submitted s ch b lines)) (submitted s ch b lines))
    rw [hc]
    exact ⟨_, rfl, hreqs, hen, hh, rfl, hcnt 0x7978 (by have := (submitted s ch b lines).lane.isLt; omega), rfl⟩
  · exact ⟨_, rfl, hreqs, hen, hh, rfl, rfl, rfl⟩

/-- A whole request that checks 1 to 5 refuse. -/
theorem custInRequest_refused {s : State} {ch : Fin 4} {b : CustBeat} {v : Verdict} {k : Option Nat} (h : CustodyIdle s)
    (hw : WholeRequest s ch b) (he : earlyRefusal s b = some (v, k)) :
    let r := submitted (bundleTaken s ch) ch b (if b.op = 0 then [] else [(b.data, b.mask)])
    (inChan (captureBeat s ch b) ch.val).rsp = (inChan s ch.val).rsp ++
      (if b.op = 0 then (List.range r.n).map (fun i => verdictBeat r v false i (decide (i + 1 = r.n))) else [verdictBeat r v true 0 true]) ∧
    (captureBeat s ch b).cust.reqs = [] ∧
    counter (captureBeat s ch b) 0x7978 = (if k.isSome = true then counter s 0x7978 + 1 else counter s 0x7978) ∧
    (captureBeat s ch b).dram = s.dram := by
  intro r
  obtain ⟨hen, hst, hasleep⟩ := hw.serves
  have hidle := custodyIdle_bundleTaken h ch
  have hnone : r.counted = false := by
    rw [show r.counted = (earlyRefusal (bundleTaken s ch) b).isNone from rfl, earlyRefusal_bundleTaken, he]
    rfl
  obtain ⟨u, hsub, hreqs, huen, hheld, hin, hcnt, hdram⟩ := submit_refused (s := bundleTaken s ch) (ch := ch)
    (lines := if b.op = 0 then [] else [(b.data, b.mask)]) h.1 hen hst hidle.2.1 ((earlyRefusal_bundleTaken s ch b).trans he)
  have hcap := (capture_whole hw).trans hsub
  have hreqs : u.cust.reqs = [r] := hreqs
  obtain ⟨h1, h2, h3, h4, h5⟩ := settleReqs_refuseReq v k hreqs rfl hnone hheld
  rw [← hcap] at h1 h2 h3 h4 h5
  rw [captureBeat_idle h hasleep hw.taken.1 h5]
  rw [show inChan u r.ch.val = inChan (bundleTaken s ch) ch.val from hin, inChan_bundleTaken] at h1
  rw [hcnt, huen] at h3
  exact ⟨h1, h2, by rw [h3]; simp; rfl, h4.trans hdram⟩

/-- Settles O31. -/
theorem custodyRefused : Obligations.CustodyRefused := by
  unfold Obligations.CustodyRefused
  intro s ch b hp hi hw
  have hexec : exec (.custInRequest ch b) s = .next (ended s (captureBeat s ch b)) := live_powered (f := fun s => captureBeat s ch b) s hp
  have hbeats (v : Verdict) (k : Option Nat) (he : earlyRefusal s b = some (v, k)) : ∀ lines,
      (let r := submitted (bundleTaken s ch) ch b lines
       if b.op = 0 then (List.range r.n).map (fun i => verdictBeat r v false i (decide (i + 1 = r.n))) else [verdictBeat r v true 0 true]) =
      (if b.op = 0 then (List.range (b.len.toNat + 1)).map (fun i => ({ refusal b false v with
          beat := i, last := decide (i = b.len.toNat), lane := BitVec.ofNat 6 ((laneOfMid s b.mid.toNat).getD 0), ctx := b.ctx.toNat,
          owner := b.ctx.toNat } : RspBeat))
        else [({ refusal b true v with
          lane := BitVec.ofNat 6 ((laneOfMid s b.mid.toNat).getD 0), ctx := b.ctx.toNat, owner := b.ctx.toNat } : RspBeat)]) := by
    intro lines
    have hn : (earlyRefusal (bundleTaken s ch) b).isNone = false := by rw [earlyRefusal_bundleTaken, he]; rfl
    dsimp only
    split
    · refine List.map_congr_left fun i _ => ?_
      rw [verdictBeat_submitted _ _ _ _ _ _ _ _ hn]
      have hl : decide (i + 1 = (submitted (bundleTaken s ch) ch b lines).n) = decide (i = b.len.toNat) := by simp [submitted]
      rw [hl]
      rfl
    · rw [verdictBeat_submitted _ _ _ _ _ _ _ _ hn]
      rfl
  refine ⟨fun hf => ⟨_, hexec, ?_⟩, fun l h1 h2 hl ho hv hc hs => ⟨_, hexec, ?_⟩⟩
  · have he := earlyRefusal_failed hf
    obtain ⟨h1, h2, h3, h4⟩ := custInRequest_refused hi hw he
    rw [hbeats _ _ he] at h1
    exact ⟨h1, h2, h3, h4⟩
  · have he := earlyRefusal_stale h1 h2 hl ho hv hc hs
    obtain ⟨h1, h2, h3, h4⟩ := custInRequest_refused hi hw he
    rw [hbeats _ _ he] at h1
    exact ⟨h1, h2, h3, h4⟩

end Sys2Proof.Proofs
end

section
/-!
PROOF. A one-line access to an OPEN page issued in the step that takes it (R39, R151, R177, R507).
-/
namespace Sys2Proof.Proofs

open Sys2Proof Sys2Proof.Machine Sys2Proof.Safety Sys2Proof.Laws

/-! ### One request in the queues -/

theorem moveFirst_single (s : State) (r : CustReq) : moveFirst s false [r] = moveReq s r := by
  simp only [moveFirst, Bool.false_and, Bool.false_eq_true, if_false]
  cases moveReq s r <;> rfl

theorem settleSteps_move (n : Nat) {s t : State} {r : CustReq} (h : s.cust.reqs = [r]) (hm : moveReq s r = some t) :
    settleSteps (n + 1) s = settleSteps n t := by
  rw [settleSteps, h]
  simp only [List.foldr_cons, List.foldr_nil, insertTurn, moveFirst_single, hm]

theorem settleSteps_stay (n : Nat) {s : State} {r : CustReq} (h : s.cust.reqs = [r]) (hm : moveReq s r = none) : settleSteps n s = s := by
  cases n with
  | zero => rfl
  | succ n =>
    rw [settleSteps, h]
    simp only [List.foldr_cons, List.foldr_nil, insertTurn, moveFirst_single, hm]

/-- The queues with one request alone. -/
def onlyReq (s : State) (r : CustReq) : State := { s with cust := { s.cust with reqs := [r] } }

theorem setReq_alone {s : State} {r r' : CustReq} (h : s.cust.reqs = [r]) (hs : r.seq = r'.seq) : setReq s r' = onlyReq s r' := by
  simp [setReq, onlyReq, h, hs]

theorem mustWait_alone {s : State} {r : CustReq} (h : s.cust.reqs = [r]) : mustWait s r = false := by
  simp [mustWait, h]

/-! ### Egress tags -/

/-- Of 1,024 tags one is free while fewer are in use (R39). -/
theorem freeEgressTag_isSome {s : State} {ch : Nat} (h : (outChan s ch).reqs.length + (outChan s ch).retired.length < 1024) :
    ∃ t, freeEgressTag s ch = some t := by
  refine Option.isSome_iff_exists.1 (List.find?_isSome.2 ?_)
  by_contra hno
  have hsub : List.range 1024 ⊆ (outChan s ch).reqs.map EgReq.tag ++ (outChan s ch).retired.map Retired.tag := by
    intro t ht
    have hused : ¬(!((outChan s ch).reqs.any (fun r => decide (r.tag = t)) || (outChan s ch).retired.any (fun r => decide (r.tag = t)))) = true :=
      fun hfree => hno ⟨t, ht, hfree⟩
    rw [Bool.not_eq_true', Bool.not_eq_false, Bool.or_eq_true, List.any_eq_true, List.any_eq_true] at hused
    rw [List.mem_append, List.mem_map, List.mem_map]
    simpa using hused
  have hlen := (List.subperm_of_subset List.nodup_range hsub).length_le
  rw [List.length_range, List.length_append, List.length_map, List.length_map] at hlen
  omega

/-- The egress request that is queued last on a channel. -/
theorem pushEgress_eq {s : State} {la tag : Nat} (write : Bool) (data : Line) (req line n : Nat) (h : freeEgressTag s (egressOf s la) = some tag) :
    ∃ e v, pushEgress s write la data req line n = setOut (if write then supersede s la else s) (egressOf s la) v ∧ v.reqs.getLast? = some e ∧
      e.addr = la ∧ e.req = req ∧ e.n = n ∧ e.acked = false ∧ e.write = write ∧ e.data = data := by
  unfold pushEgress
  simp only [h]
  exact ⟨_, _, rfl, List.getLast?_concat .., rfl, rfl, rfl, rfl, rfl, rfl⟩

/-! ### The issue -/

/-- What a request's lines cost at their issue: its lane's turn ends, the credit and the lane's energy pay (R119, R123, R229). -/
def issuePaid (s : State) (r : CustReq) : State :=
  chargeEnergy (spendCredit { s with cust := { s.cust with turn := (r.lane.toNat + 1) % 64 } } crCustody (reqEnergy s r)) r.lane.toNat
    (reqEnergy s r)

theorem issuePaid_eq (s : State) (r : CustReq) : ∃ n p c, issuePaid s r = { s with cust := { s.cust with turn := n }, power := p, cnt := c } ∧
    ∀ l : Nat, tget 0 c (0x7008 + 32 * l) = counter s (0x7008 + 32 * l) := by
  obtain ⟨c, hc, hcnt⟩ := chargeEnergy_eq (spendCredit { s with cust := { s.cust with turn := (r.lane.toNat + 1) % 64 } } crCustody (reqEnergy s r))
    r.lane (reqEnergy s r)
  exact ⟨_, _, c, hc, fun l => hcnt _ (by omega)⟩

/-- What lets a one-line request to an OPEN page be issued at once (R20, R39, R119, R156). -/
structure MayIssue (s : State) (r : CustReq) : Prop where
  alone : s.cust.reqs = [r]
  line : r.n = 1 ∧ reqClass r = .openC ∧ r.under = none
  tags : tagsHold s r = true
  up : egressDown s (egressOf s r.addr) = false
  room : (outChan s (egressOf s r.addr)).reqs.length + (outChan s (egressOf s r.addr)).retired.length ≤ 1020
  credit : creditCovers s r = true

theorem reqLines_one {r : CustReq} (h : r.n = 1) : reqLines r = [r.addr] := by
  rw [reqLines, h]
  rfl

theorem tryIssue_read {s : State} {r : CustReq} (h : MayIssue s r) (hop : r.op = 0) : tryIssue s r = some (issueReads (issuePaid s r) r) := by
  obtain ⟨hn, hc, -⟩ := h.line
  have hroom : egressRoom s r = true := by
    rw [egressRoom, reqLines_one hn]
    have := h.room
    simp only [List.all_cons, List.all_nil, Bool.and_true, decide_eq_true_eq]
    omega
  unfold tryIssue
  rw [mustWait_alone h.alone, h.tags, reqLines_one hn, hroom, h.credit, hc]
  simp only [List.any_cons, List.any_nil, h.up, Bool.or_self, Bool.false_eq_true, if_false, Bool.not_true, ne_eq, not_true, false_and,
    if_true]
  rw [if_pos (show r.op = opRead from hop), if_neg (by decide)]
  rfl

theorem tryIssue_write {s : State} {r : CustReq} (h : MayIssue s r) (hop : r.op = 1) {t : State} (ht : issueWrite s r false (writeData r []) = t)
    {x : CustReq} (hx : reqAt t r.seq = some x) (hst : x.stage ≠ .rekey) : tryIssue s r = some (issuePaid t r) := by
  obtain ⟨hn, hc, -⟩ := h.line
  have hroom : egressRoom s r = true := by
    rw [egressRoom, reqLines_one hn]
    have := h.room
    simp only [List.all_cons, List.all_nil, Bool.and_true, decide_eq_true_eq]
    omega
  have h0 : ¬r.op = opRead := by rw [hop]; decide
  have h2 : ¬r.op = opMasked := by rw [hop]; decide
  unfold tryIssue
  rw [mustWait_alone h.alone, h.tags, reqLines_one hn, hroom, h.credit, hc]
  simp only [List.any_cons, List.any_nil, h.up, Bool.or_self, Bool.false_eq_true, if_false, Bool.not_true, ne_eq, not_true, false_and,
    if_true]
  rw [if_neg h0, if_neg h2, ht]
  simp only [hx, hst, if_false]
  rfl

/-- A request of one line issued: it waits for its one egress request. -/
structure Issued (s t : State) (r : CustReq) (write : Bool) (data : Line) (octets : Nat) : Prop where
  alone : ∃ r', t.cust.reqs = [r'] ∧ r'.tag = r.tag ∧ r'.ch = r.ch ∧ r'.n = 1 ∧ r'.res = [.waiting] ∧
    r'.stage = (if write then .writing else .reading) ∧ ∃ e, (outChan t (egressOf s r.addr)).reqs.getLast? = some e ∧ e.addr = r.addr ∧
      e.req = r'.seq ∧ e.n = 1 ∧ e.acked = false ∧ e.write = write ∧ e.data = data
  ins : t.cust.ins = s.cust.ins
  dram : t.dram = s.dram
  counted : counter t (0x7008 + 32 * r.lane.toNat) = counter s (0x7008 + 32 * r.lane.toNat) + BitVec.ofNat 64 octets

theorem issueReads_issued {s : State} {r : CustReq} (h : MayIssue s r) : Issued s (issueReads (issuePaid s r) r) r false 0 0 := by
  obtain ⟨hn, hc, hu⟩ := h.line
  obtain ⟨n, p, c, hpaid, hcnt⟩ := issuePaid_eq s r
  generalize issuePaid s r = u at hpaid
  have hout : outChan u (egressOf s r.addr) = outChan s (egressOf s r.addr) := by rw [hpaid]; rfl
  have heg : egressOf u r.addr = egressOf s r.addr := by rw [hpaid]; rfl
  obtain ⟨tag, htag⟩ := freeEgressTag_isSome (s := u) (ch := egressOf u r.addr) (by rw [heg, hout]; have := h.room; omega)
  obtain ⟨e, v, hpush, hlast, h1, h2, h3, h4, h5, h6⟩ := pushEgress_eq false 0 r.seq (r.addr - r.addr) 1 htag
  have hmeta : reqMeta u r (reqLines r) = ([.plain], u) := by
    rw [reqLines_one hn, reqMeta, hc]
    rfl
  have hreqs : u.cust.reqs = [r] := by rw [hpaid]; exact h.alone
  have hissue : issueReads u r = onlyReq (setOut u (egressOf u r.addr) v) { r with keys := [noKeys], res := [.waiting], stage := .reading, under := none } := by
    unfold issueReads
    rw [reqLines_one hn] at hmeta
    simp only [hu, hmeta, reqLines_one hn, List.zip_cons_cons, List.zip_nil_left, List.foldl_cons, List.foldl_nil, List.filter_cons,
      List.filter_nil, isFetched, if_true, List.map_cons, List.map_nil, List.foldr_cons, List.foldr_nil, intoRuns, hpush]
    exact setReq_alone hreqs rfl
  rw [hissue]
  refine ⟨⟨_, rfl, rfl, rfl, hn, rfl, rfl, e, ?_, h1, h2, h3, h4, h5, h6⟩, ?_, ?_, ?_⟩
  · rw [← heg]
    have ho := outChan_setOut_same u (egressOf u r.addr) v
    rw [← ho] at hlast
    exact hlast
  · rw [hpaid]
    rfl
  · rw [hpaid]
    rfl
  · rw [hpaid]
    exact (hcnt _).trans (BitVec.add_zero _).symm

theorem outChan_onlyReq (s : State) (r : CustReq) (ch : Nat) : outChan (onlyReq s r) ch = outChan s ch := rfl

/-- A line written: its octets are counted, and older stores to it are overtaken. -/
theorem written_eq (s : State) (r : CustReq) : ∃ u, supersede (count s (0x7008 + 32 * r.lane.toNat) 64) r.addr = u ∧
    u.cust.ins = s.cust.ins ∧ u.dram = s.dram ∧
    counter u (0x7008 + 32 * r.lane.toNat) = counter s (0x7008 + 32 * r.lane.toNat) + BitVec.ofNat 64 64 := by
  have hc := counter_count (s := s) (0x7008 + 32 * r.lane.toNat) 64 (0x7008 + 32 * r.lane.toNat)
  rw [if_pos rfl] at hc
  have hins : (count s (0x7008 + 32 * r.lane.toNat) 64).cust.ins = s.cust.ins := by rw [count_cust]
  have hdram : (count s (0x7008 + 32 * r.lane.toNat) 64).dram = s.dram := by rw [count_dram]
  generalize count s (0x7008 + 32 * r.lane.toNat) 64 = w at hc hins hdram
  exact ⟨_, rfl, hins, hdram, hc⟩

/-- The write of one line to an OPEN page: its data as they are. -/
theorem issueWrite_open {s : State} {r : CustReq} {d : Line} {m : BitVec 64} (h : MayIssue s r) (hop : r.op = 1) (hl : r.lines = [(d, m)]) :
    ∃ e v, issueWrite s r false (writeData r []) = onlyReq (setOut (supersede (count s (0x7008 + 32 * r.lane.toNat) 64) r.addr)
        (egressOf s r.addr) v) { r with stage := .writing, res := [.waiting] } ∧
      v.reqs.getLast? = some e ∧ e.addr = r.addr ∧ e.req = r.seq ∧ e.n = 1 ∧ e.acked = false ∧ e.write = true ∧ e.data = d := by
  obtain ⟨hn, hc, hu⟩ := h.line
  have hop2 : ¬r.op = opMasked := by rw [hop]; decide
  have hdata : writeData r [] = [(r.addr, d)] := by
    rw [writeData, hn, hl]
    change [(r.addr + 0, if r.op = opMasked then _ else d)] = _
    rw [if_neg hop2, Nat.add_zero]
  obtain ⟨tag, htag⟩ := freeEgressTag_isSome (s := count s (0x7008 + 32 * r.lane.toNat) 64) (ch := egressOf s r.addr) (by
    have := h.room
    have ho : outChan (count s (0x7008 + 32 * r.lane.toNat) 64) (egressOf s r.addr) = outChan s (egressOf s r.addr) := rfl
    rw [ho]
    omega)
  obtain ⟨e, v, hpush, hlast, h1, h2, h3, h4, h5, h6⟩ := pushEgress_eq (s := count s (0x7008 + 32 * r.lane.toNat) 64) (la := r.addr)
    true d r.seq (r.addr - r.addr) 1 htag
  have hcommit : commitAll s r false [(r.addr, d)] = (.ok [(r.addr, d)], s) := by
    simp only [commitAll, Bool.false_eq_true, if_false, hc, commitLine]
  refine ⟨e, v, ?_, hlast, h1, h2, h3, h4, h5, h6⟩
  unfold issueWrite
  simp only [hdata, hcommit, hn, List.foldl_cons, List.foldl_nil, Nat.mul_one, hpush, if_true]
  exact setReq_alone h.alone rfl

theorem tryIssue_write_issued {s : State} {r : CustReq} {d : Line} {m : BitVec 64} (h : MayIssue s r) (hop : r.op = 1) (hl : r.lines = [(d, m)]) :
    ∃ t, tryIssue s r = some t ∧ Issued s t r true d 64 := by
  obtain ⟨e, v, hw, hlast, h1, h2, h3, h4, h5, h6⟩ := issueWrite_open h hop hl
  obtain ⟨y, hy, hins, hdram, hcount⟩ := written_eq s r
  rw [hy] at hw
  generalize hu : onlyReq (setOut y (egressOf s r.addr) v) { r with stage := .writing, res := [.waiting] } = u at hw
  have hreqs : u.cust.reqs = [{ r with stage := .writing, res := [.waiting] }] := by rw [← hu]; rfl
  have hat : reqAt u r.seq = some { r with stage := .writing, res := [.waiting] } := by simp [reqAt, hreqs]
  refine ⟨issuePaid u r, tryIssue_write h hop hw hat (fun h => Stage.noConfusion h), ?_⟩
  obtain ⟨n, p, c, hpaid, hcnt⟩ := issuePaid_eq u r
  have hout : outChan u (egressOf s r.addr) = v := by
    rw [← hu, outChan_onlyReq, outChan_setOut_same]
  have hins' : u.cust.ins = s.cust.ins := by rw [← hins, ← hu]; rfl
  have hdram' : u.dram = s.dram := by rw [← hdram, ← hu]; rfl
  have hcount' : counter u (0x7008 + 32 * r.lane.toNat) = counter s (0x7008 + 32 * r.lane.toNat) + BitVec.ofNat 64 64 := by
    rw [← hcount, ← hu]
    rfl
  rw [← hout] at hlast
  rw [hpaid]
  exact ⟨⟨_, hreqs, rfl, rfl, h.line.1, rfl, rfl, e, hlast, h1, h2, h3, h4, h5, h6⟩, hins', hdram', (hcnt _).trans hcount'⟩

/-- An access of one line to an OPEN page, ready to go, is issued. -/
theorem tryIssue_issued {s : State} {r : CustReq} (h : MayIssue s r) (hop : r.op = 0 ∨ r.op = 1 ∧ r.lines.length = 1) :
    ∃ t, tryIssue s r = some t ∧ Issued s t r (decide (r.op = 1)) (if r.op = 1 then (r.lines.getD 0 (0, 0)).1 else 0) (if r.op = 1 then 64 else 0) := by
  obtain hop | ⟨hop, hl⟩ := hop
  · have hne : ¬r.op = 1 := by rw [hop]; decide
    rw [decide_eq_false hne, if_neg hne, if_neg hne]
    exact ⟨_, tryIssue_read h hop, issueReads_issued h⟩
  · obtain ⟨x, hx⟩ := List.length_eq_one_iff.1 hl
    rw [decide_eq_true hop, if_pos hop, if_pos hop, hx]
    exact tryIssue_write_issued h hop hx

/-- A request that waits for its answers stays. -/
theorem moveReq_issued (t : State) {r' : CustReq} {write : Bool} (hres : r'.res = [.waiting])
    (hst : r'.stage = if write then .writing else .reading) : moveReq t r' = none := by
  cases write <;> simp [moveReq, hst, hres]

/-! ### From the map to the issue -/

/-- A request that its page's entry admits, about to be issued. -/
def judged (s : State) (r : CustReq) (e : W32) : CustReq :=
  { r with entry := e, owner := entCtx e, ownerEpoch := (ctxAt s (entCtx e)).epoch.toNat, stage := .hold }

/-- A request judged by an entry that admits it, on a lane that is not regulated, waits to be issued. -/
theorem moveReq_walk {s : State} {r : CustReq} {m : MapLine} {e : W32} (h : s.cust.reqs = [r]) (hs : r.stage = .walk)
    (hm : tfind s.mapc.lines (pageIndex s (pageOfLine r.addr) / 16) = some m) (he : m.words.getD (pageIndex s (pageOfLine r.addr) % 16) 0 = e)
    (hres : entState e ≠ .reserved) (hent : entryRefusal s r.ctx e (decide (r.op ≠ opRead)) = none) (hopen : entClass e = .openC)
    (hreg : regulated s r.lane.toNat = false) : moveReq s r = some (onlyReq s (judged s r e)) := by
  unfold moveReq
  simp only [hs, hm, he, hres, if_false]
  rw [judge, hent]
  simp only [hopen, if_true]
  rw [toTokens, takeTokens]
  simp only [hreg, Bool.not_false, if_true]
  exact congrArg some (setReq_alone h rfl)

/-- A request taken, judged and issued in one step. -/
theorem settleReqs_issued {s t : State} {r : CustReq} {m : MapLine} {e : W32} {write : Bool} {data : Line} {octets : Nat}
    (h : s.cust.reqs = [r]) (hs : r.stage = .walk)
    (hm : tfind s.mapc.lines (pageIndex s (pageOfLine r.addr) / 16) = some m) (he : m.words.getD (pageIndex s (pageOfLine r.addr) % 16) 0 = e)
    (hres : entState e ≠ .reserved) (hent : entryRefusal s r.ctx e (decide (r.op ≠ opRead)) = none) (hopen : entClass e = .openC)
    (hreg : regulated s r.lane.toNat = false)
    (hissue : tryIssue (onlyReq s (judged s r e))
      (judged s r e) = some t)
    (ht : Issued (onlyReq s (judged s r e)) t
      (judged s r e) write data octets) :
    settleReqs s = t := by
  obtain ⟨r', hr', -, -, -, hw, hst, -⟩ := ht.alone
  rw [settleReqs, h]
  change settleSteps (16 + 1 + 1) s = t
  rw [settleSteps_move _ h (moveReq_walk h hs hm he hres hent hopen hreg), settleSteps_move _ (r := judged s r e) rfl hissue,
    settleSteps_stay _ hr' (moveReq_issued t hw hst)]

/-- A bundle that passes checks 1 to 5 is queued. -/
theorem submit_passed {s : State} {ch : Fin 4} {b : CustBeat} {lines : List (Line × BitVec 64)} (he : s.cust.enabled = true)
    (hs : s.cust.stopped = false) (h : earlyRefusal s b = none) (hlen : b.len = 0) (hd : egressDown s (egressOf s b.addr.toNat) = false) :
    submit s ch b lines = withRequest s (submitted s ch b lines) := by
  have hb : (!s.cust.enabled || s.cust.stopped) = false := by rw [he, hs]; rfl
  have hl : reqLines (submitted s ch b lines) = [b.addr.toNat] := reqLines_one (by simp [submitted, hlen])
  unfold submit
  rw [hb]
  simp only [Bool.false_eq_true, if_false]
  split
  · next h' => exact absurd (h.symm.trans h') (by simp)
  · change (if (reqLines (submitted s ch b lines)).any (fun la => egressDown s (egressOf s la)) then _ else withRequest s (submitted s ch b lines)) = _
    rw [hl, if_neg (by simp [hd])]

/-- A context that passes check 5 is ACTIVE. -/
theorem active_of_earlyRefusal {s : State} {b : CustBeat} (h : earlyRefusal s b = none) : (ctxAt s b.ctx.toNat).state = .active := by
  unfold earlyRefusal at h
  dsimp only at h
  split at h
  · cases h
  · split at h
    · cases h
    · split at h
      · cases h
      · split at h
        · cases h
        · split at h
          · cases h
          · unfold ctxRefusal at h
            split at h
            · assumption
            · split at h <;> cases h
            · cases h

/-- The lane that the lane table binds a MID to is one of 64. -/
theorem laneOfMid_lt {s : State} {mid l : Nat} (h : laneOfMid s mid = some l) : l < 64 := by
  unfold laneOfMid at h
  dsimp only at h
  split at h
  · rw [← Option.some.inj h]
    exact Nat.mod_lt _ (by decide)
  · cases h

/-- Settles O32. -/
theorem custodyIssued : Obligations.CustodyIssued := by
  unfold Obligations.CustodyIssued
  intro s ch b m l hp hi hw _ hlen hop hlane hearly la q e c hm hres hent hctx hopen hreg hdown hroom hcredit
  have hexec : exec (.custInRequest ch b) s = .next (ended s (captureBeat s ch b)) := live_powered (f := fun s => captureBeat s ch b) s hp
  obtain ⟨hen, hst, hasleep⟩ := hw.serves
  have hidle := custodyIdle_bundleTaken hi ch
  generalize hu : withRequest (bundleTaken s ch) (submitted (bundleTaken s ch) ch b (if b.op = 0 then [] else [(b.data, b.mask)])) = u
  generalize hr : submitted (bundleTaken s ch) ch b (if b.op = 0 then [] else [(b.data, b.mask)]) = r at hu
  have hlanel : r.lane.toNat = l := by
    rw [← hr, submitted, show laneOfMid (bundleTaken s ch) b.mid.toNat = some l from hlane]
    exact Nat.mod_eq_of_lt (laneOfMid_lt hlane)
  have hn : r.n = 1 := by rw [← hr, submitted, hlen]; rfl
  have hreqs : u.cust.reqs = [r] := by
    rw [← hu, withRequest, hidle.1]
    rfl
  have hact := active_of_earlyRefusal hearly
  have hmay : MayIssue (onlyReq u (judged u r e)) (judged u r e) := by
    refine ⟨rfl, ⟨hn, hopen, by rw [← hr]; rfl⟩, ?_, ?_, ?_, ?_⟩
    · have hc : ctxAt (onlyReq u (judged u r e)) r.ctx = ctxAt s b.ctx.toNat := by rw [← hu, ← hr]; rfl
      have hown : (judged u r e).owner = r.ctx := by rw [← hr]; exact hctx
      have hep : (judged u r e).epoch = (ctxAt s b.ctx.toNat).epoch.toNat := by rw [← hr]; rfl
      have hctx' : (judged u r e).ctx = r.ctx := rfl
      simp only [tagsHold, hown, hep, hctx', hc, hact]
      simp
    · rw [← hdown, ← hr, ← hu]
      rfl
    · rw [← hr, ← hu]
      exact hroom
    · have hopm : ¬(judged u r e).op = opMasked := by
        rw [← hr]
        obtain h | h := hop <;> rw [show (judged u _ e).op = b.op from rfl, h] <;> decide
      have hen : reqEnergy (onlyReq u (judged u r e)) (judged u r e) = lineEnergy s .openC := by
        rw [reqEnergy, tokensOf, if_neg hopm, show (judged u r e).n = 1 from hn, Nat.one_mul, show reqClass (judged u r e) = .openC from hopen,
          ← hu]
        rfl
      rw [creditCovers, hen, ← hu]
      refine decide_eq_true ?_
      rw [Nat.cast_mul]
      exact hcredit
  have hopj : (judged u r e).op = 0 ∨ (judged u r e).op = 1 ∧ (judged u r e).lines.length = 1 := by
    rw [← hr]
    obtain h | h := hop
    · exact .inl h
    · exact .inr ⟨h, by simp [judged, submitted, h]⟩
  obtain ⟨t, htry, hissued⟩ := tryIssue_issued hmay hopj
  have hsettle : settleReqs u = t := by
    refine settleReqs_issued (m := m) (e := e) hreqs (by rw [← hr]; rfl) ?_ ?_ hres ?_ hopen ?_ htry hissued
    · rw [← hu, ← hr]
      exact hm
    · rw [← hu, ← hr]
      rfl
    · rw [← hu, ← hr]
      exact hent
    · rw [hlanel, ← hu]
      exact hreg
  have hcap : settleReqs (capture (bundleTaken s ch) ch b) = t := by
    rw [capture_whole hw, submit_passed (s := bundleTaken s ch) hen hst ((earlyRefusal_bundleTaken s ch b).trans hearly) hlen hdown, hr, hu, hsettle]
  have hheld : NoneHeld t := by
    have h := hidle.2.1
    intro c
    rw [inChan, hissued.ins, ← hu]
    exact h c
  refine ⟨_, hexec, ?_⟩
  rw [captureBeat_idle hi hasleep hw.taken.1 (by rw [hcap]; exact hheld), hcap]
  obtain ⟨r', hr', htag, hch, hn', hwait, hstage, x, hlast, h1, h2, h3, h4, h5, h6⟩ := hissued.alone
  have hopr : (judged u r e).op = b.op := by rw [← hr]; rfl
  have haddr : (judged u r e).addr = la := by rw [← hr]; rfl
  have hch' : (judged u r e).ch = ch := by rw [← hr]; rfl
  have htag' : (judged u r e).tag = b.tag := by rw [← hr]; rfl
  have hegress : egressOf (onlyReq u (judged u r e)) la = c := by rw [← hu]; rfl
  have hdata : b.op = 1 → (judged u r e).lines = [(b.data, b.mask)] := fun h => by rw [← hr]; simp [judged, submitted, h]
  have hcount := hissued.counted
  rw [show (judged u r e).lane.toNat = l from hlanel, hopr] at hcount
  rw [hopr] at hstage h5 h6
  rw [haddr, hegress] at hlast
  refine ⟨r', x, hr', htag.trans htag', hch.trans hch', hn', hwait, ?_, hlast, h1.trans haddr, h2, h3, h4, h5, fun h => ?_, ?_, ?_, ?_⟩
  · rw [hstage]
    obtain h | h := hop <;> rw [h] <;> rfl
  · rw [h6, if_pos h, hdata h]
    rfl
  · have hin : inChan t ch.val = inChan (bundleTaken s ch) ch.val := by
      rw [inChan, hissued.ins, ← hu]
      rfl
    exact ((congrArg InChannel.rsp hin).trans (congrArg InChannel.rsp (inChan_bundleTaken s ch))).trans rfl
  · refine hissued.dram.trans ?_
    rw [← hu]
    rfl
  · refine hcount.trans ?_
    rw [show counter (onlyReq u (judged u r e)) (0x7008 + 32 * l) = counter s (0x7008 + 32 * l) by rw [← hu]; rfl]
    split <;> rfl

end Sys2Proof.Proofs
end

section
/-!
PROOF. The memory controller's answers (R38 to R40, R67, R68, R175, R507): which beat goes where, and how one ends a request of one line.
-/
namespace Sys2Proof.Proofs

open Sys2Proof Sys2Proof.Machine Sys2Proof.Safety Sys2Proof.Laws

/-! ### A request of one line that ends -/

/-- With no bundle waiting for its ACK, settling is moving the requests. -/
theorem settle_of_settleReqs {s t : State} (hl : NoneLost s) (h : settleReqs s = t) (hh : NoneHeld t) : settle s = t := by
  have hdrain (ch : Fin 4) : drainHeld ch (inChan t ch.val).held.length t = t := by
    rw [hh ch]
    rfl
  rw [settle, settleLost_nil hl]
  simp only [h, List.foldl_cons, List.foldl_nil, hdrain]

theorem answerGiven_onlyReq {s t : State} {r : CustReq} {ch : Nat} {bs : List RspBeat} (h : AnswerGiven (onlyReq s r) t ch bs) :
    AnswerGiven s t ch bs := by
  obtain ⟨i, n, hrest⟩ := h.rest
  exact ⟨h.rsp, h.openWrite, ⟨i, n, hrest⟩, h.held⟩

/-- A read of one line whose line is known is answered. -/
theorem settleReqs_read {s : State} {r : CustReq} {v : Verdict} {d : Line} (h : s.cust.reqs = [r]) (hs : r.stage = .reading) (hop : r.op = 0)
    (hres : r.res = [.got v d]) : AnswerGiven s (settleReqs s) r.ch.val [answer r v d] := by
  have hop' : r.op = opRead := hop
  have hmove : moveReq s r = some (onlyReq s { r with stage := .answering }) := by
    simp only [moveReq, hs, hres, readsDone, hop', if_true]
    exact congrArg some (setReq_alone h rfl)
  have hans : moveReq (onlyReq s { r with stage := .answering }) { r with stage := .answering } =
      some (answerReq (onlyReq s { r with stage := .answering }) { r with stage := .answering }) := by
    simp [moveReq, answerWaits, onlyReq]
  have hg := answerReq_given (s := onlyReq s { r with stage := .answering }) (r := { r with stage := .answering }) rfl
  obtain ⟨i, n, hrest⟩ := hg.rest
  have hset : settleReqs s = answerReq (onlyReq s { r with stage := .answering }) { r with stage := .answering } := by
    rw [settleReqs, h]
    change settleSteps (15 + 1 + 1 + 1) s = _
    rw [settleSteps_move _ h hmove, settleSteps_move _ (r := { r with stage := .answering }) rfl hans, settleSteps, hrest]
    rfl
  have hb : answerBeats r.tag r.mid r.lane r.ctx r.owner r.counted (decide (r.op ≠ opRead)) (reqResults { r with stage := .answering }) = [answer r v d] := by
    have hr : reqResults { r with stage := .answering } = [(v, d)] := by simp only [reqResults, hop', if_true, hres, List.map_cons, List.map_nil]
    rw [hr]
    rfl
  rw [hset, ← hb]
  exact answerGiven_onlyReq hg

/-- A write of one line that memory has answered is answered: FAILED where an egress fault met it. -/
theorem settleReqs_write {s : State} {r : CustReq} {v : Verdict} {d : Line} (h : s.cust.reqs = [r]) (hs : r.stage = .writing) (hop : r.op ≠ 0)
    (hres : r.res = [.got v d]) :
    AnswerGiven s (settleReqs s) r.ch.val [answer r (if r.fault.isSome then .failed else .clean) 0] := by
  have hop' : ¬r.op = opRead := hop
  generalize hw : (if r.fault.isSome then Verdict.failed else .clean) = w
  have hmove : moveReq s r = some (onlyReq s (withVerdict r w)) := by
    simp only [moveReq, hs, hres, hw]
    exact congrArg some (setReq_alone h rfl)
  have hans : moveReq (onlyReq s (withVerdict r w)) (withVerdict r w) = some (answerReq (onlyReq s (withVerdict r w)) (withVerdict r w)) := by
    simp [moveReq, answerWaits, onlyReq, withVerdict]
  have hg := answerReq_given (s := onlyReq s (withVerdict r w)) (r := withVerdict r w) rfl
  obtain ⟨i, n, hrest⟩ := hg.rest
  have hset : settleReqs s = answerReq (onlyReq s (withVerdict r w)) (withVerdict r w) := by
    rw [settleReqs, h]
    change settleSteps (15 + 1 + 1 + 1) s = _
    rw [settleSteps_move _ h hmove, settleSteps_move _ (r := withVerdict r w) rfl hans, settleSteps, hrest]
    rfl
  have hb := answerBeats_withVerdict r w
  rw [if_neg hop] at hb
  have ha : verdictBeat r w true 0 true = answer r w 0 := by rw [verdictBeat, answer, decide_eq_true hop]
  rw [hset, ← ha, ← hb]
  exact answerGiven_onlyReq hg

/-! ### Which beat goes where -/

theorem exec_custOutResponse {s : State} (hp : powered s = true) (ch : Fin 4) (m : MemBeat) (bus : Bus) : exec (.custOutResponse ch m bus) s =
    .next (ended s (memoryAnswers (reqFell { s with bus := bus } (pCustOut ch)) ch m)) :=
  onBus_powered (f := fun s => memoryAnswers (reqFell s (pCustOut ch)) ch m) s hp

/-- An open answer that the beat continues, or that it does not begin another beside, is not cut short. -/
theorem cutOpen_none {s : State} {ch : Fin 4} {m : MemBeat} (h : ∀ o, openResponse (outChan s ch.val) = some o → o.tag = m.tag.toNat ∨ m.beat ≠ 0) :
    cutOpen s ch m = s := by
  unfold cutOpen
  split
  · next o ho =>
    obtain h | h := h o ho
    · rw [if_neg (fun hc => hc.1 h)]
    · rw [if_neg (fun hc => h hc.2)]
  · rfl

theorem cutOpen_some {s : State} {ch : Fin 4} {m : MemBeat} {o : EgReq} (h : openResponse (outChan s ch.val) = some o) (ht : o.tag ≠ m.tag.toNat)
    (hb : m.beat = 0) : cutOpen s ch m = discardPartial s ch o kBurstShort := by
  simp only [cutOpen, h, ht, hb, ne_eq, not_false_eq_true, and_self, if_true]

/-- The requests on a channel that a beat may answer. -/
def answersTag (m : MemBeat) (x : EgReq) : Bool := decide (x.tag = m.tag.toNat) && x.acked && x.write == m.write

/-- The retired tags that it may free. -/
def answersLate (m : MemBeat) (x : Retired) : Bool := decide (x.tag = m.tag.toNat) && x.write == m.write

theorem answerBeat_next {s : State} {ch : Fin 4} {m : MemBeat} {e : EgReq} (h : (outChan s ch.val).reqs.find? (answersTag m) = some e)
    (hb : m.beat.toNat = e.got) : answerBeat s ch m = beatArrives s ch e m := by
  unfold answersTag at h
  simp only [answerBeat, h, hb, if_true]

theorem answerBeat_excess {s : State} {ch : Fin 4} {m : MemBeat} {e : EgReq} (h : (outChan s ch.val).reqs.find? (answersTag m) = some e)
    (hb : m.beat.toNat ≠ e.got) : answerBeat s ch m = violate s (pCustOut ch) kBurstExcess none := by
  unfold answersTag at h
  simp only [answerBeat, h, hb, if_false]

theorem answerBeat_unsolicited {s : State} {ch : Fin 4} {m : MemBeat} (h : (outChan s ch.val).reqs.find? (answersTag m) = none)
    (hl : (outChan s ch.val).retired.find? (answersLate m) = none) : answerBeat s ch m = violate s (pCustOut ch) kUnsolicited none := by
  unfold answersTag at h
  unfold answersLate at hl
  simp only [answerBeat, h, hl]

theorem answerBeat_late {s : State} {ch : Fin 4} {m : MemBeat} {x : Retired} (h : (outChan s ch.val).reqs.find? (answersTag m) = none)
    (hl : (outChan s ch.val).retired.find? (answersLate m) = some x) : answerBeat s ch m = lateAnswer s ch.val m x := by
  unfold answersTag at h
  unfold answersLate at hl
  simp only [answerBeat, h, hl]

theorem responseTimeout_due {s : State} {ch : Fin 4} {o : EgReq} (h : openResponse (outChan s ch.val) = some o) (ht : o.beatAt + 256 ≤ clock s) :
    responseTimeout s ch = discardPartial s ch o kBurstTimeout := by
  simp only [responseTimeout, h, Nat.not_lt.2 ht, if_false]

/-! ### The answer to a request of one line -/

/-- A state in which the only request waits for the one beat of its answer. -/
structure AwaitsBeat (s : State) (ch : Fin 4) (r : CustReq) (e : EgReq) (m : MemBeat) : Prop where
  one : OneLine s r
  res : r.res = [.waiting]
  beat : e.got = 0 ∧ e.n = 1 ∧ e.line = 0 ∧ e.req = r.seq ∧ e.write = m.write
  fresh : ∀ x ∈ (outChan s ch.val).reqs, x.got = 0
  find : (outChan s ch.val).reqs.find? (answersTag m) = some e
  first : m.beat = 0

/-- The queue of the channel without the request that is answered, and what memory then holds. -/
def beatTaken (s : State) (ch : Fin 4) (e : EgReq) (m : MemBeat) : State := storeAnswered (dropEgress s ch.val e) e m

theorem beatTaken_eq (s : State) (ch : Fin 4) (e : EgReq) (m : MemBeat) : ∃ o, beatTaken s ch e m = { s with
    cust := { s.cust with outs := o }
    dram := if e.write ∧ !m.err ∧ !e.superseded then tset 0 s.dram e.addr e.data else s.dram } ∧
    o = setAt {} s.cust.outs ch.val { outChan s ch.val with reqs := (outChan s ch.val).reqs.filter (fun x => decide (x.tag ≠ e.tag)) } := by
  refine ⟨_, ?_, rfl⟩
  unfold beatTaken storeAnswered
  split <;> rfl

theorem memoryAnswers_awaited {s : State} {ch : Fin 4} {r : CustReq} {e : EgReq} {m : MemBeat} (h : AwaitsBeat s ch r e m) :
    memoryAnswers s ch m = settle (if e.write then (if r.stage = .writing then writeArrives (beatTaken s ch e m) r 0 m else beatTaken s ch e m)
      else (if r.stage = .reading then readArrives (beatTaken s ch e m) r 0 m else beatTaken s ch e m)) := by
  obtain ⟨hgot, hn, hline, hreq, -⟩ := h.beat
  have hopen : openResponse (outChan s ch.val) = none := by
    rw [openResponse, List.find?_eq_none]
    intro x hx
    rw [h.fresh x hx]
    decide
  have hnext : answerBeat s ch m = beatArrives s ch e m := answerBeat_next h.find (by rw [h.first, hgot]; rfl)
  obtain ⟨o, hbt, -⟩ := beatTaken_eq s ch e m
  have hat : reqAt (beatTaken s ch e m) e.req = some r := by
    rw [reqAt, hbt, hreq]
    change s.cust.reqs.find? _ = _
    rw [h.one.alone.1]
    simp
  rw [memoryAnswers, cutOpen_none (fun o ho => absurd (hopen.symm.trans ho) (by simp)), hnext]
  congr 1
  unfold beatArrives
  simp only [hgot, hn, Nat.zero_add, Nat.lt_irrefl, if_false, hline]
  change (match reqAt (beatTaken s ch e m) e.req with
    | none => beatTaken s ch e m
    | some r => _) = _
  rw [hat]
  simp [h.res]
  rfl

/-- What the answer to a one-line request leaves: the request answered, its egress request gone. -/
structure BeatEnds (s t : State) (ch : Fin 4) (r : CustReq) (e : EgReq) (a : RspBeat) : Prop where
  reqs : t.cust.reqs = []
  rsp : (inChan t r.ch.val).rsp = (inChan s r.ch.val).rsp ++ [a]
  gone : ∀ x ∈ (outChan t ch.val).reqs, x.tag ≠ e.tag

/-- The answer given from the state that the beat leaves. -/
theorem beatEnds_of {s u : State} {ch : Fin 4} {r r' : CustReq} {e : EgReq} {m : MemBeat} {a : RspBeat} (h : AwaitsBeat s ch r e m)
    (hins : u.cust.ins = s.cust.ins) (houts : u.cust.outs = (beatTaken s ch e m).cust.outs) (htree : u.tree = s.tree) (hch : r'.ch = r.ch)
    (hg : AnswerGiven u (settleReqs u) r'.ch.val [a]) : BeatEnds s (settle u) ch r e a ∧ ∃ i n, settle u =
      { u with cust := { u.cust with ins := i, reqs := [], nextSeq := n } } := by
  obtain ⟨-, hl, -, hh⟩ := h.one.alone
  have hhu : NoneHeld u := fun c => by rw [inChan, hins]; exact hh c
  have hlu : NoneLost u := by rw [NoneLost, htree]; exact hl
  rw [settle_of_settleReqs hlu rfl (hg.held hhu)]
  have hrsp := hg.rsp
  obtain ⟨i, n, hrest⟩ := hg.rest
  rw [hch, show inChan u r.ch.val = inChan s r.ch.val by rw [inChan, inChan, hins]] at hrsp
  refine ⟨⟨by rw [hrest], hrsp, ?_⟩, i, n, hrest⟩
  obtain ⟨o, hbt, ho⟩ := beatTaken_eq s ch e m
  rw [hrest]
  change ∀ x ∈ (u.cust.outs.getD ch.val {}).reqs, x.tag ≠ e.tag
  rw [houts, hbt, ho, getD_setAt, if_pos rfl]
  intro x hx
  exact of_decide_eq_true (List.mem_filter.1 hx).2

theorem beatTaken_reqs {s : State} {ch : Fin 4} {r : CustReq} {e : EgReq} {m : MemBeat} (h : AwaitsBeat s ch r e m) :
    (beatTaken s ch e m).cust.reqs = [r] := by
  obtain ⟨o, hbt, -⟩ := beatTaken_eq s ch e m
  rw [hbt]
  exact h.one.alone.1

/-- A read whose line opens. -/
theorem readArrives_ok {s : State} {r : CustReq} {m : MemBeat} {p ct : Line} {fixed : Bool} (h : s.cust.reqs = [r]) (hres : r.res = [.waiting])
    (ht : r.tiles = []) (hc : reqClass r ≠ .sealedC) (he : m.err = false)
    (hop : openLine (ctxKey s r.owner) (reqClass r) (r.keys.getD 0 noKeys) r.addr m.data = { line := .ok (p, ct), fixed := fixed }) :
    readArrives s r 0 m = onlyReq (if fixed then count s 0x7840 1 else s) { r with res := [.got .clean p] } := by
  have hopen : openAnswer s r 0 (r.addr + 0) m.data = ({ line := .ok (p, ct), fixed := fixed }, s) := by
    rw [openAnswer, Nat.add_zero]
    simp only [hop]
  unfold readArrives
  simp only [he, Bool.false_eq_true, if_false, hopen, countOpened, ht, hres, hc, List.getElem?_nil]
  refine setReq_alone (r := r) ?_ rfl
  cases fixed <;> exact h

/-- A read that the controller answers with an error. -/
theorem readArrives_err {s : State} {r : CustReq} {m : MemBeat} (h : s.cust.reqs = [r]) (hres : r.res = [.waiting]) (ht : r.tiles = [])
    (he : m.err = true) : readArrives s r 0 m = onlyReq (exception (count s 0x7848 1) 0x08 (reqExc r .failed (r.addr + 0)))
      { r with res := [.got .failed 0] } := by
  unfold readArrives
  simp only [he, if_true, readFails, ht, hres]
  refine setReq_alone (r := r) ?_ rfl
  obtain ⟨rc, f, c, hex, -⟩ := exception_eq (count s 0x7848 1) (badKind .err) (reqExc r .failed (r.addr + 0))
  simp only [List.getElem?_nil, hex]
  exact h

theorem writeArrives_eq {s : State} {r : CustReq} {m : MemBeat} (h : s.cust.reqs = [r]) (hres : r.res = [.waiting]) (hf : r.fault = none) :
    ∃ u, writeArrives s r 0 m = onlyReq u { r with res := [.got .clean 0], fault := if m.err then some 0x08 else none } ∧
      ∃ rc f c, u = { s with rcpt := rc, flt := f, cnt := c } := by
  unfold writeArrives
  simp only [hres, hf, Option.isNone_none, and_true]
  by_cases he : m.err = true
  · obtain ⟨rc, f, c, hex, -⟩ := exception_eq s 0x08 (reqExc r .failed (r.addr + 0))
    simp only [he, if_true, hex]
    exact ⟨_, setReq_alone (r := r) h rfl, rc, f, c, rfl⟩
  · simp only [he]
    exact ⟨s, setReq_alone (r := r) h rfl, s.rcpt, s.flt, s.cnt, rfl⟩

theorem awaited_read_ok {s : State} {ch : Fin 4} {r : CustReq} {e : EgReq} {m : MemBeat} {p ct : Line} {fixed : Bool} (h : AwaitsBeat s ch r e m)
    (hs : r.stage = .reading) (hop : r.op = 0) (hm : m.write = false) (he : m.err = false)
    (hopen : openLine (ctxKey s r.owner) (reqClass r) (r.keys.getD 0 noKeys) r.addr m.data = { line := .ok (p, ct), fixed := fixed }) :
    BeatEnds s (memoryAnswers s ch m) ch r e (answer r .clean p) ∧ (memoryAnswers s ch m).dram = s.dram ∧
    counter (memoryAnswers s ch m) 0x7840 = counter s 0x7840 + (if fixed then 1 else 0) := by
  obtain ⟨-, -, -, -, hw⟩ := h.beat
  obtain ⟨o, hbt, -⟩ := beatTaken_eq s ch e m
  have hopen' : openLine (ctxKey (beatTaken s ch e m) r.owner) (reqClass r) (r.keys.getD 0 noKeys) r.addr m.data =
      { line := .ok (p, ct), fixed := fixed } := by rw [hbt]; exact hopen
  rw [memoryAnswers_awaited h, hw, hm, if_neg (by decide), if_pos hs, readArrives_ok (beatTaken_reqs h) h.res h.one.line.2 h.one.sealed he hopen']
  have hcnt (t : State) : counter (if fixed then count t 0x7840 1 else t) 0x7840 = counter t 0x7840 + (if fixed then 1 else 0) := by
    cases fixed
    · exact (BitVec.add_zero _).symm
    · exact (counter_count (s := t) 0x7840 1 0x7840).trans (if_pos rfl)
  have hframe (t : State) : ∃ c, (if fixed then count t 0x7840 1 else t) = { t with cnt := c } := by
    cases fixed
    · exact ⟨t.cnt, rfl⟩
    · exact ⟨_, rfl⟩
  obtain ⟨c, hc⟩ := hframe (beatTaken s ch e m)
  have hcnt := hcnt (beatTaken s ch e m)
  rw [hc] at hcnt ⊢
  obtain ⟨hends, i, n, hrest⟩ := beatEnds_of (u := onlyReq { beatTaken s ch e m with cnt := c } { r with res := [.got .clean p] })
    (r' := { r with res := [.got .clean p] }) h (by rw [hbt]; rfl) rfl (by rw [hbt]; rfl) rfl
    (settleReqs_read (r := { r with res := [.got .clean p] }) rfl hs hop rfl)
  refine ⟨hends, ?_, ?_⟩
  · rw [hrest, hbt]
    change (if e.write = true ∧ _ then _ else s.dram) = s.dram
    rw [hw, hm, if_neg (fun hx => Bool.false_ne_true hx.1)]
  · rw [hrest]
    refine hcnt.trans ?_
    rw [hbt]
    rfl

theorem awaited_read_err {s : State} {ch : Fin 4} {r : CustReq} {e : EgReq} {m : MemBeat} (h : AwaitsBeat s ch r e m)
    (hs : r.stage = .reading) (hop : r.op = 0) (hm : m.write = false) (he : m.err = true) :
    BeatEnds s (memoryAnswers s ch m) ch r e (answer r .failed 0) ∧ (memoryAnswers s ch m).dram = s.dram ∧
    counter (memoryAnswers s ch m) 0x7848 = counter s 0x7848 + 1 := by
  obtain ⟨-, -, -, -, hw⟩ := h.beat
  obtain ⟨o, hbt, -⟩ := beatTaken_eq s ch e m
  obtain ⟨rc, f, c, hex, hexc⟩ := exception_eq (count (beatTaken s ch e m) 0x7848 1) 0x08 (reqExc r .failed (r.addr + 0))
  have hcnt : tget 0 c 0x7848 = counter s 0x7848 + 1 := by
    rw [hexc, if_neg (fun hx => absurd hx.2 (by decide)), counter_count, if_pos rfl, hbt]
    rfl
  rw [memoryAnswers_awaited h, hw, hm, if_neg (by decide), if_pos hs, readArrives_err (beatTaken_reqs h) h.res h.one.line.2 he, hex]
  obtain ⟨hends, i, n, hrest⟩ := beatEnds_of
    (u := onlyReq { count (beatTaken s ch e m) 0x7848 1 with rcpt := rc, flt := f, cnt := c } { r with res := [.got .failed 0] })
    (r' := { r with res := [.got .failed 0] }) h (by rw [hbt]; rfl) rfl (by rw [hbt]; rfl) rfl
    (settleReqs_read (r := { r with res := [.got .failed 0] }) rfl hs hop rfl)
  refine ⟨hends, ?_, ?_⟩
  · rw [hrest, hbt]
    change (if e.write = true ∧ _ then _ else s.dram) = s.dram
    rw [hw, hm, if_neg (fun hx => Bool.false_ne_true hx.1)]
  · rw [hrest]
    exact hcnt

theorem awaited_write {s : State} {ch : Fin 4} {r : CustReq} {e : EgReq} {m : MemBeat} (h : AwaitsBeat s ch r e m)
    (hs : r.stage = .writing) (hop : r.op ≠ 0) (hf : r.fault = none) (hm : m.write = true) :
    BeatEnds s (memoryAnswers s ch m) ch r e (answer r (if m.err then .failed else .clean) 0) ∧
    (memoryAnswers s ch m).dram = if m.err = false ∧ e.superseded = false then tset 0 s.dram e.addr e.data else s.dram := by
  obtain ⟨-, -, -, -, hw⟩ := h.beat
  obtain ⟨o, hbt, -⟩ := beatTaken_eq s ch e m
  obtain ⟨u, harr, rc, f, c, hu⟩ := writeArrives_eq (m := m) (beatTaken_reqs h) h.res hf
  rw [memoryAnswers_awaited h, hw, hm, if_pos rfl, if_pos hs, harr, hu]
  have hg := settleReqs_write (s := onlyReq { beatTaken s ch e m with rcpt := rc, flt := f, cnt := c }
    { r with res := [.got .clean 0], fault := if m.err then some 0x08 else none })
    (r := { r with res := [.got .clean 0], fault := if m.err then some 0x08 else none }) rfl hs hop rfl
  have hv : (if (if m.err = true then some (0x08 : BitVec 8) else none).isSome = true then Verdict.failed else .clean) =
      if m.err = true then .failed else .clean := by cases m.err <;> rfl
  dsimp only at hg
  rw [hv] at hg
  obtain ⟨hends, i, n, hrest⟩ := beatEnds_of
    (u := onlyReq { beatTaken s ch e m with rcpt := rc, flt := f, cnt := c }
      { r with res := [.got .clean 0], fault := if m.err then some 0x08 else none })
    (r' := { r with res := [.got .clean 0], fault := if m.err then some 0x08 else none }) h (by rw [hbt]; rfl) rfl (by rw [hbt]; rfl) rfl hg
  refine ⟨hends, ?_⟩
  rw [hrest, hbt]
  change (if e.write = true ∧ (!m.err) = true ∧ (!e.superseded) = true then _ else s.dram) = _
  rw [hw, hm]
  cases m.err <;> cases e.superseded <;> rfl

/-- Settles O34: where a beat goes by what waits for it, and what the answer ends by the kind of access. -/
theorem memoryAnswers : Obligations.MemoryAnswers := by
  unfold Obligations.MemoryAnswers
  refine ⟨fun s ch bus m hp => ?_, fun s ch bus r e m hp h1 hres hf hfresh hfind hreq hline hn hb => ?_⟩
  · intro on v mine late
    refine ⟨fun hcut => ⟨fun e he hg => ?_, fun e he hg => ?_, fun he hl => ?_, fun x he hl => ?_⟩, fun o ho ht hb => ?_, fun o ho ht => ?_⟩
    · rw [exec_custOutResponse hp, Machine.memoryAnswers, cutOpen_none (s := on) hcut, answerBeat_next (s := on) he hg]
    · rw [exec_custOutResponse hp, Machine.memoryAnswers, cutOpen_none (s := on) hcut, answerBeat_excess (s := on) he hg]
    · rw [exec_custOutResponse hp, Machine.memoryAnswers, cutOpen_none (s := on) hcut, answerBeat_unsolicited (s := on) he hl]
    · rw [exec_custOutResponse hp, Machine.memoryAnswers, cutOpen_none (s := on) hcut, answerBeat_late (s := on) he hl]
    · rw [exec_custOutResponse hp, Machine.memoryAnswers, cutOpen_some (s := on) ho ht hb]
    · rw [exec_burstTimeout hp, burstTimeout, responseTimeout_due ho ht]
  · have hw : e.write = m.write := by
      have := List.find?_some hfind
      simp only [Bool.and_eq_true, beq_iff_eq] at this
      exact this.2
    have hgot : e.got = 0 := hfresh e (List.mem_of_find?_eq_some hfind)
    have ha : AwaitsBeat (reqFell { s with bus := bus } (pCustOut ch)) ch r e m :=
      ⟨⟨h1.alone, h1.line, h1.sealed⟩, hres, ⟨hgot, hn, hline, hreq, hw⟩, hfresh, hfind, hb⟩
    refine ⟨fun p ct fixed hs hop hm he hopen => ⟨_, exec_custOutResponse hp ch m bus, ?_⟩,
      fun hs hop hm he => ⟨_, exec_custOutResponse hp ch m bus, ?_⟩, fun hs hop hm he => ⟨_, exec_custOutResponse hp ch m bus, ?_⟩,
      fun hs hop hm he => ⟨_, exec_custOutResponse hp ch m bus, ?_⟩⟩
    · obtain ⟨hends, hd, hc⟩ := awaited_read_ok ha hs hop hm he hopen
      generalize Machine.memoryAnswers _ ch m = t at hends hd hc ⊢
      exact ⟨hends.reqs, hends.rsp, hends.gone, hd, hc⟩
    · obtain ⟨hends, hd, hc⟩ := awaited_read_err ha hs hop hm he
      generalize Machine.memoryAnswers _ ch m = t at hends hd hc ⊢
      exact ⟨hends.reqs, hends.rsp, hd, hc⟩
    · obtain ⟨hends, hd⟩ := awaited_write ha hs hop hf hm
      rw [he] at hends hd
      generalize Machine.memoryAnswers _ ch m = t at hends hd ⊢
      refine ⟨hends.reqs, hends.rsp, fun hsup => ?_, fun hsup => ?_⟩
      · rw [hsup] at hd
        exact hd
      · rw [hsup] at hd
        exact hd
    · obtain ⟨hends, hd⟩ := awaited_write ha hs hop hf hm
      rw [he] at hends hd
      generalize Machine.memoryAnswers _ ch m = t at hends hd ⊢
      exact ⟨hends.reqs, hends.rsp, hd⟩

end Sys2Proof.Proofs
end

section
/-!
PROOF. Events inside the custody path (R39, R145, R148, R180, R186, R217, R282).
-/
namespace Sys2Proof.Proofs

open Sys2Proof Sys2Proof.Machine Sys2Proof.Safety Sys2Proof.Laws

/-! ### An egress request acknowledged -/

theorem raiseNext_eq (s : State) (v : OutChannel) : ∃ f : EgReq → EgReq, raiseNext s v = { v with reqs := v.reqs.map f } ∧
    ∀ x, (f x).tag = x.tag ∧ (f x).acked = x.acked := by
  unfold raiseNext
  split
  · refine ⟨_, rfl, fun x => ?_⟩
    split <;> exact ⟨rfl, rfl⟩
  · exact ⟨id, by rw [List.map_id], fun x => ⟨rfl, rfl⟩⟩

theorem requestAck_effect {s : State} {ch : Fin 4} {e : EgReq} (h : CustodyIdle s) (hw : onWire (outChan s ch.val) = some e) :
    (outChan (requestAck s ch) ch.val).stalled = false ∧ (∃ x ∈ (outChan (requestAck s ch) ch.val).reqs, x.tag = e.tag ∧ x.acked = true) ∧
    (outChan (requestAck s ch) ch.val).reqs.length = (outChan s ch.val).reqs.length ∧ (requestAck s ch).dram = s.dram := by
  obtain ⟨hr, hh, hl⟩ := h
  unfold requestAck
  simp only [hw]
  obtain ⟨f, hf, htag⟩ := raiseNext_eq s { outChan s ch.val with
    stalled := false, reqs := (outChan s ch.val).reqs.map (fun r => if r.tag = e.tag then { r with acked := true, since := clock s } else r) }
  rw [hf, settle_idle (by exact ⟨hr, hh, hl⟩), outChan_setOut_same]
  refine ⟨rfl, ⟨f { e with acked := true, since := clock s }, ?_, (htag _).1, (htag _).2⟩, ?_, rfl⟩
  · have he : e ∈ (outChan s ch.val).reqs := List.mem_of_find?_eq_some hw
    refine List.mem_map_of_mem (List.mem_map.2 ⟨e, he, ?_⟩)
    rw [if_pos rfl]
  · rw [List.length_map, List.length_map]

/-! ### A key derived -/

theorem cachedKey_cacheKey (s : State) (c : Nat) (k : CtxKey) : cachedKey (cacheKey s c k) c = some k := by
  unfold cachedKey cacheKey
  simp only [tfind_tput_same]
  exact if_pos ⟨rfl, rfl, rfl⟩

/-- A context's key made ready is the key that stands for it. -/
theorem readyKey_effect (s : State) (c : Nat) : cachedKey (readyKey s c) c = some (ctxKey s c) ∧
    ∃ q n, readyKey s c = { s with keys := { s.keys with clock := s.keys.clock + 1, cache := q }, cnt := n } := by
  unfold readyKey
  split
  · next k h =>
    rw [ctxKey, h]
    exact ⟨cachedKey_cacheKey s c k, _, s.cnt, rfl⟩
  · next h =>
    rw [ctxKey, h]
    exact ⟨cachedKey_cacheKey s c (deriveCtxKey s c), _, _, rfl⟩

/-! ### A map line never written -/

/-- A line of the block's own regions whose counter stands at 0 reads as zeros, with nothing fetched (R150). -/
theorem readOwn_unwritten {s : State} {la : Nat} {l : Line} (h : itemAtHand s (.ctr (pageIndex s (la / 64))) = some l)
    (hr : rekeyOf s (.ctr (pageIndex s (la / 64))) = none) (hm : minorOf l (la % 64) = 0) : readOwn s la = (.ok 0, s) := by
  have hmeta : lineMeta s .versionedC (pageIndex s (la / 64)) (la % 64) 0 = (.unwritten, s) := by
    simp only [lineMeta, itemNow, h, lineCounters, childCounters, hr, hm, decide_true, if_true]
  rw [readOwn, pageOfLine, readLine, hmeta]

theorem wordsOfOctets_zero : wordsOfOctets 16 (octetsOfLine 0) = List.replicate 16 0 := by decide +kernel

/-- A map line read and cached. -/
theorem putMapLine_eq (s : State) (n : Nat) (ws : List W32) : ∃ c, putMapLine s n ws = { s with mapc := c } ∧
    ∃ m, tfind c.lines n = some m ∧ m.words = ws := by
  unfold putMapLine
  exact ⟨_, rfl, _, tfind_tput_same _ _ _, rfl⟩

theorem walkMap_unwritten {s : State} {n : Nat} {l : Line} (h : itemAtHand s (.ctr (pageIndex s ((64 * mapBase s + n) / 64))) = some l)
    (hr : rekeyOf s (.ctr (pageIndex s ((64 * mapBase s + n) / 64))) = none) (hm : minorOf l ((64 * mapBase s + n) % 64) = 0) :
    walkMap s n = (.ok (List.replicate 16 0), putMapLine (count s 0x7818 1) n (List.replicate 16 0)) := by
  have hread : readOwn (count s 0x7818 1) (mapLineAddr s n) = (.ok 0, count s 0x7818 1) := readOwn_unwritten (s := count s 0x7818 1) h hr hm
  rw [walkMap, hread]
  simp only [wordsOfOctets_zero]

/-! ### A request that a page's entry refuses -/

/-- A request refused alone in the queues: its energy is charged, a record is written, and it waits to be answered. -/
theorem refuseReq_single {s : State} {r : CustReq} (v : Verdict) (k : Option Nat) (h : s.cust.reqs = [r]) (ht : r.tiles = []) :
    ∃ rc f c, refuseReq s r v k = { s with cust := { s.cust with reqs := [withVerdict r v] }, rcpt := rc, flt := f, cnt := c } ∧
      ∀ off, off ≠ 0x7978 → off ≠ 0x7010 + 32 * r.lane.toNat → tget 0 c off = counter s off := by
  have hun (t : State) : unflyAll t r = t := by rw [unflyAll, ht]; rfl
  have hset (t : State) (hq : t.cust.reqs = [r]) : setReq t (withVerdict r v) = onlyReq t (withVerdict r v) := setReq_alone hq rfl
  have hch (t : State) : ∃ c, chargeRefused t r = { t with cnt := c } ∧ ∀ off, off ≠ 0x7010 + 32 * r.lane.toNat → tget 0 c off = counter t off := by
    unfold chargeRefused
    split
    · exact ⟨t.cnt, rfl, fun off _ => rfl⟩
    · exact chargeEnergy_eq t r.lane _
  unfold refuseReq
  dsimp only
  rw [hun]
  cases k with
  | none =>
    obtain ⟨c, hc, hcnt⟩ := hch s
    rw [hc]
    exact ⟨s.rcpt, s.flt, c, hset _ h, fun off _ hoff => hcnt off hoff⟩
  | some k =>
    obtain ⟨rc, f, c, he, hexc⟩ := exception_eq s k (reqExc r v r.addr)
    obtain ⟨c', hc, hcnt⟩ := hch { s with rcpt := rc, flt := f, cnt := c }
    dsimp only
    rw [he, hc]
    refine ⟨rc, f, c', hset _ h, fun off h1 h2 => ?_⟩
    rw [hcnt off h2]
    refine (hexc off).trans (if_neg fun hx => h1 hx.2)

/-- A read of one line answered with a verdict and no data. -/
theorem settleReqs_refused_read {s : State} {r : CustReq} (v : Verdict) (k : Option Nat) (h : s.cust.reqs = [r]) (ht : r.tiles = [])
    (hn : r.n = 1) (hop : r.op = 0) : ∃ rc f c i q, settleReqs (refuseReq s r v k) = { s with
        cust := { s.cust with ins := i, reqs := [], nextSeq := q }, rcpt := rc, flt := f, cnt := c } ∧
      (∀ off, off ≠ 0x7978 → off ≠ 0x7010 + 32 * r.lane.toNat → tget 0 c off = counter s off) ∧
      AnswerGiven s { s with cust := { s.cust with ins := i, reqs := [], nextSeq := q } } r.ch.val [answer r v 0] := by
  obtain ⟨rc, f, c, href, hcnt⟩ := refuseReq_single v k h ht
  rw [href]
  generalize hu : ({ s with cust := { s.cust with reqs := [withVerdict r v] }, rcpt := rc, flt := f, cnt := c } : State) = u
  have hreqs : u.cust.reqs = [withVerdict r v] := by rw [← hu]
  have hg := answerReq_given hreqs
  rw [settleReqs_answering hreqs rfl]
  have hb := answerBeats_withVerdict r v
  rw [if_pos hop, hn] at hb
  have hb' : answerBeats r.tag r.mid r.lane r.ctx r.owner r.counted (decide (r.op ≠ opRead)) (reqResults (withVerdict r v)) = [answer r v 0] := by
    rw [hb]
    change [verdictBeat r v false 0 true] = _
    rw [verdictBeat, answer, hop]
    rfl
  obtain ⟨i, q, hrest⟩ := hg.rest
  have hrsp := hg.rsp
  have hopen := hg.openWrite
  have hheld := hg.held
  rw [hrest] at hrsp hopen hheld ⊢
  subst hu
  exact ⟨rc, f, c, i, q, rfl, hcnt, ⟨hrsp.trans (congrArg₂ _ rfl hb'), hopen, ⟨i, q, rfl⟩, hheld⟩⟩

/-- A request alone that its move leaves to be answered is answered. -/
theorem settleReqs_moved {s t : State} {r r' : CustReq} (h : s.cust.reqs = [r]) (hm : moveReq s r = some t) (ht : t.cust.reqs = [r'])
    (hs : r'.stage = .answering) : settleReqs s = settleReqs t := by
  have hans : moveReq t r' = some (answerReq t r') := by simp [moveReq, hs, answerWaits, ht]
  obtain ⟨i, n, hrest⟩ := (answerReq_given ht).rest
  rw [settleReqs_answering ht hs, settleReqs, h]
  change settleSteps (15 + 1 + 1 + 1) s = _
  rw [settleSteps_move _ h hm, settleSteps_move _ ht hans, settleSteps, hrest]
  rfl

theorem mapWalkEnds_free {s : State} {r : CustReq} {l : Line} (h : OneLine s r) (hs : r.stage = .walk) (hop : r.op = 0) (hst : isStale s 0 = false)
    (hc : r.ctx ≠ 0) (hi : itemAtHand s (.ctr (pageIndex s ((64 * mapBase s + pageIndex s (r.addr / 64) / 16) / 64))) = some l)
    (hk : rekeyOf s (.ctr (pageIndex s ((64 * mapBase s + pageIndex s (r.addr / 64) / 16) / 64))) = none)
    (hm : minorOf l ((64 * mapBase s + pageIndex s (r.addr / 64) / 16) % 64) = 0) :
    (tfind (mapWalkEnds s).mapc.lines (pageIndex s (r.addr / 64) / 16)).map MapLine.words = some (List.replicate 16 0) ∧
    counter (mapWalkEnds s) 0x7818 = counter s 0x7818 + 1 ∧
    (inChan (mapWalkEnds s) r.ch.val).rsp = (inChan s r.ch.val).rsp ++ [answer r .failed 0] ∧ (mapWalkEnds s).cust.reqs = [] ∧
    (mapWalkEnds s).dram = s.dram := by
  obtain ⟨hreqs, hl, -, hh⟩ := h.alone
  obtain ⟨hn, ht⟩ := h.line
  obtain ⟨c, hput, ml, hml, hwords⟩ := putMapLine_eq (count s 0x7818 1) (pageIndex s (r.addr / 64) / 16) (List.replicate 16 0)
  generalize hu : ({ count s 0x7818 1 with mapc := c } : State) = u at hput
  have hcount : counter u 0x7818 = counter s 0x7818 + 1 := by
    have hcc := counter_count (s := s) 0x7818 1 0x7818
    rw [if_pos rfl] at hcc
    rw [← hu]
    exact hcc
  have hureqs : u.cust.reqs = [r] := by rw [← hu]; exact hreqs
  have hlost : NoneLost u := by rw [← hu]; exact hl
  have hheld : NoneHeld u := by rw [← hu]; exact hh
  have hfind : tfind u.mapc.lines (pageIndex u (pageOfLine r.addr) / 16) = some ml := by rw [← hu]; exact hml
  have hentry : ml.words.getD (pageIndex u (pageOfLine r.addr) % 16) 0 = 0 := by
    rw [hwords]
    exact List.getD_replicate _ (Nat.mod_lt _ (Nat.zero_lt_succ 15))
  have hfree : entState 0 ≠ .reserved := by decide
  have hjudge : entryRefusal u r.ctx 0 (decide (r.op ≠ opRead)) = some (.failed, 0x01) := by
    have hst' : isStale u 0 = false := by rw [← hu]; exact hst
    have h0 : entCtx 0 = 0 := rfl
    have hsh : entShared 0 = false := rfl
    rw [entryRefusal, hst', if_neg (by decide), if_pos ⟨by rw [h0]; exact fun e => hc e.symm, by rw [hsh]; rfl⟩]
  have hmove : moveReq u r = some (refuseReq u r .failed (some 0x01)) := by
    unfold moveReq
    simp only [hs, hfind, hentry, hfree, if_false]
    rw [judge, hjudge]
  obtain ⟨rc, f, cn, i, q, hset, hcnt, hg⟩ := settleReqs_refused_read .failed (some 0x01) hureqs ht hn hop
  have hsettle : settleReqs u = settleReqs (refuseReq u r .failed (some 0x01)) := by
    obtain ⟨rc', f', c', href, -⟩ := refuseReq_single (s := u) .failed (some 0x01) hureqs ht
    exact settleReqs_moved hureqs hmove (r' := withVerdict r .failed) (by rw [href]) rfl
  have hwalk : mapWalkEnds s = settleReqs u := by
    unfold mapWalkEnds
    have hold : oldestAt s (fun r => r.stage == .walk) = some r := by simp [oldestAt, hreqs, hs]
    simp only [hold, pageOfLine, walkMap_unwritten hi hk hm, hput]
    rw [settle_of_settleReqs hlost rfl]
    rw [hsettle, hset]
    exact hg.held hheld
  rw [hwalk, hsettle, hset]
  refine ⟨?_, ?_, ?_, rfl, ?_⟩
  · rw [← hu]
    change (tfind c.lines (pageIndex s (r.addr / 64) / 16)).map MapLine.words = _
    rw [hml, Option.map_some, hwords]
  · refine (hcnt 0x7818 (by decide) ?_).trans hcount
    have := r.lane.isLt
    omega
  · have hrsp := hg.rsp
    rw [show inChan u r.ch.val = inChan s r.ch.val by rw [← hu]; rfl] at hrsp
    exact hrsp
  · rw [← hu]
    rfl

/-! ### A dirty line written back -/

theorem memWrite_idle {s : State} {la : Nat} (l : Line) (hb : s.bus = []) (ha : s.keys.asleep = false) (hd : ownDown s la = false) :
    memWrite s la l = (true, storeLine s la l) := by
  simp [memWrite, ha, hd, busAnswer, hb]

theorem writebackLine_plain {s : State} {la : Nat} {m : MetaLine} (h : tfind s.tree.lines la = some m) (hi : m.item = none) (hb : s.bus = [])
    (ha : s.keys.asleep = false) (hd : ownDown s la = false) :
    writebackLine s la = (.done, putMeta (storeLine s la m.data) la { m with dirty := false }) := by
  rw [writebackLine, metaFuel, metaWriteback]
  simp only [h, hi, memWrite_idle m.data hb ha hd]

theorem levelSeals_bus (s : State) (bus : Bus) (i : Nat) : levelSeals { s with bus := bus } i = levelSeals s i := by
  induction i with
  | zero => rfl
  | succ i ih =>
    rw [levelSeals, levelSeals, ih]
    rfl

theorem ownDown_bus (s : State) (bus : Bus) (la : Nat) : ownDown { s with bus := bus } la = ownDown s la := by
  have hm : isMetaLine { s with bus := bus } la = isMetaLine s la := by
    unfold isMetaLine
    rw [levelSeals_bus]
    rfl
  unfold ownDown ownChannel
  rw [hm]
  rfl

/-- METADATA_WRITEBACK's work (R186). -/
def dirtyWrittenBack (s : State) : State := match oldestDirty s [] with
  | some la => settle (writebackLine s la).2
  | none => s

theorem exec_metadataWriteback {s : State} (hp : powered s = true) (bus : Bus) :
    exec (.metadataWriteback bus) s = .next (ended s (dirtyWrittenBack { s with bus := bus })) := onBus_powered (f := dirtyWrittenBack) s hp

/-- The oldest dirty line, where it is a seal or check line, is stored as it is and is clean. -/
theorem dirtyWrittenBack_plain {s : State} {la : Nat} {m : MetaLine} (hi : CustodyIdle s) (ha : s.keys.asleep = false) (hd : ownDown s la = false)
    (ho : oldestDirty s [] = some la) (hm : tfind s.tree.lines la = some m) (hitem : m.item = none) (hb : s.bus = []) :
    storedLine (dirtyWrittenBack s) la = m.data ∧ (tfind (dirtyWrittenBack s).tree.lines la).map MetaLine.dirty = some false ∧
    ∀ la', la' ≠ la → storedLine (dirtyWrittenBack s) la' = storedLine s la' := by
  have hw : dirtyWrittenBack s = putMeta (storeLine s la m.data) la { m with dirty := false } := by
    simp only [dirtyWrittenBack, ho, writebackLine_plain hm hitem hb ha hd]
    exact settle_idle hi
  rw [hw]
  refine ⟨storedLine_storeLine_same s la m.data, ?_, fun la' hne => storedLine_storeLine_ne s m.data hne⟩
  exact congrArg (Option.map MetaLine.dirty) (tfind_tput_same _ _ _)

/-! ### A tile entry whose delay has passed, a re-key record with nothing pending -/

/-- The read entries whose delay has passed go to completion (R217). -/
def delaysExpired (s : State) : State := { s with tiles := { s.tiles with reads := s.tiles.reads.map (fun e =>
  if e.lastAt + bits (activeReg s 0x1044) 0 12 ≤ s.pace.now then { e with completing := true } else e) } }

theorem exec_tileDelayExpire {s : State} (hp : powered s = true) (bus : Bus) : exec (.tileDelayExpire bus) s =
    .next (ended s (delaysExpired { s with bus := bus })) := onBus_powered (f := delaysExpired) s hp

theorem delaysExpired_mem {s : State} {e : TileRead} (he : e ∈ s.tiles.reads) (ht : e.lastAt + bits (activeReg s 0x1044) 0 12 ≤ s.pace.now) :
    ∃ x ∈ (delaysExpired s).tiles.reads, x.order = e.order ∧ x.completing = true ∧ x.sum = e.sum ∧ x.mask = e.mask :=
  ⟨{ e with completing := true }, List.mem_map.2 ⟨e, he, if_pos ht⟩, rfl, rfl, rfl, rfl⟩

theorem exec_rekeyLine {s : State} (hp : powered s = true) (bus : Bus) : exec (.rekeyLine bus) s =
    .next (ended s (settle (background rekeyStep { s with bus := bus }))) := onBus_powered (f := fun s => settle (background rekeyStep s)) s hp

theorem rekeyWork_nothing {s : State} {x : Rekey} {rest : List Rekey} (hi : CustodyIdle s) (hb : backgroundMay s = true)
    (hr : s.tree.rekeys = x :: rest) (hx : x.pending = 0) : settle (background rekeyStep s) = abandonRekey s x.item := by
  have hlow : lowestPending 0 = none := by decide
  have hstep : background rekeyStep s = abandonRekey s x.item := by
    rw [background, if_pos hb, rekeyStep]
    simp only [hr, hx, hlow]
  rw [hstep, settle_idle (by exact hi)]

/-! ### The obligation -/

theorem exec_custOutRequestAck {s : State} (hp : powered s = true) (ch : Fin 4) :
    exec (.custOutRequestAck ch) s = .next (ended s (requestAck s ch)) := live_powered (f := fun s => requestAck s ch) s hp

theorem exec_keyDerivation {s : State} (hp : powered s = true) : exec .keyDerivation s = .next (ended s (keyDerived s)) :=
  live_powered (f := keyDerived) s hp

theorem exec_mapWalk {s : State} (hp : powered s = true) (bus : Bus) :
    exec (.mapWalk bus) s = .next (ended s (mapWalkEnds { s with bus := bus })) := onBus_powered (f := mapWalkEnds) s hp

/-- Settles O35. -/
theorem custodyEvents : Obligations.CustodyEvents := by
  unfold Obligations.CustodyEvents
  intro s ch bus hp
  refine ⟨fun e hi he => ?_, fun c rest hi hf => ?_, ?_, fun la m hi ha hd ho hm hitem => ?_, fun e he ht => ?_, fun x rest hi hb hr hx => ?_⟩
  · have hack := requestAck_effect hi he
    refine ⟨_, exec_custOutRequestAck hp ch, ?_⟩
    generalize requestAck s ch = t at hack ⊢
    exact hack
  · refine ⟨_, exec_keyDerivation hp, ?_⟩
    obtain ⟨hc, q, n, hk⟩ := readyKey_effect { s with keys := { s.keys with inFlight := rest } } c
    have hkd : keyDerived s = readyKey { s with keys := { s.keys with inFlight := rest } } c := by
      unfold keyDerived
      simp only [hf]
      refine settle_idle ?_
      rw [hk]
      exact hi
    rw [hkd]
    refine ⟨hc, ?_, ?_⟩
    · rw [hk]
      rfl
    · rw [hk]
      rfl
  · intro r l h hs hop hst hc n la q hi hk hm _
    refine ⟨_, exec_mapWalk hp bus, ?_⟩
    have hw := mapWalkEnds_free (s := { s with bus := bus }) ⟨h.alone, h.line, h.sealed⟩ hs hop hst hc hi hk hm
    generalize mapWalkEnds { s with bus := bus } = t at hw ⊢
    exact hw
  · refine ⟨_, exec_metadataWriteback hp [], ?_⟩
    have ho' : oldestDirty { s with bus := [] } [] = some la := ho
    have hd' : ownDown { s with bus := [] } la = false := (ownDown_bus s [] la).trans hd
    have hw := dirtyWrittenBack_plain (s := { s with bus := [] }) hi ha hd' ho' hm hitem rfl
    generalize dirtyWrittenBack { s with bus := [] } = t at hw ⊢
    exact hw
  · refine ⟨_, exec_tileDelayExpire hp bus, ?_⟩
    have hd := delaysExpired_mem he ht
    have hrest : delaysExpired { s with bus := bus } = { s with bus := bus, tiles := (delaysExpired s).tiles } := rfl
    have hlen : (delaysExpired s).tiles.reads.length = s.tiles.reads.length := List.length_map _
    rw [hrest]
    generalize (delaysExpired s).tiles = q at hd hlen ⊢
    exact ⟨hd, hlen, rfl⟩
  · refine ⟨_, exec_rekeyLine hp bus, ?_⟩
    rw [rekeyWork_nothing (s := { s with bus := bus }) hi hb hr hx]
    exact ⟨by simp [abandonRekey, ended, hr], rfl⟩

end Sys2Proof.Proofs
end

section
/-!
PROOF. The general requests (R79, R96 to R98), with what a request that starts changes and what an answer leaves.
-/
namespace Sys2Proof.Proofs

open Sys2Proof Sys2Proof.Machine Sys2Proof.Safety Sys2Proof.Laws

/-! ### What a request that starts changes -/

/-- The controller's work draws one free value and counts for its lane (R123, R125). -/
theorem controllerWork_eq (s : State) (l : Nat) : ∃ n, controllerWork s l = { s with free := s.free + 1, cnt := n } ∧
    ∀ off, off ≠ 0x7010 + 32 * l → off ≠ 0x7018 + 32 * l → tget 0 n off = counter s off := by
  refine ⟨_, rfl, fun off h1 h2 => ?_⟩
  refine (counter_count _ _ _ off).trans ((if_neg h2).trans ?_)
  exact (counter_count _ _ _ off).trans (if_neg h1)

/-- The state in which a request taken from channel c runs. -/
theorem startRequest_eq {s t : State} {c : Nat} {k : Call} (h : startRequest s c = some (k, t)) : k.ch = c ∧
    ∃ rest, (chanAt s c).waiting = k.req :: rest ∧
      t = setChan (controllerWork s (workLane s k)) c { chanAt s c with waiting := rest, running := some k.req } := by
  unfold startRequest at h
  cases hw : (chanAt s c).waiting with
  | nil => simp [hw] at h
  | cons r rest =>
    simp only [hw, Option.some.injEq, Prod.mk.injEq] at h
    obtain ⟨rfl, rfl⟩ := h
    exact ⟨rfl, rest, rfl, rfl⟩

/-- A state that differs from the one in which a request runs in its mailboxes alone. -/
theorem mailOnly_of {s t u : State} {bus : Bus} {c : Nat} {k : Call} (h : startRequest { s with bus := bus } c = some (k, t))
    (hu : { u with mbox := t.mbox } = t) : MailOnly s (ended s u) k := by
  obtain ⟨-, rest, -, rfl⟩ := startRequest_eq h
  obtain ⟨n, hw, hcnt⟩ := controllerWork_eq { s with bus := bus } (workLane { s with bus := bus } k)
  rw [hw] at hu
  obtain ⟨hmail, hcount⟩ : u = { s with bus := bus, mbox := u.mbox, free := s.free + 1, cnt := n } ∧ u.cnt = n := by
    constructor
    · exact congrArg (fun x => { x with mbox := u.mbox }) hu
    · exact congrArg State.cnt hu
  refine ⟨by rw [hmail]; rfl, fun off h1 h2 => ?_⟩
  change tget 0 u.cnt off = counter s off
  rw [hcount]
  exact hcnt off h1 h2

/-- The channels of the state in which a request runs: its own has the request running, with the requests behind it waiting. -/
theorem chanAt_startRequest {s t : State} {c : Nat} {k : Call} (h : startRequest s c = some (k, t)) : (∃ rest, chanAt t k.ch =
      { chanAt s k.ch with waiting := rest, running := some k.req }) ∧ ∀ d, d ≠ k.ch → chanAt t d = chanAt s d := by
  obtain ⟨hk, rest, -, rfl⟩ := startRequest_eq h
  obtain ⟨n, hw, -⟩ := controllerWork_eq s (workLane s k)
  rw [hw, hk]
  refine ⟨⟨rest, chanAt_setChan_same _ _ _⟩, fun d hd => ?_⟩
  exact chanAt_setChan_ne _ _ hd

/-- A request that has started, for the rules of what it changes. -/
theorem started_start {s t : State} {op : Nat} {k : Call} (h : Started s op k t) : ∃ c, startRequest s c = some (k, t) := by
  obtain ⟨⟨c, -, hs⟩, -, -, -⟩ := h
  exact ⟨c, hs⟩

theorem started_mailOnly {s t u : State} {op : Nat} {k : Call} (h : Started s op k t) (hu : { u with mbox := t.mbox } = t) :
    MailOnly s (ended s u) k := by
  obtain ⟨c, hs⟩ := started_start h
  exact mailOnly_of (bus := s.bus) hs hu

theorem started_chan {s t : State} {op : Nat} {k : Call} (h : Started s op k t) : (∃ rest, chanAt t k.ch =
      { chanAt s k.ch with waiting := rest, running := some k.req }) ∧ ∀ d, d ≠ k.ch → chanAt t d = chanAt s d := by
  obtain ⟨c, hs⟩ := started_start h
  exact chanAt_startRequest hs

/-- A request that only answers. -/
theorem reply_mail {s t : State} {bus : Bus} {c : Nat} {k : Call} (h : startRequest { s with bus := bus } c = some (k, t)) (st : BitVec 8)
    (ws : List W32) : Answered t k (ended s (reply t k st ws)) st ws ∧ MailOnly s (ended s (reply t k st ws)) k := by
  obtain ⟨⟨rest, hc⟩, -⟩ := chanAt_startRequest h
  obtain ⟨ha, hm⟩ := reply_answered (t := t) (k := k) (by rw [hc]) st ws
  exact ⟨ha, mailOnly_of h hm⟩

/-! ### The checks of a request -/

/-- A row whose opcode the next request carries, while the controller waits. -/
theorem service_waits {s t : State} {c op : Nat} {k : Call} (hc : pickChannel s = some c) (hs : startRequest s c = some (k, t))
    (ho : opcodeOf k.req.w0 = op) (hv : serving s op = .waits) (body : Call → State → State) : service op s body = s := by
  simp [service, hc, hs, ho, hv]

/-- While it restarts. -/
theorem service_restarts {s t : State} {c op : Nat} {k : Call} (hc : pickChannel s = some c) (hs : startRequest s c = some (k, t))
    (ho : opcodeOf k.req.w0 = op) (hv : serving s op = .restarts) (body : Call → State → State) :
    service op s body = reply t k stRestarting [] := by
  obtain ⟨hk, -⟩ := startRequest_eq hs
  simp [service, hc, hs, ho, hv, reply, hk]

/-- While it serves, where a check refuses the request. -/
theorem service_refused {s t : State} {c op : Nat} {k : Call} {st : BitVec 8} (hc : pickChannel s = some c)
    (hs : startRequest s c = some (k, t)) (ho : opcodeOf k.req.w0 = op) (hv : serving s op = .serves) (hr : requestRefusal t k = some st)
    (body : Call → State → State) : service op s body = reply t k st [] := by
  obtain ⟨hk, -⟩ := startRequest_eq hs
  simp [service, hc, hs, ho, hv, hr, reply, hk]

/-- A row whose opcode the next request does not carry. -/
theorem service_other {s t : State} {c op : Nat} {k : Call} (hc : pickChannel s = some c) (hs : startRequest s c = some (k, t))
    (ho : opcodeOf k.req.w0 ≠ op) (body : Call → State → State) : service op s body = s := by
  simp only [service, hc, hs, ho, ne_eq, not_false_eq_true, if_true]

theorem service_none {s : State} (op : Nat) (h : pickChannel s = none) (body : Call → State → State) : service op s body = s := by
  simp only [service, h]

theorem requestRefusal_undefined {t : State} {k : Call} (h : opInfo (opcodeOf k.req.w0) = none) :
    requestRefusal t k = some (if bits k.req.w0 0 6 = 0 then stBadOpcode else stBadField) := by
  unfold requestRefusal
  by_cases hb : bits k.req.w0 0 6 = 0
  · rw [if_neg (not_not.2 hb), h, if_pos hb]
  · rw [if_pos hb, if_neg hb]

/-! ### The general opcodes -/

theorem exec_ping {s : State} (hp : powered s = true) :
    exec .ping s = .next (ended s (service 0x001 s (fun k t => reply t k stDone k.req.payload))) :=
  live_powered (f := fun s => service 0x001 s (fun k t => reply t k stDone k.req.payload)) s hp

theorem exec_noticeFetch {s : State} (hp : powered s = true) : exec .noticeFetch s = .next (ended s (service 0x005 s noticeFetch)) :=
  live_powered (f := fun s => service 0x005 s noticeFetch) s hp

theorem exec_jobStatus {s : State} (hp : powered s = true) : exec .jobStatus s = .next (ended s (service 0x003 s jobStatus)) :=
  live_powered (f := fun s => service 0x003 s jobStatus) s hp

/-- UNKNOWN_OPCODE's work (R96). -/
theorem exec_unknownOpcode {s t : State} {c : Nat} {k : Call} (hp : powered s = true) (hc : pickChannel s = some c)
    (hs : startRequest s c = some (k, t)) (ho : opInfo (opcodeOf k.req.w0) = none) :
    exec .unknownOpcode s = .next (ended s (service (opcodeOf k.req.w0) s (fun _ t => t))) := by
  change execUnknownOpcode s = _
  rw [execUnknownOpcode, live_powered s hp]
  simp only [hc, hs, ho, Option.isSome_none, Bool.false_eq_true, if_false]

/-- Channel k.ch written, then answered. -/
theorem reply_setChan {t : State} {k : Call} {v : Channel} (hr : v.running = some k.req) (st : BitVec 8) (ws : List W32) :
    chanAt (reply (setChan t k.ch v) k st ws) k.ch = { v with running := none, responses := v.responses ++ [response k.req.w0 false st ws] } ∧
    (∀ d, d ≠ k.ch → chanAt (reply (setChan t k.ch v) k st ws) d = chanAt t d) ∧
    { reply (setChan t k.ch v) k st ws with mbox := t.mbox } = t := by
  obtain ⟨⟨hk, hd⟩, hm⟩ := reply_answered (t := setChan t k.ch v) (k := k) (by rw [chanAt_setChan_same, hr]) st ws
  refine ⟨by rw [hk, chanAt_setChan_same], fun d hne => ?_, ?_⟩
  · rw [hd d hne, chanAt_setChan_ne _ _ hne]
  · exact congrArg (fun x => { x with mbox := t.mbox }) hm

/-- JOB_STATUS of a ticket that exists (R98). -/
theorem jobStatus_running {t : State} {k : Call} {j : Ticket} (hw : ticketWordOk (k.word 0) true = true)
    (hj : tfind (chanAt t k.ch).tickets (bits (k.word 0) 0 4) = some j) (hn : j.status = none) : jobStatus k t =
      reply t k (if jobSpilled t k.ch (bits (k.word 0) 0 4) then stPreempted else stBusy) [jobWord j (bits (k.word 0) 0 4)] := by
  simp only [jobStatus, hw, hj, hn, Bool.not_true, Bool.false_eq_true, if_false]

/-- A channel without a ticket and its bell. -/
def ticketFreed (v : Channel) (i : Nat) : Channel :=
  { v with tickets := tdel v.tickets i, latched := v.latched &&& ~~~(BitVec.ofNat 32 (2 ^ (16 + i))) }

theorem jobStatus_kept {t : State} {k : Call} {j : Ticket} {st : BitVec 8} (hw : ticketWordOk (k.word 0) true = true)
    (hj : tfind (chanAt t k.ch).tickets (bits (k.word 0) 0 4) = some j) (hs : j.status = some st) (hk : bit (k.word 0) 8 = true) :
    jobStatus k t = reply t k st (jobWord j (bits (k.word 0) 0 4) :: j.result) := by
  simp only [jobStatus, hw, hj, hs, hk, Bool.not_true, Bool.false_eq_true, if_false, if_true]

theorem jobStatus_freed {t : State} {k : Call} {j : Ticket} {st : BitVec 8} (hw : ticketWordOk (k.word 0) true = true)
    (hj : tfind (chanAt t k.ch).tickets (bits (k.word 0) 0 4) = some j) (hs : j.status = some st) (hk : bit (k.word 0) 8 = false) :
    jobStatus k t = reply (setChan t k.ch (ticketFreed (chanAt t k.ch) (bits (k.word 0) 0 4))) k st
      (jobWord j (bits (k.word 0) 0 4) :: j.result) := by
  simp only [jobStatus, hw, hj, hs, hk, Bool.not_true, Bool.false_eq_true, if_false, ticketFreed]

theorem bit_andNot_twoPow (v : W32) (n : Nat) (h : n < 32) : bit (v &&& ~~~(BitVec.ofNat 32 (2 ^ n))) n = false := by
  rw [bit, BitVec.getLsbD_and, BitVec.getLsbD_not, BitVec.getLsbD_ofNat, Nat.testBit_two_pow_self, decide_eq_true h]
  simp

/-! ### JOB_CANCEL where only the mark is left to set -/

/-- No unit holds the job of a channel's ticket. -/
structure NoUnitHolds (s : State) : Prop where
  custody : s.lanes = [] ∧ s.tiles.fences = [] ∧ s.pages = []
  receipts : s.rcpt.load = none ∧ s.rcpt.receipts = [] ∧ s.rcpt.sheets = []
  engines : s.rns.aborts = [] ∧ s.rns.jobs = [] ∧ s.dig.slots = []
  relay : s.relay.waits = [] ∧ s.relay.segment = []
  rest : s.nvm.ops.drop 1 = [] ∧ s.boot.restart = none ∧ s.keys.sleeping = none

theorem cancelJob_marks {s : State} (h : NoUnitHolds s) (w : Caller) : cancelJob s w = markCancel w s := by
  obtain ⟨hl, hf, hpg⟩ := h.custody
  obtain ⟨hload, hrc, hsh⟩ := h.receipts
  obtain ⟨hab, hj, hd⟩ := h.engines
  obtain ⟨hwt, hsg⟩ := h.relay
  obtain ⟨hop, hrs, hsl⟩ := h.rest
  have h1 : cancelSleep w s = s := by simp [cancelSleep, hsl]
  have h2 : cancelLane w s = s := by simp [cancelLane, hl]
  have h3 : cancelPages w s = s := by simp [cancelPages, endPages, hpg]; rw [← hpg]
  have h4 : cancelFence w s = s := by simp [cancelFence, hf]
  have h5 : cancelLoad w s = s := by simp [cancelLoad, hload]
  have h6 : cancelReceipts w s = s := by simp [cancelReceipts, hrc, hsh]
  have h7 : cancelAborts w s = s := by simp [cancelAborts, hab]
  have h8 : rnsCancel s w = s := by simp [rnsCancel, abortJobs, hj]
  have h9 : digestCancel s w = s := by simp [digestCancel, slotsWhere, hd, tkeys]
  have h10 : cancelRelay w s = s := by simp [cancelRelay, hwt, hsg]
  have h11 : cancelFlash w s = s := by simp [cancelFlash, hop]
  have h12 : cancelRevert w s = s := by simp [cancelRevert, hrs]
  rw [cancelJob]
  simp only [h1, h2, h3, h4, h5, h6, h7, h8, h9, h10, h11, h12]

/-- A channel with a ticket's job marked for its next commit point. -/
def ticketMarked (v : Channel) (i : Nat) (j : Ticket) : Channel := { v with tickets := tput v.tickets i { j with cancel := true } }

theorem markCancel_ticket {s : State} {c i : Nat} {j : Ticket} (hj : tfind (chanAt s c).tickets i = some j) (hn : j.status = none) :
    markCancel (.ticket c i) s = setChan s c (ticketMarked (chanAt s c) i j) := by
  simp only [markCancel, hj, hn, Option.isNone_none, if_true, ticketMarked]

theorem exec_jobCancel {s : State} (hp : powered s = true) (bus : Bus) :
    exec (.jobCancel bus) s = .next (ended s (service 0x004 { s with bus := bus } jobCancel)) :=
  onBus_powered (f := fun s => service 0x004 s jobCancel) s hp

theorem jobCancel_ticket {t : State} {k : Call} {j : Ticket} (hw : ticketWordOk (k.word 0) false = true)
    (hj : tfind (chanAt t k.ch).tickets (bits (k.word 0) 0 4) = some j) : jobCancel k t =
      reply (if j.status.isSome = true then t else cancelJob t (.ticket k.ch (bits (k.word 0) 0 4))) k stDone [] := by
  simp only [jobCancel, hw, hj, Bool.not_true, Bool.false_eq_true, if_false]

/-- Settles O46: each answer by the row that gives it, from the rules of a request that starts. -/
theorem generalRequests : Obligations.GeneralRequests := by
  unfold Obligations.GeneralRequests
  intro s k t hp
  refine ⟨fun c hc hs ho hv => ?_, fun c hc hs ho => ⟨fun hv => ?_, fun hv => ?_, fun st hv hr => ?_⟩, fun hn => ?_, fun h => ⟨?_, ?_⟩, fun h => ?_,
    fun j h hw hj => ?_, fun bus j h hw hj => ⟨fun hst => ?_, fun hst h1 h2 h3 h4 h5 h6 h7 h8 h9 h10 h11 h12 h13 h14 => ?_⟩,
    fun n rest h hn => ?_, fun h hn => ?_⟩
  · refine ⟨_, exec_unknownOpcode hp hc hs ho, ?_⟩
    rw [service_refused hc hs rfl hv (requestRefusal_undefined ho)]
    exact reply_mail (bus := s.bus) hs _ _
  · refine ⟨_, exec_ping hp, ?_⟩
    rw [service_restarts hc hs ho hv]
    exact reply_mail (bus := s.bus) hs _ _
  · rw [exec_ping hp, service_waits hc hs ho hv]
  · refine ⟨_, exec_ping hp, ?_⟩
    rw [service_refused hc hs ho hv hr]
    exact reply_mail (bus := s.bus) hs _ _
  · rw [exec_ping hp, service_none _ hn]
  · refine ⟨_, exec_ping hp, ?_⟩
    rw [service_started h]
    obtain ⟨c, hs⟩ := started_start h
    exact reply_mail (bus := s.bus) hs _ _
  · obtain ⟨⟨c, hc, hs⟩, ho, -, -⟩ := h
    rw [exec_noticeFetch hp, service_other hc hs (by rw [ho]; decide)]
  · refine ⟨_, live_service hp h _, ?_⟩
    obtain ⟨c, hs⟩ := started_start h
    obtain ⟨-, rest, -, rfl⟩ := startRequest_eq hs
    exact reply_mail (bus := s.bus) hs _ _
  · refine ⟨_, exec_jobStatus hp, ?_⟩
    rw [service_started h]
    obtain ⟨c, hs⟩ := started_start h
    obtain ⟨⟨rest, hk⟩, hne⟩ := started_chan h
    have hjt : tfind (chanAt t k.ch).tickets (bits (k.word 0) 0 4) = some j := by rw [hk]; exact hj
    cases hst : j.status with
    | none =>
      rw [jobStatus_running hw hjt hst]
      obtain ⟨ha, hm⟩ := reply_mail (bus := s.bus) hs (if jobSpilled t k.ch (bits (k.word 0) 0 4) then stPreempted else stBusy)
        [jobWord j (bits (k.word 0) 0 4)]
      exact ⟨hm, fun c hc => (ha.2 c hc).trans (hne c hc), fun _ => ha, fun st h => by simp at h, fun st h => by simp at h⟩
    | some st =>
      by_cases hb : bit (k.word 0) 8 = true
      · rw [jobStatus_kept hw hjt hst hb]
        obtain ⟨ha, hm⟩ := reply_mail (bus := s.bus) hs st (jobWord j (bits (k.word 0) 0 4) :: j.result)
        refine ⟨hm, fun c hc => (ha.2 c hc).trans (hne c hc), fun h => by simp at h, fun st' h _ => ?_, fun st' _ h => ?_⟩
        · rw [← Option.some.inj h]
          exact ha
        · rw [hb] at h
          cases h
      · have hb := Bool.eq_false_iff.2 hb
        rw [jobStatus_freed hw hjt hst hb]
        obtain ⟨hself, hoth, hm⟩ := reply_setChan (t := t) (k := k) (v := ticketFreed (chanAt t k.ch) (bits (k.word 0) 0 4))
          (by rw [ticketFreed, hk]) st (jobWord j (bits (k.word 0) 0 4) :: j.result)
        refine ⟨mailOnly_of (bus := s.bus) hs hm, fun c hc => (hoth c hc).trans (hne c hc), fun h => by simp at h, fun st' _ h => ?_, fun st' h _ => ?_⟩
        · rw [hb] at h
          cases h
        · rw [← Option.some.inj h, chanAt_ended, hself]
          refine ⟨tfind_tdel_same _ _, bit_andNot_twoPow _ _ ?_, rfl⟩
          have h16 : bits (k.word 0) 0 4 < 16 := Nat.mod_lt _ (by decide)
          omega
  · refine ⟨_, exec_jobCancel hp bus, ?_⟩
    obtain ⟨c, hs⟩ := started_start h
    obtain ⟨⟨rest, hk⟩, -⟩ := started_chan h
    rw [service_started h, jobCancel_ticket hw (by rw [hk]; exact hj), if_pos hst]
    exact reply_mail hs _ _
  · refine ⟨_, exec_jobCancel hp bus, ?_⟩
    obtain ⟨c, hs⟩ := started_start h
    obtain ⟨⟨rest, hk⟩, -⟩ := started_chan h
    have hjt : tfind (chanAt t k.ch).tickets (bits (k.word 0) 0 4) = some j := by rw [hk]; exact hj
    have hun : NoUnitHolds t := by
      obtain ⟨-, rest, -, rfl⟩ := startRequest_eq hs
      exact ⟨⟨h1, h2, h3⟩, ⟨h4, h5, h6⟩, ⟨h7, h8, h9⟩, ⟨h10, h11⟩, ⟨h12, h13, h14⟩⟩
    rw [service_started h, jobCancel_ticket hw hjt, if_neg (by rw [hst]; decide), cancelJob_marks hun, markCancel_ticket hjt hst]
    obtain ⟨hself, -, hm⟩ := reply_setChan (t := t) (k := k) (v := ticketMarked (chanAt t k.ch) (bits (k.word 0) 0 4) j)
      (by rw [ticketMarked, hk]) stDone []
    rw [chanAt_ended, hself]
    exact ⟨tfind_tput_same _ _ _, rfl, mailOnly_of hs hm⟩
  · refine ⟨_, exec_noticeFetch hp, ?_⟩
    obtain ⟨c, hs⟩ := started_start h
    obtain ⟨⟨wait, hk⟩, -⟩ := started_chan h
    have hnt : (chanAt t k.ch).notices = n :: rest := by rw [hk]; exact hn
    rw [service_started h, noticeFetch]
    simp only [hnt]
    obtain ⟨hself, -, hm⟩ := reply_setChan (t := t) (k := k) (v := { chanAt t k.ch with notices := rest }) (by rw [hk]) stDone n
    rw [chanAt_ended, hself]
    refine ⟨rfl, rfl, ?_, mailOnly_of (bus := s.bus) hs hm⟩
    rw [hk]
  · refine ⟨_, exec_noticeFetch hp, ?_⟩
    obtain ⟨c, hs⟩ := started_start h
    obtain ⟨⟨wait, hk⟩, -⟩ := started_chan h
    have hnt : (chanAt t k.ch).notices = [] := by rw [hk]; exact hn
    rw [service_started h, noticeFetch]
    simp only [hnt]
    exact reply_mail (bus := s.bus) hs _ _

end Sys2Proof.Proofs
end

section
/-!
PROOF. The life-cycle commands (R437, R438, R447, R448, R457).
-/
namespace Sys2Proof.Proofs

open Sys2Proof Sys2Proof.Machine Sys2Proof.Safety Sys2Proof.Laws

/-! ### Flash operations asked for -/

theorem mem_insertOp (op : NvmOp) (xs : List NvmOp) : op ∈ insertOp op xs := by
  induction xs with
  | nil => exact List.mem_singleton.2 rfl
  | cons x xs ih =>
    unfold insertOp
    split
    · exact List.mem_cons_self
    · exact List.mem_cons_of_mem _ ih

/-- A flash operation asked for waits in the queue, and nothing but the flash's state changes. -/
theorem nvmEnqueue_eq (s : State) (op : NvmOp) : ∃ n, nvmEnqueue s op = { s with nvm := n } ∧ op ∈ n.ops := by
  unfold nvmEnqueue
  split
  · exact ⟨_, rfl, List.mem_singleton.2 rfl⟩
  · split
    · exact ⟨_, rfl, List.mem_cons_self⟩
    · exact ⟨_, rfl, List.mem_cons_of_mem _ (mem_insertOp _ _)⟩

theorem nvmEnqueue_lc (s t : State) (op : NvmOp) : op ∈ (ended s (nvmEnqueue t op)).nvm.ops ∧ (ended s (nvmEnqueue t op)).lc = t.lc := by
  obtain ⟨n, hn, hmem⟩ := nvmEnqueue_eq t op
  rw [hn]
  exact ⟨hmem, rfl⟩

/-! ### A long request -/

/-- What the ticket of a long request leaves: its channel, and nothing else. -/
theorem started_ticket {s t : State} {op : Nat} {k : Call} (h : Started s op k t) (i : Nat) : ∃ m, acceptRunning t k.ch i = { t with mbox := m } ∧
    TicketRuns t k { t with mbox := m } i := by
  obtain ⟨hr, hm⟩ := acceptRunning_runs (started_running h) i
  exact ⟨(acceptRunning t k.ch i).mbox, congrArg (fun x => { x with mbox := (acceptRunning t k.ch i).mbox }) hm, hr⟩

/-! ### Transitions -/

/-- The job of a transition that begins with the lowest free slot. -/
def newTransition (s : State) (target : BitVec 8) (token : Nat) (input : Octets) (w : Option Caller) : Transition :=
  { target := target, token := token, slot := (freeSlots s).headD 0, step := 1, input := input, caller := w }

/-- The programs of its intent in three copies (R438, step 1). -/
def intentOps (j : Transition) : List OtpOp :=
  (tripleOps (intentSlot j.slot) (intentWord j.target j.token)).map (fun x => { user := .transition, word := x.1, bits := x.2 })

theorem startTransition_eq (s : State) (target : BitVec 8) (token : Nat) (input : Octets) (w : Option Caller) :
    startTransition s target token input w =
      otpEnqueue { s with lc := { s.lc with job := some (newTransition s target token input w) } } (intentOps (newTransition s target token input w)) :=
  rfl

/-- PRODUCTION takes token 7 (R435). -/
theorem tokenOf_production {s : State} {src : BitVec 8} {n : Nat} (h : tokenOf s src lcProduction = some n) : n = 7 := by
  unfold tokenOf at h
  simp only [show ¬(lcProduction = lcEnd) by decide, show ¬(lcProduction = lcTestUnlocked) by decide, show ¬(lcProduction = lcTestLocked) by decide,
    if_false, and_false, and_true] at h
  split at h
  · exact (Option.some.inj h).symm
  · simp [show ¬(lcProduction = lcReturn) by decide] at h

theorem transitionRefusal_production {s : State} {token : Octets} {n : Nat} (h : transitionRefusal s lcProduction token = .ok n) : n = 7 := by
  unfold transitionRefusal at h
  split at h
  · cases h
  · split at h
    · cases h
    · next i hi =>
      have hn : i = n := by
        rw [if_neg (show ¬lcProduction = lcEnd by decide)] at h
        iterate 4 (split at h; · cases h)
        exact Except.ok.inj h
      exact hn ▸ tokenOf_production hi

/-! ### The rows -/

theorem lcTransition_test {k : Call} {t : State} {n : Nat} {target : BitVec 8} (ht : BitVec.ofNat 8 (bits (k.word 0) 0 8) = target)
    (hp : target ≠ lcProduction) (hl : k.len = 5) (hf : fieldsOk k [0xFF, 0xFFFFFFFF, 0xFFFFFFFF, 0xFFFFFFFF, 0xFFFFFFFF] = true)
    (h : transitionRefusal t target (callToken k) = .ok n) (h15 : n = 15 → (callToken k).all (fun b => decide (b = 0)) = true) :
    lcTransition k t = ticketed t k (runTransition k target n) := by
  have htok : ¬(n = 15 ∧ (callToken k).any (fun b => decide (b ≠ 0)) = true) := fun ⟨hn, ha⟩ => by
    obtain ⟨b, hb, hne⟩ := List.any_eq_true.1 ha
    exact of_decide_eq_true hne (of_decide_eq_true (List.all_eq_true.1 (h15 hn) b hb))
  have hmask : (if (5 : Nat) = 9 then descMasks else []) = [] := if_neg (by decide)
  unfold lcTransition
  simp only [ht, hp, hl, hmask, List.append_nil, hf, h, htok, if_false, ne_eq, not_true_eq_false, Bool.not_true, Bool.false_eq_true, false_and]

theorem lcTransition_refused {k : Call} {t : State} {st : BitVec 8} {target : BitVec 8} (ht : BitVec.ofNat 8 (bits (k.word 0) 0 8) = target)
    (hp : target ≠ lcProduction) (hl : k.len = 5) (hf : fieldsOk k [0xFF, 0xFFFFFFFF, 0xFFFFFFFF, 0xFFFFFFFF, 0xFFFFFFFF] = true)
    (h : transitionRefusal t target (callToken k) = .error st) : lcTransition k t = reply t k st [] := by
  have hmask : (if (5 : Nat) = 9 then descMasks else []) = [] := if_neg (by decide)
  unfold lcTransition
  simp only [ht, hp, hl, hmask, List.append_nil, hf, h, if_false, ne_eq, not_true_eq_false, Bool.not_true, Bool.false_eq_true, false_and]

theorem lcTransition_production {k : Call} {t t1 : State} {n : Nat} (ht : BitVec.ofNat 8 (bits (k.word 0) 0 8) = lcProduction) (hl : k.len = 9)
    (hf : fieldsOk k ([0xFF, 0xFFFFFFFF, 0xFFFFFFFF, 0xFFFFFFFF, 0xFFFFFFFF] ++ descMasks) = true)
    (hd : descRefusal t k (descAt k 5) false = (none, t1)) (hlen : (descAt k 5).len = 56)
    (h : transitionRefusal t1 lcProduction (callToken k) = .ok n) : lcTransition k t = ticketed t1 k (runTransition k lcProduction n) := by
  have hn : ¬n = 15 := by rw [transitionRefusal_production h]; decide
  unfold lcTransition
  simp only [ht, hl, hf, hd, hlen, h, hn, if_false, if_true, ne_eq, not_true_eq_false, Bool.not_true, Bool.false_eq_true, false_and, and_false]

theorem exec_debugInstall {s t t1 : State} {bus : Bus} {k : Call} (hp : powered s = true) (h : Started { s with bus := bus } 0x802 k t)
    (hf : fieldsOk k descMasks = true) (hd : descRefusal t k (descAt k 0) false = (none, t1)) : exec (.debugInstall bus) s =
      .next (ended s (if (descAt k 0).len ≠ 7540 then reply t1 k stBadLength [] else ticketed t1 k (debugInstall k))) := by
  refine (onBus_service hp h _).trans ?_
  simp only [hf, hd, Bool.not_true, Bool.false_eq_true, if_false]
  rfl

/-- The last word of a tamper log entry: whether it holds anything, and its presence bit (R457). -/
theorem logWord_eq (e : Block) : flag 32 0 (decide (e ≠ 0)) ||| 2 = if e = 0 then 2 else 3 := by
  by_cases h : e = 0
  · rw [if_pos h, h]
    rfl
  · rw [if_neg h, decide_eq_true h]
    rfl

/-- Settles O60: each command's checks lead to its ticket, whose job leaves what the statement names. -/
theorem lifeCycleCommands : Obligations.LifeCycleCommands := by
  unfold Obligations.LifeCycleCommands
  intro s bus k t i hp
  refine ⟨fun h htgt hl hf => ⟨fun n hn h15 hfree => ?_, fun st hst => ?_⟩, fun n t1 o t2 h htgt hl hf hd hlen hn hfree hread => ?_,
    fun t1 o t2 h hf hd => ⟨fun hlen => ?_, fun hlen hfree hread => ⟨fun hok => ?_, fun hbad => ?_⟩⟩, fun h hfree => ?_, fun h hf => ?_⟩
  · refine ⟨_, onBus_service hp h lcTransition, ?_⟩
    rw [lcTransition_test rfl htgt hl hf hn h15, ticketed_free hfree]
    obtain ⟨m, ha, hr⟩ := started_ticket h i
    rw [ha, runTransition, if_neg htgt, startTransition_eq]
    exact ⟨hr, rfl, rfl, rfl⟩
  · exact (onBus_service hp h lcTransition).trans (by rw [lcTransition_refused rfl htgt hl hf hst])
  · refine ⟨_, onBus_service hp h lcTransition, ?_⟩
    rw [htgt] at hn
    rw [lcTransition_production htgt hl hf hd hlen hn, ticketed_free hfree, runTransition, if_pos rfl, hread]
    dsimp only
    rw [startTransition_eq, htgt]
    exact ⟨rfl, rfl, rfl⟩
  · rw [exec_debugInstall hp h hf hd, if_pos hlen]
  · refine ⟨_, exec_debugInstall hp h hf hd, ?_⟩
    rw [if_neg (not_not.2 hlen), ticketed_free hfree, debugInstall, hread]
    dsimp only
    rw [hok, if_pos rfl]
    exact nvmEnqueue_lc s _ _
  · rw [exec_debugInstall hp h hf hd, if_neg (not_not.2 hlen), ticketed_free hfree, debugInstall, hread]
    dsimp only
    rw [hbad, if_neg Bool.false_ne_true]
  · refine ⟨_, onBus_service hp h _, ?_⟩
    rw [ticketed_free hfree]
    obtain ⟨m, ha, hr⟩ := started_ticket h i
    obtain ⟨n, hn, hmem⟩ := nvmEnqueue_eq { t with mbox := m } (.debugErase (.ticket k.ch i))
    rw [ha, hn]
    exact ⟨hr, hmem, rfl⟩
  · refine (live_service hp h _).trans ?_
    simp only [hf, Bool.not_true, Bool.false_eq_true, if_false, logWord_eq]

end Sys2Proof.Proofs
end

section
/-!
PROOF. The lane commands (R130, R208, R281), with what the end of a ticket's job leaves.
-/
namespace Sys2Proof.Proofs

open Sys2Proof Sys2Proof.Machine Sys2Proof.Safety Sys2Proof.Laws

/-! ### A ticket's job that ends -/

/-- The end of a running ticket's job: its channel keeps what it runs and its answers, and nothing but the mailboxes changes. -/
structure JobEnded (s t : State) (c i : Nat) (st : BitVec 8) (ws : List W32) : Prop where
  ticket : ∃ j, tfind (chanAt t c).tickets i = some j ∧ j.status = some st ∧ j.result = ws
  channel : (chanAt t c).running = (chanAt s c).running ∧ (chanAt t c).responses = (chanAt s c).responses
  others : ∀ d, d ≠ c → chanAt t d = chanAt s d
  rest : ∃ m, t = { s with mbox := m }

theorem finish_ticket {s : State} {c i : Nat} {j : Ticket} (h : tfind (chanAt s c).tickets i = some j) (hn : j.status = none)
    (st : BitVec 8) (ws : List W32) : JobEnded s (finish s (.ticket c i) st ws) c i st ws := by
  have hf : finish s (.ticket c i) st ws = raiseBell (setChan s c { chanAt s c with
      tickets := tput (chanAt s c).tickets i { j with status := some st, result := ws, cancel := false } }) c (16 + i) := by
    simp only [finish, endTicket, h, hn, Option.isSome_none, Bool.false_eq_true, if_false]
  rw [hf]
  unfold raiseBell
  refine ⟨⟨{ j with status := some st, result := ws, cancel := false }, ?_, rfl, rfl⟩, ⟨?_, ?_⟩, fun d hd => ?_, ⟨_, rfl⟩⟩
  · simp
  · simp
  · simp
  · rw [chanAt_setChan_ne _ _ hd, chanAt_setChan_ne _ _ hd]

/-- A long request whose job ends in its own step. -/
theorem ticket_ends {t u : State} {k : Call} {i : Nat} {m : Table Channel} (hr : TicketRuns t k { t with mbox := m } i) (hm : u.mbox = m)
    (st : BitVec 8) (ws : List W32) : TicketEnded (finish u (.ticket k.ch i) st ws) k i st ws ∧
      ∃ m', finish u (.ticket k.ch i) st ws = { u with mbox := m' } := by
  obtain ⟨⟨j, hj, hn, -⟩, -, -⟩ := hr
  have hju : tfind (chanAt u k.ch).tickets i = some j := by
    rw [chanAt, hm]
    exact hj
  have h := finish_ticket hju hn st ws
  exact ⟨h.ticket, h.rest⟩

/-! ### Opening, draining and resuming -/

theorem laneAt_reply (t : State) (k : Call) (st : BitVec 8) (ws : List W32) (l : Nat) : laneAt (reply t k st ws) l = laneAt t l := by
  obtain ⟨m, hm⟩ := answerRunning_frame t k.ch st ws
  rw [reply, hm]
  rfl

/-- A request answered after its lane was written. -/
theorem reply_setLane {t : State} {k : Call} (hr : (chanAt t k.ch).running = some k.req) (l : Nat) (v : Lane) (st : BitVec 8) (ws : List W32) :
    laneAt (reply (setLane t l v) k st ws) l = v ∧ (∀ l', l' ≠ l → laneAt (reply (setLane t l v) k st ws) l' = laneAt t l') ∧
    Answered t k (reply (setLane t l v) k st ws) st ws := by
  refine ⟨?_, fun l' hl => ?_, (reply_answered (t := setLane t l v) hr st ws).1⟩
  · rw [laneAt_reply, laneAt_setLane_same]
  · rw [laneAt_reply, laneAt_setLane_ne _ _ hl]

/-- The lane as LANE_DRAIN leaves it before its traffic is counted. -/
def drainingLane (v : Lane) (w : Caller) : Lane := { v with state := .draining, job := some w }

theorem settleDrain_done {s : State} {l : Nat} {w : Caller} (hs : (laneAt s l).state = .draining) (hj : (laneAt s l).job = some w)
    (ho : laneOutstanding s l = 0) : settleDrain s l = finish (setLane s l { laneAt s l with state := .drained, job := none }) w stDone [] := by
  unfold settleDrain
  simp only [hs, ho, and_self, if_true, hj]

theorem settleDrain_waits {s : State} {l : Nat} (ho : laneOutstanding s l ≠ 0) : settleDrain s l = s := by
  unfold settleDrain
  exact if_neg (fun h => ho h.2)

/-! ### A lane without contexts released -/

/-- No unit holds anything of a lane. -/
structure LaneEmpty (t : State) (l : Nat) : Prop where
  contexts : contextsOf t l = []
  engines : t.rns.jobs = [] ∧ t.dig.slots = []
  keys : t.keys.handles = [] ∧ t.keys.store = []
  sheets : t.rcpt.sheets = []
  miles : laneMileposts t l = []

theorem laneKeysGo_empty {t : State} {l : Nat} (hc : contextsOf t l = []) (hj : t.rns.jobs = []) (hd : t.dig.slots = []) : laneKeysGo t l = t := by
  simp [laneKeysGo, hc, rnsKeys, abortJobs, hj, digestKeys, slotsWhere, hd, tkeys]

theorem settleRelease_empty {t : State} {l : Nat} {w : Caller} (hs : (laneAt t l).state = .releasing) (hj : (laneAt t l).job = some w)
    (hc : contextsOf t l = []) : settleRelease t l = finish (setLane t l { laneAt t l with state := .closed, job := none }) w stDone
      [(laneAt t l).gen] := by
  unfold settleRelease
  simp [hs, hj, hc]

theorem laneClosed_empty {t : State} {l : Nat} (hd : t.dig.slots = []) (hh : t.keys.handles = []) (hst : t.keys.store = [])
    (hsh : t.rcpt.sheets = []) (hm : laneMileposts t l = []) : laneClosed t l = t := by
  have h1 : freeLaneHandles t l = t := by simp [freeLaneHandles, hh, tkeys]
  have h2 : digestLane t l = t := by simp [digestLane, slotsWhere, hd, tkeys]
  have hin : sheetIn t l .filling = none := by
    have hfree : (fun i => (sheetAt t l i).state == .filling) = fun _ => false := by
      funext i
      rw [sheetAt, hsh]
      rfl
    rw [sheetIn, hfree]
    rfl
  have h3 : closeFilling t l 3 = t := by simp [closeFilling, hin]
  have h4 : releaseStoredKeys t l = t := by simp [releaseStoredKeys, hst]
  simp only [laneClosed, h1, h2, h3, h4, hm, List.foldl_nil]

theorem bumpLaneGen_eq (s : State) (l : Nat) : ∃ ks v, bumpLaneGen s l =
      { setLane s l { laneAt s l with gen := (laneAt s l).gen + 1 } with keys := { s.keys with laneKeys := ks }, vault := v } ∧
    (s.keys.vaultState ≠ 2 → tget 0 v.laneGens l = (laneAt s l).gen + 1) := by
  unfold bumpLaneGen
  dsimp only
  split
  · next h => exact ⟨_, s.vault, rfl, fun hn => absurd h hn⟩
  · exact ⟨_, _, rfl, fun _ => tget_tset_same _ _ _ _⟩

theorem contextsOf_ctxs {s t : State} (h : t.ctxs = s.ctxs) (l : Nat) : contextsOf t l = contextsOf s l := by rw [contextsOf, contextsOf, h]

/-- The effect of releasing a lane that nothing holds (R130, R281). -/
structure LaneGone (t u : State) (k : Call) (l i : Nat) : Prop where
  lane : (laneAt u l).state = .closed ∧ (laneAt u l).gen = (laneAt t l).gen + 1 ∧ (laneAt u l).job = none
  ticket : TicketEnded u k i stDone [(laneAt t l).gen + 1]
  vault : t.keys.vaultState ≠ 2 → tget 0 u.vault.laneGens l = (laneAt t l).gen + 1

/-- The lane as its release leaves it before it is closed. -/
def releasingLane (v : Lane) (w : Caller) : Lane := { v with state := .releasing, job := some w }

/-- A lane that nothing holds, after its generation rose. -/
theorem laneRaised {t : State} {l : Nat} (h : LaneEmpty t l) (w : Caller) : ∃ u, bumpLaneGen (setLane t l (releasingLane (laneAt t l) w)) l = u ∧
    laneAt u l = { releasingLane (laneAt t l) w with gen := (laneAt t l).gen + 1 } ∧ LaneEmpty u l ∧ u.mbox = t.mbox ∧
    (t.keys.vaultState ≠ 2 → tget 0 u.vault.laneGens l = (laneAt t l).gen + 1) := by
  obtain ⟨ks, v, hb, hv⟩ := bumpLaneGen_eq (setLane t l (releasingLane (laneAt t l) w)) l
  rw [laneAt_setLane_same] at hb hv
  refine ⟨_, hb, ?_, ⟨?_, h.engines, h.keys, h.sheets, h.miles⟩, rfl, hv⟩
  · exact laneAt_setLane_same _ _ _
  · exact (contextsOf_ctxs rfl l).trans h.contexts

theorem releaseLane_empty {t : State} {k : Call} {l i : Nat} {j : Ticket} (h : LaneEmpty t l) (hj : (laneAt t l).job = none)
    (hi : tfind (chanAt t k.ch).tickets i = some j) (hn : j.status = none) : LaneGone t (releaseLane l (.ticket k.ch i) t) k l i ∧
      laneClosed (releaseLane l (.ticket k.ch i) t) l = releaseLane l (.ticket k.ch i) t := by
  have habort : abortDrain t l = t := by simp only [abortDrain, hj]
  obtain ⟨u, hu, hul, hue, hum, hv⟩ := laneRaised h (.ticket k.ch i)
  obtain ⟨hjobs, hslots⟩ := hue.engines
  obtain ⟨hhand, hstore⟩ := hue.keys
  have hgo : laneKeysGo u l = u := laneKeysGo_empty hue.contexts hjobs hslots
  have hsettle := settleRelease_empty (t := u) (l := l) (w := .ticket k.ch i) (by rw [hul]; rfl) (by rw [hul]; rfl) hue.contexts
  generalize hcl : setLane u l { laneAt u l with state := .closed, job := none } = c at hsettle
  have hrel : releaseLane l (.ticket k.ch i) t = finish c (.ticket k.ch i) stDone [(laneAt t l).gen + 1] := by
    unfold releaseLane
    have hset : setLane t l { laneAt t l with state := .releasing, job := some (.ticket k.ch i) } =
      setLane t l (releasingLane (laneAt t l) (.ticket k.ch i)) := rfl
    rw [habort]
    dsimp only
    rw [hset, hu, hgo, hue.contexts, List.filter_nil, List.foldl_nil]
    rw [hsettle, hul]
  have hend := finish_ticket (s := c) (c := k.ch) (i := i) (j := j) (by rw [← hcl, chanAt, setLane_mbox, hum]; exact hi) hn stDone [(laneAt t l).gen + 1]
  rw [← hrel] at hend
  obtain ⟨m, hm⟩ := hend.rest
  have hlane : laneAt (releaseLane l (.ticket k.ch i) t) l = { laneAt u l with state := .closed, job := none } := by
    rw [hm, ← hcl]
    exact laneAt_setLane_same _ _ _
  refine ⟨⟨?_, hend.ticket, fun hne => ?_⟩, ?_⟩
  · rw [hlane, hul]
    exact ⟨rfl, rfl, rfl⟩
  · rw [hm, ← hcl]
    exact hv hne
  · rw [hm, ← hcl]
    exact laneClosed_empty hslots hhand hstore hue.sheets hue.miles

/-! ### The rows -/

theorem exec_laneOpen {s t : State} {k : Call} (hp : powered s = true) (h : Started s 0x110 k t) (hf : laneFieldOk k = true) :
    exec .laneOpen s = .next (ended s (if (laneAt t (laneOf k)).state ≠ .closed then reply t k stLaneState []
      else if (laneAt t (laneOf k)).rewriteDue then reply t k stBusy []
      else reply (setLane t (laneOf k) { laneAt t (laneOf k) with state := .opened }) k stDone [1])) := by
  refine (live_service hp h _).trans ?_
  simp only [hf, Bool.not_true, Bool.false_eq_true, if_false]

theorem exec_laneDrain {s t : State} {k : Call} (hp : powered s = true) (h : Started s 0x111 k t) (hf : laneFieldOk k = true) :
    exec .laneDrain s = .next (ended s (if (laneAt t (laneOf k)).state ≠ .opened then reply t k stLaneState []
      else ticketed t k (fun w t => settleDrain (setLane t (laneOf k) { laneAt t (laneOf k) with state := .draining, job := some w }) (laneOf k)))) := by
  refine (live_service hp h laneDrain).trans ?_
  simp only [laneDrain, hf, Bool.not_true, Bool.false_eq_true, if_false]

theorem exec_laneResume {s t : State} {k : Call} (hp : powered s = true) (h : Started s 0x112 k t) (hf : laneFieldOk k = true)
    (hs : (laneAt t (laneOf k)).state = .draining ∨ (laneAt t (laneOf k)).state = .drained) :
    exec .laneResume s = .next (ended s (reply (setLane (abortDrain t (laneOf k)) (laneOf k)
      { laneAt (abortDrain t (laneOf k)) (laneOf k) with state := .opened }) k stDone [1])) := by
  refine (live_service hp h _).trans ?_
  have hn : ¬((laneAt t (laneOf k)).state ≠ .draining ∧ (laneAt t (laneOf k)).state ≠ .drained) := fun ⟨h1, h2⟩ => hs.elim h1 h2
  simp only [hf, Bool.not_true, Bool.false_eq_true, if_false, hn]

theorem exec_laneRelease {s t : State} {bus : Bus} {k : Call} (hp : powered s = true) (h : Started { s with bus := bus } 0x113 k t)
    (hf : laneFieldOk k = true) (hs : (laneAt t (laneOf k)).state = .opened ∨ (laneAt t (laneOf k)).state = .draining ∨
      (laneAt t (laneOf k)).state = .drained) (hc : contextsOf t (laneOf k) = []) {i : Nat} (hi : freeTicket (chanAt t k.ch) = some i) :
    exec (.laneRelease bus) s = .next (ended s (
      let t2 := releaseLane (laneOf k) (.ticket k.ch i) (acceptRunning t k.ch i)
      if (laneAt t2 (laneOf k)).state = .closed then laneClosed t2 (laneOf k) else t2)) := by
  refine (onBus_service hp h laneRelease).trans ?_
  have hn : ¬((laneAt t (laneOf k)).state ≠ .opened ∧ (laneAt t (laneOf k)).state ≠ .draining ∧ (laneAt t (laneOf k)).state ≠ .drained) :=
    fun ⟨h1, h2, h3⟩ => hs.elim h1 fun hs => hs.elim h2 h3
  have hho : laneHolds (acceptRunning t k.ch i) (laneOf k) = false := by
    obtain ⟨m, ha, -⟩ := started_ticket h i
    rw [ha]
    have hcm : contextsOf { t with mbox := m } (laneOf k) = [] := (contextsOf_ctxs rfl _).trans hc
    simp only [laneHolds, hcm, List.any_nil]
  simp only [laneRelease, hf, Bool.not_true, Bool.false_eq_true, if_false, hn, ticketed_free hi, hho]

/-- Settles O49: each row by the state of its lane. -/
theorem laneCommands : Obligations.LaneCommands := by
  unfold Obligations.LaneCommands
  intro s bus k t hp
  dsimp only
  intro hf
  refine ⟨fun h => ⟨fun hs hd => ?_, fun hs hd => ?_, fun hs => ?_⟩, fun i h hs hi => ⟨fun ho => ?_, fun ho => ?_⟩, fun h hs => ?_,
    fun i j h hs hj hi hn => ?_, fun h hs hj => ?_, fun i h hs hj hi hc hjobs hslots hh hst hsh hm => ?_⟩
  · refine ⟨_, exec_laneOpen hp h hf, ?_⟩
    rw [if_neg (not_not.2 hs), if_neg (by rw [hd]; exact Bool.false_ne_true)]
    exact reply_setLane (started_running h) _ _ _ _
  · rw [exec_laneOpen hp h hf, if_neg (not_not.2 hs), if_pos hd]
  · rw [exec_laneOpen hp h hf, if_pos hs]
  · refine ⟨_, exec_laneDrain hp h hf, ?_⟩
    rw [if_neg (not_not.2 hs), ticketed_free hi]
    obtain ⟨m, ha, hr⟩ := started_ticket h i
    rw [ha]
    obtain ⟨hend, m', hm'⟩ := ticket_ends hr (u := setLane (setLane { t with mbox := m } (laneOf k) (drainingLane (laneAt t (laneOf k)) (.ticket k.ch i)))
      (laneOf k) { laneAt t (laneOf k) with state := .drained, job := none }) rfl stDone []
    have hdone := settleDrain_done (s := setLane { t with mbox := m } (laneOf k) (drainingLane (laneAt t (laneOf k)) (.ticket k.ch i))) (l := laneOf k)
      (w := .ticket k.ch i) (by rw [laneAt_setLane_same]; rfl) (by rw [laneAt_setLane_same]; rfl) ho
    rw [laneAt_setLane_same] at hdone
    change laneAt (settleDrain (setLane { t with mbox := m } (laneOf k) (drainingLane (laneAt t (laneOf k)) (.ticket k.ch i))) (laneOf k)) (laneOf k) = _ ∧
      TicketEnded (settleDrain (setLane { t with mbox := m } (laneOf k) (drainingLane (laneAt t (laneOf k)) (.ticket k.ch i))) (laneOf k)) k i stDone []
    rw [hdone]
    refine ⟨?_, hend⟩
    change laneAt (finish (setLane _ (laneOf k) { laneAt t (laneOf k) with state := .drained, job := none }) _ stDone []) (laneOf k) = _
    rw [hm']
    exact laneAt_setLane_same _ _ _
  · refine ⟨_, exec_laneDrain hp h hf, ?_⟩
    rw [if_neg (not_not.2 hs), ticketed_free hi]
    obtain ⟨m, ha, hr⟩ := started_ticket h i
    rw [ha]
    change laneAt (settleDrain (setLane { t with mbox := m } (laneOf k) (drainingLane (laneAt t (laneOf k)) (.ticket k.ch i))) (laneOf k)) (laneOf k) = _ ∧
      TicketRuns t k (settleDrain (setLane { t with mbox := m } (laneOf k) (drainingLane (laneAt t (laneOf k)) (.ticket k.ch i))) (laneOf k)) i
    rw [settleDrain_waits (by exact ho)]
    exact ⟨laneAt_setLane_same _ _ _, hr⟩
  · rw [exec_laneDrain hp h hf, if_pos hs]
  · refine ⟨_, exec_laneResume hp h hf (.inl hs), ?_⟩
    have ha : abortDrain t (laneOf k) = finish (setLane t (laneOf k) { laneAt t (laneOf k) with job := none }) (.ticket k.ch i) stAborted [] := by
      simp only [abortDrain, hj]
    have hend := finish_ticket (s := setLane t (laneOf k) { laneAt t (laneOf k) with job := none }) hi hn stAborted []
    rw [← ha] at hend
    obtain ⟨m, hm⟩ := hend.rest
    have hl : laneAt (abortDrain t (laneOf k)) (laneOf k) = { laneAt t (laneOf k) with job := none } := by
      rw [hm]
      exact laneAt_setLane_same _ _ _
    obtain ⟨hrun, hresp⟩ := hend.channel
    obtain ⟨hlane, -, hans⟩ := reply_setLane (by rw [hrun, chanAt_setLane]; exact started_running h) (laneOf k) { laneAt (abortDrain t (laneOf k)) (laneOf k) with state := .opened }
      stDone [1]
    obtain ⟨x, hx⟩ := hend.ticket
    refine ⟨?_, ⟨x, ?_⟩, ?_⟩
    · rw [Machine.laneAt_ended, hlane, hl]
    · rw [chanAt_ended, hans.1]
      exact hx
    · rw [chanAt_ended, hans.1, hresp]
      rfl
  · refine ⟨_, exec_laneResume hp h hf (.inr hs), ?_⟩
    have ha : abortDrain t (laneOf k) = t := by simp only [abortDrain, hj]
    rw [ha]
    obtain ⟨hl, -, hans⟩ := reply_setLane (started_running h) (laneOf k) { laneAt t (laneOf k) with state := .opened } stDone [1]
    exact ⟨hl, hans⟩
  · refine ⟨_, exec_laneRelease hp h hf hs hc hi, ?_⟩
    obtain ⟨m, ha, hr⟩ := started_ticket h i
    obtain ⟨⟨j, hj', hn, -⟩, -, -⟩ := hr
    obtain ⟨hg, hcl⟩ := releaseLane_empty (t := { t with mbox := m }) ⟨(contextsOf_ctxs rfl _).trans hc, ⟨hjobs, hslots⟩, ⟨hh, hst⟩, hsh, hm⟩ hj hj' hn
    rw [ha]
    dsimp only
    rw [hcl, ite_self]
    generalize releaseLane (laneOf k) (.ticket k.ch i) { t with mbox := m } = r at hg ⊢
    obtain ⟨⟨h1, h2, h3⟩, ht, hv⟩ := hg
    exact ⟨h1, h2, h3, ht, hv⟩

end Sys2Proof.Proofs
end

section
/-!
PROOF. The context commands and queries (R135, R136, R206, R207, R214, R220).
-/
namespace Sys2Proof.Proofs

open Sys2Proof Sys2Proof.Machine Sys2Proof.Safety Sys2Proof.Laws

/-! ### CTX_OPEN and the queries -/

theorem ctxAt_reply (t : State) (k : Call) (st : BitVec 8) (ws : List W32) (c : Nat) : ctxAt (reply t k st ws) c = ctxAt t c := by
  obtain ⟨m, hm⟩ := answerRunning_frame t k.ch st ws
  rw [reply, hm]
  rfl

/-- A request answered after its context's record was written. -/
theorem reply_setCtx {u : State} {k : Call} (hr : (chanAt u k.ch).running = some k.req) (c : Nat) (v : Ctx) (st : BitVec 8) (ws : List W32) :
    ctxAt (reply (setCtx u c v) k st ws) c = v ∧ (∀ c', c' ≠ c → ctxAt (reply (setCtx u c v) k st ws) c' = ctxAt u c') ∧
    Answered u k (reply (setCtx u c v) k st ws) st ws := by
  refine ⟨?_, fun c' hc => ?_, (reply_answered (t := setCtx u c v) hr st ws).1⟩
  · rw [ctxAt_reply, ctxAt_setCtx_same]
  · rw [ctxAt_reply, ctxAt_setCtx_ne _ _ hc]

/-- The record of a context as CTX_OPEN opens it (R206). -/
def openedCtx (v : Ctx) (k : Call) : Ctx :=
  { v with lane := BitVec.ofNat 6 (bits (k.word 0) 16 6), state := .active, taint := false, permits := BitVec.ofNat 4 (bits (k.word 0) 24 4)
           quota := BitVec.ofNat 24 (bits (k.word 1) 0 24), held := 0, sealGroup := 0, sealFull := false, model := 0, closedAt := none
           releaseOn := none, stuckPasses := 0, rebuilt := false, laneClosed := false }

theorem bits_ofNat {w : Nat} (x : BitVec w) (lo n : Nat) : (BitVec.ofNat n (bits x lo n)).toNat = bits x lo n := by
  rw [BitVec.toNat_ofNat]
  exact Nat.mod_eq_of_lt (Nat.mod_lt _ (Nat.two_pow_pos n))

theorem ctxOpen_opens {k : Call} {t : State} (hf : fieldsOk k [0x0F3F3FFF, 0x00FFFFFF] = true) (hc : bits (k.word 0) 0 14 ≠ 0)
    (hl : bits (k.word 0) 16 6 ≠ 0) (hs : (ctxAt t (bits (k.word 0) 0 14)).state = .free)
    (ho : (laneAt t (bits (k.word 0) 16 6)).state = .opened)
    (hd : (ctxAt t (bits (k.word 0) 0 14)).lane.toNat = bits (k.word 0) 16 6 ∨ (ctxAt t (bits (k.word 0) 0 14)).depth = 0) :
    ctxOpen k t = reply (setCtx { t with laneTags := tset 0 t.laneTags (bits (k.word 0) 0 14) (BitVec.ofNat 6 (bits (k.word 0) 16 6)) }
      (bits (k.word 0) 0 14) (openedCtx (ctxAt t (bits (k.word 0) 0 14)) k)) k stDone
      [field 32 0 24 (ctxAt t (bits (k.word 0) 0 14)).epoch.toNat, field 32 0 8 (ctxAt t (bits (k.word 0) 0 14)).keyGen.toNat] := by
  have h4 : ¬((ctxAt t (bits (k.word 0) 0 14)).lane.toNat ≠ bits (k.word 0) 16 6 ∧ (ctxAt t (bits (k.word 0) 0 14)).depth ≠ 0) :=
    fun ⟨h1, h2⟩ => hd.elim h1 h2
  unfold ctxOpen
  simp only [hf, hc, hl, hs, ho, h4, Bool.not_true, Bool.false_eq_true, or_self, if_false, ne_eq, not_true_eq_false]
  rfl

theorem ctxOpen_state {k : Call} {t : State} (hf : fieldsOk k [0x0F3F3FFF, 0x00FFFFFF] = true) (hc : bits (k.word 0) 0 14 ≠ 0)
    (hl : bits (k.word 0) 16 6 ≠ 0) (hs : (ctxAt t (bits (k.word 0) 0 14)).state ≠ .free) : ctxOpen k t = reply t k stCtxState [] := by
  unfold ctxOpen
  simp only [hf, hc, hl, hs, Bool.not_true, Bool.false_eq_true, or_self, if_false, ne_eq, not_false_eq_true, if_true]

theorem ctxQuery_answers {k : Call} {t : State} (hf : fieldsOk k [0x3FFF] = true) : ctxQuery k t = reply t k stDone
    [ctxWord (ctxAt t (bits (k.word 0) 0 14)) 0, ctxWord (ctxAt t (bits (k.word 0) 0 14)) 1, ctxWord (ctxAt t (bits (k.word 0) 0 14)) 2,
      ctxWord (ctxAt t (bits (k.word 0) 0 14)) 3, field 32 0 10 (tilesOf t (bits (k.word 0) 0 14)).length |||
        field 32 16 10 (tcount t.tiles.writes (fun _ w => decide (w.ctx = bits (k.word 0) 0 14)))] := by
  simp only [ctxQuery, hf, Bool.not_true, Bool.false_eq_true, if_false]

theorem pageQuery_read {k : Call} {t t1 : State} {e : W32} (hf : fieldsOk k [0x3FFF, 0xFFFFFF] = true)
    (hw : inWindow t (bits (k.word 1) 0 24) = true) (he : mapEntry t (bits (k.word 1) 0 24) = (.ok e, t1)) :
    pageQuery k t = if entState e ≠ .free ∧ !k.owner ∧ (ctxAt t1 (entCtx e)).lane.toNat ≠ k.lane then reply t1 k stDenied []
      else reply t1 k stDone [e, flag 32 0 (isStale t1 e)] := by
  simp only [pageQuery, hf, hw, he, Bool.not_true, Bool.false_eq_true, if_false]

/-! ### VERDICT_FENCE -/

/-- The read entries of a context on their way to completion. -/
def fencedReads (t : State) (c : Nat) : List TileRead :=
  t.tiles.reads.map (fun e => if ((tilesOf t c).map TileRead.order).contains e.order then { e with completing := true } else e)

theorem mem_fencedReads {t : State} {c : Nat} {x : TileRead} (h : x ∈ fencedReads t c) (hc : x.reader = c ∨ x.holder = c) :
    x.completing = true := by
  obtain ⟨e, he, rfl⟩ := List.mem_map.1 h
  have hmem : ((tilesOf t c).map TileRead.order).contains e.order = true := by
    refine List.contains_iff_mem.2 (List.mem_map_of_mem (List.mem_filter.2 ⟨he, decide_eq_true ?_⟩))
    split at hc <;> exact hc
  simp only [hmem, if_true]

theorem tilesOf_fenced_length (t : State) (c : Nat) : ((fencedReads t c).filter (fun e => decide (e.reader = c ∨ e.holder = c))).length =
    (tilesOf t c).length := by
  rw [fencedReads, List.filter_map, List.length_map, tilesOf]
  congr 2
  funext e
  simp only [Function.comp]
  split <;> rfl

/-- The fence that a request asks for (R220). -/
def newFence (t : State) (c : Nat) (w : Caller) : Fence :=
  { ctx := c, epoch := (ctxAt t c).epoch.toNat, entries := (tilesOf t c).map TileRead.order, count := 0, caller := w }

theorem startFence_none {t : State} {c : Nat} (w : Caller) (h : tilesOf t c = []) : startFence c w t =
    finish t w stDone [flag 32 0 (ctxAt t c).taint, 0] := by
  simp only [startFence, h, List.map_nil, List.isEmpty_nil, if_true, fenceDone]
  rfl

theorem startFence_waits {t : State} {c : Nat} (w : Caller) (h : tilesOf t c ≠ []) : startFence c w t =
    { t with tiles := { t.tiles with reads := fencedReads t c, fences := t.tiles.fences ++ [newFence t c w] } } := by
  have he : ((tilesOf t c).map TileRead.order).isEmpty = false := by
    simp [h]
  simp only [startFence, he, Bool.false_eq_true, if_false]
  rfl

theorem exec_verdictFence {s t : State} {bus : Bus} {k : Call} {i : Nat} (hp : powered s = true) (h : Started { s with bus := bus } 0x109 k t)
    (hf : fieldsOk k [0x3FFF] = true) (hi : freeTicket (chanAt t k.ch) = some i) : exec (.verdictFence bus) s =
      .next (ended s (startFence (bits (k.word 0) 0 14) (.ticket k.ch i) (acceptRunning t k.ch i))) := by
  refine (onBus_service hp h _).trans ?_
  simp only [hf, Bool.not_true, Bool.false_eq_true, if_false, ticketed_free hi]

/-! ### The close of an epoch that nothing stands under -/

/-- No unit has work under a context. -/
structure NothingUnder (t : State) : Prop where
  custody : CustodyIdle t ∧ t.pages = []
  tiles : t.tiles.reads = [] ∧ t.tiles.fences = []
  engines : t.rns.jobs = [] ∧ t.dig.slots = []
  receipts : t.rcpt.receipts = [] ∧ t.rcpt.load = none
  relay : t.relay.peerings = [] ∧ t.relay.bundles = []
  storage : t.nvm.ops = [] ∧ t.boot.staging = none

/-- Custody traffic of a context whose epoch closes, where no request is in the queues. -/
theorem staleTraffic_idle {t : State} (c : Nat) (h : CustodyIdle t) : ∃ q, staleTraffic t c = { t with cust := q } ∧
    CustodyIdle { t with cust := q } := by
  obtain ⟨hr, hh, hl⟩ := h
  refine ⟨(staleTraffic t c).cust, ?_, ?_, fun ch => ?_, hl⟩
  · simp only [staleTraffic, hr, List.filter_nil, List.foldl_nil]
  · simp [staleTraffic, hr]
  · simp only [inChan, staleTraffic, hr, List.filter_nil, List.foldl_nil]
    have h0 := hh ch
    simp only [inChan, List.getD_eq_getElem?_getD] at h0
    simp only [List.getD_eq_getElem?_getD, List.getElem?_map]
    cases hx : t.cust.ins[ch.val]? with
    | none => rfl
    | some x =>
      rw [hx] at h0
      exact h0

theorem rnsKeys_idle {t : State} (st : BitVec 8) (h : t.rns.jobs = []) : rnsKeys t st = t := by simp [rnsKeys, abortJobs, h]

theorem digestKeys_idle {t : State} (h : t.dig.slots = []) : digestKeys t = t := by simp [digestKeys, slotsWhere, h, tkeys]

/-- The record of a context whose epoch closes. -/
def closingCtx (t : State) (c : Nat) : Ctx := { ctxAt t c with state := .releasing, closedAt := some t.pace.now }

/-- What the close of an epoch leaves where nothing stands under it. -/
structure EpochClosed (t u : State) (c : Nat) : Prop where
  record : ctxAt u c = closingCtx t c
  pending : u.bg = { t.bg with pendingPages := t.bg.pendingPages + BitVec.ofNat 25 (ctxAt t c).held.toNat }
  key : tfind u.keys.cache c = none
  running : ∀ d, (chanAt u d).running = (chanAt t d).running
  dram : u.dram = t.dram

theorem endPages_idle {t : State} (st : BitVec 8) (p : PageJob → Bool) (h : t.pages = []) : endPages t st p = t := by
  simp [endPages, h]
  rw [← h]

theorem staleFences_idle {t : State} (c : Nat) (h : t.tiles.fences = []) : staleFences t c = t := by
  simp [staleFences, h]
  rw [← h]

theorem windowEpoch_idle {t : State} (c : Nat) (h : t.nvm.ops = []) : windowEpoch t c = t := by
  simp [windowEpoch, h]
  rw [← h]

theorem discardTiles_idle {t : State} (c : Nat) (h : t.tiles.reads = []) : discardTiles t c = t := by simp [discardTiles, h]

/-- A channel's waiting requests that name a context are marked. -/
def staleWaiting (c : Nat) (v : Channel) : Channel :=
  { v with waiting := v.waiting.map (fun r => if namesCtx c r then { r with stale := true } else r) }

theorem chanAt_staleRequests (t : State) (c d : Nat) : chanAt (staleRequests t c) d = staleWaiting c (chanAt t d) :=
  tget_map ({} : Channel) (staleWaiting c) rfl t.mbox d

theorem closeEpoch_closed {t : State} (c : Nat) (h : NothingUnder t) : EpochClosed t (closeEpoch t c) c := by
  obtain ⟨hidle, hpages⟩ := h.custody
  obtain ⟨hreads, hfences⟩ := h.tiles
  obtain ⟨hjobs, hslots⟩ := h.engines
  obtain ⟨hrec, hload⟩ := h.receipts
  obtain ⟨hpeer, hbund⟩ := h.relay
  obtain ⟨hops, hstage⟩ := h.storage
  generalize ha : dropKey (addPending (setCtx t c (closingCtx t c)) (ctxAt t c).held.toNat) c = a
  obtain ⟨q, hq, hqi⟩ := staleTraffic_idle (t := a) c (by rw [← ha]; exact hidle)
  generalize hb : ({ a with cust := q, tree := { a.tree with rekeys := a.tree.rekeys.filter (fun r => decide (r.ctx ≠ c)) } } : State) = b
  have hbr : b.rns.jobs = [] ∧ b.dig.slots = [] ∧ b.rcpt.receipts = [] ∧ b.rcpt.load = none ∧ b.relay.peerings = [] ∧ b.relay.bundles = [] ∧
      b.nvm.ops = [] ∧ b.boot.staging = none := by
    rw [← hb, ← ha]
    exact ⟨hjobs, hslots, hrec, hload, hpeer, hbund, hops, hstage⟩
  obtain ⟨b1, b2, b3, b4, b5, b6, b7, b8⟩ := hbr
  have hclose : closeEpoch t c = staleRequests b c := by
    unfold closeEpoch
    rw [endPages_idle _ _ hpages]
    dsimp only
    rw [show setCtx t c { ctxAt t c with state := .releasing, closedAt := some t.pace.now } = setCtx t c (closingCtx t c) from rfl, ha, hq,
      staleFences_idle c (by rw [← ha]; exact hfences)]
    rw [discardTiles_idle c (by rw [← ha]; exact hreads)]
    rw [show ({ ({ a with cust := q } : State) with tree := { a.tree with rekeys := a.tree.rekeys.filter (fun r => decide (r.ctx ≠ c)) } } : State) = b from hb]
    have e1 : voidReceipts b c = b := by simp [voidReceipts, b3]
    have e2 : rnsEpochClosed b c = b := by simp [rnsEpochClosed, abortJobs, b1]
    have e3 : digestEpoch b c = b := by simp [digestEpoch, slotsWhere, b2, tkeys]
    have e4 : peerEpoch b c = b := by simp [peerEpoch, b5, tkeys]
    have e5 : bundleEpoch b c = b := by simp [bundleEpoch, b6]
    have e6 : stageEpoch b c = b := by simp [stageEpoch, b8]
    rw [e1, e2, e3, e4, e5, windowEpoch_idle c b7, e6, b4]
    dsimp only
    rw [rnsKeys_idle _ (by exact b1), digestKeys_idle (by exact b2)]
    refine settle_idle ?_
    rw [← hb]
    exact hqi
  rw [hclose]
  refine ⟨?_, ?_, ?_, fun d => ?_, ?_⟩
  · rw [← hb, ← ha]
    exact ctxAt_setCtx_same _ _ _
  · rw [← hb, ← ha]
    rfl
  · rw [← hb, ← ha]
    exact tfind_tdel_same _ _
  · have hm : b.mbox = t.mbox := by
      rw [← hb, ← ha]
      rfl
    rw [chanAt_staleRequests, chanAt, hm]
    rfl
  · rw [← hb, ← ha]
    rfl

/-! ### CTX_RELEASE -/

/-- CTX_RELEASE's completion, where the context holds pages, leaves all but the list of completions. -/
theorem addCompletion_eq (s : State) (ch op seq : Nat) (w : W32) : ∃ x, addCompletion s ch op seq w = { s with bg := { s.bg with completions := x } } := by
  unfold addCompletion
  dsimp only
  split
  · exact ⟨_, rfl⟩
  · exact ⟨_, rfl⟩

/-- The effect of CTX_RELEASE (R136, R207). -/
structure CtxReleased (t u : State) (k : Call) (c : Nat) : Prop where
  record : (ctxAt u c).state = .releasing ∧ (ctxAt u c).epoch = (ctxAt t c).epoch ∧ (ctxAt u c).closedAt = some t.pace.now ∧
    (ctxAt u c).releaseOn = some k.ch
  pending : u.bg.pendingPages = t.bg.pendingPages + BitVec.ofNat 25 (ctxAt t c).held.toNat
  key : cachedKey u c = none
  running : (chanAt u k.ch).running = (chanAt t k.ch).running
  dram : u.dram = t.dram

theorem ctxRelease_released {t : State} {k : Call} (hf : fieldsOk k [0x3FFF] = true) (hc : bits (k.word 0) 0 14 ≠ 0)
    (hs : (ctxAt t (bits (k.word 0) 0 14)).state = .active) (h : NothingUnder t) : CtxReleased t (ctxRelease k t) k (bits (k.word 0) 0 14) := by
  have hcl := closeEpoch_closed (bits (k.word 0) 0 14) h
  generalize hu : setCtx (closeEpoch t (bits (k.word 0) 0 14)) (bits (k.word 0) 0 14) { ctxAt (closeEpoch t (bits (k.word 0) 0 14))
    (bits (k.word 0) 0 14) with releaseOn := some k.ch } = u
  obtain ⟨x, hx⟩ : ∃ x, ctxRelease k t = { u with bg := { u.bg with completions := x } } := by
    have hr : ctxRelease k t = if (ctxAt t (bits (k.word 0) 0 14)).held = 0 then u
        else addCompletion u k.ch 0x102 (bits k.req.w0 12 8) (BitVec.ofNat 32 (bits (k.word 0) 0 14)) := by
      unfold ctxRelease
      simp only [hf, hc, hs, Bool.not_true, Bool.false_eq_true, or_self, if_false, ne_eq, not_true_eq_false, hu]
    rw [hr]
    split
    · exact ⟨u.bg.completions, rfl⟩
    · exact addCompletion_eq _ _ _ _ _
  have hc' : ctxAt u (bits (k.word 0) 0 14) = { closingCtx t (bits (k.word 0) 0 14) with releaseOn := some k.ch } := by
    rw [← hu, ctxAt_setCtx_same, hcl.record]
  have hkey : tfind u.keys.cache (bits (k.word 0) 0 14) = none := by
    rw [← hu, setCtx_keys]
    exact hcl.key
  have hbg : u.bg = (closeEpoch t (bits (k.word 0) 0 14)).bg := by rw [← hu, setCtx_bg]
  have hrun : (chanAt u k.ch).running = (chanAt t k.ch).running := by
    rw [← hu, chanAt_setCtx]
    exact hcl.running k.ch
  have hdram : u.dram = t.dram := by
    rw [← hu, setCtx_dram]
    exact hcl.dram
  rw [hx]
  refine ⟨?_, ?_, ?_, ?_, ?_⟩
  · change (ctxAt u _).state = _ ∧ (ctxAt u _).epoch = _ ∧ (ctxAt u _).closedAt = _ ∧ (ctxAt u _).releaseOn = _
    rw [hc']
    exact ⟨rfl, rfl, rfl, rfl⟩
  · change u.bg.pendingPages = _
    rw [hbg, hcl.pending]
  · unfold cachedKey
    dsimp only
    rw [hkey]
  · exact hrun
  · exact hdram

/-- Settles O48: each row from the state of the context that it names. -/
theorem contextCommands : Obligations.ContextCommands := by
  unfold Obligations.ContextCommands
  intro s bus k t hp
  dsimp only
  refine ⟨fun h hf hc hl hs ho hd => ?_, fun h hf hc hl hs => ?_, fun h hf hc hs h1 h2 h3 h4 h5 h6 h7 h8 h9 h10 h11 h12 => ?_, fun h hf => ?_,
    fun e t1 h hf hw he => ⟨fun hv => ?_, fun hv ho hl => ?_⟩, fun i h hf hi => ⟨fun hn => ?_, fun hn => ?_⟩⟩
  · refine ⟨_, onBus_service hp h ctxOpen, ?_⟩
    rw [ctxOpen_opens hf hc hl hs ho hd]
    have hrun : (chanAt t k.ch).running = some k.req := started_running h
    obtain ⟨hself, hoth, hans⟩ := reply_setCtx (u := { t with laneTags := tset 0 t.laneTags (bits (k.word 0) 0 14) (BitVec.ofNat 6 (bits (k.word 0) 16 6)) })
      (k := k) hrun (bits (k.word 0) 0 14) (openedCtx (ctxAt t (bits (k.word 0) 0 14)) k) stDone
      [field 32 0 24 (ctxAt t (bits (k.word 0) 0 14)).epoch.toNat, field 32 0 8 (ctxAt t (bits (k.word 0) 0 14)).keyGen.toNat]
    refine ⟨?_, ?_, ?_, ?_, ?_, ?_, ?_, ?_, ?_, ?_, ?_, hoth, hans⟩ <;> rw [Machine.ctxAt_ended, hself]
    · rfl
    · exact bits_ofNat _ _ _
    · rfl
    · rfl
    · rfl
    · rfl
    · exact bits_ofNat _ _ _
    · exact bits_ofNat _ _ _
    · rfl
    · rfl
    · rfl
  · exact (onBus_service hp h ctxOpen).trans (by rw [ctxOpen_state hf hc hl hs])
  · refine ⟨_, onBus_service hp h ctxRelease, ?_⟩
    have hpace : t.pace.now = s.pace.now := by
      obtain ⟨c, hst⟩ := started_start h
      obtain ⟨-, rest, -, rfl⟩ := startRequest_eq hst
      rfl
    have hr := ctxRelease_released hf hc hs ⟨⟨h2, h1⟩, ⟨h3, h10⟩, ⟨h4, h5⟩, ⟨h6, h7⟩, ⟨h8, h9⟩, ⟨h11, h12⟩⟩
    have hdram : t.dram = s.dram := by
      obtain ⟨c, hst⟩ := started_start h
      obtain ⟨-, rest, -, rfl⟩ := startRequest_eq hst
      rfl
    generalize ctxRelease k t = u at hr ⊢
    obtain ⟨⟨r1, r2, r3, r4⟩, hp, hk, hrun, hd⟩ := hr
    exact ⟨r1, r2, r3.trans (by rw [hpace]), r4, hp, hk, hrun.trans (started_running h), hd.trans hdram⟩
  · exact (onBus_service hp h ctxQuery).trans (by rw [ctxQuery_answers hf])
  · refine (onBus_service hp h pageQuery).trans ?_
    rw [pageQuery_read hf hw he, if_neg]
    rintro ⟨h1, h2, h3⟩
    obtain hv | hv | hv := hv
    · exact h1 hv
    · rw [hv] at h2
      cases h2
    · exact h3 hv
  · refine (onBus_service hp h pageQuery).trans ?_
    rw [pageQuery_read hf hw he, if_pos ⟨hv, by rw [ho]; rfl, hl⟩]
  · refine ⟨_, exec_verdictFence hp h hf hi, ?_⟩
    obtain ⟨m, ha, hr⟩ := started_ticket h i
    rw [ha, startFence_none _ (by exact hn)]
    obtain ⟨hend, m', hm'⟩ := ticket_ends hr (u := { t with mbox := m }) rfl stDone [flag 32 0 (ctxAt t (bits (k.word 0) 0 14)).taint, 0]
    refine ⟨hend, ?_⟩
    obtain ⟨c, hs⟩ := started_start h
    refine mailOnly_of hs ?_
    change { finish { t with mbox := m } (.ticket k.ch i) stDone [flag 32 0 (ctxAt t (bits (k.word 0) 0 14)).taint, 0] with mbox := t.mbox } = t
    rw [hm']
  · refine ⟨_, exec_verdictFence hp h hf hi, ?_⟩
    obtain ⟨m, ha, hr⟩ := started_ticket h i
    rw [ha, startFence_waits _ (by exact hn)]
    refine ⟨hr, fun x hx => ?_, tilesOf_fenced_length t _, rfl⟩
    obtain ⟨hx1, hx2⟩ := List.mem_filter.1 hx
    exact mem_fencedReads hx1 (of_decide_eq_true hx2)

end Sys2Proof.Proofs
end

section
/-!
PROOF. A link's events and frames (R410 to R414, R417 to R424, R427 to R430).
-/
namespace Sys2Proof.Proofs

open Sys2Proof Sys2Proof.Machine Sys2Proof.Safety Sys2Proof.Laws

/-! ### What leaves the links standing -/

/-- Two states whose links differ in their queues and their counts of released frames alone, with the same registers and INDEX; an event of a
lost link stays recorded. -/
structure CreditsOnly (s t : State) : Prop where
  cfg : t.cfg = s.cfg
  valid : t.relay.valid = s.relay.valid
  lost : s.relay.linkLost = true → t.relay.linkLost = true
  link : ∀ d, ∃ q n a, linkOf t d = { linkOf s d with queue := q, freed := n, freedAt := a }

theorem CreditsOnly.refl (s : State) : CreditsOnly s s := ⟨rfl, rfl, id, fun _ => ⟨_, _, _, rfl⟩⟩

theorem CreditsOnly.trans {s t u : State} (h : CreditsOnly s t) (g : CreditsOnly t u) : CreditsOnly s u where
  cfg := g.cfg.trans h.cfg
  valid := g.valid.trans h.valid
  lost := g.lost ∘ h.lost
  link d := by
    obtain ⟨_, _, _, h'⟩ := h.link d
    obtain ⟨q, n, a, g'⟩ := g.link d
    exact ⟨q, n, a, by rw [g', h']⟩

theorem CreditsOnly.foldl {α : Type} {f : State → α → State} (hf : ∀ t a, CreditsOnly t (f t a)) (xs : List α) :
    ∀ s, CreditsOnly s (xs.foldl f s) := by
  induction xs with
  | nil => exact fun s => .refl s
  | cons x xs ih => exact fun s => (hf s x).trans (ih _)

/-- One port's queue and counts written. -/
theorem creditsOnly_setLink (s : State) (d : Dir) (q : List OutFrame) (n : Nat) (a : Option Nat) :
    CreditsOnly s (setLink s d { linkOf s d with queue := q, freed := n, freedAt := a }) where
  cfg := by cases d <;> rfl
  valid := by cases d <;> rfl
  lost := by cases d <;> exact id
  link e := by
    by_cases h : e = d
    · rw [h, linkOf_setLink_same]
      exact ⟨q, n, a, rfl⟩
    · rw [linkOf_setLink_ne s _ h]
      exact ⟨_, _, _, rfl⟩

theorem creditsOnly_enqueue (s : State) (d : Dir) (f : OutFrame) : CreditsOnly s (enqueue s d f) := creditsOnly_setLink s d _ _ _

theorem creditsOnly_askCredit (s : State) (d : Dir) : CreditsOnly s (askCredit s d) := by
  unfold askCredit
  split
  · exact .refl s
  · exact creditsOnly_enqueue s d _

theorem creditsOnly_releaseFrame (s : State) (d : Dir) : CreditsOnly s (releaseFrame s d) := by
  unfold releaseFrame
  dsimp only
  split
  · exact (creditsOnly_setLink s d _ _ _).trans (creditsOnly_askCredit _ d)
  · exact creditsOnly_setLink s d _ _ _

theorem creditsOnly_dropHolds (s : State) (d : Dir) : CreditsOnly s (dropHolds s d) := creditsOnly_setLink s _ _ _ _

theorem finish_frame (s : State) (w : Caller) (st : BitVec 8) (ws : List W32) : ∃ m, finish s w st ws = { s with mbox := m } := by
  cases w with
  | ticket c i =>
    show ∃ m, endTicket s c i st ws = _
    unfold endTicket
    dsimp only
    split
    · exact ⟨_, rfl⟩
    · split <;> exact ⟨_, rfl⟩
  | running c => exact answerRunning_frame s c st ws

theorem creditsOnly_finish (s : State) (w : Caller) (st : BitVec 8) (ws : List W32) : CreditsOnly s (finish s w st ws) := by
  obtain ⟨m, hm⟩ := finish_frame s w st ws
  rw [hm]
  exact ⟨rfl, rfl, id, fun d => by cases d <;> exact ⟨_, _, _, rfl⟩⟩

theorem creditsOnly_endLinkJobs (s : State) (d : Dir) : CreditsOnly s (endLinkJobs s d) := by
  unfold endLinkJobs
  dsimp only
  refine CreditsOnly.trans ?_ (CreditsOnly.foldl (f := fun t w => finish t w stRelayDown []) (fun t w => creditsOnly_finish t w _ _) _ _)
  exact ⟨rfl, rfl, id, fun e => by cases e <;> exact ⟨_, _, _, rfl⟩⟩

/-! ### A link that goes down -/

/-- A link as nothing but its level and the cause of its last refusal are left of it; its queue and its counts may have moved since. -/
def LinkCleared (l m : Link) : Prop := ∃ q n a, m = { level := l.level, cause := l.cause, queue := q, freed := n, freedAt := a }

/-- The port's link as it is dropped, before the jobs that needed it end. -/
theorem dropLink_creditsOnly (s : State) (d : Dir) :
    ∃ u, CreditsOnly u (dropLink s d) ∧ u.cfg = s.cfg ∧ u.relay.valid = s.relay.valid ∧
      (linkStands (linkOf s d) = true → u.relay.linkLost = true) ∧ (s.relay.linkLost = true → u.relay.linkLost = true) ∧
      linkOf u d = { level := (linkOf s d).level, cause := (linkOf s d).cause } ∧
      ∀ e, e ≠ d → linkOf u e = linkOf s e := by
  have hfold : ∀ t, CreditsOnly t ((List.filterMap OutFrame.hold (linkOf s d).queue).foldl releaseFrame (dropHolds t d)) := fun t =>
    (creditsOnly_dropHolds t d).trans (CreditsOnly.foldl creditsOnly_releaseFrame _ _)
  unfold dropLink
  dsimp only
  by_cases hl : linkStands (linkOf s d) = true
  · rw [if_pos hl]
    refine ⟨relayEvent (setLink s d { level := (linkOf s d).level, cause := (linkOf s d).cause }) (fun r => { r with linkLost := true }),
      (creditsOnly_endLinkJobs _ d).trans (hfold _), ?_, ?_, fun _ => rfl, fun _ => rfl, ?_, fun e he => ?_⟩
    · cases d <;> rfl
    · cases d <;> rfl
    · cases d <;> rfl
    · exact linkOf_setLink_ne s _ he
  · rw [if_neg hl]
    refine ⟨setLink s d { level := (linkOf s d).level, cause := (linkOf s d).cause }, hfold _, ?_, ?_, fun h => absurd h hl, fun h => ?_, ?_,
      fun e he => linkOf_setLink_ne s _ he⟩
    · cases d <;> rfl
    · cases d <;> rfl
    · cases d <;> exact h
    · exact linkOf_setLink_same s d _

theorem dropLink_cleared (s : State) (d : Dir) : LinkCleared (linkOf s d) (linkOf (dropLink s d) d) := by
  obtain ⟨u, hc, -, -, -, -, hd, -⟩ := dropLink_creditsOnly s d
  obtain ⟨q, n, a, h⟩ := hc.link d
  exact ⟨q, n, a, by rw [h, hd]⟩

theorem dropLink_cfg (s : State) (d : Dir) : (dropLink s d).cfg = s.cfg := by
  obtain ⟨u, hc, hcfg, -⟩ := dropLink_creditsOnly s d
  exact hc.cfg.trans hcfg

theorem dropLink_valid (s : State) (d : Dir) : (dropLink s d).relay.valid = s.relay.valid := by
  obtain ⟨u, hc, -, hv, -⟩ := dropLink_creditsOnly s d
  exact hc.valid.trans hv

theorem dropLink_linkLost (s : State) (d : Dir) (h : linkStands (linkOf s d) = true ∨ s.relay.linkLost = true) :
    (dropLink s d).relay.linkLost = true := by
  obtain ⟨u, hc, -, -, h1, h2, -⟩ := dropLink_creditsOnly s d
  exact hc.lost (h.elim h1 h2)

/-- The other port's link keeps all but its queue and its counts. -/
theorem dropLink_other (s : State) {d e : Dir} (he : e ≠ d) :
    ∃ q n a, linkOf (dropLink s d) e = { linkOf s e with queue := q, freed := n, freedAt := a } := by
  obtain ⟨u, hc, -, -, -, -, -, h⟩ := dropLink_creditsOnly s d
  rw [← h e he]
  exact hc.link e

theorem linkDown_of_keeps {s : State} {d : Dir} (h : ¬ (d = .up ∧ s.relay.valid = true ∧ isHead s = false)) :
    linkDown s d = dropLink s d := by
  have hh : isHead (dropLink s d) = isHead s := by unfold isHead activeReg; rw [dropLink_cfg]
  unfold linkDown
  dsimp only
  rw [dropLink_valid, hh]
  exact if_neg (by simpa using h)

/-- With the upstream link goes the INDEX, and with it the downstream link (R403). -/
theorem linkDown_of_follows {s : State} (hv : s.relay.valid = true) (hh : isHead s = false) :
    linkDown s .up = dropLink { dropLink s .up with relay := { (dropLink s .up).relay with valid := false, index := 0 } } .dn := by
  have hh' : isHead (dropLink s .up) = isHead s := by unfold isHead activeReg; rw [dropLink_cfg]
  unfold linkDown
  dsimp only
  rw [dropLink_valid, hh']
  exact if_pos (by simp [hv, hh])

theorem linkDown_cleared (s : State) (d : Dir) : LinkCleared (linkOf s d) (linkOf (linkDown s d) d) := by
  by_cases h : d = .up ∧ s.relay.valid = true ∧ isHead s = false
  · obtain ⟨rfl, hv, hh⟩ := h
    rw [linkDown_of_follows hv hh]
    obtain ⟨q, n, a, ho⟩ := dropLink_other
      { dropLink s .up with relay := { (dropLink s .up).relay with valid := false, index := 0 } } (d := .dn) (e := .up) (by decide)
    obtain ⟨q', n', a', hu⟩ := dropLink_cleared s .up
    refine ⟨q, n, a, ho.trans ?_⟩
    rw [show linkOf { dropLink s .up with relay := { (dropLink s .up).relay with valid := false, index := 0 } } .up =
      linkOf (dropLink s .up) .up from rfl, hu]
  · rw [linkDown_of_keeps h]
    exact dropLink_cleared s d

theorem linkDown_linkLost (s : State) (d : Dir) (hl : linkStands (linkOf s d) = true) : (linkDown s d).relay.linkLost = true := by
  by_cases h : d = .up ∧ s.relay.valid = true ∧ isHead s = false
  · obtain ⟨rfl, hv, hh⟩ := h
    rw [linkDown_of_follows hv hh]
    exact dropLink_linkLost _ _ (.inr (dropLink_linkLost s .up (.inl hl)))
  · rw [linkDown_of_keeps h]
    exact dropLink_linkLost s d (.inl hl)

theorem linkDown_follows {s : State} (hv : s.relay.valid = true) (hh : isHead s = false) :
    (linkDown s .up).relay.valid = false ∧ (linkOf (linkDown s .up) .dn).phase = .down := by
  rw [linkDown_of_follows hv hh]
  refine ⟨dropLink_valid _ _, ?_⟩
  obtain ⟨q, n, a, h⟩ := dropLink_cleared { dropLink s .up with relay := { (dropLink s .up).relay with valid := false, index := 0 } } .dn
  rw [h]

/-! ### A link that comes up -/

theorem ownRns_relay (s : State) (lane : Nat) (n : Nat × Nat) : (ownRns s lane n).relay = s.relay := by
  simp only [ownRns, ownDigest, chargePaces, chargeEnergy, drawFree, count_relay]

/-- A port's link whose own bring-up has sent its HELLO: what it keeps of the link before. -/
structure HelloSent (l m : Link) : Prop where
  phase : m.phase = .hello
  level : m.level = l.level
  cause : m.cause = l.cause
  live : m.live = l.live
  txKey : m.txKey = l.txKey
  rxKey : m.rxKey = l.rxKey

/-- The link of a port that begins its bring-up, once its HELLO has been queued. -/
theorem helloSent_queued (s : State) (d : Dir) (e : Nat) (h : Octets) (fs : List OutFrame) :
    HelloSent (linkOf s d) (linkOf (fs.foldl (fun t f => enqueue t d f) (setLink s d
      { linkOf s d with
        phase := .hello, eph := e, hello := h, peerHello := [], peerRelay := [], kem := [], kemSs := [], fin := [], nextTx := []
        nextRx := [], refusedAt := none })) d) := by
  obtain ⟨q, n, a, hq⟩ := (CreditsOnly.foldl (f := fun t f => enqueue t d f) (fun t f => creditsOnly_enqueue t d f) fs (setLink s d
      { linkOf s d with
        phase := .hello, eph := e, hello := h, peerHello := [], peerRelay := [], kem := [], kemSs := [], fin := [], nextTx := []
        nextRx := [], refusedAt := none })).link d
  rw [hq, linkOf_setLink_same]
  constructor <;> rfl

theorem linkOf_of_relay {s t : State} (h : t.relay = s.relay) (d : Dir) : linkOf t d = linkOf s d := by
  cases d
  · exact congrArg Relay.linkUp h
  · exact congrArg Relay.linkDn h

theorem linkOf_nextObject (s : State) (d : Dir) : linkOf (nextObject s).2 d = linkOf s d := by cases d <;> rfl

theorem drawOctets_relay (s : State) (n : Nat) : (drawOctets s n).2.relay = s.relay := rfl

theorem drawScalar_relay (c : Curve) (n : Nat) : ∀ s : State, (drawScalar c n s).2.relay = s.relay := by
  induction n with
  | zero => exact fun s => rfl
  | succ n ih =>
    intro s
    unfold drawScalar
    dsimp only
    split
    · rfl
    · exact ih _

theorem startBringUp_helloSent {s : State} {d : Dir} (h : (linkOf s d).peerHello = []) :
    HelloSent (linkOf s d) (linkOf (startBringUp s d) d) := by
  unfold startBringUp
  dsimp only
  generalize hx : drawScalar p384 64 s = x
  have hl : linkOf (nextObject (drawOctets (ownRns x.2 0 (1, 0)) 32).2).2 d = linkOf s d := by
    rw [linkOf_nextObject, linkOf_of_relay (drawOctets_relay _ _), linkOf_of_relay (ownRns_relay _ _ _), ← hx,
      linkOf_of_relay (drawScalar_relay _ _ _)]
  rw [show (if (linkOf (nextObject (drawOctets (ownRns x.2 0 (1, 0)) 32).2).2 d).peerRelay.isEmpty = true then
    (linkOf (nextObject (drawOctets (ownRns x.2 0 (1, 0)) 32).2).2 d).peerHello else []) = [] by rw [hl, h, ite_self]]
  rw [if_pos List.isEmpty_nil]
  have := helloSent_queued (nextObject (drawOctets (ownRns x.2 0 (1, 0)) 32).2).2 d
  rw [hl] at this ⊢
  exact this _ _ _

theorem bringUp_of_may {s : State} {d : Dir} (hm : mayBringUp s d = true) (hd : (linkOf s d).phase = .down) :
    bringUp s d = startBringUp s d := if_pos ⟨hm, hd⟩

/-- A re-key keeps the session that stands (R420). -/
theorem askRekeyLink_helloSent {s : State} {d : Dir} (h : (linkOf s d).peerHello = []) :
    HelloSent { linkOf s d with live := true } (linkOf (askRekeyLink s d) d) := by
  unfold askRekeyLink rekeyLink
  obtain ⟨q, n, a, hq⟩ := (creditsOnly_enqueue s d (linkFrame s 0x05 [])).link d
  rw [hq]
  have := startBringUp_helloSent
    (s := setLink (enqueue s d (linkFrame s 0x05 [])) d { linkOf s d with live := true, queue := q, freed := n, freedAt := a })
    (d := d) (by rw [linkOf_setLink_same]; exact h)
  rw [linkOf_setLink_same] at this
  exact ⟨this.phase, this.level, this.cause, this.live, this.txKey, this.rxKey⟩

/-! ### A CREDIT frame that waits -/

/-- A link whose wire is taken, with a CREDIT frame waiting. -/
structure CreditAsked (l : Link) : Prop where
  wire : l.wire.isSome = true
  waits : creditWaits l = true

theorem creditWaits_append {l : Link} (f : OutFrame) (h : creditWaits l = true ∨ f.typ = 0x04) :
    creditWaits { l with queue := l.queue ++ [f] } = true := by
  unfold creditWaits at h ⊢
  rw [List.any_append]
  rcases h with h | h <;> simp [h]

theorem creditAsked_askCredit {s : State} {d : Dir} (hw : (linkOf s d).wire.isSome = true) : CreditAsked (linkOf (askCredit s d) d) := by
  unfold askCredit
  split
  next h => exact ⟨hw, h⟩
  · unfold enqueue
    rw [linkOf_setLink_same]
    exact ⟨hw, creditWaits_append _ (.inr rfl)⟩

theorem creditAsked_askCredit_any {s : State} {d e : Dir} (h : CreditAsked (linkOf s d)) : CreditAsked (linkOf (askCredit s e) d) := by
  by_cases he : d = e
  · rw [← he]
    exact creditAsked_askCredit h.wire
  · unfold askCredit enqueue
    split
    · exact h
    · rw [linkOf_setLink_ne s _ he]
      exact h

theorem creditAsked_releaseFrame {s : State} {d e : Dir} (h : CreditAsked (linkOf s d)) : CreditAsked (linkOf (releaseFrame s e) d) := by
  have h1 : ∀ n a, CreditAsked (linkOf (setLink s e { linkOf s e with freed := n, freedAt := a }) d) := by
    intro n a
    by_cases he : d = e
    · rw [← he, linkOf_setLink_same]
      exact ⟨h.wire, h.waits⟩
    · rw [linkOf_setLink_ne s _ he]
      exact h
  unfold releaseFrame
  dsimp only
  split
  · exact creditAsked_askCredit_any (h1 _ _)
  · exact h1 _ _

theorem linkOf_raiseBeat_ne (s : State) {d e : Dir} (he : d ≠ e) : linkOf (raiseBeat e s) d = linkOf s d := by
  unfold raiseBeat
  dsimp only
  split
  · rfl
  · split
    · rfl
    · rw [linkOf_setLink_ne _ _ he]
      exact linkOf_of_relay rfl d

theorem creditAsked_pumpPort {s : State} {d : Dir} (e : Dir) (h : CreditAsked (linkOf s d)) : CreditAsked (linkOf (pumpPort e s) d) := by
  unfold pumpPort
  dsimp only
  by_cases he : d = e
  · rw [← he, if_pos h.wire]
    exact h
  · split
    · exact h
    · split
      · exact h
      · split
        · unfold startFrame
          dsimp only
          split
          · apply creditAsked_releaseFrame
            rw [linkOf_raiseBeat_ne _ he, linkOf_setLink_ne _ _ he]
            exact h
          · rw [linkOf_raiseBeat_ne _ he, linkOf_setLink_ne _ _ he]
            exact h
        · exact h

theorem creditAsked_pump {s : State} {d : Dir} (h : CreditAsked (linkOf s d)) : CreditAsked (linkOf (pump s) d) :=
  creditAsked_pumpPort _ (creditAsked_pumpPort _ (creditAsked_pumpPort _ h))

/-! ### The frames received -/

/-- Every TYPE of frame is served alike: its row is `receive` with what the TYPE does. -/
theorem frameServed_of_receive {row : Dir → List RelayBeat → Bus → Instr} {typ : Nat} {act : Dir → RxHead → Octets → State → State}
    (h : ∀ d bs bus s, exec (row d bs bus) s = receive typ d bs bus s (act d)) : FrameServed row typ act := by
  intro s d bs bus hp ht on
  have hrow : exec (row d bs bus) s = .next (ended s (match frameOf bs with
      | .error e => frameBroken on d e
      | .ok f => takeFrame typ d f on (act d))) := by
    rw [h]
    exact (onBus_powered s hp).trans (congrArg (fun t => Host.Outcome.next (ended s t)) (if_neg (by
      rw [show portTakes { s with bus := bus } d = portTakes s d by cases d <;> rfl, ht]; simp)))
  refine ⟨fun e he => by rw [hrow, he], fun f hf htyp => ?_⟩
  rw [hf] at hrow
  replace hrow : exec (row d bs bus) s = .next (ended s (takeFrame typ d f on (act d))) := hrow
  have htake : takeFrame typ d f on (act d) = (match rxCheck on d (rxHead f) f with
      | (none, s1) => relaySettle s1
      | (some p, s1) => relaySettle (match rxRoute s1 d (rxHead f) with
        | .unroutable => discardFrame (relayEvent s1 (fun r => { r with unroutable := true })) d typ
        | .forwarded out => forwardFrame (count s1 0x7940 p.length) d out (rxHead f) p
        | .consumed => consumed (act d (rxHead f) p (count s1 0x7940 p.length)) d typ
        | .both =>
          let s2 := act d (rxHead f) p (count s1 0x7940 p.length)
          if linkStands (linkOf s2 .dn) then forwardFrame s2 d .dn (rxHead f) p else consumed s2 d typ)) := by
    unfold takeFrame
    exact if_neg (not_not_intro htyp)
  rw [htake] at hrow
  refine ⟨fun s1 h1 => by rw [hrow, h1], fun p s1 h1 => ?_⟩
  rw [h1] at hrow
  dsimp only at hrow
  exact ⟨fun hr => by rw [hrow, hr], fun out hr => by rw [hrow, hr], fun hr => by rw [hrow, hr], fun hr => by rw [hrow, hr]⟩

/-! ### The rows of a link's own events -/

theorem linkStands_level (l : Link) (b : Bool) : linkStands { l with level := b } = linkStands l := rfl

/-- Settles O59: the rows are the model's own equations; a link that goes down keeps its level and its cause alone, a bring-up keeps the
session of the link, and a CREDIT frame asked for waits while the port's wire is taken. -/
theorem relayLinks : Obligations.RelayLinks := by
  unfold Obligations.RelayLinks
  refine ⟨fun s d bus hp => ?_, frameServed_of_receive fun _ _ _ _ => rfl, frameServed_of_receive fun _ _ _ _ => rfl,
    frameServed_of_receive fun _ _ _ _ => rfl, frameServed_of_receive fun _ _ _ _ => rfl, frameServed_of_receive fun _ _ _ _ => rfl,
    frameServed_of_receive fun _ _ _ _ => rfl, frameServed_of_receive fun _ _ _ _ => rfl, frameServed_of_receive fun _ _ _ _ => rfl,
    frameServed_of_receive fun _ _ _ _ => rfl, frameServed_of_receive fun _ _ _ _ => rfl, frameServed_of_receive fun _ _ _ _ => rfl,
    frameServed_of_receive fun _ _ _ _ => rfl, frameServed_of_receive fun _ _ _ _ => rfl, frameServed_of_receive fun _ _ _ _ => rfl,
    frameServed_of_receive fun _ _ _ _ => rfl, frameServed_of_receive fun _ _ _ _ => rfl⟩
  intro on l raised fallen
  have hraised : linkOf raised d = { l with level := true } := linkOf_setLink_same s d _
  have hfallen : linkOf fallen d = { l with level := false } := linkOf_setLink_same s d _
  refine ⟨?_, fun hm hd hh => ?_, ?_, ?_, fun hl => ?_, ?_, ?_, ?_, ?_, fun x hx => ?_, fun hx => ?_,
    fun hh => ?_, ?_, fun hh => ?_, fun x hx => ?_, fun hx => ?_, fun hw => ?_, fun x hx => ?_, fun hx => ?_,
    fun x hx => ?_, fun hx => ⟨fun g rest hg => ?_, fun hg => ?_⟩, fun w hw => ?_, fun hw => ?_⟩
  · exact live_powered (f := fun s => if (linkOf s d).level then s else pump (bringUp (setLink s d { linkOf s d with level := true }) d)) s hp
  · rw [bringUp_of_may hm (by rw [hraised]; exact hd)]
    have h := startBringUp_helloSent (s := raised) (d := d) (by rw [hraised]; exact hh)
    rw [hraised] at h
    exact ⟨h.phase, h.level⟩
  · exact live_powered (f := fun s => if (linkOf s d).level then
      pump (segmentNext 3 (linkDown (setLink s d { linkOf s d with level := false }) d)) else s) s hp
  · intro m
    obtain ⟨q, n, a, hm⟩ := linkDown_cleared fallen d
    rw [hfallen] at hm
    rw [show m = _ from hm]
    exact ⟨rfl, rfl, rfl, rfl, rfl, rfl, rfl⟩
  · exact linkDown_linkLost fallen d (by rw [hfallen, linkStands_level]; exact hl)
  · obtain ⟨q, n, a, hm⟩ := linkDown_cleared s d
    rw [hm]
  · obtain ⟨q, n, a, hm⟩ := linkDown_cleared s d
    rw [hm]
  · obtain ⟨q, n, a, hm⟩ := linkDown_cleared s d
    rw [hm]
  · intro hd hv hh
    subst hd
    exact linkDown_follows hv hh
  · rw [show exec (.helloRetryExpire d) s = execHelloRetryExpire d s from rfl, execHelloRetryExpire, live_powered s hp]
    rw [show (linkOf s d).refusedAt = some x from hx]
  · rw [show exec (.helloRetryExpire d) s = execHelloRetryExpire d s from rfl, execHelloRetryExpire, live_powered s hp]
    rw [show (linkOf s d).refusedAt = none from hx]
  · have h := startBringUp_helloSent hh
    exact ⟨h.phase, h.cause, h.txKey, h.rxKey⟩
  · exact live_powered (f := fun s =>
      if (linkOf s d).phase = .up ∧ (linkOf s d).finishedAt + 1073741824 ≤ s.pace.now then pump (askRekeyLink s d) else s) s hp
  · have h := askRekeyLink_helloSent hh
    exact ⟨h.phase, h.live, h.txKey⟩
  · rw [show exec (.creditDue d) s = execCreditDue d s from rfl, execCreditDue, live_powered s hp]
    dsimp only
    rw [show (linkOf s d).freedAt = some x from hx]
  · rw [show exec (.creditDue d) s = execCreditDue d s from rfl, execCreditDue, live_powered s hp]
    dsimp only
    rw [show (linkOf s d).freedAt = none from hx]
  · exact (creditAsked_pump (creditAsked_askCredit hw)).waits
  · rw [show exec (.creditTimeout d) s = execCreditTimeout d s from rfl, execCreditTimeout, live_powered s hp]
    rw [show (linkOf s d).spentAt = some x from hx]
  · rw [show exec (.creditTimeout d) s = execCreditTimeout d s from rfl, execCreditTimeout, live_powered s hp]
    rw [show (linkOf s d).spentAt = none from hx]
  · rw [show exec (.remoteWaitExpire bus) s = execRemoteWaitExpire bus s from rfl, execRemoteWaitExpire, onBus_powered s hp]
    dsimp only
    rw [hx]
  · rw [show exec (.remoteWaitExpire bus) s = execRemoteWaitExpire bus s from rfl, execRemoteWaitExpire, onBus_powered s hp]
    dsimp only
    rw [hx, hg]
    exact congrArg (fun t => Host.Outcome.next (ended s t)) (if_congr (by simp) rfl rfl)
  · rw [show exec (.remoteWaitExpire bus) s = execRemoteWaitExpire bus s from rfl, execRemoteWaitExpire, onBus_powered s hp]
    dsimp only
    rw [hx, hg]
  · rw [show exec (.relayTxAck d) s = execRelayTxAck d s from rfl, execRelayTxAck, live_powered s hp, beatAcked,
      show linkOf s d = l from rfl, hw]
    exact congrArg (fun t => Host.Outcome.next (ended s t)) (if_congr (by simp) rfl rfl)
  · rw [show exec (.relayTxAck d) s = execRelayTxAck d s from rfl, execRelayTxAck, live_powered s hp, beatAcked,
      show linkOf s d = l from rfl, hw]

end Sys2Proof.Proofs
end

section
/-!
SUPPORT. What the memory layer leaves: the fetches, write-backs and commits of custody's lines change the caches, the counters and the logs,
and nothing of the vault, the requests, the jobs, or the registers.
-/
namespace Sys2Proof.Proofs

open Sys2Proof Sys2Proof.Machine Sys2Proof.Safety Sys2Proof.Laws

/-! ### What is left -/

/-- A channel but for its doorbell bits and its notices. -/
def bareChan (v : Channel) : Channel := { v with latched := 0, notices := [], noticeLost := false }

/-- A lane but for its tokens. -/
def bareLane (v : Lane) : Lane := { v with tokens := 0, owed := 0 }

/-- A receipt but for the marks of its slots. -/
def bareReceipt (r : Receipt) : Receipt := { r with slots := r.slots.map (fun x => { x with marked := false }) }

/-- The state but for what the memory layer writes: memory, its tree and its caches, counters, credits and logs, notices, tokens and marks. -/
def memRest (s : State) : State × (Nat → Channel) × (Nat → Lane) :=
  ({ s with
      vlog := {}, mbox := [], power := { s.power with credits := [] }, cnt := [], lanes := [], cust := { s.cust with outs := [] }
      mapc := {}, tree := { newTree := s.tree.newTree }, tiles := { s.tiles with writes := [] }, bg := { s.bg with lostTotal := 0 }
      flt := { s.flt with seq := 0, overflow := false, queue := [], log := [], logHead := 0, excOverflow := 0 }, dram := []
      keys := { s.keys with cache := [], clock := 0 }
      rcpt := { s.rcpt with receipts := s.rcpt.receipts.map (fun e => (e.1, bareReceipt e.2)) } },
   fun c => bareChan (chanAt s c), fun l => bareLane (laneAt s l))

theorem memRest_of_eq {α : Type} {p : α × State} {a : α} {s s1 : State} (h : p = (a, s1)) (hp : memRest p.2 = memRest s) :
    memRest s1 = memRest s := by rw [← hp, h]

theorem memRest_foldl {α : Type} {f : State → α → State} (hf : ∀ t a, memRest (f t a) = memRest t) (xs : List α) :
    ∀ s, memRest (xs.foldl f s) = memRest s := by
  induction xs with
  | nil => exact fun s => rfl
  | cons x xs ih => exact fun s => (ih _).trans (hf s x)

/-! ### Single updates -/

section
variable (s : State)

@[simp] theorem memRest_count (off n : Nat) : memRest (count s off n) = memRest s := rfl

theorem memRest_tree {t : Meta} (h : t.newTree = s.tree.newTree) : memRest { s with tree := t } = memRest s := by
  rw [memRest, h]
  rfl

@[simp] theorem memRest_mapc (m : MapCache) : memRest { s with mapc := m } = memRest s := rfl

@[simp] theorem memRest_dram (d : Table Line) : memRest { s with dram := d } = memRest s := rfl

@[simp] theorem memRest_violate (port kind : BitVec 8) (mid : Option Mid) : memRest (violate s port kind mid) = memRest s := rfl

@[simp] theorem memRest_setOut (ch : Nat) (v : OutChannel) : memRest (setOut s ch v) = memRest s := rfl

@[simp] theorem memRest_supersede (la : Nat) : memRest (supersede s la) = memRest s := rfl

@[simp] theorem memRest_storeLine (la : Nat) (l : Line) : memRest (storeLine s la l) = memRest s := rfl

@[simp] theorem memRest_putMeta (la : Nat) (m : MetaLine) : memRest (putMeta s la m) = memRest s := rfl

@[simp] theorem memRest_dropMeta (la : Nat) : memRest (dropMeta s la) = memRest s := rfl

@[simp] theorem memRest_hitMeta (la : Nat) (m : MetaLine) : memRest (hitMeta s la m) = memRest s := by
  rw [hitMeta, memRest_count, memRest_putMeta]

@[simp] theorem memRest_abandonRekey (t : TreeItem) : memRest (abandonRekey s t) = memRest s := rfl

@[simp] theorem memRest_cacheKey (c : Nat) (k : CtxKey) : memRest (cacheKey s c k) = memRest s := rfl

@[simp] theorem memRest_spendCredit (i e : Nat) : memRest (spendCredit s i e) = memRest s := rfl

@[simp] theorem memRest_chargeEnergy (lane e : Nat) : memRest (chargeEnergy s lane e) = memRest s := by
  rw [chargeEnergy, memRest_count]

@[simp] theorem memRest_putMapLine (n : Nat) (ws : List W32) : memRest (putMapLine s n ws) = memRest s := rfl

@[simp] theorem memRest_dropMapLine (n : Nat) : memRest (dropMapLine s n) = memRest s := rfl

@[simp] theorem memRest_rotateRekeys : memRest (rotateRekeys s) = memRest s := rfl

@[simp] theorem memRest_writes (w : Table TileWrite) : memRest { s with tiles := { s.tiles with writes := w } } = memRest s := rfl

/-! ### Notices and records -/

/-- A channel written with the same but its bells and notices. -/
theorem memRest_setChan (c : Nat) {v : Channel} (h : bareChan v = bareChan (chanAt s c)) : memRest (setChan s c v) = memRest s := by
  unfold memRest
  refine Prod.ext rfl (Prod.ext (funext fun d => ?_) rfl)
  dsimp only
  rw [chanAt_setChan]
  split
  next hd => rw [hd, h]
  · rfl

@[simp] theorem memRest_raiseBell (c b : Nat) : memRest (raiseBell s c b) = memRest s := memRest_setChan s c rfl

@[simp] theorem memRest_raiseBells (cs : List Nat) (b : Nat) : memRest (raiseBells s cs b) = memRest s :=
  memRest_foldl (f := fun t c => raiseBell t c b) (fun t c => memRest_raiseBell t c b) cs s

@[simp] theorem memRest_queueNotice (c : Nat) (ws : List W32) : memRest (queueNotice s c ws) = memRest s := by
  unfold queueNotice
  dsimp only
  split <;> exact memRest_setChan s c rfl

@[simp] theorem memRest_faultNotice (notice : Nat) (lane : Option Nat) (page cnt : Nat) :
    memRest (faultNotice s notice lane page cnt) = memRest s := by
  unfold faultNotice
  exact (memRest_foldl (f := fun t c => queueNotice t c _) (fun t c => memRest_queueNotice t c _) _ _).trans (memRest_raiseBells s _ _)

theorem bareReceipt_marked (e : Nat × Receipt) (f : RSlot → Bool) (h : Bool) :
    bareReceipt (if h then { e.2 with slots := e.2.slots.map (fun x => if f x then { x with marked := true } else x) } else e.2) =
      bareReceipt e.2 := by
  unfold bareReceipt
  cases h
  · rfl
  · simp only [if_true, List.map_map]
    congr 1
    refine List.map_congr_left fun x _ => ?_
    dsimp only [Function.comp]
    split <;> rfl

@[simp] theorem memRest_markInputs (kind : Nat) (a : ExcAt) : memRest (markInputs s kind a) = memRest s := by
  unfold markInputs
  split
  · rfl
  · unfold memRest
    refine Prod.ext ?_ rfl
    dsimp only
    rw [List.map_map]
    refine congrArg (fun r => ({ s with
      vlog := {}, mbox := [], power := { s.power with credits := [] }, cnt := [], lanes := [], cust := { s.cust with outs := [] }
      mapc := {}, tree := { newTree := s.tree.newTree }, tiles := { s.tiles with writes := [] }, bg := { s.bg with lostTotal := 0 }
      flt := { s.flt with seq := 0, overflow := false, queue := [], log := [], logHead := 0, excOverflow := 0 }, dram := []
      keys := { s.keys with cache := [], clock := 0 }
      rcpt := { s.rcpt with receipts := r } } : State)) (List.map_congr_left fun e _ => ?_)
    dsimp only [Function.comp]
    split
    · exact Prod.ext rfl (bareReceipt_marked e (fun x => inInput x.words a.ctx a.la) true)
    · rfl

@[simp] theorem memRest_exception (kind : Nat) (a : ExcAt) : memRest (exception s kind a) = memRest s := by
  unfold exception
  dsimp only
  split
  · exact memRest_markInputs s kind a
  · split <;> exact memRest_markInputs s kind a

/-! ### Keys, tokens and work -/

@[simp] theorem memRest_readyKey (c : Nat) : memRest (readyKey s c) = memRest s := by
  unfold readyKey
  split
  · exact memRest_cacheKey ..
  · rw [memRest_count, memRest_cacheKey]

theorem memRest_setLane (l : Nat) {v : Lane} (h : bareLane v = bareLane (laneAt s l)) : memRest (setLane s l v) = memRest s := by
  unfold memRest
  refine Prod.ext rfl (Prod.ext rfl (funext fun d => ?_))
  dsimp only
  rw [laneAt_setLane]
  split
  next hd => rw [hd, h]
  · rfl

@[simp] theorem memRest_spendTokens (l n : Nat) : memRest (spendTokens s l n) = memRest s := by
  unfold spendTokens
  dsimp only
  split
  · apply memRest_setLane
    split <;> rfl
  · rfl

@[simp] theorem memRest_chargeLines (lane : Nat) (c : CustClass) (n : Nat) : memRest (chargeLines s lane c n) = memRest s := by
  rw [chargeLines, memRest_chargeEnergy]

@[simp] theorem memRest_workLines (lane : Nat) (c : CustClass) (n : Nat) : memRest (workLines s lane c n) = memRest s := by
  rw [workLines, memRest_spendCredit, memRest_chargeLines]

@[simp] theorem memRest_backgroundLines (lane : Nat) (c : CustClass) (n : Nat) : memRest (backgroundLines s lane c n) = memRest s := by
  rw [backgroundLines, memRest_spendCredit, memRest_chargeLines]

@[simp] theorem memRest_ownWork : memRest (ownWork s) = memRest s := (memRest_workLines _ _ _ _).trans (memRest_spendTokens _ _ _)

/-! ### Accesses of the block's own -/

@[simp] theorem memRest_ownSilent (write : Bool) (la : Nat) (l : Line) : memRest (ownSilent s write la l) = memRest s := by
  unfold ownSilent
  dsimp only
  split
  · rfl
  · split
    · rfl
    · rw [memRest_violate, memRest_setOut]
      split
      · exact memRest_supersede s la
      · rfl

@[simp] theorem memRest_readSilent (la : Nat) : memRest (readSilent s la) = memRest s := by
  unfold readSilent
  split
  · exact memRest_ownSilent ..
  · rfl

@[simp] theorem memRest_memWrite (la : Nat) (l : Line) : memRest (memWrite s la l).2 = memRest s := by
  unfold memWrite
  split
  · rfl
  · split
    · rfl
    · split <;> simp only [memRest_ownSilent, memRest_storeLine]

/-! ### The tree -/

@[simp] theorem memRest_clearPending (t : TreeItem) (slot : Nat) : memRest (clearPending s t slot) = memRest s := by
  unfold clearPending
  dsimp only
  split
  · rfl
  · split
    · rfl
    · split
      · rw [memRest_count]; rfl
      · rfl

@[simp] theorem memRest_readItem (t : TreeItem) (l : Line) (w : W64) (major minor : Nat) :
    memRest (readItem s t l w major minor).2 = memRest s := by
  unfold readItem
  dsimp only
  split <;> split <;> simp

@[simp] theorem memRest_reportNode (i n : Nat) : memRest (reportNode s i n) = memRest s := by
  unfold reportNode
  dsimp only
  split
  all_goals
    split
    · exact (memRest_faultNotice ..).trans (memRest_tree _ rfl)
    · rfl

@[simp] theorem memRest_itemBad (t : TreeItem) : memRest (itemBad s t) = memRest s := by
  unfold itemBad
  split
  · exact memRest_reportNode ..
  · rfl

theorem memRest_bumpSlot {s s1 : State} {p : TreeItem} {l pl : Line} {slot : Nat} (h : bumpSlot s p l slot = some (pl, s1)) :
    memRest s1 = memRest s := by
  unfold bumpSlot at h
  dsimp only at h
  split at h
  · rw [← (Prod.mk.inj (Option.some.inj h)).2]
    exact memRest_clearPending ..
  · split at h
    · cases h
    · rw [← (Prod.mk.inj (Option.some.inj h)).2]
      split
      · exact memRest_count ..
      · exact memRest_tree s rfl

@[simp] theorem memRest_markDirty (t : TreeItem) (l : Line) : memRest (markDirty s t l) = memRest s := by
  unfold markDirty
  split
  · exact memRest_tree s rfl
  · split
    · exact memRest_putMeta ..
    · rfl

end

/-! ### The fetches -/

/-- What each of the walks of the metadata cache keeps at a fuel. -/
structure WalksKeep (f : Nat) : Prop where
  fetch : ∀ s t g, memRest (metaFetch f s t g).2 = memRest s
  plain : ∀ s la g, memRest (metaPlain f s la g).2 = memRest s
  room : ∀ s la g, memRest (metaRoom f s la g).2 = memRest s
  evict : ∀ s la g vs, memRest (metaEvict f s la g vs).2 = memRest s
  writeback : ∀ s la, memRest (metaWriteback f s la).2 = memRest s

theorem metaPlain_keeps {f : Nat} (h : WalksKeep f) (s : State) (la : Nat) (g : WayGroup) :
    memRest (metaPlain (f + 1) s la g).2 = memRest s := by
  rw [metaPlain]
  split
  · exact memRest_hitMeta ..
  · have h1 := h.room s la g
    generalize metaRoom f s la g = p at h1 ⊢
    obtain ⟨room, s1⟩ := p
    dsimp only at h1 ⊢
    split
    · exact h1
    · split
      · split
        · rw [memRest_putMeta, memRest_count, h1]
        · rw [memRest_count, h1]
      · rw [memRest_readSilent, memRest_count, h1]

theorem metaRoom_keeps {f : Nat} (h : WalksKeep f) (s : State) (la : Nat) (g : WayGroup) :
    memRest (metaRoom (f + 1) s la g).2 = memRest s := by
  rw [metaRoom]
  split
  · rfl
  · exact h.evict ..

theorem metaEvict_keeps {f : Nat} (h : WalksKeep f) (s : State) (la : Nat) (g : WayGroup) (vs : List Nat) :
    memRest (metaEvict (f + 1) s la g vs).2 = memRest s := by
  cases vs with
  | nil => rw [metaEvict]
  | cons v rest =>
    rw [metaEvict]
    split
    · exact h.room ..
    · split
      · exact memRest_dropMeta ..
      · have h1 := h.writeback s v
        generalize metaWriteback f s v = p at h1 ⊢
        obtain ⟨r, s1⟩ := p
        split
        next hp => exact (h.room _ la g).trans (memRest_of_eq hp h1)
        next hp => exact (h.evict _ la g rest).trans (memRest_of_eq hp h1)

theorem metaFetch_keeps {f : Nat} (h : WalksKeep f) (s : State) (t : TreeItem) (g : WayGroup) :
    memRest (metaFetch (f + 1) s t g).2 = memRest s := by
  rw [metaFetch.eq_def]
  dsimp only
  split
  · rfl
  · split
    · exact memRest_hitMeta ..
    · split
      · rw [memRest_itemBad, memRest_count]
      · have h1 := h.fetch s (parentOf s t).1 .treeG
        generalize metaFetch f s (parentOf s t).1 .treeG = p at h1 ⊢
        obtain ⟨r, s1⟩ := p
        split
        next hp => exact memRest_of_eq hp h1
        next hp => exact memRest_of_eq hp h1
        next pl s2 hp =>
          replace h1 : memRest s2 = memRest s := memRest_of_eq hp h1
          have h2 : memRest (if (childCounters s2 (parentOf s t).1 pl (parentOf s t).2).2 = 0 then s2
              else (metaPlain f s2 (itemSeal s2 t).1 .treeG).2) = memRest s := by
            split
            · exact h1
            · exact (h.plain ..).trans h1
          generalize (if (childCounters s2 (parentOf s t).1 pl (parentOf s t).2).2 = 0 then s2
              else (metaPlain f s2 (itemSeal s2 t).1 .treeG).2) = s3 at h2 ⊢
          have h3 := (h.room s3 (itemAddr s t) g).trans h2
          generalize metaRoom f s3 (itemAddr s t) g = q at h3 ⊢
          obtain ⟨room, s4⟩ := q
          dsimp only at h3 ⊢
          split
          · exact h3
          · split
            · split
              · rw [memRest_putMeta, h3]
              · exact h3
            · split
              · split
                next hr =>
                  have h5 := memRest_of_eq hr (memRest_readItem ..)
                  split
                  · rw [memRest_putMeta, h5, memRest_count, h3]
                  · rw [h5, memRest_count, h3]
                next hr =>
                  have h5 := memRest_of_eq hr (memRest_readItem ..)
                  rw [memRest_itemBad, h5, memRest_count, h3]
              · split
                · rw [memRest_readSilent, memRest_count, h3]
                · split
                  · rw [memRest_readSilent, memRest_count, h3]
                  · rw [memRest_itemBad, memRest_count, memRest_count, h3]

theorem memRest_ite {c : Prop} [Decidable c] {a b s : State} (ha : memRest a = memRest s) (hb : memRest b = memRest s) :
    memRest (if c then a else b) = memRest s := by
  split
  · exact ha
  · exact hb

theorem memRest_cond {c : Prop} [Decidable c] {o : Written} {a b s : State} (ha : memRest a = memRest s) (hb : memRest b = memRest s) :
    memRest (if c then (o, a) else (o, b)).2 = memRest s := by
  split
  · exact ha
  · exact hb

/-- A cached seal line that follows the one just stored. -/
theorem memRest_sealPut {u s : State} (h : memRest u = memRest s) (x : Option MetaLine) (la : Nat) (l : Line) :
    memRest (match x with
      | some sm => putMeta u la { sm with data := l, dirty := false }
      | none => u) = memRest s := by
  cases x
  · exact h
  · exact (memRest_putMeta ..).trans h

theorem metaWriteback_keeps {f : Nat} (h : WalksKeep f) (s : State) (la : Nat) : memRest (metaWriteback (f + 1) s la).2 = memRest s := by
  rw [metaWriteback]
  split
  · rfl
  · split
    · split
      next hw =>
        have h1 := memRest_of_eq hw (memRest_memWrite ..)
        rw [memRest_putMeta, h1]
      next hw => exact memRest_of_eq hw (memRest_memWrite ..)
    next m0 _ t _ =>
      dsimp only
      split
      next hp => exact memRest_of_eq hp (h.plain ..)
      next sl0 s1 hp =>
        replace hp := memRest_of_eq hp (h.plain ..)
        split
        next hf => exact (memRest_of_eq hf (h.fetch ..)).trans hp
        next hf => exact (memRest_of_eq hf (h.fetch ..)).trans hp
        next pl0 s2 hf =>
          replace hf := (memRest_of_eq hf (h.fetch ..)).trans hp
          split
          · exact hf
          · split
            · exact hf
            · split
              · exact hf
              next pl s3 hb =>
                replace hb := (memRest_bumpSlot hb).trans hf
                have h4 : memRest (readyKey (if (itemAtHand s3 (parentOf s t).1).isSome then markDirty s3 (parentOf s t).1 pl
                    else putMeta s3 (itemAddr s3 (parentOf s t).1) { cleanLine s3 .treeG (some (parentOf s t).1) pl with dirty := true }) 0) =
                    memRest s := by
                  rw [memRest_readyKey]
                  split
                  · rw [memRest_markDirty, hb]
                  · rw [memRest_putMeta, hb]
                generalize readyKey (if (itemAtHand s3 (parentOf s t).1).isSome then markDirty s3 (parentOf s t).1 pl
                    else putMeta s3 (itemAddr s3 (parentOf s t).1) { cleanLine s3 .treeG (some (parentOf s t).1) pl with dirty := true }) 0 = s4
                    at h4 ⊢
                have h8 : ∀ u sl' , memRest u = memRest s → memRest (match tfind u.tree.lines (itemSeal s2 t).1 with
                    | some sm => putMeta u (itemSeal s2 t).1 { sm with data := sl', dirty := false }
                    | none => u) = memRest s := fun u sl' hu => memRest_sealPut hu _ _ sl'
                refine memRest_cond ?_ ?_
                · refine memRest_ite ?_ ?_
                  · rw [h.writeback]
                    exact h8 _ _ (by rw [memRest_putMeta, memRest_memWrite, memRest_memWrite, h4])
                  · rw [memRest_dropMeta, h.writeback]
                    exact h8 _ _ (by rw [memRest_putMeta, memRest_memWrite, memRest_memWrite, h4])
                · exact h8 _ _ (by rw [memRest_putMeta, memRest_memWrite, memRest_memWrite, h4])

theorem walksKeep (f : Nat) : WalksKeep f := by
  induction f with
  | zero =>
    refine ⟨fun s t g => ?_, fun s la g => ?_, fun s la g => ?_, fun s la g vs => ?_, fun s la => ?_⟩
    · rw [metaFetch]
    · rw [metaPlain]
    · rw [metaRoom]
    · rw [metaEvict]
    · rw [metaWriteback]
  | succ f ih => exact ⟨metaFetch_keeps ih, metaPlain_keeps ih, metaRoom_keeps ih, metaEvict_keeps ih, metaWriteback_keeps ih⟩

section
variable (s : State)

@[simp] theorem memRest_fetchItem (t : TreeItem) (g : WayGroup) : memRest (fetchItem s t g).2 = memRest s := (walksKeep _).fetch s t g

@[simp] theorem memRest_fetchPlain (la : Nat) (g : WayGroup) : memRest (fetchPlain s la g).2 = memRest s := (walksKeep _).plain s la g

@[simp] theorem memRest_writebackLine (la : Nat) : memRest (writebackLine s la).2 = memRest s := (walksKeep _).writeback s la

/-! ### Dirty lines -/

@[simp] theorem memRest_loseLine (la : Nat) : memRest (loseLine s la) = memRest s := by
  unfold loseLine
  split
  · rfl
  · dsimp only
    split
    · exact Eq.trans (memRest_tree _ rfl) (memRest_dropMeta ..)
    · exact memRest_dropMeta ..

@[simp] theorem memRest_forceWriteback (la : Nat) : memRest (forceWriteback s la) = memRest s := by
  unfold forceWriteback
  split
  next h => exact memRest_of_eq h (memRest_writebackLine ..)
  next h => rw [memRest_loseLine, memRest_of_eq h (memRest_writebackLine ..)]

@[simp] theorem memRest_makeRoom (f : Nat) : ∀ (kept : List Nat) (s : State), memRest (makeRoom f kept s) = memRest s := by
  induction f with
  | zero => exact fun kept s => rfl
  | succ f ih =>
    intro kept s
    rw [makeRoom]
    split
    · rfl
    · split
      · rfl
      · split
        next h => rw [ih, memRest_of_eq h (memRest_writebackLine ..)]
        next h => rw [ih, memRest_of_eq h (memRest_writebackLine ..)]
        next h => rw [ih, memRest_loseLine, memRest_of_eq h (memRest_writebackLine ..)]

@[simp] theorem memRest_roomForDirty (la : Nat) : memRest (roomForDirty s la) = memRest s := by
  unfold roomForDirty
  split
  · rfl
  · exact memRest_makeRoom ..

@[simp] theorem memRest_updateItem (t : TreeItem) (g : WayGroup) (l : Line) : memRest (updateItem s t g l) = memRest s := by
  unfold updateItem
  dsimp only
  split
  · rw [memRest_dropMeta]
    split <;> simp only [memRest_writebackLine, memRest_putMeta, memRest_roomForDirty]
  · split <;> simp only [memRest_writebackLine, memRest_putMeta, memRest_roomForDirty]

@[simp] theorem memRest_updatePlain (la : Nat) (g : WayGroup) (l : Line) : memRest (updatePlain s la g l) = memRest s := by
  unfold updatePlain
  dsimp only
  split <;> simp only [memRest_dropMeta, memRest_writebackLine, memRest_putMeta, memRest_roomForDirty]

/-! ### Reads of a line -/

@[simp] theorem memRest_itemNow (t : TreeItem) (g : WayGroup) : memRest (itemNow s t g).2 = memRest s := by
  unfold itemNow
  split
  · rfl
  · exact memRest_fetchItem ..

@[simp] theorem memRest_plainNow (la : Nat) (g : WayGroup) : memRest (plainNow s la g).2 = memRest s := by
  unfold plainNow
  split
  · rfl
  · exact memRest_fetchPlain ..

@[simp] theorem memRest_lineMeta (c : CustClass) (q k aux : Nat) : memRest (lineMeta s c q k aux).2 = memRest s := by
  cases c
  case openC => rfl
  all_goals
    unfold lineMeta
    dsimp only
    split
    next h => exact memRest_of_eq h (memRest_itemNow ..)
    next h => exact memRest_of_eq h (memRest_itemNow ..)
    next h =>
      have h1 := memRest_of_eq h (memRest_itemNow ..)
      split
      · exact h1
      · split
        next h2 => exact (memRest_of_eq h2 (memRest_plainNow ..)).trans h1
        next h2 => exact (memRest_of_eq h2 (memRest_plainNow ..)).trans h1

@[simp] theorem memRest_countOpened (x : Opened) : memRest (countOpened s x) = memRest s := by
  unfold countOpened
  dsimp only
  split <;> split <;> simp only [memRest_count]

@[simp] theorem memRest_readStored (k : CtxKey) (c : CustClass) (m : LineKeys) (la : Nat) :
    memRest (readStored s k c m la).2 = memRest s := by
  unfold readStored
  split
  · exact memRest_count ..
  · exact memRest_readSilent ..
  · exact memRest_countOpened ..

@[simp] theorem memRest_readLine (owner : Nat) (c : CustClass) (q k aux la : Nat) :
    memRest (readLine s owner c q k aux la).2 = memRest s := by
  unfold readLine
  split
  next h => exact memRest_of_eq h (memRest_lineMeta ..)
  next h => exact memRest_of_eq h (memRest_lineMeta ..)
  next h =>
    have h1 := memRest_of_eq h (memRest_lineMeta ..)
    split
    next h2 => exact (memRest_of_eq h2 (memRest_readStored ..)).trans h1
    next h2 => exact (memRest_of_eq h2 (memRest_readStored ..)).trans h1
  next h =>
    have h1 := memRest_of_eq h (memRest_lineMeta ..)
    dsimp only
    split
    next h2 => exact (memRest_of_eq h2 (memRest_readStored ..)).trans ((memRest_readyKey ..).trans h1)
    next h2 => exact (memRest_of_eq h2 (memRest_readStored ..)).trans ((memRest_readyKey ..).trans h1)

/-! ### Commits -/

@[simp] theorem memRest_putSeal (c : CustClass) (q k : Nat) (sl : W64) (chk : BitVec 16) :
    memRest (putSeal s c q k sl chk) = memRest s := by
  unfold putSeal
  dsimp only
  split
  next h => exact memRest_of_eq h (memRest_plainNow ..)
  next h => exact (memRest_updatePlain ..).trans (memRest_of_eq h (memRest_plainNow ..))

theorem memRest_startRekey {s s1 : State} {q k owner : Nat} {l l' : Line} (h : startRekey s q k owner l = some (l', s1)) :
    memRest s1 = memRest s := by
  unfold startRekey at h
  dsimp only at h
  split at h
  · cases h
  · rw [← (Prod.mk.inj (Option.some.inj h)).2]
    split
    · exact memRest_count ..
    · exact memRest_tree s rfl

@[simp] theorem memRest_addWriteTerm (k : CtxKey) (q line : Nat) (ct : Line) : memRest (addWriteTerm s k q line ct) = memRest s := by
  unfold addWriteTerm
  split
  · exact memRest_writes s _
  · rfl

@[simp] theorem memRest_commitLine (owner : Nat) (c : CustClass) (q k aux la : Nat) (p : Line) :
    memRest (commitLine s owner c q k aux la p).2 = memRest s := by
  unfold commitLine
  dsimp only
  split
  · rfl
  · split
    next h => exact memRest_of_eq h (memRest_itemNow ..)
    next h => exact memRest_of_eq h (memRest_itemNow ..)
    next h =>
      have h1 := memRest_of_eq h (memRest_itemNow ..)
      split
      next h2 => exact (memRest_of_eq h2 (memRest_plainNow ..)).trans h1
      next h2 =>
        have h3 := (memRest_of_eq h2 (memRest_plainNow ..)).trans h1
        split
        · split
          · simp only [memRest_putSeal, memRest_updateItem, memRest_clearPending, memRest_readyKey, h3]
          · split
            · rw [memRest_readyKey, h3]
            · split
              · rw [memRest_readyKey, h3]
              next hs => simp only [memRest_putSeal, memRest_updateItem, memRest_startRekey hs, memRest_readyKey, h3]
        · split
          · rw [memRest_readyKey, h3]
          · split <;> simp only [memRest_addWriteTerm, memRest_putSeal, memRest_updateItem, memRest_readyKey, h3]

/-! ### Records worked off -/

/-- A cached seal line that takes the new seal, dirty or clean as it was. -/
theorem memRest_sealPutKept {u s : State} (h : memRest u = memRest s) (x : Option MetaLine) (la : Nat) (l : Line) :
    memRest (match x with
      | some sm => putMeta u la { sm with data := l }
      | none => u) = memRest s := by
  cases x
  · exact h
  · exact (memRest_putMeta ..).trans h

@[simp] theorem memRest_rekeyFails (r : Rekey) (la : Nat) (b : BadLine) : memRest (rekeyFails s r la b) = memRest s :=
  memRest_exception ..

@[simp] theorem memRest_rekeyData (r : Rekey) (q k : Nat) (l : Line) : memRest (rekeyData s r q k l) = memRest s := by
  unfold rekeyData
  dsimp only
  rw [memRest_memWrite, memRest_putSeal, memRest_updateItem, memRest_clearPending]
  split
  next h =>
    rw [memRest_rekeyFails, memRest_count, memRest_of_eq h (memRest_plainNow ..), memRest_backgroundLines, memRest_readyKey]
  next h =>
    have h1 := memRest_of_eq h (memRest_plainNow ..)
    rw [memRest_backgroundLines, memRest_readyKey] at h1
    split
    next h2 => exact (memRest_of_eq h2 (memRest_readStored ..)).trans h1
    next h2 => exact (memRest_rekeyFails ..).trans ((memRest_of_eq h2 (memRest_readStored ..)).trans h1)

@[simp] theorem memRest_resealChild (r : Rekey) (slot : Nat) (l : Line) : memRest (resealChild s r slot l) = memRest s := by
  unfold resealChild
  dsimp only
  split
  next h => exact memRest_of_eq h (memRest_plainNow ..)
  next h =>
    have h1 := memRest_of_eq h (memRest_plainNow ..)
    split
    next x _ =>
      rw [memRest_memWrite]
      refine memRest_sealPutKept ?_ _ _ _
      rw [memRest_updateItem, memRest_clearPending]
      refine memRest_ite ?_ ?_
      · rw [memRest_readItem, h1]
      · rw [memRest_memWrite, memRest_readItem, h1]
    · exact (memRest_readSilent ..).trans h1

@[simp] theorem memRest_rekeyStep : memRest (rekeyStep s) = memRest s := by
  unfold rekeyStep
  split
  · rfl
  · split
    · exact memRest_abandonRekey ..
    · split
      next h =>
        dsimp only
        exact Eq.trans (memRest_tree _ rfl) ((memRest_abandonRekey ..).trans (memRest_of_eq h (memRest_itemNow ..)))
      next h => exact (memRest_rotateRekeys _).trans (memRest_of_eq h (memRest_itemNow ..))
      next h => exact (memRest_rotateRekeys _).trans (memRest_of_eq h (memRest_itemNow ..))
      next h =>
        have h1 := memRest_of_eq h (memRest_itemNow ..)
        split
        · exact (memRest_rekeyData ..).trans h1
        · exact (memRest_resealChild ..).trans h1
        · exact (memRest_resealChild ..).trans h1

@[simp] theorem memRest_rekeySteps (n : Nat) : ∀ s : State, memRest (rekeySteps n s) = memRest s := by
  induction n with
  | zero => exact fun s => rfl
  | succ n ih =>
    intro s
    rw [rekeySteps]
    split
    · rfl
    · rw [ih, memRest_rekeyStep]

@[simp] theorem memRest_commitNow (owner : Nat) (c : CustClass) (q k aux la : Nat) (p : Line) :
    memRest (commitNow s owner c q k aux la p).2 = memRest s := by
  unfold commitNow
  split
  next h => rw [memRest_commitLine, memRest_rekeySteps, memRest_of_eq h (memRest_commitLine ..)]
  · exact memRest_commitLine ..

@[simp] theorem memRest_writeLine (owner : Nat) (c : CustClass) (q k aux la : Nat) (p : Line) :
    memRest (writeLine s owner c q k aux la p).2 = memRest s := by
  have h1 := memRest_commitNow s owner c q k aux la p
  unfold writeLine
  generalize commitNow s owner c q k aux la p = x at h1 ⊢
  obtain ⟨r, s1⟩ := x
  cases r with
  | ok ct =>
    dsimp only
    split
    next h2 => exact (memRest_of_eq h2 (memRest_memWrite ..)).trans h1
    next h2 => exact (memRest_of_eq h2 (memRest_memWrite ..)).trans h1
  | waits => exact h1
  | filled => exact h1
  | bad b => exact h1
  | exhausted => exact h1

/-! ### The block's own lines -/

@[simp] theorem memRest_readOwn (la : Nat) : memRest (readOwn s la).2 = memRest s := memRest_readLine ..

@[simp] theorem memRest_writeOwn (la : Nat) (p : Line) : memRest (writeOwn s la p).2 = memRest s := memRest_writeLine ..

@[simp] theorem memRest_readOwnDma (la : Nat) : memRest (readOwnDma s la).2 = memRest s := by
  unfold readOwnDma
  split
  next h => rw [memRest_count, memRest_of_eq h (memRest_readOwn ..), memRest_ownWork]
  · rw [memRest_readOwn, memRest_ownWork]

@[simp] theorem memRest_writeOwnDma (la : Nat) (p : Line) : memRest (writeOwnDma s la p).2 = memRest s := by
  unfold writeOwnDma
  split
  next h => rw [memRest_count, memRest_of_eq h (memRest_writeOwn ..), memRest_ownWork]
  · rw [memRest_writeOwn, memRest_ownWork]

@[simp] theorem memRest_paidWriteback (la : Nat) : memRest (paidWriteback s la) = memRest s := by
  rw [paidWriteback, memRest_forceWriteback, memRest_spendCredit]

@[simp] theorem memRest_flushSteps (n : Nat) : ∀ s : State, memRest (flushSteps n s) = memRest s := by
  induction n with
  | zero => exact fun s => rfl
  | succ n ih =>
    intro s
    rw [flushSteps]
    split
    · rfl
    · rw [ih, memRest_paidWriteback]

@[simp] theorem memRest_flushDirty : memRest (flushDirty s) = memRest s := memRest_flushSteps ..

/-! ### The map -/

@[simp] theorem memRest_walkMap (n : Nat) : memRest (walkMap s n).2 = memRest s := by
  have h1 : memRest (readOwn (count s 0x7818 1) (mapLineAddr s n)).2 = memRest s := by rw [memRest_readOwn, memRest_count]
  unfold walkMap
  split
  next h => exact (memRest_putMapLine ..).trans (memRest_of_eq h h1)
  next h => exact memRest_of_eq h h1
  next h => exact memRest_of_eq h h1

@[simp] theorem memRest_mapLine (n : Nat) : memRest (mapLine s n).2 = memRest s := by
  unfold mapLine
  split
  · exact memRest_putMapLine ..
  · exact memRest_walkMap ..

@[simp] theorem memRest_mapEntry (p : Nat) : memRest (mapEntry s p).2 = memRest s := by
  unfold mapEntry
  dsimp only
  split
  next h => exact memRest_of_eq h (memRest_mapLine ..)
  next h => exact memRest_of_eq h (memRest_mapLine ..)

@[simp] theorem memRest_setEntry (p : Nat) (e : W32) : memRest (setEntry s p e).2 = memRest s := by
  unfold setEntry
  dsimp only
  split
  next h => exact memRest_of_eq h (memRest_mapLine ..)
  next h =>
    have h1 := memRest_of_eq h (memRest_mapLine ..)
    split
    next h2 => exact (memRest_putMapLine ..).trans ((memRest_of_eq h2 (memRest_writeOwn ..)).trans h1)
    next h2 => exact (memRest_dropMapLine ..).trans ((memRest_of_eq h2 (memRest_writeOwn ..)).trans h1)

/-! ### Pages that fail -/

@[simp] theorem memRest_poisonPage (p : Nat) : memRest (poisonPage s p).2 = memRest s := by
  unfold poisonPage
  split
  next h =>
    have h1 := memRest_of_eq h (memRest_mapEntry ..)
    split
    · dsimp only
      rw [memRest_setEntry, memRest_writes, memRest_abandonRekey, h1]
    · exact h1
  next h => exact memRest_of_eq h (memRest_mapEntry ..)

@[simp] theorem memRest_poisonReported (p owner : Nat) : memRest (poisonReported s p owner) = memRest s := by
  unfold poisonReported
  split
  next h => exact (memRest_faultNotice ..).trans (memRest_of_eq h (memRest_poisonPage ..))
  next h => exact memRest_of_eq h (memRest_poisonPage ..)

@[simp] theorem memRest_losePage (p : Nat) : memRest (losePage s p).2 = memRest s := by
  unfold losePage
  split
  next h =>
    have h1 := memRest_of_eq h (memRest_mapEntry ..)
    split
    · dsimp only
      rw [memRest_setEntry, memRest_writes, memRest_abandonRekey, h1]
    · exact h1
  next h => exact memRest_of_eq h (memRest_mapEntry ..)

@[simp] theorem memRest_pageLane (p : Nat) : memRest (pageLane s p).2 = memRest s := by
  unfold pageLane
  split
  next h => exact memRest_of_eq h (memRest_mapEntry ..)
  next h => exact memRest_of_eq h (memRest_mapEntry ..)

theorem memRest_lostTotal (n : W32) : memRest { s with bg := { s.bg with lostTotal := n } } = memRest s := rfl

@[simp] theorem memRest_losePages (ps : List Nat) : ∀ (t : Table Nat) (s : State), memRest (losePages ps t s).2 = memRest s := by
  induction ps with
  | nil => exact fun t s => rfl
  | cons p ps ih =>
    intro t s
    rw [losePages]
    have h1 := memRest_pageLane s p
    generalize pageLane s p = x at h1 ⊢
    obtain ⟨l, s1⟩ := x
    dsimp only at h1 ⊢
    split
    next h2 =>
      rw [ih, memRest_count, memRest_lostTotal, memRest_exception, memRest_of_eq h2 (memRest_losePage ..), h1]
    next h2 => rw [ih, memRest_of_eq h2 (memRest_losePage ..), h1]

@[simp] theorem memRest_itemFailed (t : TreeItem) : memRest (itemFailed s t) = memRest s := by
  unfold itemFailed
  split
  · split
    next h =>
      have h1 := memRest_of_eq h (memRest_mapEntry ..)
      split
      · exact h1
      · exact (memRest_poisonReported ..).trans h1
    next h => exact memRest_of_eq h (memRest_mapEntry ..)
  · rfl

@[simp] theorem memRest_lineFailed (b : BadLine) (a : ExcAt) : memRest (lineFailed s b a) = memRest s := by
  unfold lineFailed
  dsimp only
  split
  · rw [memRest_itemFailed, memRest_exception]
  · exact memRest_exception ..

@[simp] theorem memRest_settleBroken : memRest (settleBroken s) = memRest s := by
  unfold settleBroken
  dsimp only
  rw [memRest_foldl (f := fun t q => itemFailed (exception t 0x0A
    (internalExc t srcBackground (pageCtx t (winBase t + q)) (64 * (winBase t + q)))) (.ctr q))]
  · exact memRest_tree _ rfl
  exact fun t q => by rw [memRest_itemFailed, memRest_exception]

@[simp] theorem memRest_settleLost : memRest (settleLost s).2 = memRest s := by
  unfold settleLost
  dsimp only
  split
  · exact memRest_settleBroken s
  · have hl (ps : List Nat) : memRest (losePages ps [] { settleBroken s with tree := { (settleBroken s).tree with lost := [] } }).2 =
        memRest s := (memRest_losePages ..).trans (Eq.trans (memRest_tree _ rfl) (memRest_settleBroken s))
    exact (memRest_foldl (f := fun u (e : Nat × Nat) => faultNotice u 0x02 (some e.1) 0 e.2) (fun t e => memRest_faultNotice ..) _ _).trans (hl _)

/-! ### Descriptors and block DMA -/

@[simp] theorem memRest_pageDenied (ctx p : Nat) (write : Bool) : memRest (pageDenied s ctx p write).2 = memRest s := by
  unfold pageDenied
  split
  · rfl
  · split
    next h => exact memRest_of_eq h (memRest_mapEntry ..)
    next h =>
      have h1 := memRest_of_eq h (memRest_mapEntry ..)
      split <;> exact h1

@[simp] theorem memRest_pagesDenied (ctx : Nat) (write : Bool) (ps : List Nat) :
    ∀ s : State, memRest (pagesDenied s ctx write ps).2 = memRest s := by
  induction ps with
  | nil => exact fun s => rfl
  | cons p ps ih =>
    intro s
    rw [pagesDenied]
    split
    next h => exact memRest_of_eq h (memRest_pageDenied ..)
    next h => rw [ih, memRest_of_eq h (memRest_pageDenied ..)]

@[simp] theorem memRest_descRefusal (k : Call) (d : Desc) (write : Bool) : memRest (descRefusal s k d write).2 = memRest s := by
  unfold descRefusal
  dsimp only
  split
  · rfl
  · split
    · rfl
    · split
      · rfl
      · rfl
      · split
        · rfl
        · exact memRest_pagesDenied ..

end

/-! ### What equal rests say -/

theorem bareChan_of_memRest {s t : State} (h : memRest s = memRest t) (c : Nat) : bareChan (chanAt s c) = bareChan (chanAt t c) :=
  congrFun (congrArg (fun x => x.2.1) h) c

theorem running_of_memRest {s t : State} (h : memRest s = memRest t) (c : Nat) : (chanAt s c).running = (chanAt t c).running := by
  rw [show (chanAt s c).running = (bareChan (chanAt s c)).running from rfl, bareChan_of_memRest h c, bareChan]

theorem relay_of_memRest {s t : State} (h : memRest s = memRest t) : s.relay = t.relay := congrArg (fun x => x.1.relay) h

theorem pace_of_memRest {s t : State} (h : memRest s = memRest t) : s.pace = t.pace := congrArg (fun x => x.1.pace) h

theorem cfg_of_memRest {s t : State} (h : memRest s = memRest t) : s.cfg = t.cfg := congrArg (fun x => x.1.cfg) h

theorem vault_of_memRest {s t : State} (h : memRest s = memRest t) : s.vault = t.vault := congrArg (fun x => x.1.vault) h

theorem ctxs_of_memRest {s t : State} (h : memRest s = memRest t) : s.ctxs = t.ctxs := congrArg (fun x => x.1.ctxs) h

end Sys2Proof.Proofs
end

section
/-!
PROOF. The relay's commands (R408, R422 to R430).
-/
namespace Sys2Proof.Proofs

open Sys2Proof Sys2Proof.Machine Sys2Proof.Safety Sys2Proof.Laws

/-! ### What sending frames leaves -/

/-- Two states that differ in the relay's links, the counters and the credits alone. -/
def LinksMove (s t : State) : Prop :=
  ∃ lu ld c p, t = { s with cnt := c, power := p, relay := { s.relay with linkUp := lu, linkDn := ld } }

theorem LinksMove.refl (s : State) : LinksMove s s := ⟨_, _, _, _, rfl⟩

theorem LinksMove.trans {s t u : State} (h : LinksMove s t) (g : LinksMove t u) : LinksMove s u := by
  obtain ⟨_, _, _, _, rfl⟩ := h
  obtain ⟨lu, ld, c, p, rfl⟩ := g
  exact ⟨lu, ld, c, p, rfl⟩

theorem LinksMove.foldl {α : Type} {f : State → α → State} (hf : ∀ t a, LinksMove t (f t a)) (xs : List α) :
    ∀ s, LinksMove s (xs.foldl f s) := by
  induction xs with
  | nil => exact fun s => .refl s
  | cons x xs ih => exact fun s => (hf s x).trans (ih _)

theorem linksMove_setLink (s : State) (d : Dir) (l : Link) : LinksMove s (setLink s d l) := by
  cases d <;> exact ⟨_, _, _, _, rfl⟩

theorem linksMove_enqueue (s : State) (d : Dir) (f : OutFrame) : LinksMove s (enqueue s d f) := linksMove_setLink s d _

theorem linksMove_askCredit (s : State) (d : Dir) : LinksMove s (askCredit s d) := by
  unfold askCredit
  split
  · exact .refl _
  · exact linksMove_enqueue ..

theorem linksMove_releaseFrame (s : State) (d : Dir) : LinksMove s (releaseFrame s d) := by
  unfold releaseFrame
  dsimp only
  split
  · exact (linksMove_setLink s d _).trans (linksMove_askCredit _ d)
  · exact linksMove_setLink s d _

theorem linksMove_raiseBeat (d : Dir) (s : State) : LinksMove s (raiseBeat d s) := by
  unfold raiseBeat
  dsimp only
  split
  · exact .refl s
  · split
    · exact .refl s
    · exact LinksMove.trans (t := chargeEnergy (spendCredit s crRelay (relayUnit s)) _ _) ⟨_, _, _, _, rfl⟩ (linksMove_setLink _ d _)

theorem linksMove_pumpPort (d : Dir) (s : State) : LinksMove s (pumpPort d s) := by
  unfold pumpPort
  dsimp only
  split
  · exact .refl s
  · split
    · exact .refl s
    · split
      · unfold startFrame
        dsimp only
        split
        · exact ((linksMove_setLink s d _).trans (linksMove_raiseBeat d _)).trans (linksMove_releaseFrame ..)
        · exact (linksMove_setLink s d _).trans (linksMove_raiseBeat d _)
      · exact .refl s

theorem linksMove_pump (s : State) : LinksMove s (pump s) :=
  ((linksMove_pumpPort .up s).trans (linksMove_pumpPort .dn _)).trans (linksMove_pumpPort .up _)

theorem linksMove_sendTo (s : State) (dst : Nat) (fs : List OutFrame) : LinksMove s (sendTo s dst fs) := by
  unfold sendTo
  split
  · exact (LinksMove.foldl (f := fun t f => enqueue t _ f) (fun t f => linksMove_enqueue t _ f) fs s).trans (linksMove_pump _)
  · exact .refl s

/-! ### Waybills -/

/-- The checks that every request for a waybill passes. -/
structure WaybillPasses (k : Call) (t t1 : State) (mask : W32) (size : Nat) : Prop where
  nonce : nonceRefusal k mask = none
  desc : descRefusal t k (descAt k 1) true = (none, t1)
  room : size ≤ (descAt k 1).len

theorem waybillCall_goes {k : Call} {t t1 : State} {mask : W32} {size : Nat} (h : WaybillPasses k t t1 mask size) (hj : waybillJobs t1 < 4)
    (go : State → State) : waybillCall k t mask size go = go t1 := by
  unfold waybillCall
  rw [h.nonce]
  dsimp only
  rw [h.desc]
  dsimp only
  rw [if_neg (Nat.not_lt.2 h.room), if_neg (Nat.not_le.2 hj)]

theorem waybillCall_busy {k : Call} {t t1 : State} {mask : W32} {size : Nat} (h : WaybillPasses k t t1 mask size) (hj : 4 ≤ waybillJobs t1)
    (go : State → State) : waybillCall k t mask size go = reply t1 k stBusy [] := by
  unfold waybillCall
  rw [h.nonce]
  dsimp only
  rw [h.desc]
  dsimp only
  rw [if_neg (Nat.not_lt.2 h.room), if_pos hj]

/-- The claims of the waybill that WAYBILL_GET's job asks to be signed. -/
def ownClaims (k : Call) (s : State) : Octets :=
  deviceClaims s (callNonce k) (if bit (k.word 0) 8 then some (bits (k.word 0) 0 6) else none)

/-! The job is unfolded as a function, without its arguments: applied to them, the two sides would be compared by evaluating the signature. -/

theorem waybillJob_signed {k : Call} {w : Caller} {s u : State} {o : Octets}
    (h : issueWaybill s (ctxAt s (descAt k 1).ctx).lane.toNat (ownClaims k s) = (some o, u)) :
    waybillJob k w s = deliver u w (jobDesc u (descAt k 1)) o stDone (digestWords (BitVec.ofNat 384 (ofBe (sha384 o)))) := by
  unfold ownClaims at h
  rw [show waybillJob = _ from by delta waybillJob; rfl]
  dsimp only
  rw [h]

theorem waybillJob_unsigned {k : Call} {w : Caller} {s u : State}
    (h : issueWaybill s (ctxAt s (descAt k 1).ctx).lane.toNat (ownClaims k s) = (none, u)) :
    waybillJob k w s = finish u w stFaulted [] := by
  unfold ownClaims at h
  rw [show waybillJob = _ from by delta waybillJob; rfl]
  dsimp only
  rw [h]

/-- What the ticket of a long request leaves once its descriptor has been checked. -/
theorem checked_ticket {s t t1 : State} {op : Nat} {k : Call} {d : Desc} {write : Bool} (h : Started s op k t)
    (hd : descRefusal t k d write = (none, t1)) (i : Nat) :
    ∃ m, acceptRunning t1 k.ch i = { t1 with mbox := m } ∧ TicketRuns t1 k { t1 with mbox := m } i := by
  have hr : (chanAt t1 k.ch).running = some k.req := by
    rw [running_of_memRest (memRest_of_eq hd (memRest_descRefusal ..))]
    exact started_running h
  obtain ⟨hrun, hm⟩ := acceptRunning_runs hr i
  exact ⟨(acceptRunning t1 k.ch i).mbox, congrArg (fun x => { x with mbox := (acceptRunning t1 k.ch i).mbox }) hm, hrun⟩

/-! ### Peerings -/

/-- A peering that its entry holds once PEER_OPEN has been sent and what was heard before has been looked through. -/
theorem peerHeard_entry (s : State) (i : Nat) (p : Peering) (h : tfind s.relay.peerings i = some p) :
    ∃ q, tfind (peerHeard s i p).relay.peerings i = some q ∧ (q = p ∨ ∃ y, q = { p with state := .up, key := peeringKey s p y }) := by
  unfold peerHeard
  split
  · exact ⟨p, h, .inl rfl⟩
  · split
    · exact ⟨_, tfind_tput_same _ _ _, .inr ⟨_, rfl⟩⟩
    · exact ⟨p, h, .inl rfl⟩

/-- The peering that a PEER_OPEN asks for (R427). -/
def openedPeering (k : Call) (m : Octets) (s : State) : Peering :=
  { state := .opening, lane := (ctxAt s (bits (k.word 0) 0 14)).lane.toNat, ctx := bits (k.word 0) 0 14
    epoch := (ctxAt s (bits (k.word 0) 0 14)).epoch, keyGen := (ctxAt s (bits (k.word 0) 0 14)).keyGen
    peer := bits (k.word 1) 0 16, peerLane := bits (k.word 1) 16 6, peerCtx := bits (k.word 2) 0 14
    shared := m, ringAddr := (descAt k 4).addr, ringLen := (descAt k 4).len }

/-- The state with that peering at its entry. -/
def peeringPut (k : Call) (m : Octets) (s : State) (j : Nat) : State :=
  { s with relay := { s.relay with peerings := tput s.relay.peerings j (openedPeering k m s) } }

/-- The PEER_OPEN frame sent for it. -/
def peeringFrame (k : Call) (m : Octets) (s : State) (j : Nat) : OutFrame :=
  deviceFrame (peeringPut k m s j) 0x40 (openedPeering k m s).peer (openedPeering k m s).lane
    (peerPayload "STB7 OPEN" s.relay.index (openedPeering k m s).peer (openedPeering k m s).shared (peerFields (openedPeering k m s)))

theorem finish_relay (s : State) (w : Caller) (st : BitVec 8) (ws : List W32) : (finish s w st ws).relay = s.relay := by
  obtain ⟨m, hm⟩ := finish_frame s w st ws
  rw [hm]

theorem peerOpenWith_entry {k : Call} {w : Caller} {m : Octets} {s : State} {j : Nat}
    (hj : firstBelow 64 (fun i => (tfind s.relay.peerings i).isNone) = some j) :
    ∃ q, tfind (peerOpenWith k w m s).relay.peerings j = some q ∧
      (q = openedPeering k m s ∨ ∃ key, q = { openedPeering k m s with state := .up, key := key }) := by
  have hsent : tfind (sendTo (peeringPut k m s j) (openedPeering k m s).peer [peeringFrame k m s j]).relay.peerings j =
      some (openedPeering k m s) := by
    obtain ⟨lu, ld, c, p, h⟩ := linksMove_sendTo (peeringPut k m s j) (openedPeering k m s).peer [peeringFrame k m s j]
    rw [h]
    exact tfind_tput_same _ _ _
  obtain ⟨q, hq, hor⟩ := peerHeard_entry _ j (openedPeering k m s) hsent
  refine ⟨q, ?_, hor.imp id fun ⟨y, hy⟩ => ⟨_, hy⟩⟩
  unfold peerOpenWith
  rw [hj]
  exact (congrArg (fun r => tfind r.peerings j) (finish_relay ..)).trans hq

theorem foldl_finish_relay (st : BitVec 8) (ws : List Caller) : ∀ s : State, (ws.foldl (fun t c => finish t c st []) s).relay = s.relay := by
  induction ws with
  | nil => exact fun s => rfl
  | cons w ws ih => exact fun s => (ih _).trans (finish_relay ..)

theorem endPeerSends_peerings (s : State) (i : Nat) (st : BitVec 8) : (endPeerSends s i st).relay.peerings = s.relay.peerings := by
  unfold endPeerSends
  rw [foldl_finish_relay]

theorem endPeering_gone {s : State} {j : Nat} {p : Peering} (h : tfind s.relay.peerings j = some p) (st : BitVec 8) :
    tfind (endPeering s j st).relay.peerings j = none := by
  unfold endPeering
  rw [h]
  dsimp only
  generalize hs : endPeerSends { s with relay := { s.relay with peerings := tdel s.relay.peerings j } } j st = s1
  have h1 : s1.relay.peerings = tdel s.relay.peerings j := by rw [← hs, endPeerSends_peerings]
  have hm : ∀ s2 fs, LinksMove s1 s2 → tfind (sendTo s2 p.peer fs).relay.peerings j = none := by
    intro s2 fs h2
    obtain ⟨lu, ld, c, q, h3⟩ := h2.trans (linksMove_sendTo s2 p.peer fs)
    rw [h3]
    exact (congrArg (fun x => tfind x j) h1).trans (tfind_tdel_same _ _)
  exact hm _ _ ((linksMove_setLink ..).trans (linksMove_setLink ..))

theorem callPeering_find {t : State} {k : Call} {j : Nat} {p : Peering} (h : callPeering t k = some (j, p)) :
    tfind t.relay.peerings j = some p := by
  unfold callPeering at h
  dsimp only at h
  split at h
  next q hq =>
    split at h
    · cases h
      exact hq
    · cases h
  · cases h

/-- A message sent waits for its answer under the next serial (R428). -/
theorem sent_message {s t : State} {w : RemoteWait} {dst n : Nat} {fs : List OutFrame} :
    (ended s (sendTo (addWait { t with relay := { t.relay with nextSerial := n } } w) dst fs)).mbox = t.mbox ∧
    (ended s (sendTo (addWait { t with relay := { t.relay with nextSerial := n } } w) dst fs)).relay.nextSerial = n ∧
    (ended s (sendTo (addWait { t with relay := { t.relay with nextSerial := n } } w) dst fs)).relay.waits =
      t.relay.waits ++ [(t.pace.now + remoteWait t, w)] := by
  obtain ⟨lu, ld, c, q, hs⟩ := linksMove_sendTo (addWait { t with relay := { t.relay with nextSerial := n } } w) dst fs
  rw [hs]
  exact ⟨rfl, rfl, rfl⟩

/-- PEER_OPEN with every check passed: its job runs under its ticket. -/
theorem exec_peerOpen {s t t1 : State} {bus : Bus} {k : Call} {i n : Nat} {hd : Handle} (hp : powered s = true)
    (h : Started { s with bus := bus } 0x720 k t) (hf : fieldsOk k ([0x3FFF, 0x003FFFFF, 0x3FFF, 0xFFFFFFFF] ++ descMasks) = true)
    (hc : (descAt k 4).ctx = bits (k.word 0) 0 14) (hc0 : (descAt k 4).ctx ≠ 0) (hdesc : descRefusal t k (descAt k 4) true = (none, t1))
    (hu : useHandle t1 k (k.word 3) = .ok (n, hd)) (hk : hd.kind = 5) (ht : hd.typ = 1) (hst : handleStale t1 hd = false)
    (hring : ringOk (descAt k 4) = true) (hdst : dstRefusal t1 (bits (k.word 1) 0 16) = none) (hlen : t1.relay.peerings.length < 64)
    (hlane : tcount t1.relay.peerings (fun _ p => decide (p.lane = (ctxAt t (bits (k.word 0) 0 14)).lane.toNat)) < 16)
    (hfree : freeTicket (chanAt t1 k.ch) = some i) :
    exec (.peerOpen bus) s = .next (ended s (peerOpenJob k hd (.ticket k.ch i) (acceptRunning t1 k.ch i))) := by
  refine (onBus_service hp h _).trans ?_
  dsimp only
  rw [hf, decide_eq_false (by rw [← hc]; exact hc0), decide_eq_false (not_not_intro hc), hdesc]
  dsimp only
  rw [if_neg (by simp), hu]
  dsimp only
  rw [if_neg (by simp [hk, ht]), hst, if_neg (by simp), hring, if_neg (by simp), hdst]
  dsimp only
  rw [if_neg (by omega), ticketed_free hfree]

/-! ### The commands -/

/-- Settles O58: each command's checks lead to its job, and the frames sent leave the mailboxes, the waits and the peerings alone. -/
theorem relayCommands : Obligations.RelayCommands := by
  unfold Obligations.RelayCommands
  intro s bus k t t1 i hp on w
  refine ⟨fun h hn hd hl hj hf hb => ?_, fun h hn hd hl hf => ⟨fun hs hj => ?_, fun hs => ?_⟩, fun hj hl hd => ⟨fun h hn => ?_, fun h hn => ?_,
    fun h hn => ?_⟩, fun h hn hd hl hj hf => ⟨fun hdst => ?_, fun st hdst => ?_⟩, fun h hf hb hd hfree => ⟨fun t2 hl hw => ?_, fun hl => ?_⟩,
    fun h hf hd => ⟨fun hh hs hfree => ?_, fun hh hs => ?_, fun hh => ?_⟩, fun o t2 h hf hd hdst hfree hl hl' hr => ?_,
    fun hd n j m t2 h hf hc hc0 hdesc hu hk ht hst hring hdst hlen hlane hfree => ⟨fun hm => ⟨?_, fun hj => ?_⟩, fun b hm => ?_⟩,
    fun j p o t2 h hf hd hcp hup hl hl' hroute hfree hr => ?_, fun h hf => ⟨fun j p hc => ⟨?_, ?_⟩, fun hc => ?_⟩, fun h hf => ?_⟩
  · refine (onBus_service hp h _).trans ?_
    rw [waybillCall_goes (size := waybillMax) ⟨hn, hd, by rw [waybillMax]; exact hl⟩ hj]
    dsimp only
    have hno : ¬(bit (k.word 0) 8 = true ∧ (bits (k.word 0) 0 6 = 0 ∨ (laneAt t1 (bits (k.word 0) 0 6)).state = .closed)) := by
      rintro ⟨hb1, hz⟩
      rcases hb with hb | ⟨h0, hc⟩
      · rw [hb] at hb1
        cases hb1
      · exact hz.elim h0 hc
    rw [if_neg hno, ticketed_free hf]
    generalize acceptRunning t1 k.ch i = u
    rw [show deviceClaims u (callNonce k) (if bit (k.word 0) 8 then some (bits (k.word 0) 0 6) else none) = ownClaims k u from rfl]
    generalize hy : issueWaybill u (ctxAt u (descAt k 1).ctx).lane.toNat (ownClaims k u) = y
    obtain ⟨_ | o, v⟩ := y
    · rw [waybillJob_unsigned hy]
    · rw [waybillJob_signed hy]
  · refine (onBus_service hp h _).trans ?_
    rw [waybillCall_goes (size := segmentMax) ⟨hn, hd, by rw [segmentMax]; exact hl⟩ hj, if_neg (Nat.not_le.2 hs), ticketed_free hf]
    obtain ⟨m, hm, -⟩ := checked_ticket h hd i
    rw [hm]
    rfl
  · refine (onBus_service hp h _).trans ?_
    by_cases hj : waybillJobs t1 < 4
    · rw [waybillCall_goes (size := segmentMax) ⟨hn, hd, by rw [segmentMax]; exact hl⟩ hj, if_pos hs]
    · rw [waybillCall_busy (size := segmentMax) ⟨hn, hd, by rw [segmentMax]; exact hl⟩ (Nat.not_lt.1 hj)]
  · refine (onBus_service hp h _).trans ?_
    rw [waybillCall_busy (size := waybillMax) ⟨hn, hd, by rw [waybillMax]; exact hl⟩ hj]
  · refine (onBus_service hp h _).trans ?_
    rw [waybillCall_busy (size := segmentMax) ⟨hn, hd, by rw [segmentMax]; omega⟩ hj]
  · refine (onBus_service hp h _).trans ?_
    rw [waybillCall_busy (size := waybillMax) ⟨hn, hd, by rw [waybillMax]; exact hl⟩ hj]
  · refine ⟨_, onBus_service hp h _, ?_⟩
    rw [waybillCall_goes (size := waybillMax) ⟨hn, hd, by rw [waybillMax]; exact hl⟩ hj]
    dsimp only
    rw [hdst]
    dsimp only
    rw [ticketed_free hf]
    obtain ⟨m, hm, hrun⟩ := checked_ticket h hd i
    rw [hm]
    obtain ⟨lu, ld, c, q, hs⟩ := linksMove_sendTo (addWait { t1 with mbox := m }
      (.waybill (bits (k.word 0) 0 16) (jobDesc { t1 with mbox := m } (descAt k 1)) (.ticket k.ch i))) (bits (k.word 0) 0 16)
      [deviceFrame { t1 with mbox := m } 0x20 (bits (k.word 0) 0 16) (workLane { t1 with mbox := m } k)
        (BitVec.ofNat 8 (callNonce k).length :: callNonce k)]
    rw [hs]
    exact ⟨hrun, rfl⟩
  · refine (onBus_service hp h _).trans ?_
    rw [waybillCall_goes (size := waybillMax) ⟨hn, hd, by rw [waybillMax]; exact hl⟩ hj]
    dsimp only
    rw [hdst]
  · refine (onBus_service hp h _).trans ?_
    dsimp only
    rw [hf, decide_eq_false hb, hd]
    dsimp only
    rw [if_neg (by simp), ticketed_free hfree, if_neg (Nat.not_lt.2 hl), hw]
  · refine (onBus_service hp h _).trans ?_
    dsimp only
    rw [hf, decide_eq_false hb, hd]
    dsimp only
    rw [if_neg (by simp), ticketed_free hfree, if_pos hl]
  · refine (onBus_service hp h _).trans ?_
    rw [hf, hd]
    dsimp only
    rw [if_neg (by simp), hh, if_neg (by simp), hs, if_neg (by simp), ticketed_free hfree]
  · refine (onBus_service hp h _).trans ?_
    rw [hf, hd]
    dsimp only
    rw [if_neg (by simp), hh, if_neg (by simp), hs, if_pos (by simp)]
  · refine (onBus_service hp h _).trans ?_
    rw [hf, hd]
    dsimp only
    rw [if_neg (by simp), hh, if_pos (by simp)]
  · refine ⟨_, onBus_service hp h _, ?_⟩
    dsimp only
    rw [hf, hd]
    dsimp only
    rw [if_neg (by simp), hdst]
    dsimp only
    rw [ticketed_free hfree, if_neg (by omega), hr]
    dsimp only
    obtain ⟨lu, ld, c, q, hs⟩ := linksMove_sendTo (addWait (nextObject t2).2 (.keySend (bits (k.word 0) 0 16) (.ticket k.ch i)))
      (bits (k.word 0) 0 16) (objectFrames (deviceFrame (nextObject t2).2 0x30 (bits (k.word 0) 0 16) (workLane (nextObject t2).2 k) [])
        (nextObject t2).1 o)
    rw [hs]
    exact ⟨rfl, rfl, rfl⟩
  · rw [exec_peerOpen hp h hf hc hc0 hdesc hu hk ht hst hring hdst hlen hlane hfree, peerOpenJob, withMaterial, hm]
  · obtain ⟨q, hq, hor⟩ := peerOpenWith_entry (k := k) (w := w) (m := m) hj
    rcases hor with rfl | ⟨key, rfl⟩
    · exact ⟨_, hq, .inl rfl, rfl, rfl, rfl, rfl, rfl, rfl, rfl⟩
    · exact ⟨_, hq, .inr rfl, rfl, rfl, rfl, rfl, rfl, rfl, rfl⟩
  · rw [exec_peerOpen hp h hf hc hc0 hdesc hu hk ht hst hring hdst hlen hlane hfree, peerOpenJob, withMaterial, hm]
  · refine ⟨_, onBus_service hp h _, ?_⟩
    dsimp only
    rw [hf, hd]
    dsimp only
    rw [if_neg (by simp), hcp]
    dsimp only
    rw [if_neg (not_not_intro hup), if_neg (by omega), if_neg (by rw [Option.isNone_eq_false_iff.2 hroute]; simp), ticketed_free hfree,
      peerSendJob, hr]
    exact sent_message ..
  · refine (onBus_service hp h _).trans ?_
    rw [hf, hc]
    rfl
  · exact endPeering_gone (callPeering_find hc) _
  · refine (onBus_service hp h _).trans ?_
    rw [hf, hc]
    rfl
  · refine (live_service hp h _).trans ?_
    rw [hf]
    rfl

end Sys2Proof.Proofs
end

section
/-!
SUPPORT. What the custody path leaves: the tiles, the requests and their answers change what the memory layer changes, the requests' own
state, taints and regulators, and the channels that a fence answers.
-/
namespace Sys2Proof.Proofs

open Sys2Proof Sys2Proof.Machine Sys2Proof.Safety Sys2Proof.Laws

/-! ### What is left -/

/-- A channel but for what a job's end writes. -/
def idleChan (v : Channel) : Channel := { bareChan v with running := none, responses := [], tickets := [] }

/-- A lane but for its regulator. -/
def idleLane (v : Lane) : Lane := { bareLane v with throttled := false, hol := false, regSeq := 0 }

/-- What the memory layer leaves, but for the tiles, the requests, the taints, the regulators and what a job's end writes; and beside it the
bundles and the open write of each ingress channel. -/
def coarsen (x : State × (Nat → Channel) × (Nat → Lane)) :
    (State × (Nat → Channel) × (Nat → Lane) × (Nat → Ctx)) × (Nat → List CustBeat × Option OpenWrite) :=
  (({ x.1 with
      tiles := {}, ctxs := [], keys := { x.1.keys with inFlight := [] }
      cust := { x.1.cust with ins := [], reqs := [], nextSeq := 0, turn := 0 } },
    fun c => idleChan (x.2.1 c), fun l => idleLane (x.2.2 l), fun c => { ctxAt x.1 c with taint := false }),
   fun ch => ((inChan x.1 ch).held, (inChan x.1 ch).openWrite))

/-- What the custody path leaves as long as no bundle is captured. -/
def pathRest (s : State) : (State × (Nat → Channel) × (Nat → Lane) × (Nat → Ctx)) × (Nat → List CustBeat × Option OpenWrite) :=
  coarsen (memRest s)

/-- What it leaves in any case. -/
def blockRest (s : State) : State × (Nat → Channel) × (Nat → Lane) × (Nat → Ctx) := (pathRest s).1

theorem pathRest_of_memRest {s t : State} (h : memRest s = memRest t) : pathRest s = pathRest t := congrArg coarsen h

theorem pathRest_of_eq {α : Type} {p : α × State} {a : α} {s s1 : State} (h : p = (a, s1)) (hp : pathRest p.2 = pathRest s) :
    pathRest s1 = pathRest s := by rw [← hp, h]

/-- A step that is made or not, with what it keeps. -/
theorem pathRest_of_mem {α : Type} {p : α × State} {a : α} {s s1 : State} (h : p = (a, s1)) (hp : memRest p.2 = memRest s) :
    pathRest s1 = pathRest s := pathRest_of_memRest (memRest_of_eq h hp)

theorem pathRest_foldl {α : Type} {f : State → α → State} (hf : ∀ t a, pathRest (f t a) = pathRest t) (xs : List α) :
    ∀ s, pathRest (xs.foldl f s) = pathRest s := by
  induction xs with
  | nil => exact fun s => rfl
  | cons x xs ih => exact fun s => (ih _).trans (hf s x)

/-! ### Single updates -/

section
variable (s : State)

@[simp] theorem pathRest_count (off n : Nat) : pathRest (count s off n) = pathRest s := pathRest_of_memRest (memRest_count s off n)

@[simp] theorem pathRest_tiles (x : Tiles) : pathRest { s with tiles := x } = pathRest s := rfl

@[simp] theorem pathRest_reqs (x : List CustReq) : pathRest { s with cust := { s.cust with reqs := x } } = pathRest s := rfl

@[simp] theorem pathRest_owed (x : List CustReq) (n : Nat) :
    pathRest { s with cust := { s.cust with reqs := x, nextSeq := n } } = pathRest s := rfl

@[simp] theorem pathRest_turn (n : Nat) : pathRest { s with cust := { s.cust with turn := n } } = pathRest s := rfl

@[simp] theorem pathRest_inFlight (x : List Nat) : pathRest { s with keys := { s.keys with inFlight := x } } = pathRest s := rfl

@[simp] theorem pathRest_setOut (ch : Nat) (v : OutChannel) : pathRest (setOut s ch v) = pathRest s :=
  pathRest_of_memRest (memRest_setOut s ch v)

@[simp] theorem pathRest_setReq (r : CustReq) : pathRest (setReq s r) = pathRest s := rfl

@[simp] theorem pathRest_setTile (e : TileRead) : pathRest (setTile s e) = pathRest s := rfl

@[simp] theorem pathRest_dropTile (o : Nat) : pathRest (dropTile s o) = pathRest s := rfl

theorem pathRest_setIn (ch : Nat) {v : InChannel} (hh : v.held = (inChan s ch).held) (hw : v.openWrite = (inChan s ch).openWrite) :
    pathRest (setIn s ch v) = pathRest s := by
  refine Prod.ext rfl (funext fun d => ?_)
  show ((inChan (setIn s ch v) d).held, (inChan (setIn s ch v) d).openWrite) = ((inChan s d).held, (inChan s d).openWrite)
  rw [inChan_setIn]
  split
  next hd => rw [hd, hh, hw]
  · rfl

theorem blockRest_setIn (ch : Nat) (v : InChannel) : blockRest (setIn s ch v) = blockRest s := rfl

theorem pathRest_setLane (l : Nat) {v : Lane} (h : idleLane v = idleLane (laneAt s l)) : pathRest (setLane s l v) = pathRest s := by
  refine Prod.ext (Prod.ext rfl (Prod.ext rfl (Prod.ext (funext fun d => ?_) rfl))) rfl
  show idleLane (bareLane (laneAt (setLane s l v) d)) = idleLane (bareLane (laneAt s d))
  rw [laneAt_setLane]
  split
  next hd => rw [hd]; exact h
  · rfl

theorem pathRest_setCtx (c : Nat) {v : Ctx} (h : { v with taint := false } = { ctxAt s c with taint := false }) :
    pathRest (setCtx s c v) = pathRest s := by
  refine Prod.ext (Prod.ext rfl (Prod.ext rfl (Prod.ext rfl (funext fun d => ?_)))) rfl
  show { ctxAt (setCtx s c v) d with taint := false } = { ctxAt s d with taint := false }
  by_cases hd : d = c
  · rw [hd, ctxAt_setCtx_same, h]
  · rw [ctxAt_setCtx_ne _ _ hd]

theorem pathRest_setChan (c : Nat) {v : Channel} (h : idleChan v = idleChan (chanAt s c)) : pathRest (setChan s c v) = pathRest s := by
  refine Prod.ext (Prod.ext rfl (Prod.ext (funext fun d => ?_) rfl)) rfl
  show idleChan (bareChan (chanAt (setChan s c v) d)) = idleChan (bareChan (chanAt s d))
  rw [chanAt_setChan]
  split
  next hd => rw [hd]; exact h
  · rfl

@[simp] theorem pathRest_finish (w : Caller) (st : BitVec 8) (ws : List W32) : pathRest (finish s w st ws) = pathRest s := by
  cases w with
  | ticket c i =>
    show pathRest (endTicket s c i st ws) = _
    unfold endTicket
    dsimp only
    split
    · rfl
    · split
      · rfl
      · exact (pathRest_of_memRest (memRest_raiseBell ..)).trans (pathRest_setChan s c rfl)
  | running c =>
    show pathRest (answerRunning s c st ws) = _
    unfold answerRunning
    dsimp only
    split
    · rfl
    · exact pathRest_setChan s c rfl

theorem pathRest_ite {c : Prop} [Decidable c] {a b s : State} (ha : pathRest a = pathRest s) (hb : pathRest b = pathRest s) :
    pathRest (if c then a else b) = pathRest s := by
  split
  · exact ha
  · exact hb

/-! ### What the memory layer's steps leave -/

@[simp] theorem pathRest_exception (kind : Nat) (a : ExcAt) : pathRest (exception s kind a) = pathRest s :=
  pathRest_of_memRest (memRest_exception ..)

@[simp] theorem pathRest_violate (port kind : BitVec 8) (mid : Option Mid) : pathRest (violate s port kind mid) = pathRest s := rfl

@[simp] theorem pathRest_reqFell (port : BitVec 8) : pathRest (reqFell s port) = pathRest s := rfl

@[simp] theorem pathRest_readyKey (c : Nat) : pathRest (readyKey s c) = pathRest s := pathRest_of_memRest (memRest_readyKey ..)

@[simp] theorem pathRest_spendCredit (i e : Nat) : pathRest (spendCredit s i e) = pathRest s := rfl

@[simp] theorem pathRest_chargeEnergy (lane e : Nat) : pathRest (chargeEnergy s lane e) = pathRest s :=
  pathRest_of_memRest (memRest_chargeEnergy ..)

@[simp] theorem pathRest_poisonReported (p owner : Nat) : pathRest (poisonReported s p owner) = pathRest s :=
  pathRest_of_memRest (memRest_poisonReported ..)

@[simp] theorem pathRest_itemFailed (t : TreeItem) : pathRest (itemFailed s t) = pathRest s := pathRest_of_memRest (memRest_itemFailed ..)

@[simp] theorem pathRest_lineFailed (b : BadLine) (a : ExcAt) : pathRest (lineFailed s b a) = pathRest s :=
  pathRest_of_memRest (memRest_lineFailed ..)

@[simp] theorem pathRest_backgroundLines (lane : Nat) (c : CustClass) (n : Nat) : pathRest (backgroundLines s lane c n) = pathRest s :=
  pathRest_of_memRest (memRest_backgroundLines ..)

@[simp] theorem pathRest_supersede (la : Nat) : pathRest (supersede s la) = pathRest s := pathRest_of_memRest (memRest_supersede ..)

@[simp] theorem pathRest_hitMeta (la : Nat) (m : MetaLine) : pathRest (hitMeta s la m) = pathRest s :=
  pathRest_of_memRest (memRest_hitMeta ..)

@[simp] theorem pathRest_settleLost : pathRest (settleLost s).2 = pathRest s := pathRest_of_memRest (memRest_settleLost ..)

@[simp] theorem pathRest_readSilent (la : Nat) : pathRest (readSilent s la) = pathRest s := pathRest_of_memRest (memRest_readSilent ..)

/-! ### Tiles -/

@[simp] theorem pathRest_pressTiles : pathRest (pressTiles s) = pathRest s := by
  unfold pressTiles
  dsimp only
  split <;> rfl

theorem pathRest_newTile {s s1 : State} {page holder reader o : Nat} (h : newTile s page holder reader = some (o, s1)) :
    pathRest s1 = pathRest s := by
  unfold newTile at h
  dsimp only at h
  split at h
  · cases h
  · rw [← (Prod.mk.inj (Option.some.inj h)).2, pathRest_pressTiles, pathRest_tiles]

theorem pathRest_tileFor {s s1 : State} {page holder reader line o : Nat} (h : tileFor s page holder reader line = some (o, s1)) :
    pathRest s1 = pathRest s := by
  have hmark : ∀ (n : Nat) (t : State), pathRest (match tileEntry t n with
      | some e => setTile t { e with flying := e.flying ||| BitVec.ofNat 64 (2 ^ line) }
      | none => t) = pathRest t := fun n t => by split <;> rfl
  unfold tileFor at h
  dsimp only at h
  split at h
  · obtain ⟨x, hx, he⟩ := Option.map_eq_some_iff.1 h
    rw [← (Prod.mk.inj he).2]
    exact (hmark _ _).trans (pathRest_newTile hx)
  · split at h
    · obtain ⟨x, hx, he⟩ := Option.map_eq_some_iff.1 h
      rw [← (Prod.mk.inj he).2]
      exact (hmark _ _).trans ((pathRest_newTile hx).trans (pathRest_setTile ..))
    · rw [← (Prod.mk.inj (Option.some.inj h)).2]
      exact hmark _ _

theorem pathRest_tilesFor {page holder reader : Nat} (ks : List Nat) : ∀ {s s1 : State} {os : List Nat},
    tilesFor s page holder reader ks = some (os, s1) → pathRest s1 = pathRest s := by
  induction ks with
  | nil =>
    intro s s1 os h
    rw [tilesFor] at h
    rw [(Prod.mk.inj (Option.some.inj h)).2]
  | cons k ks ih =>
    intro s s1 os h
    rw [tilesFor] at h
    split at h
    · cases h
    next o s2 h2 =>
      obtain ⟨x, hx, he⟩ := Option.map_eq_some_iff.1 h
      rw [← (Prod.mk.inj he).2]
      exact (ih hx).trans (pathRest_tileFor h2)

@[simp] theorem pathRest_settleFences (o : Nat) (counts : Bool) : pathRest (settleFences s o counts) = pathRest s := by
  unfold settleFences
  exact (pathRest_foldl (f := fenceDone) (fun t f => pathRest_finish ..) _ _).trans (pathRest_tiles s _)

@[simp] theorem pathRest_taintCtx (c epoch : Nat) : pathRest (taintCtx s c epoch) = pathRest s := by
  unfold taintCtx
  dsimp only
  split
  · exact pathRest_setCtx s c rfl
  · rfl

@[simp] theorem pathRest_tileFails (e : TileRead) (source : Nat) (poisons : Bool) : pathRest (tileFails s e source poisons) = pathRest s := by
  unfold tileFails
  dsimp only
  rw [pathRest_settleFences]
  refine pathRest_ite ?_ ?_ <;>
    simp only [pathRest_poisonReported, pathRest_exception, pathRest_count, pathRest_taintCtx, pathRest_dropTile]

@[simp] theorem pathRest_tileVerdict (e : TileRead) : pathRest (tileVerdict s e) = pathRest s := by
  unfold tileVerdict
  split
  next h => exact (pathRest_tileFails ..).trans (pathRest_of_mem h (memRest_mapEntry ..))
  next h =>
    have h1 := pathRest_of_mem h (memRest_mapEntry ..)
    split
    next h2 =>
      rw [pathRest_tileFails, pathRest_itemFailed, pathRest_of_mem h2 (memRest_itemNow ..), h1]
    next h2 => rw [pathRest_tileFails, pathRest_of_mem h2 (memRest_itemNow ..), h1]
    next h2 =>
      have h3 := (pathRest_of_mem h2 (memRest_itemNow ..)).trans h1
      dsimp only
      split
      · rw [pathRest_settleFences, pathRest_count, pathRest_dropTile, pathRest_readyKey, h3]
      · rw [pathRest_tileFails, pathRest_readyKey, h3]

@[simp] theorem pathRest_tileAdd (o line : Nat) (ct : Line) : pathRest (tileAdd s o line ct) = pathRest s := by
  unfold tileAdd
  split
  · rfl
  · dsimp only
    split
    · rw [pathRest_tileVerdict, pathRest_setTile, pathRest_readyKey]
    · rw [pathRest_setTile, pathRest_readyKey]

@[simp] theorem pathRest_tileUnfly (o line : Nat) : pathRest (tileUnfly s o line) = pathRest s := by
  unfold tileUnfly
  split <;> rfl

@[simp] theorem pathRest_staleFences (c : Nat) : pathRest (staleFences s c) = pathRest s := by
  unfold staleFences
  exact (pathRest_foldl (f := fun t (f : Fence) => finish t f.caller stStaleEpoch []) (fun t f => pathRest_finish ..) _ _).trans
    (pathRest_tiles s _)

@[simp] theorem pathRest_discardTiles (c : Nat) : pathRest (discardTiles s c) = pathRest s := by
  unfold discardTiles
  exact pathRest_foldl (f := fun t o => settleFences (dropTile t o) o false)
    (fun t o => (pathRest_settleFences ..).trans (pathRest_dropTile ..)) _ _

@[simp] theorem pathRest_completionRead : pathRest (completionRead s) = pathRest s := by
  unfold completionRead
  split
  · rfl
  next e k _ =>
    dsimp only
    have h0 : pathRest (backgroundLines (count s 0x7878 1) (ctxAt s e.holder).lane.toNat .sealedC 1) = pathRest s := by
      rw [pathRest_backgroundLines, pathRest_count]
    generalize backgroundLines (count s 0x7878 1) (ctxAt s e.holder).lane.toNat .sealedC 1 = s1 at h0 ⊢
    split
    next h => rw [pathRest_tileFails, pathRest_of_mem h (memRest_mapEntry ..), h0]
    next h =>
      have h1 := (pathRest_of_mem h (memRest_mapEntry ..)).trans h0
      split
      next h2 =>
        have h3 := (pathRest_of_mem h2 (memRest_lineMeta ..)).trans h1
        split
        next h4 => rw [pathRest_tileAdd, pathRest_of_mem h4 (memRest_readStored ..), pathRest_readyKey, h3]
        next h4 => rw [pathRest_tileFails, pathRest_exception, pathRest_of_mem h4 (memRest_readStored ..), pathRest_readyKey, h3]
      next h2 => rw [pathRest_tileFails, pathRest_lineFailed, pathRest_of_mem h2 (memRest_lineMeta ..), h1]
      next h2 => rw [pathRest_tileFails, pathRest_of_mem h2 (memRest_lineMeta ..), h1]

/-! ### Requests and their answers -/

@[simp] theorem pathRest_pushBeats (ch : Nat) (bs : List RspBeat) : pathRest (pushBeats s ch bs) = pathRest s := by
  unfold pushBeats
  dsimp only
  split
  · rfl
  · exact pathRest_setIn s ch rfl rfl

@[simp] theorem pathRest_owe (ch : Fin 4) (b : CustBeat) (write : Bool) (lines answers : Nat) :
    pathRest (owe s ch b write lines answers) = pathRest s := rfl

@[simp] theorem pathRest_oweAll (ch : Fin 4) (b : CustBeat) : pathRest (oweAll s ch b) = pathRest s := pathRest_owe ..

@[simp] theorem pathRest_unflyAll (r : CustReq) : pathRest (unflyAll s r) = pathRest s := by
  unfold unflyAll
  refine pathRest_foldl (fun t x => ?_) _ _
  split
  · exact pathRest_tileUnfly ..
  · rfl

@[simp] theorem pathRest_chargeRefused (r : CustReq) : pathRest (chargeRefused s r) = pathRest s := by
  unfold chargeRefused
  split
  · rfl
  · exact pathRest_chargeEnergy ..

@[simp] theorem pathRest_refuseReq (r : CustReq) (v : Verdict) (kind : Option Nat) : pathRest (refuseReq s r v kind) = pathRest s := by
  unfold refuseReq
  dsimp only
  rw [pathRest_setReq, pathRest_unflyAll, pathRest_chargeRefused]
  split
  · exact pathRest_exception ..
  · rfl

@[simp] theorem pathRest_answerReq (r : CustReq) : pathRest (answerReq s r) = pathRest s := by
  rw [answerReq, pathRest_pushBeats, pathRest_reqs]

@[simp] theorem pathRest_countHits (r : CustReq) : pathRest (countHits s r) = pathRest s := by
  unfold countHits
  dsimp only
  refine pathRest_foldl (fun t la => ?_) _ _
  split
  · exact pathRest_hitMeta ..
  · rfl

theorem pathRest_takeTokens {s s1 : State} {r : CustReq} (h : takeTokens s r = some s1) : pathRest s1 = pathRest s := by
  unfold takeTokens at h
  dsimp only at h
  split at h
  · rw [Option.some.inj h]
  · split at h
    · cases h
    · split at h
      · rw [← Option.some.inj h]
        exact pathRest_setLane s _ rfl
      · cases h

@[simp] theorem pathRest_toTokens (r : CustReq) : pathRest (toTokens s r) = pathRest s := by
  unfold toTokens
  split
  next h => exact (pathRest_setReq ..).trans (pathRest_takeTokens h)
  · dsimp only
    rw [pathRest_setReq, pathRest_count]
    exact pathRest_setLane s _ rfl

@[simp] theorem pathRest_afterMeta (r : CustReq) : pathRest (afterMeta s r) = pathRest s := by
  unfold afterMeta
  dsimp only
  exact pathRest_ite (pathRest_refuseReq ..) (pathRest_toTokens ..)

@[simp] theorem pathRest_judge (r : CustReq) (e : W32) : pathRest (judge s r e) = pathRest s := by
  unfold judge
  split
  · exact pathRest_refuseReq ..
  · dsimp only
    split
    · exact pathRest_toTokens ..
    · split
      · rw [pathRest_afterMeta, pathRest_countHits]
      · exact pathRest_setReq ..

/-! ### Issue -/

@[simp] theorem pathRest_pushEgress (write : Bool) (la : Nat) (data : Line) (req line n : Nat) :
    pathRest (pushEgress s write la data req line n) = pathRest s := by
  unfold pushEgress
  dsimp only
  split
  · rfl
  · rw [pathRest_setOut]
    exact pathRest_ite (pathRest_supersede ..) rfl

theorem memRest_commitAll {r : CustReq} {now : Bool} (ps : List (Nat × Line)) :
    ∀ s : State, memRest (commitAll s r now ps).2 = memRest s := by
  induction ps with
  | nil => exact fun s => rfl
  | cons x ps ih =>
    intro s
    obtain ⟨la, p⟩ := x
    rw [commitAll]
    have h1 : memRest (if now then commitNow s r.owner (reqClass r) (pageIndex s (pageOfLine la)) (la % 64) (entAux r.entry) la p
        else commitLine s r.owner (reqClass r) (pageIndex s (pageOfLine la)) (la % 64) (entAux r.entry) la p).2 = memRest s := by
      split
      · exact memRest_commitNow ..
      · exact memRest_commitLine ..
    split
    next h =>
      have h2 := memRest_of_eq h h1
      split
      next h3 => exact (memRest_of_eq h3 (ih _)).trans h2
      · exact (ih _).trans h2
    next h => exact memRest_of_eq h h1

@[simp] theorem pathRest_issueWrite (r : CustReq) (now : Bool) (ps : List (Nat × Line)) : pathRest (issueWrite s r now ps) = pathRest s := by
  unfold issueWrite
  split
  next h =>
    dsimp only
    rw [pathRest_setReq]
    refine (pathRest_foldl (f := fun t (x : Nat × Line) => pushEgress t true x.1 x.2 r.seq (x.1 - r.addr) 1)
      (fun t x => pathRest_pushEgress ..) _ _).trans ?_
    rw [pathRest_count, pathRest_of_mem h (memRest_commitAll ps s)]
  · exact pathRest_setReq ..
  · exact pathRest_refuseReq ..
  · rw [pathRest_refuseReq, pathRest_lineFailed]
  · rw [pathRest_refuseReq, pathRest_poisonReported]
  · rfl

theorem memRest_reqMeta {r : CustReq} (las : List Nat) : ∀ s : State, memRest (reqMeta s r las).2 = memRest s := by
  induction las with
  | nil => exact fun s => rfl
  | cons la las ih =>
    intro s
    rw [reqMeta]
    exact (ih _).trans (memRest_lineMeta ..)

@[simp] theorem pathRest_issueReads (r : CustReq) : pathRest (issueReads s r) = pathRest s := by
  unfold issueReads
  dsimp only
  have h1 : pathRest (match r.under with
      | some ms => (ms, s)
      | none => reqMeta s r (reqLines r)).2 = pathRest s := by
    split
    · rfl
    · exact pathRest_of_memRest (memRest_reqMeta ..)
  rw [pathRest_setReq]
  refine (pathRest_foldl (fun t x => pathRest_pushEgress ..) _ _).trans ?_
  refine (pathRest_foldl (fun t x => ?_) _ _).trans h1
  split
  · exact pathRest_lineFailed ..
  · rfl

@[simp] theorem pathRest_readsDone (r : CustReq) : pathRest (readsDone s r) = pathRest s := by
  unfold readsDone
  split
  · rfl
  · split
    · exact pathRest_setReq ..
    · split
      · exact pathRest_setReq ..
      · split
        · exact pathRest_setReq ..
        · exact pathRest_issueWrite ..

theorem pathRest_tryIssue {s s1 : State} {r : CustReq} (h : tryIssue s r = some s1) : pathRest s1 = pathRest s := by
  have hready : pathRest (if reqClass r = .openC then s else readyKey s r.owner) = pathRest s := pathRest_ite rfl (pathRest_readyKey ..)
  have hpaid : ∀ t : State, pathRest (chargeEnergy (spendCredit { t with cust := { t.cust with turn := (r.lane.toNat + 1) % 64 } } crCustody
      (reqEnergy t r)) r.lane.toNat (reqEnergy t r)) = pathRest t := fun t => by
    rw [pathRest_chargeEnergy, pathRest_spendCredit, pathRest_turn]
  unfold tryIssue at h
  by_cases hw : mustWait s r = true
  · rw [if_pos hw] at h
    cases h
  rw [if_neg hw] at h
  by_cases htag : (!tagsHold s r) = true
  · rw [if_pos htag] at h
    rw [← Option.some.inj h, pathRest_refuseReq]
  rw [if_neg htag] at h
  by_cases hdown : (reqLines r).any (fun la => egressDown s (egressOf s la)) = true
  · rw [if_pos hdown] at h
    rw [← Option.some.inj h, pathRest_refuseReq]
  rw [if_neg hdown] at h
  by_cases hroom : (!egressRoom s r) = true
  · rw [if_pos hroom] at h
    cases h
  rw [if_neg hroom] at h
  by_cases hkey : reqClass r ≠ .openC ∧ (cachedKey s r.owner).isNone = true
  · rw [if_pos hkey] at h
    by_cases hst : r.stage = .key
    · rw [if_pos hst] at h
      cases h
    · rw [if_neg hst] at h
      rw [← Option.some.inj h, pathRest_setReq, pathRest_inFlight]
  rw [if_neg hkey] at h
  by_cases hcr : (!creditCovers s r) = true
  · rw [if_pos hcr] at h
    cases h
  rw [if_neg hcr] at h
  extract_lets paid s0 at h
  by_cases hr : r.op = opRead
  · rw [if_pos hr] at h
    by_cases hs : reqClass r = .sealedC
    · rw [if_pos hs] at h
      split at h
      · split at h
        · cases h
        · rw [← Option.some.inj h, pathRest_setReq]
      next ht =>
        rw [← Option.some.inj h]
        exact (pathRest_issueReads ..).trans ((hpaid _).trans ((pathRest_setReq ..).trans ((pathRest_tilesFor _ ht).trans hready)))
    · rw [if_neg hs] at h
      rw [← Option.some.inj h]
      exact (pathRest_issueReads ..).trans ((hpaid _).trans hready)
  rw [if_neg hr] at h
  by_cases hm : r.op = opMasked
  · rw [if_pos hm] at h
    rw [← Option.some.inj h]
    exact (pathRest_issueReads ..).trans ((hpaid _).trans hready)
  rw [if_neg hm] at h
  split at h
  · split at h
    · split at h
      · cases h
      · rw [← Option.some.inj h, pathRest_setReq]
    · rw [← Option.some.inj h]
      exact (hpaid _).trans ((pathRest_issueWrite ..).trans hready)
  · rw [← Option.some.inj h]
    exact (hpaid _).trans ((pathRest_issueWrite ..).trans hready)

/-! ### Requests moved on -/

theorem pathRest_moveReq {s s1 : State} {r : CustReq} (h : moveReq s r = some s1) : pathRest s1 = pathRest s := by
  unfold moveReq at h
  split at h
  · split at h
    · dsimp only at h
      rw [← Option.some.inj h]
      exact pathRest_ite (pathRest_refuseReq ..) (pathRest_judge ..)
    · cases h
  · split at h
    · rw [← Option.some.inj h, pathRest_toTokens]
    · split at h
      · rw [← Option.some.inj h, pathRest_afterMeta, pathRest_countHits]
      · cases h
  · obtain ⟨t, ht, he⟩ := Option.map_eq_some_iff.1 h
    rw [← he, pathRest_setReq, pathRest_takeTokens ht]
  · exact pathRest_tryIssue h
  · exact pathRest_tryIssue h
  · exact pathRest_tryIssue h
  · exact pathRest_tryIssue h
  · split at h
    · cases h
    · rw [← Option.some.inj h, pathRest_readsDone]
  · split at h
    · cases h
    · rw [← Option.some.inj h, pathRest_setReq]
  · split at h
    · cases h
    · rw [← Option.some.inj h, pathRest_answerReq]

theorem pathRest_moveFirst (rs : List CustReq) : ∀ {s s1 : State} {short : Bool}, moveFirst s short rs = some s1 → pathRest s1 = pathRest s := by
  induction rs with
  | nil =>
    intro s s1 short h
    rw [moveFirst] at h
    cases h
  | cons r rs ih =>
    intro s s1 short h
    rw [moveFirst] at h
    split at h
    · exact ih h
    · split at h
      next hm => rw [← Option.some.inj h, pathRest_moveReq hm]
      · exact ih h

@[simp] theorem pathRest_settleSteps (n : Nat) : ∀ s : State, pathRest (settleSteps n s) = pathRest s := by
  induction n with
  | zero => exact fun s => rfl
  | succ n ih =>
    intro s
    rw [settleSteps]
    split
    next h => rw [ih, pathRest_moveFirst _ h]
    · rfl

@[simp] theorem pathRest_settleReqs : pathRest (settleReqs s) = pathRest s := pathRest_settleSteps ..

@[simp] theorem pathRest_submit (ch : Fin 4) (b : CustBeat) (lines : List (Line × BitVec 64)) : pathRest (submit s ch b lines) = pathRest s := by
  unfold submit
  split
  · exact pathRest_oweAll ..
  · dsimp only
    split
    · rw [pathRest_refuseReq]
      refine pathRest_ite ?_ (pathRest_owed s _ _)
      rw [pathRest_chargeEnergy, pathRest_owed]
    · refine pathRest_ite ?_ (pathRest_owed s _ _)
      rw [pathRest_refuseReq, pathRest_owed]

/-! ### Bundles captured -/

theorem blockRest_of_path {s t : State} (h : pathRest s = pathRest t) : blockRest s = blockRest t := congrArg Prod.fst h

theorem blockRest_foldl {α : Type} {f : State → α → State} (hf : ∀ t a, blockRest (f t a) = blockRest t) (xs : List α) :
    ∀ s, blockRest (xs.foldl f s) = blockRest s := by
  induction xs with
  | nil => exact fun s => rfl
  | cons x xs ih => exact fun s => (ih _).trans (hf s x)

theorem blockRest_ite {c : Prop} [Decidable c] {a b s : State} (ha : blockRest a = blockRest s) (hb : blockRest b = blockRest s) :
    blockRest (if c then a else b) = blockRest s := by
  split
  · exact ha
  · exact hb

@[simp] theorem blockRest_discardWrite (ch : Fin 4) (w : OpenWrite) (kind : BitVec 8) : blockRest (discardWrite s ch w kind) = blockRest s := by
  unfold discardWrite
  exact (blockRest_of_path ((pathRest_oweAll ..).trans ((pathRest_exception ..).trans (pathRest_violate ..)))).trans (blockRest_setIn s _ _)

@[simp] theorem pathRest_completeRequest (ch : Fin 4) (b : CustBeat) (reuse : Bool) (lines : List (Line × BitVec 64)) :
    pathRest (completeRequest s ch b reuse lines) = pathRest s := by
  unfold completeRequest
  exact pathRest_ite ((pathRest_oweAll ..).trans (pathRest_exception ..)) (pathRest_submit ..)

@[simp] theorem blockRest_captureFirst (ch : Fin 4) (b : CustBeat) : blockRest (captureFirst s ch b) = blockRest s := by
  unfold captureFirst
  dsimp only
  have h0 : blockRest (match (inChan s ch.val).openWrite with
      | some w => discardWrite s ch w kBurstShort
      | none => s) = blockRest s := by
    split
    · exact blockRest_discardWrite ..
    · rfl
  split
  · exact (blockRest_of_path ((pathRest_owe ..).trans ((pathRest_exception ..).trans (pathRest_violate ..)))).trans h0
  · have h1 : ∀ s0 : State, blockRest s0 = blockRest s → blockRest (if tagOut s0 ch.val b.tag then violate s0 (pCustIn ch) kTagReuse (some b.mid)
        else if crossesPage b then violate s0 (pCustIn ch) kBadField (some b.mid) else s0) = blockRest s := fun s0 h0 =>
      blockRest_ite ((blockRest_of_path (pathRest_violate ..)).trans h0)
        (blockRest_ite ((blockRest_of_path (pathRest_violate ..)).trans h0) h0)
    replace h1 := h1 _ h0
    split
    · exact (blockRest_of_path (pathRest_completeRequest ..)).trans h1
    · split
      · exact (blockRest_of_path (pathRest_completeRequest ..)).trans h1
      · exact (blockRest_setIn ..).trans h1

@[simp] theorem blockRest_captureNext (ch : Fin 4) (b : CustBeat) : blockRest (captureNext s ch b) = blockRest s := by
  unfold captureNext
  split
  · exact blockRest_of_path (pathRest_violate ..)
  · split
    · exact blockRest_discardWrite ..
    · dsimp only
      split
      · exact (blockRest_of_path (pathRest_completeRequest ..)).trans (blockRest_setIn ..)
      · exact blockRest_setIn ..

@[simp] theorem blockRest_capture (ch : Fin 4) (b : CustBeat) : blockRest (capture s ch b) = blockRest s :=
  blockRest_ite (blockRest_captureFirst ..) (blockRest_captureNext ..)

@[simp] theorem blockRest_markHol (ch : Fin 4) (b : CustBeat) : blockRest (markHol s ch b) = blockRest s := by
  unfold markHol
  split
  · split
    · rfl
    · exact (blockRest_setIn ..).trans (blockRest_of_path (pathRest_setLane s _ rfl))
  · rfl

@[simp] theorem blockRest_drainHeld (ch : Fin 4) (n : Nat) : ∀ s : State, blockRest (drainHeld ch n s) = blockRest s := by
  induction n with
  | zero => exact fun s => rfl
  | succ n ih =>
    intro s
    rw [drainHeld]
    split
    · rfl
    · split
      · exact blockRest_markHol ..
      · rw [ih, blockRest_of_path (pathRest_settleReqs _), blockRest_capture, blockRest_setIn]

@[simp] theorem blockRest_settle : blockRest (settle s) = blockRest s := by
  unfold settle
  rw [blockRest_foldl (f := fun t ch => drainHeld ch (inChan t ch.val).held.length t) (fun t ch => blockRest_drainHeld ..),
    blockRest_of_path (pathRest_settleReqs _), blockRest_of_path (pathRest_settleLost s)]

@[simp] theorem blockRest_captureBeat (ch : Fin 4) (b : CustBeat) : blockRest (captureBeat s ch b) = blockRest s := by
  unfold captureBeat
  dsimp only
  split
  · rfl
  · rw [blockRest_settle, blockRest_setIn, blockRest_of_path (pathRest_reqFell ..)]

/-- Custody stopped leaves what the custody path leaves, but for the stop itself (R27). -/
theorem blockRest_cutCustody : blockRest (cutCustody s) = blockRest { s with cust := { s.cust with stopped := true } } := by
  rw [cutCustody, blockRest_settle]
  rfl

/-! ### Block DMA -/

@[simp] theorem pathRest_overtakeMasked (la : Nat) (p : Line) : pathRest (overtakeMasked s la p) = pathRest s := by
  unfold overtakeMasked
  refine pathRest_foldl (fun t r => ?_) _ _
  exact pathRest_ite (pathRest_setReq ..) rfl

theorem pathRest_freeTileFor (n : Nat) : ∀ {s s1 : State} {page holder reader k o : Nat},
    freeTileFor n s page holder reader k = some (o, s1) → pathRest s1 = pathRest s := by
  induction n with
  | zero => exact fun h => pathRest_tileFor h
  | succ n ih =>
    intro s s1 page holder reader k o h
    rw [freeTileFor] at h
    split at h
    next ht => exact pathRest_tileFor (ht.trans h)
    · rw [ih h, pathRest_completionRead, pathRest_pressTiles]

theorem memRest_dmaRefused (ctx la : Nat) (c : CustClass) (v : Verdict) (kind : Option Nat) (write : Bool) :
    memRest (dmaRefused s ctx la c v kind write).2 = memRest s := by
  unfold dmaRefused
  dsimp only
  split
  · rw [memRest_exception, memRest_chargeLines]
  · exact memRest_chargeLines ..

@[simp] theorem memRest_dmaChecks (ctx la : Nat) (write : Bool) : memRest (dmaChecks s ctx la write).2 = memRest s := by
  unfold dmaChecks
  dsimp only
  split
  · simp only [memRest_dmaRefused]
  · split
    · simp only [memRest_dmaRefused]
    · split
      next h =>
        simp only [memRest_dmaRefused]
        exact memRest_of_eq h (memRest_mapEntry ..)
      next h =>
        have h1 := memRest_of_eq h (memRest_mapEntry ..)
        split
        · simp only [memRest_dmaRefused, h1]
        · exact h1

@[simp] theorem pathRest_dmaReadLine (ctx la : Nat) : pathRest (dmaReadLine s ctx la).2 = pathRest s := by
  unfold dmaReadLine
  dsimp only
  split
  next h => exact pathRest_of_mem h (memRest_dmaChecks ..)
  next e s1 h =>
    have h1 : ∀ lane, pathRest (workLines (spendTokens s1 lane 1) lane (entClass e) 1) = pathRest s := fun lane => by
      rw [pathRest_of_memRest (memRest_workLines ..), pathRest_of_memRest (memRest_spendTokens ..), pathRest_of_mem h (memRest_dmaChecks ..)]
    split
    next h2 => exact (pathRest_lineFailed ..).trans ((pathRest_of_mem h2 (memRest_lineMeta ..)).trans (h1 _))
    next h2 => exact (pathRest_count ..).trans ((pathRest_of_mem h2 (memRest_lineMeta ..)).trans (h1 _))
    next m s3 _ _ h2 =>
      have h3 := (pathRest_of_mem h2 (memRest_lineMeta ..)).trans (h1 _)
      have h4 : pathRest (if entClass e = .openC then s3 else readyKey s3 (entCtx e)) = pathRest s :=
        pathRest_ite h3 ((pathRest_readyKey ..).trans h3)
      generalize (if entClass e = .openC then s3 else readyKey s3 (entCtx e)) = s4 at h4 ⊢
      split
      · exact h4
      next o s5 ht =>
        have h5 : pathRest s5 = pathRest s := by
          split at ht
          · exact (pathRest_freeTileFor _ ht).trans h4
          · rw [← (Prod.mk.inj (Option.some.inj ht)).2, h4]
        split
        next h6 =>
          replace h6 := (pathRest_of_mem h6 (memRest_readStored ..)).trans h5
          exact (pathRest_count ..).trans (pathRest_ite ((pathRest_tileAdd ..).trans h6) h6)
        next h6 =>
          replace h6 := (pathRest_of_mem h6 (memRest_readStored ..)).trans h5
          split
          · exact (pathRest_tileFails ..).trans ((pathRest_exception ..).trans h6)
          · exact (pathRest_exception ..).trans h6

@[simp] theorem pathRest_dmaWriteLine (ctx la : Nat) (data : Line) (mask : BitVec 64) :
    pathRest (dmaWriteLine s ctx la data mask).2 = pathRest s := by
  unfold dmaWriteLine
  dsimp only
  split
  next h => exact pathRest_of_mem h (memRest_dmaChecks ..)
  next e s1 h =>
    have h1 : ∀ lane n, pathRest (workLines (spendTokens s1 lane n) lane (entClass e) n) = pathRest s := fun lane n => by
      rw [pathRest_of_memRest (memRest_workLines ..), pathRest_of_memRest (memRest_spendTokens ..), pathRest_of_mem h (memRest_dmaChecks ..)]
    have h2 : ∀ (c : Prop) [Decidable c] (s2 : State), pathRest s2 = pathRest s → ∀ owner q aux,
        pathRest (if c then ((.ok 0, s2) : Except BadLine Line × State)
          else readLine s2 owner (entClass e) q (la % 64) aux la).2 = pathRest s := by
      intro c _ s2 h2 owner q aux
      split
      · exact h2
      · exact (pathRest_of_memRest (memRest_readLine ..)).trans h2
    split
    next h3 => exact (pathRest_lineFailed ..).trans (pathRest_of_eq h3 (h2 _ _ (h1 _ _) ..))
    next h3 =>
      replace h3 := pathRest_of_eq h3 (h2 _ _ (h1 _ _) ..)
      split
      next h4 =>
        have h5 := (pathRest_of_mem h4 (memRest_commitNow ..)).trans h3
        split
        next h6 =>
          exact (pathRest_count ..).trans ((pathRest_of_mem h6 (memRest_memWrite ..)).trans ((pathRest_overtakeMasked ..).trans h5))
        next h6 =>
          exact (pathRest_exception ..).trans ((pathRest_of_mem h6 (memRest_memWrite ..)).trans ((pathRest_overtakeMasked ..).trans h5))
      next h4 => exact (pathRest_exception ..).trans ((pathRest_of_mem h4 (memRest_commitNow ..)).trans h3)
      next h4 => exact (pathRest_lineFailed ..).trans ((pathRest_of_mem h4 (memRest_commitNow ..)).trans h3)
      next h4 =>
        exact (pathRest_poisonReported ..).trans ((pathRest_exception ..).trans ((pathRest_of_mem h4 (memRest_commitNow ..)).trans h3))
      next h4 => exact (pathRest_of_mem h4 (memRest_commitNow ..)).trans h3

@[simp] theorem pathRest_dmaReadLines (ctx : Nat) (xs : List (Nat × Nat × Nat)) :
    ∀ (s : State) (acc : Octets), pathRest (dmaReadLines s ctx xs acc).2 = pathRest s := by
  induction xs with
  | nil => exact fun s acc => rfl
  | cons x xs ih =>
    intro s acc
    obtain ⟨la, lo, n⟩ := x
    rw [dmaReadLines]
    split
    next h => exact (ih _ _).trans (pathRest_of_eq h (pathRest_dmaReadLine ..))
    next h => exact pathRest_of_eq h (pathRest_dmaReadLine ..)

@[simp] theorem pathRest_dmaRead (d : Desc) : pathRest (dmaRead s d).2 = pathRest s := pathRest_dmaReadLines ..

@[simp] theorem pathRest_dmaWriteLines (ctx : Nat) (xs : List (Nat × Nat × Nat)) :
    ∀ (s : State) (o : Octets) (done : Nat), pathRest (dmaWriteLines s ctx xs o done).2 = pathRest s := by
  induction xs with
  | nil => exact fun s o done => rfl
  | cons x xs ih =>
    intro s o done
    obtain ⟨la, lo, n⟩ := x
    rw [dmaWriteLines]
    split
    next h => exact (ih _ _ _).trans (pathRest_of_eq h (pathRest_dmaWriteLine ..))
    next h => exact pathRest_of_eq h (pathRest_dmaWriteLine ..)

@[simp] theorem pathRest_dmaWrite (ctx addr : Nat) (o : Octets) : pathRest (dmaWrite s ctx addr o).2 = pathRest s := pathRest_dmaWriteLines ..

/-! ### The block's own regions -/

@[simp] theorem memRest_ownReadLines (n : Nat) : ∀ (s : State) (la : Nat) (acc : Octets), memRest (ownReadLines s n la acc).2 = memRest s := by
  induction n with
  | zero => exact fun s la acc => rfl
  | succ n ih =>
    intro s la acc
    rw [ownReadLines]
    split
    next h => exact (ih _ _ _).trans (memRest_of_eq h (memRest_readOwnDma ..))
    next h => exact memRest_of_eq h (memRest_readOwnDma ..)

@[simp] theorem memRest_ownRead (la n : Nat) : memRest (ownRead s la n).2 = memRest s := by
  unfold ownRead
  split
  next h => exact memRest_of_eq h (memRest_ownReadLines ..)
  · exact memRest_ownReadLines ..

@[simp] theorem memRest_ownWrite (la : Nat) (o : Octets) : memRest (ownWrite s la o).2 = memRest s := by
  have h : ∀ (xs : List (Octets × Nat)) (x : Bool × State), memRest (xs.foldl (fun x c => match writeOwnDma x.2 (la + c.2) (lineOfOctets c.1) with
      | (.ok _, s1) => (x.1, s1)
      | (.error _, s1) => (false, s1)) x).2 = memRest x.2 := by
    intro xs
    induction xs with
    | nil => exact fun x => rfl
    | cons c xs ih =>
      intro x
      refine (ih _).trans ?_
      dsimp only
      split
      next h => exact memRest_of_eq h (memRest_writeOwnDma ..)
      next h => exact memRest_of_eq h (memRest_writeOwnDma ..)
  exact h _ _

end

end Sys2Proof.Proofs
end

section
/-!
PROOF. Write beats, and response beats taken by the fabric (R36, R38, R68, R123, R130, R161).
-/
namespace Sys2Proof.Proofs

open Sys2Proof Sys2Proof.Machine Sys2Proof.Safety Sys2Proof.Laws

/-! ### Continuation beats -/

theorem held_of_pathRest {s t : State} (h : pathRest s = pathRest t) (ch : Nat) : (inChan s ch).held = (inChan t ch).held :=
  congrArg Prod.fst (congrFun (congrArg Prod.snd h) ch)

theorem noneHeld_of_pathRest {s t : State} (h : pathRest s = pathRest t) (ht : NoneHeld t) : NoneHeld s := fun ch =>
  (held_of_pathRest h ch.val).trans (ht ch)

/-- A continuation beat is never withheld (R37). -/
theorem ackWithheld_next {s : State} {ch : Fin 4} {b : CustBeat} (hb : b.beat ≠ 0) : ackWithheld s ch b = false := by
  rw [ackWithheld, decide_eq_false hb, Bool.false_and]

/-- In a path with nothing in it a continuation beat is captured at once, and the requests move on. -/
theorem exec_writeBeat {s : State} {ch : Fin 4} {b : CustBeat} (hp : powered s = true) (h : CustodyIdle s) (ha : s.keys.asleep = false)
    (hb : b.beat ≠ 0) (hh : NoneHeld (settleReqs (captureNext (bundleTaken s ch) ch b))) :
    exec (.custInWriteBeat ch b) s = .next (ended s (settleReqs (captureNext (bundleTaken s ch) ch b))) := by
  have hc : capture (bundleTaken s ch) ch b = captureNext (bundleTaken s ch) ch b := if_neg hb
  have hcap := captureBeat_idle h ha (ackWithheld_next hb) (by rw [hc]; exact hh)
  rw [hc] at hcap
  exact (live_powered (f := fun s => captureBeat s ch b) s hp).trans (by rw [hcap])

theorem openWrite_bundleTaken (s : State) (ch : Fin 4) :
    (inChan (bundleTaken s ch) ch.val).openWrite = (inChan s ch.val).openWrite := by rw [inChan_bundleTaken]

/-- One owed answer with nothing else in the path: it is given whether the path is settled in whole or its requests alone. -/
theorem settleReqs_discardWrite {s : State} {ch : Fin 4} {w : OpenWrite} (kind : BitVec 8) (h : CustodyIdle s) (hw : w.first.op ≠ 0) :
    settleReqs (discardWrite s ch w kind) = settle (discardWrite s ch w kind) ∧ NoneHeld (discardWrite s ch w kind) := by
  obtain ⟨hr, hheld, hlost⟩ := h
  have hop : decide (w.first.op ≠ opRead) = true := decide_eq_true hw
  obtain ⟨rc, f, c, he, -⟩ := exception_eq
    (violate (setIn s ch.val { inChan s ch.val with openWrite := none }) (pCustIn ch) kind (some w.first.mid)) 0x0B (beatExc ch.val w.first)
  have hd : discardWrite s ch w kind = owe (exception (violate (setIn s ch.val { inChan s ch.val with openWrite := none }) (pCustIn ch) kind
      (some w.first.mid)) 0x0B (beatExc ch.val w.first)) ch w.first true (w.first.len.toNat + 1) 1 := by
    rw [discardWrite, oweAll, hop, if_neg (show ¬w.first.op = opRead from hw)]
  have hreqs : (discardWrite s ch w kind).cust.reqs = [owedReq (exception (violate (setIn s ch.val { inChan s ch.val with openWrite := none })
      (pCustIn ch) kind (some w.first.mid)) 0x0B (beatExc ch.val w.first)) ch w.first true (w.first.len.toNat + 1) 1] := by
    rw [hd, owe_eq, he]
    exact congrArg (· ++ _) hr
  have hh : NoneHeld (discardWrite s ch w kind) := by
    rw [hd, owe_eq, he]
    exact noneHeld_setIn (s := s) hheld ch.val (hheld ch)
  have hl : NoneLost (discardWrite s ch w kind) := by
    rw [hd, owe_eq, he]
    exact hlost
  rw [settleReqs_answering hreqs rfl, settle_answering hreqs rfl hh hl]
  exact ⟨rfl, hh⟩

/-! ### Response beats -/

/-- The state once the channel's first beat has been taken (R38). -/
def takenBeat (s : State) (ch : Fin 4) (rest : List RspBeat) : State :=
  setIn s ch.val { inChan s ch.val with rsp := rest, rspSince := clock s, rspLate := false }

theorem countBeat_eq (s : State) (x : RspBeat) : ∃ c, countBeat s x = { s with cnt := c } := by
  unfold countBeat
  split
  · exact ⟨_, rfl⟩
  · exact ⟨_, rfl⟩
  · split <;> exact ⟨_, rfl⟩

theorem laneCounter_ne (l : LaneId) (off : Nat) (h : 0x7800 ≤ off) : (0x7000 + 32 * l.toNat = off) = False ∧ (off = 0x7000 + 32 * l.toNat) = False := by
  have := l.isLt
  exact ⟨eq_false (by omega), eq_false (by omega)⟩

/-- What a beat counts: STALE, FAILED, or the octets read of its lane (R123, R161). -/
theorem counter_countBeat (s : State) (x : RspBeat) :
    counter (countBeat s x) 0x7820 = counter s 0x7820 + (if x.verdict = .stale then 1 else 0) ∧
    counter (countBeat s x) 0x7828 = counter s 0x7828 + (if x.verdict = .failed then 1 else 0) ∧
    counter (countBeat s x) (0x7000 + 32 * x.lane.toNat) = counter s (0x7000 + 32 * x.lane.toNat) +
      (if x.write = false ∧ (x.verdict = .clean ∨ x.verdict = .deferred) then 64 else 0) := by
  obtain ⟨h1, h2⟩ := laneCounter_ne x.lane 0x7820 (by decide)
  obtain ⟨h3, h4⟩ := laneCounter_ne x.lane 0x7828 (by decide)
  unfold countBeat
  cases hv : x.verdict <;> cases hw : x.write <;> simp [counter_count, h1, h2, h3, h4]

/-- The requests of a lane that are not answered count the beats that stand, not since when (R159). -/
theorem laneOutstanding_rsp (s : State) (ch l : Nat) {v w : InChannel} (h : v.rsp = w.rsp) :
    laneOutstanding (setIn s ch v) l = laneOutstanding (setIn s ch w) l := by
  have hmap : ∀ f : List RspBeat → List RspBeat, (setAt {} s.cust.ins ch v).flatMap (fun u => f u.rsp) =
      (setAt {} s.cust.ins ch w).flatMap (fun u => f u.rsp) := by
    intro f
    have hset : (setAt {} s.cust.ins ch v).map InChannel.rsp = (setAt {} s.cust.ins ch w).map InChannel.rsp := by
      unfold setAt
      split <;> simp [h]
    simpa only [List.flatMap_map] using congrArg (List.flatMap f) hset
  exact congrArg (fun n : List RspBeat => (s.cust.reqs.filter (fun r => r.counted && decide (r.lane.toNat = l))).length + n.length)
    (hmap (List.filter (fun x => x.last && x.counted && decide (x.lane.toNat = l))))

/-- A lane's move to DRAINED changes its record and the mailboxes alone. -/
theorem settleDrain_eq (s : State) (l : Nat) : ∃ ls m, settleDrain s l = { s with lanes := ls, mbox := m } ∧
    (∀ k, k ≠ l → laneAt (settleDrain s l) k = laneAt s k) ∧
    ((laneAt s l).state = .draining → laneOutstanding s l = 0 → (laneAt (settleDrain s l) l).state = .drained) := by
  unfold settleDrain
  dsimp only
  by_cases h : (laneAt s l).state = .draining ∧ laneOutstanding s l = 0
  · rw [if_pos h]
    split
    next w _ =>
      obtain ⟨m, hm⟩ := finish_frame (setLane s l { laneAt s l with state := .drained, job := none }) w stDone []
      rw [hm]
      refine ⟨_, _, rfl, fun k hk => laneAt_setLane_ne s _ hk, fun _ _ => ?_⟩
      exact congrArg Lane.state (laneAt_setLane_same s l _)
    · exact ⟨_, s.mbox, rfl, fun k hk => laneAt_setLane_ne s _ hk, fun _ _ => congrArg Lane.state (laneAt_setLane_same s l _)⟩
  · rw [if_neg h]
    exact ⟨s.lanes, s.mbox, rfl, fun _ _ => rfl, fun h1 h2 => absurd ⟨h1, h2⟩ h⟩

/-- Settles O33: a beat is captured at once in an idle path, and what a beat taken by the fabric counts follows its verdict. -/
theorem writeBeatsAndAnswers : Obligations.WriteBeatsAndAnswers := by
  unfold Obligations.WriteBeatsAndAnswers
  refine ⟨fun s ch b w hp h ha hb => ?_, fun s ch x rest hp hx => ?_⟩
  · have hidle := custodyIdle_bundleTaken h ch
    have hheld : NoneHeld (bundleTaken s ch) := hidle.2.1
    refine ⟨fun hw ht hn hl => ?_, fun hw ho hne => ?_, fun hw ht hn hl hr hcr => ?_, fun hw => ?_⟩
    · have hc : captureNext (bundleTaken s ch) ch b = setIn (reqFell s (pCustIn ch)) ch.val { inChan s ch.val with
          holMarked := false, openWrite := some { w with lines := w.lines ++ [(b.data, b.mask)], lastBeat := clock s } } := by
        unfold captureNext
        rw [openWrite_bundleTaken, hw]
        dsimp only
        rw [if_neg (by simp [ht, hn]), if_neg (by rw [List.length_append]; exact Nat.ne_of_lt hl), inChan_bundleTaken, bundleTaken, setIn_setIn]
        rfl
      have hreqs : (captureNext (bundleTaken s ch) ch b).cust.reqs = [] := by rw [hc]; exact h.1
      have hh : NoneHeld (captureNext (bundleTaken s ch) ch b) := by
        rw [hc]
        exact noneHeld_setIn (s := reqFell s (pCustIn ch)) h.2.1 ch.val (h.2.1 ch)
      rw [exec_writeBeat hp h ha hb (by rw [settleReqs_nil hreqs]; exact hh), settleReqs_nil hreqs, hc]
    · have hc : captureNext (bundleTaken s ch) ch b = discardWrite (bundleTaken s ch) ch w kBadField := by
        unfold captureNext
        rw [openWrite_bundleTaken, hw]
        exact if_pos hne
      obtain ⟨hs, hh⟩ := settleReqs_discardWrite kBadField hidle ho
      obtain ⟨h1, h2, h3, h4, h5⟩ := settle_discardWrite kBadField hidle ho
      rw [← hc] at hs hh h1 h2 h3 h4 h5
      refine ⟨_, exec_writeBeat hp h ha hb (noneHeld_of_pathRest (pathRest_settleReqs _) hh), ?_⟩
      rw [hs]
      rw [inChan_bundleTaken] at h1
      generalize settle (captureNext (bundleTaken s ch) ch b) = u at h1 h2 h3 h4 h5 ⊢
      exact ⟨h2, h1, h3, h4, h5⟩
    · have hc : captureNext (bundleTaken s ch) ch b = submit (setIn (reqFell s (pCustIn ch)) ch.val
          { inChan s ch.val with openWrite := none, holMarked := false }) ch w.first (w.lines ++ [(b.data, b.mask)]) := by
        unfold captureNext
        rw [openWrite_bundleTaken, hw]
        dsimp only
        rw [if_neg (by simp [ht, hn]), if_pos (by rw [List.length_append, hl]; rfl), completeRequest, hr, hcr, inChan_bundleTaken, bundleTaken,
          setIn_setIn]
        rfl
      have hh : NoneHeld (captureNext (bundleTaken s ch) ch b) := by
        rw [hc]
        exact noneHeld_of_pathRest (pathRest_submit ..) (noneHeld_setIn (s := reqFell s (pCustIn ch)) h.2.1 ch.val (h.2.1 ch))
      rw [exec_writeBeat hp h ha hb (noneHeld_of_pathRest (pathRest_settleReqs _) hh), hc]
    · have hc : captureNext (bundleTaken s ch) ch b = violate (bundleTaken s ch) (pCustIn ch) kBurstExcess none := by
        unfold captureNext
        rw [openWrite_bundleTaken, hw]
      have hreqs : (captureNext (bundleTaken s ch) ch b).cust.reqs = [] := by rw [hc]; exact h.1
      rw [exec_writeBeat hp h ha hb (by rw [settleReqs_nil hreqs, hc]; exact hheld), settleReqs_nil hreqs, hc, bundleTaken]
  · refine ⟨_, live_powered (f := fun s => responseAck s ch) s hp, ?_⟩
    have hack : responseAck s ch = (if x.last && x.counted then settleDrain (countBeat (takenBeat s ch rest) x) x.lane.toNat
        else countBeat (takenBeat s ch rest) x) := by
      unfold responseAck
      dsimp only
      rw [hx]
      rfl
    obtain ⟨c, hc⟩ := countBeat_eq (takenBeat s ch rest) x
    obtain ⟨h1, h2, h3⟩ := counter_countBeat (takenBeat s ch rest) x
    have hfin : ∃ ls m, responseAck s ch = { countBeat (takenBeat s ch rest) x with lanes := ls, mbox := m } ∧
        (∀ k, k ≠ x.lane.toNat → laneAt (responseAck s ch) k = laneAt (countBeat (takenBeat s ch rest) x) k) ∧
        ((laneAt (countBeat (takenBeat s ch rest) x) x.lane.toNat).state = .draining → x.last = true → x.counted = true →
          laneOutstanding (countBeat (takenBeat s ch rest) x) x.lane.toNat = 0 → (laneAt (responseAck s ch) x.lane.toNat).state = .drained) := by
      obtain ⟨ls, m, he, hne, hd⟩ := settleDrain_eq (countBeat (takenBeat s ch rest) x) x.lane.toNat
      rw [hack]
      by_cases hl : (x.last && x.counted) = true
      · rw [if_pos hl]
        exact ⟨ls, m, he, hne, fun hs _ _ ho => hd hs ho⟩
      · rw [if_neg hl]
        exact ⟨_, _, rfl, fun _ _ => rfl, fun _ h1 h2 => absurd (by rw [h1, h2]; rfl) hl⟩
    obtain ⟨ls, m, he, hne, hd⟩ := hfin
    rw [hc] at hne hd h1 h2 h3
    rw [hc] at he
    refine ⟨?_, ?_, ?_, ?_, ?_, ?_, fun hs hl hct ho => ?_, fun l hl => hne l hl⟩
    · rw [he]
      exact congrArg InChannel.rsp (inChan_setIn_same s ch.val _)
    · rw [he]
      rfl
    · rw [he]
      rfl
    · rw [he]
      exact h1
    · rw [he]
      exact h2
    · rw [he]
      exact h3
    · exact hd hs hl hct ((laneOutstanding_rsp s ch.val x.lane.toNat (v := { inChan s ch.val with rsp := rest, rspSince := clock s, rspLate := false })
        (w := { inChan s ch.val with rsp := rest }) rfl).trans ho)

end Sys2Proof.Proofs
end

section
/-!
PROOF. The key commands (R239, R280, R284, R285, R292 to R295, R300, R301, R303).
-/
namespace Sys2Proof.Proofs

open Sys2Proof Sys2Proof.Machine Sys2Proof.Safety Sys2Proof.Laws

theorem reply_frame (s : State) (k : Call) (st : BitVec 8) (ws : List W32) : ∃ m, reply s k st ws = { s with mbox := m } :=
  finish_frame s (.running k.ch) st ws

/-! ### Handles (R284, R285) -/

/-- A handle word names its entry. -/
theorem bits_handleWord (s : State) {i : Nat} (hi : i < 512) : bits (handleWord s i) 0 9 = i := by
  rw [handleWord, bits, field, field, BitVec.toNat_or, BitVec.toNat_ofNat, BitVec.toNat_ofNat, Nat.shiftRight_zero, Nat.or_mod_two_pow,
    Nat.mod_mod_of_dvd _ (by decide : 2 ^ 9 ∣ 2 ^ 32), Nat.mod_mod_of_dvd _ (by decide : 2 ^ 9 ∣ 2 ^ 32), Nat.shiftLeft_eq, Nat.shiftLeft_eq]
  have h : (tget 0 s.keys.uses i).toNat % 2 ^ 16 * 2 ^ 16 % 2 ^ 9 = 0 := by omega
  rw [h, Nat.or_zero]
  omega

theorem firstBelow_spec {n i : Nat} {p : Nat → Bool} (h : firstBelow n p = some i) : i < n ∧ p i = true :=
  ⟨List.mem_range.1 (List.mem_of_find?_eq_some h), List.find?_some h⟩

/-- An entry opened. -/
def handlePut (t : State) (i : Nat) (h : Handle) : State := { t with keys := { t.keys with handles := tput t.keys.handles i h } }

theorem handleOpen_opens {t : State} {k : Call} {h : Handle} {i : Nat} (hf : fieldsOk k [0x003F000F] = true) (hh : handleFor t k = .ok h)
    (hi : firstBelow 512 (fun i => (tfind t.keys.handles i).isNone) = some i) :
    handleOpen k t = if (if (if h.owners then 0 else h.lane) = 0 then 64 else 32) ≤ handlesOf t (if h.owners then 0 else h.lane) then
      reply t k stNoSpace [] else reply (handlePut t i h) k stDone [handleWord t i] := by
  rw [handleOpen, hf, hh]
  dsimp only
  rw [hi]
  rfl

theorem handleOf_put (t : State) {i : Nat} (h : Handle) (hi : i < 512) : handleOf (handlePut t i h) (handleWord t i) = some (i, h) := by
  rw [handleOf, bits_handleWord t hi, show (handlePut t i h).keys.handles = tput t.keys.handles i h from rfl, tfind_tput_same]
  exact if_pos rfl

theorem handleOf_named {s : State} {w : W32} {e : Nat × Handle} (h : handleOf s w = some e) : e.1 = bits w 0 9 := by
  rw [handleOf] at h
  cases hf : tfind s.keys.handles (bits w 0 9) with
  | none => rw [hf] at h; cases h
  | some v =>
    rw [hf] at h
    dsimp only at h
    split at h
    · cases h; rfl
    · cases h

theorem handleOf_none {s : State} {w : W32} (h : tfind s.keys.handles (bits w 0 9) = none) : handleOf s w = none := by
  rw [handleOf, h]

theorem useHandle_named {s : State} {k : Call} {w : W32} {i : Nat} {h : Handle} (hu : useHandle s k w = .ok (i, h)) : i = bits w 0 9 := by
  rw [useHandle] at hu
  cases hh : handleOf s w with
  | none => rw [hh] at hu; cases hu
  | some e =>
    rw [hh] at hu
    dsimp only at hu
    split at hu
    · cases hu
    · cases hu
      exact handleOf_named hh

/-! ### Rewrites of the store (R288, R295) -/

/-- A rewrite asked for joins the others, and may ask for the flash. -/
theorem askRewrite_eq (s : State) (r : Rewrite) : ∃ hs n, askRewrite s r =
    { s with keys := { s.keys with rewrites := s.keys.rewrites ++ [r], handles := hs }, nvm := n } := by
  rw [askRewrite]
  dsimp only
  split
  · obtain ⟨n, hn, -⟩ := nvmEnqueue_eq (staysStale { s with keys := { s.keys with rewrites := s.keys.rewrites ++ [r] } }) .store
    exact ⟨_, n, hn.trans rfl⟩
  · exact ⟨_, _, rfl⟩

theorem askRewrite_joins (s : State) (r : Rewrite) : (askRewrite s r).vault = s.vault ∧ (askRewrite s r).keys.rewrites = s.keys.rewrites ++ [r] := by
  obtain ⟨x, n, h⟩ := askRewrite_eq s r
  rw [h]
  exact ⟨rfl, rfl⟩

theorem destroyKeys_sealed {t : State} {r : Rewrite} {w : Caller} (hr : t.keys.root = .bedrock) (hj : t.rns.jobs = []) (hd : t.dig.slots = []) :
    destroyKeys r w t = askRewrite t r := by
  obtain ⟨hs, n, he⟩ := askRewrite_eq t r
  rw [destroyKeys, if_pos hr, keysDestroyed, he, rnsKeys_idle _ (by exact hj), digestKeys_idle (by exact hd)]

theorem keyDestroy_slot {t : State} {k : Call} {i j : Nat} {h : Handle} (hf : fieldsOk k [0x3F01] = true)
    (hi : freeTicket (chanAt t k.ch) = some i) (hb : bit (k.word 0) 0 = false) (hu : useHandle t k (k.word 1) = .ok (j, h)) (hk : h.kind = 5)
    (hs : handleStale t h = false) : keyDestroy k t =
      destroyKeys (.destroySlot h.name.toNat (.ticket k.ch i)) (.ticket k.ch i) (acceptRunning t k.ch i) := by
  simp only [keyDestroy, hf, hb, hu, hk, hs, ticketed_free hi, Bool.not_true, Bool.false_eq_true, if_false, ne_eq, not_true_eq_false]

theorem keyDestroy_lane {t : State} {k : Call} {i : Nat} (hf : fieldsOk k [0x3F01] = true) (hi : freeTicket (chanAt t k.ch) = some i)
    (hb : bit (k.word 0) 0 = true) (ho : k.owner = true) (hl : bits (k.word 0) 8 6 ≠ 0) : keyDestroy k t =
      destroyKeys (.destroyLane (bits (k.word 0) 8 6) (.ticket k.ch i)) (.ticket k.ch i) (acceptRunning t k.ch i) := by
  simp only [keyDestroy, hf, hb, ho, hl, ticketed_free hi, Bool.not_true, Bool.false_eq_true, if_false, if_true]

/-! ### Key update messages (R292, R293) -/

theorem ownRns_vault (s : State) (lane : Nat) (n : Nat × Nat) : (ownRns s lane n).vault = s.vault := by
  simp only [ownRns, ownDigest, chargePaces, chargeEnergy, drawFree, count_vault]

theorem ownRns_keys (s : State) (lane : Nat) (n : Nat × Nat) : (ownRns s lane n).keys = s.keys := by
  simp only [ownRns, ownDigest, chargePaces, chargeEnergy, drawFree, count_keys]

/-- CONTROL after one of its bits was written. -/
theorem control_setControl (v : Vault) (i : Nat) (b : Bool) :
    (v.setControl i b).control = (v.control &&& ~~~(flag 32 i true)) ||| flag 32 i b := by
  have hv (w : W32) : vote3 w w w = w := by rw [vote3, BitVec.and_self, BitVec.or_self, BitVec.or_self]
  exact hv _

theorem bit_flag (i j : Nat) (b : Bool) (hj : j < 32) : bit (flag 32 i b) j = (b && decide (j = i)) := by
  cases b with
  | false => simp [bit, flag]
  | true =>
    rw [bit, flag, if_pos rfl, BitVec.getLsbD_ofNat, Nat.testBit_two_pow]
    simp [hj, eq_comm]

theorem bit_setControl (v : Vault) (i : Nat) {j : Nat} (b : Bool) (hj : j < 32) :
    bit (v.setControl i b).control j = if j = i then b else bit v.control j := by
  have h (x y z : W32) : bit ((x &&& ~~~y) ||| z) j = (bit x j && !(bit y j) || bit z j) := by
    simp [bit, hj]
  rw [control_setControl, h, bit_flag i j true hj, bit_flag i j b hj]
  by_cases hji : j = i <;> simp [hji]

/-! ### Orderly sleep (R301) -/

theorem freeLine_free (s : State) : ∃ n, (freeLine s).2 = { s with free := n } := by
  have h (xs : List Nat) : ∀ l t, ∃ n, (xs.foldl (fun (x : Line × State) i =>
      (x.1 ||| BitVec.ofNat 512 ((drawFree x.2).1.toNat <<< (64 * i)), (drawFree x.2).2)) (l, t)).2 = { t with free := n } := by
    induction xs with
    | nil => exact fun l t => ⟨t.free, rfl⟩
    | cons x xs ih =>
      intro l t
      obtain ⟨n, hn⟩ := ih (l ||| BitVec.ofNat 512 ((drawFree t).1.toNat <<< (64 * x))) (drawFree t).2
      exact ⟨n, hn⟩
  exact h _ _ _

theorem memRest_free (s : State) (n : Nat) : memRest { s with free := n } = ({ (memRest s).1 with free := n }, (memRest s).2) := rfl

/-- The sleep image's lines leave the vault and the sleep itself. -/
theorem writeSleepLines_keeps (n : Nat) : ∀ base s, (writeSleepLines base n s).vault = s.vault ∧
    (writeSleepLines base n s).keys.sleeping = s.keys.sleeping := by
  induction n with
  | zero => exact fun base s => ⟨rfl, rfl⟩
  | succ n ih =>
    intro base s
    obtain ⟨m, hm⟩ := freeLine_free s
    rw [writeSleepLines]
    dsimp only
    rw [hm]
    have h := memRest_writeOwnDma { s with free := m } base (freeLine s).1
    obtain ⟨hv, hk⟩ := ih (base + 1) (writeOwnDma { s with free := m } base (freeLine s).1).2
    exact ⟨hv.trans (congrArg (fun x => x.1.vault) h), hk.trans (congrArg (fun x => x.1.keys.sleeping) h)⟩

/-- One unit of octets put into the flash. -/
def pokeUnit (x : State × Octets) (p : Nat × Nat × Nat) : State × Octets :=
  let l := octetsOfLine (flashUnit x.1 p.1)
  (setFlashUnit x.1 p.1 (lineOfOctets (l.take p.2.1 ++ x.2.take p.2.2 ++ l.drop (p.2.1 + p.2.2))), x.2.drop p.2.2)

theorem setFlashUnit_eq (s : State) (u : Nat) (l : Line) : ∃ f, setFlashUnit s u l = { s with nvm := { s.nvm with flash := f } } :=
  ⟨tset 0 s.nvm.flash u (~~~l), by rw [setFlashUnit]⟩

theorem pokeUnit_eq (x : State × Octets) (p : Nat × Nat × Nat) :
    ∃ f, (pokeUnit x p).1 = { x.1 with nvm := { x.1.nvm with flash := f } } := setFlashUnit_eq x.1 p.1 _

theorem flashPoke_units (s : State) (off : Nat) (o : Octets) : flashPoke s off o = ((spanLines off o.length).foldl pokeUnit (s, o)).1 := by
  delta flashPoke pokeUnit
  rfl

theorem flashPoke_eq (s : State) (off : Nat) (o : Octets) : ∃ f, flashPoke s off o = { s with nvm := { s.nvm with flash := f } } := by
  have h (xs : List (Nat × Nat × Nat)) : ∀ x : State × Octets, ∃ f, (xs.foldl pokeUnit x).1 = { x.1 with nvm := { x.1.nvm with flash := f } } := by
    induction xs with
    | nil => exact fun x => ⟨x.1.nvm.flash, rfl⟩
    | cons p xs ih =>
      intro x
      obtain ⟨f, hf⟩ := ih (pokeUnit x p)
      obtain ⟨g, hg⟩ := pokeUnit_eq x p
      exact ⟨f, by rw [List.foldl_cons, hf, hg]⟩
  rw [flashPoke_units]
  exact h (spanLines off o.length) (s, o)

/-- Programming and erasing change the flash and what is counted of it. -/
theorem flashProgram_eq (s : State) (off : Nat) (o : Octets) :
    ∃ f c, flashProgram s off o = { s with nvm := { s.nvm with flash := f }, cnt := c } := by
  obtain ⟨f, hf⟩ := flashPoke_eq s off o
  rw [flashProgram, hf]
  exact ⟨f, _, rfl⟩

theorem flashErase_eq (s : State) (off len n : Nat) : ∃ f c, flashErase s off len n = { s with nvm := { s.nvm with flash := f }, cnt := c } := by
  obtain ⟨f, hf⟩ := flashPoke_eq s off (List.replicate len 0xFF)
  rw [flashErase, hf]
  exact ⟨f, _, rfl⟩

theorem journalWrite_eq (s : State) (off : Nat) (o : Octets) :
    ∃ f c, journalWrite s off o = { s with nvm := { s.nvm with flash := f }, cnt := c } := by
  rw [journalWrite]
  split
  · obtain ⟨f, c, h⟩ := flashErase_eq s off 4096 1
    obtain ⟨f', c', h'⟩ := flashProgram_eq (flashErase s off 4096 1) off o
    exact ⟨f', c', by rw [h', h]⟩
  · exact flashProgram_eq s off o

theorem sleepLines_keep {base n : Nat} {s u : State} (h : writeSleepLines base n s = u) :
    u.vault = s.vault ∧ u.keys.sleeping = s.keys.sleeping := h ▸ writeSleepLines_keeps n base s

theorem journalNext_eq (s : State) : ∃ x b, journalNext s = (x, { s with bg := b }) := by
  rw [journalNext]
  split_ifs with h
  · exact ⟨none, s.bg, rfl⟩
  · exact ⟨_, _, rfl⟩

theorem memRest_flushMeta (s : State) : memRest (flushMeta s) = memRest s := by
  rw [flushMeta, memRest_flushDirty, memRest_settleLost, memRest_flushDirty]

theorem flushMeta_keeps {s u : State} (h : flushMeta s = u) :
    ∃ t, s = t ∧ u.vault = t.vault ∧ u.keys.sleeping = t.keys.sleeping := by
  have hm := memRest_flushMeta s
  rw [h] at hm
  exact ⟨s, rfl, congrArg (fun x => x.1.vault) hm, congrArg (fun x => x.1.keys.sleeping) hm⟩

/-- The record of the journal before a sleep leaves the vault and the sleep. -/
theorem journal_keeps {s u : State} (h : (match journalNext s with
    | (some (off, o), t) => journalWrite t off o
    | (none, t) => t) = u) : u.vault = s.vault ∧ u.keys.sleeping = s.keys.sleeping := by
  obtain ⟨x, b, hj⟩ := journalNext_eq s
  rw [hj] at h
  cases x with
  | none => exact h ▸ ⟨rfl, rfl⟩
  | some r =>
    have hw : journalWrite { s with bg := b } r.1 r.2 = u := h
    obtain ⟨f, c, hr⟩ := journalWrite_eq { s with bg := b } r.1 r.2
    rw [← hw, hr]
    exact ⟨rfl, rfl⟩

/-- The vault that an orderly sleep leaves. -/
def sleepVault (s : State) : Vault :=
  ({ s.vault with rootA := s.tree.root, rootB := s.tree.root, rootC := s.tree.root
                  sleepCount := s.vault.sleepCount + 1 }.setControl 1 true).setControl 2 (s.keys.root == RootSource.testRoot)

/-- The state as it commits to the vault. -/
def sleepCommitted (u : State) : State :=
  { u with vault := sleepVault u, keys := { u.keys with asleep := true, sleepReady := true } }

theorem goToSleep_eq (w : Caller) (s : State) : ∃ u, goToSleep w s = finish (sleepCommitted u) w stDone [] ∧ u.vault = s.vault ∧
    u.keys.sleeping = none := by
  rw [goToSleep]
  generalize hs : writeSleepLines _ _ _ = s2
  have hw := sleepLines_keep hs
  clear hs
  generalize hu : flushMeta _ = u
  obtain ⟨s3, hj, hv, hk⟩ := flushMeta_keeps hu
  clear hu
  obtain ⟨hv3, hk3⟩ := journal_keeps hj
  exact ⟨u, rfl, hv.trans (hv3.trans hw.1), hk.trans (hk3.trans hw.2)⟩

/-- Custody stopped and every re-key record run to its end keep the vault and the sleep. -/
theorem rekeySteps_cut (n : Nat) (s : State) : (rekeySteps n (cutCustody s)).cust.stopped = true ∧
    (rekeySteps n (cutCustody s)).keys.asleep = s.keys.asleep ∧ (rekeySteps n (cutCustody s)).vault = s.vault := by
  have h := (blockRest_of_path (pathRest_of_memRest (memRest_rekeySteps n (cutCustody s)))).trans (blockRest_cutCustody s)
  exact ⟨congrArg (fun x => x.1.cust.stopped) h, congrArg (fun x => x.1.keys.asleep) h, congrArg (fun x => x.1.vault) h⟩

theorem startSleep_keeps (w : Caller) (s : State) : (startSleep w s).keys.sleeping = some w ∧ (startSleep w s).cust.stopped = true ∧
    (startSleep w s).keys.asleep = s.keys.asleep ∧ (startSleep w s).vault = s.vault := by
  rw [startSleep]
  generalize 4096 = n
  exact ⟨rfl, rekeySteps_cut n s⟩

/-- The sleep's last step. -/
theorem sleepStep_sleeps {s : State} {w : Caller} (hw : s.keys.sleeping = some w) (hr : s.tamper.restartDue = false)
    (hc : cancelCaptured s w = false) : sleepStep s = goToSleep w s := by
  rw [sleepStep, hw]
  dsimp only
  rw [hr, hc, if_neg Bool.false_ne_true, if_neg Bool.false_ne_true]

theorem sleepStep_cancelled {s : State} {w : Caller} (hw : s.keys.sleeping = some w) (hr : s.tamper.restartDue = false)
    (hc : cancelCaptured s w = true) : sleepStep s = finish (leaveSleep s) w stAborted [] := by
  rw [sleepStep, hw]
  dsimp only
  rw [hr, hc, if_neg Bool.false_ne_true, if_pos rfl, cancelSleep, if_pos hw]

theorem leaveSleep_eq {s : State} {w : Caller} (hw : s.keys.sleeping = some w) : leaveSleep s = { s with
    keys := { s.keys with sleeping := none }, cust := { s.cust with stopped := s.tamper.restartDue || s.lc.stopped } } := by
  rw [leaveSleep, hw, Option.isSome_some, if_pos rfl]

/-- What the commit of a sleep leaves. -/
structure Slept (s u : State) : Prop where
  sleeping : u.keys.sleeping = none
  asleep : u.keys.asleep = true ∧ u.keys.sleepReady = true
  valid : u.vault.rootValid = true
  roots : u.vault.rootA = u.tree.root ∧ u.vault.rootB = u.tree.root ∧ u.vault.rootC = u.tree.root
  test : u.vault.rootTest = (u.keys.root == .testRoot)
  count : u.vault.sleepCount = s.vault.sleepCount + 1

theorem goToSleep_slept (w : Caller) (s : State) : Slept s (goToSleep w s) := by
  obtain ⟨u, hu, hv, hk⟩ := goToSleep_eq w s
  obtain ⟨m, hm⟩ := finish_frame (sleepCommitted u) w stDone []
  rw [hu, hm]
  exact {
    sleeping := hk
    asleep := ⟨rfl, rfl⟩
    valid := by
      show bit (sleepVault u).control 1 = true
      rw [sleepVault, bit_setControl _ _ _ (by decide), if_neg (by decide), bit_setControl _ _ _ (by decide), if_pos rfl]
    roots := ⟨rfl, rfl, rfl⟩
    test := by
      show bit (sleepVault u).control 2 = _
      rw [sleepVault, bit_setControl _ _ _ (by decide), if_pos rfl]
      rfl
    count := congrArg (fun v => v.sleepCount + 1) hv }

/-- The state in which a message is checked. -/
def kumState (s : State) (o : Octets) : State := ownRns (count s 0x78C8 1) 0 (kumJobs s o)

theorem kumState_vault (s : State) (o : Octets) : (kumState s o).vault = s.vault := by rw [kumState, ownRns_vault, count_vault]

theorem kumState_keys (s : State) (o : Octets) : (kumState s o).keys = s.keys := by rw [kumState, ownRns_keys, count_keys]

theorem keyUpdate_vault {d : Desc} {w : Caller} {s s1 : State} {o : Octets} {m : Kum} (hl : d.len ≤ 9300) (hr : dmaRead s d = (.ok o, s1))
    (hm : kumCheck (kumState s1 o) o = .ok m) (hk : 2 < m.kind) : keyUpdate d w s =
      let s2 := kumVault (kumState s1 o) m
      { s2 with keys := { s2.keys with kumDue := some { kind := m.kind, digest := m.digest, who := .job w } } } := by
  rw [keyUpdate, if_neg (Nat.not_lt.2 hl), hr]
  dsimp only
  rw [kumApply]
  dsimp only
  rw [← kumState, hm]
  dsimp only
  rw [if_neg (Nat.not_le.2 hk)]

theorem keyUpdate_stores {d : Desc} {w : Caller} {s s1 : State} {o : Octets} {m : Kum} (hl : d.len ≤ 9300) (hr : dmaRead s d = (.ok o, s1))
    (hm : kumCheck (kumState s1 o) o = .ok m) (hk : m.kind = 1) : keyUpdate d w s =
      askRewrite (kumState s1 o) (.update m.slot (kumSlot (kumState s1 o) m) 1 m.digest (.job w)) := by
  rw [keyUpdate, if_neg (Nat.not_lt.2 hl), hr]
  dsimp only
  rw [kumApply]
  dsimp only
  rw [← kumState, hm]
  dsimp only
  rw [hk, if_pos (by decide), if_neg (by decide)]

/-- The words of the vault that a message's effect leaves, and those that it writes. -/
theorem kumVault_effect (s : State) (m : Kum) : ((kumVault s m).vault.kumCount = s.vault.kumCount ∧
    (kumVault s m).vault.realmId = s.vault.realmId ∧ (kumVault s m).vault.storeGen = s.vault.storeGen) ∧
    (m.kind = 4 → (kumVault s m).vault.authority = BitVec.ofNat 384 (ofBe m.body)) ∧
    (m.kind = 3 → (kumVault s m).vault.realmPending = true ∧ (kumVault s m).vault.nextRealmId = wordAt m.body 0 ∧
      (kumVault s m).vault.nextRealmEpoch = wordAt m.body 4) := by
  refine ⟨?_, fun h => ?_, fun h => ?_⟩
  · rw [kumVault]
    split_ifs <;> exact ⟨rfl, rfl, rfl⟩
  · rw [kumVault, if_neg (by rw [h]; decide), if_pos h]
  · rw [kumVault, if_pos h]
    refine ⟨?_, rfl, rfl⟩
    show bit (Vault.setControl _ 3 true).control 3 = true
    rw [bit_setControl _ _ _ (by decide), if_pos rfl]

theorem kumStep_job {s : State} {d : KumDue} {w : Caller} (hd : s.keys.kumDue = some d) (hw : d.who = .job w)
    (hr : s.tamper.restartDue = false) : ∃ ws, kumStep s =
      finish (kumCommitted { s with keys := { s.keys with kumDue := none } } d.digest) w stDone ws := by
  rw [kumStep, hd]
  dsimp only
  rw [if_neg (by rw [hr]; exact Bool.false_ne_true), hw]
  dsimp only
  rw [kumCounts, hw]
  exact ⟨_, rfl⟩

/-- A counter raised. -/
def monoRaised (t : State) (i : Nat) : State :=
  { t with vault := { t.vault with mono := tset 0 t.vault.mono i (tget 0 t.vault.mono i + 1) } }

/-- Settles O53: each command's checks lead to what the handle table, the store's rewrites, the vault and the sleep take from it. -/
theorem keyCommands : Obligations.KeyCommands := by
  unfold Obligations.KeyCommands
  intro s bus k t hp
  refine ⟨fun h i hst hf hh hi => ⟨fun hl => ?_, fun hl => ?_⟩, fun h i hst hu => ?_, fun h i hst hu => ?_, fun hst hh => ?_,
    fun h i o t1 t2 t3 hst ho hf hd hu hpub hlen hw => ?_, fun hst ho hid => ?_,
    fun i hst hf hi hj hd => ⟨fun h j hb hu hk hs => ⟨fun hr => ?_, fun hr => ?_⟩, fun hb ho hl hr => ?_⟩,
    fun i t1 o t2 m hst hf hd hk hi hlen hread => ?_, fun i t1 o t2 hst hf hsel hd hlen hi hread => ⟨fun hc => ?_, fun hc => ?_⟩,
    fun d w hd hw hr => ?_, fun i hst hm hi => ?_, fun w hw hr => ?_, fun hst hm => ?_,
    fun hst hf => ⟨fun hm => ?_, fun st hm => ?_⟩, fun hst hf hm => ⟨fun hv => ?_, fun hv => ?_⟩,
    fun i t1 o t2 hst hf hd hv he hn hl hl' hi hread => ?_⟩
  · refine ⟨_, onBus_service hp hst handleOpen, ?_⟩
    rw [handleOpen_opens hf hh hi, if_neg (Nat.not_le.2 hl)]
    obtain ⟨m, hm⟩ := reply_frame (handlePut t i h) k stDone [handleWord t i]
    have hrun := started_running hst
    have ha := (reply_answered (t := handlePut t i h) hrun stDone [handleWord t i]).1
    rw [hm] at ha ⊢
    exact ⟨tfind_tput_same _ _ _, fun j hj => tfind_tput_ne _ _ hj, rfl, ha, handleOf_put t h (firstBelow_spec hi).1⟩
  · refine (onBus_service hp hst handleOpen).trans ?_
    rw [handleOpen_opens hf hh hi, if_pos hl]
  · refine ⟨_, live_service hp hst _, ?_⟩
    rw [hu]
    dsimp only
    obtain ⟨m, hm⟩ := reply_frame (freeHandle t i) k stDone []
    have hrun := started_running hst
    have ha := (reply_answered (t := freeHandle t i) hrun stDone []).1
    rw [hm] at ha ⊢
    refine ⟨ha, tfind_tdel_same _ _, tget_tset_same _ _ _ _, handleOf_none ?_⟩
    rw [← useHandle_named hu]
    exact tfind_tdel_same _ _
  · refine (live_service hp hst _).trans ?_
    rw [hu]
  · refine (live_service hp hst _).trans ?_
    rw [useHandle, hh]
  · refine (onBus_service hp hst _).trans ?_
    have hc : ¬((!k.owner) = true ∧ identityHandle t (k.word 0) = true) := by
      rintro ⟨h1, h2⟩
      cases ho with
      | inl ho => rw [ho] at h1; cases h1
      | inr ho => rw [ho] at h2; cases h2
    rw [if_neg hc]
    simp only [hf, hd, hu, hpub, replyWrite, if_neg (Nat.not_lt.2 hlen), hw, Bool.not_true, Bool.false_eq_true, if_false]
  · refine (onBus_service hp hst _).trans ?_
    rw [if_pos ⟨by rw [ho]; rfl, hid⟩]
  · refine ⟨_, onBus_service hp hst keyDestroy, ?_⟩
    obtain ⟨m, ha, hrun⟩ := started_ticket hst i
    rw [keyDestroy_slot hf hi hb hu hk hs, ha, destroyKeys_sealed (by exact hr) (by exact hj) (by exact hd)]
    obtain ⟨x, n, he⟩ := askRewrite_eq { t with mbox := m } (.destroySlot h.name.toNat (.ticket k.ch i))
    rw [he]
    exact ⟨hrun, rfl, rfl⟩
  · refine ⟨_, onBus_service hp hst keyDestroy, ?_⟩
    obtain ⟨m, ha, hrun⟩ := started_ticket hst i
    rw [keyDestroy_slot hf hi hb hu hk hs, ha, destroyKeys, if_neg hr]
    obtain ⟨hend, m', hm'⟩ := ticket_ends hrun (u := { t with mbox := m }) rfl stDone []
    obtain ⟨c, hs⟩ := started_start hst
    refine ⟨hend, mailOnly_of hs ?_⟩
    rw [hm']
  · refine ⟨_, onBus_service hp hst keyDestroy, ?_⟩
    obtain ⟨m, ha, hrun⟩ := started_ticket hst i
    rw [keyDestroy_lane hf hi hb ho hl, ha, destroyKeys_sealed (by exact hr) (by exact hj) (by exact hd)]
    obtain ⟨x, n, he⟩ := askRewrite_eq { t with mbox := m } (.destroyLane (bits (k.word 0) 8 6) (.ticket k.ch i))
    rw [he]
    exact ⟨hrun, rfl⟩
  · have hrow : exec (.keyUpdate bus) s = .next (ended s (keyUpdate (descAt k 0) (.ticket k.ch i) (acceptRunning t1 k.ch i))) := by
      refine (onBus_service hp hst _).trans ?_
      simp only [hf, hd, hk, ticketed_free hi, Bool.not_true, Bool.false_eq_true, if_false]
    intro t3 hm
    have ht : t3 = kumState t2 o := rfl
    clear_value t3
    subst ht
    refine ⟨fun hkind => ⟨_, hrow, ?_⟩, fun hkind => ⟨_, hrow, ?_⟩⟩
    · rw [keyUpdate_vault hlen hread hm hkind]
      obtain ⟨⟨h1, h2, h3⟩, h4, h5⟩ := kumVault_effect (kumState t2 o) m
      rw [kumState_vault] at h1 h2 h3
      exact ⟨h1, rfl, h4, h5, h2, h3⟩
    · rw [keyUpdate_stores hlen hread hm hkind]
      obtain ⟨hv, hr⟩ := askRewrite_joins (kumState t2 o) (.update m.slot (kumSlot (kumState t2 o) m) 1 m.digest (.job (.ticket k.ch i)))
      exact ⟨hv.trans (kumState_vault t2 o), hr.trans (by rw [kumState_keys])⟩
  · refine ⟨_, onBus_service hp hst _, ?_⟩
    simp only [hf, decide_eq_false hsel, hd, if_neg (Nat.not_lt.2 hlen), ticketed_free hi, Bool.not_true, Bool.or_false, Bool.false_eq_true, if_false]
    rw [certInstall, hread]
    dsimp only
    rw [if_pos hc]
    obtain ⟨n, hn, hmem⟩ := nvmEnqueue_eq t2 (.cert (bits (k.word 0) 0 2) o (.ticket k.ch i))
    rw [hn]
    exact ⟨hmem, rfl⟩
  · refine (onBus_service hp hst _).trans ?_
    simp only [hf, decide_eq_false hsel, hd, if_neg (Nat.not_lt.2 hlen), ticketed_free hi, Bool.not_true, Bool.or_false, Bool.false_eq_true, if_false]
    rw [certInstall, hread]
    dsimp only
    rw [if_neg hc]
  · obtain ⟨ws, hs⟩ := kumStep_job hd hw hr
    obtain ⟨m, hm⟩ := finish_frame (kumCommitted { s with keys := { s.keys with kumDue := none } } d.digest) w stDone ws
    intro u
    have hu : u = _ := hs.trans hm
    rw [hu]
    exact ⟨rfl, rfl, rfl, rfl, rfl⟩
  · refine ⟨_, onBus_service hp hst _, ?_⟩
    rw [if_pos hm, ticketed_free hi]
    obtain ⟨m, ha, hrun⟩ := started_ticket hst i
    rw [ha]
    have hs := startSleep_keeps (.ticket k.ch i) { t with mbox := m }
    generalize startSleep (.ticket k.ch i) { t with mbox := m } = u at hs ⊢
    exact hs
  · intro u
    have hcase : u = if cancelCaptured s w = true then finish (leaveSleep s) w stAborted [] else goToSleep w s := by
      by_cases hc : cancelCaptured s w = true
      · exact (sleepStep_cancelled hw hr hc).trans (if_pos hc).symm
      · exact (sleepStep_sleeps hw hr (Bool.eq_false_iff.2 hc)).trans (if_neg hc).symm
    clear_value u
    subst hcase
    by_cases hc : cancelCaptured s w = true
    · obtain ⟨m, hm⟩ := finish_frame (leaveSleep s) w stAborted []
      rw [if_pos hc, hm, leaveSleep_eq hw, hc]
      exact ⟨rfl, fun h => (by cases h), fun _ => ⟨rfl, rfl, rfl⟩⟩
    · obtain ⟨h1, ⟨h2, h3⟩, h4, ⟨h5, h6, h7⟩, h8, h9⟩ := goToSleep_slept w s
      rw [if_neg hc]
      exact ⟨h1, fun _ => ⟨h2, h3, h4, h5, h6, h7, h8, h9⟩, fun h => absurd h hc⟩
  · refine (onBus_service hp hst _).trans ?_
    rw [if_neg (by rw [hm]; exact Bool.false_ne_true)]
  · refine (live_service hp hst _).trans ?_
    simp only [hf, hm, Bool.not_true, Bool.false_eq_true, if_false]
  · refine (live_service hp hst _).trans ?_
    simp only [hf, hm, Bool.not_true, Bool.false_eq_true, if_false]
  · refine ⟨_, live_service hp hst _, ?_⟩
    simp only [hf, hm, Bool.not_true, Bool.false_eq_true, if_false]
    rw [if_neg hv]
    change tget 0 (reply (monoRaised t (bits (k.word 0) 0 4)) k stDone _).vault.mono _ = _ ∧ (∀ j, j ≠ _ →
      tget 0 (reply (monoRaised t (bits (k.word 0) 0 4)) k stDone _).vault.mono j = _) ∧ Answered t k (reply (monoRaised t (bits (k.word 0) 0 4)) k stDone _) stDone _
    obtain ⟨m, hm⟩ := reply_frame (monoRaised t (bits (k.word 0) 0 4)) k stDone (monoWords (tget 0 t.vault.mono (bits (k.word 0) 0 4) + 1))
    have hrun := started_running hst
    have ha := (reply_answered (t := monoRaised t (bits (k.word 0) 0 4)) hrun stDone
      (monoWords (tget 0 t.vault.mono (bits (k.word 0) 0 4) + 1))).1
    rw [hm] at ha ⊢
    exact ⟨tget_tset_same _ _ _ _, fun j hj => tget_tset_ne _ _ _ hj, ha⟩
  · refine (live_service hp hst _).trans ?_
    simp only [hf, hm, hv, Bool.not_true, Bool.false_eq_true, if_false, if_true]
  · refine (onBus_service hp hst _).trans ?_
    have hl2 : ¬((descAt k 0).len ≠ 56 ∨ (descAt k 4).len < 4433) := by omega
    simp only [hf, hd, hv, he, if_neg (Nat.not_le.2 hn), if_neg hl2, ticketed_free hi, Bool.not_true, Bool.false_eq_true, if_false, ne_eq,
      not_true_eq_false, Option.isSome_none]
    rw [startEnroll, hread]

end Sys2Proof.Proofs
end

section
/-!
PROOF. Requests to the residue arithmetic engine (R316, R317, R319, R334, R337).
-/
namespace Sys2Proof.Proofs

open Sys2Proof Sys2Proof.Machine Sys2Proof.Safety Sys2Proof.Laws

theorem acceptRunning_frame (s : State) (c i : Nat) : ∃ m, acceptRunning s c i = { s with mbox := m } := by
  rw [acceptRunning]
  cases (chanAt s c).running with
  | none => exact ⟨s.mbox, rfl⟩
  | some r => exact ⟨_, rfl⟩

/-! ### Posting (R316, R317) -/

theorem exec_engine {s t t1 : State} {bus : Bus} {k : Call} {op : Nat} {row : Instr} (hrow : exec row s = onBus s bus (rnsRequest op))
    (hp : powered s = true) (h : Started { s with bus := bus } op k t) (hf : rnsFieldsOk k = true) :
    (∀ key, rnsRefusal t k = (.ok key, t1) → exec row s = .next (ended s (ticketed t1 k (rnsPost k key)))) ∧
    (∀ st, rnsRefusal t k = (.error st, t1) → exec row s = .next (ended s (reply t1 k st []))) := by
  refine ⟨fun key hr => hrow.trans ((onBus_service hp h _).trans ?_), fun st hr => hrow.trans ((onBus_service hp h _).trans ?_)⟩
  · simp only [hf, Bool.not_true, Bool.false_eq_true, if_false, hr]
  · simp only [hf, Bool.not_true, Bool.false_eq_true, if_false, hr]

theorem bankJob_append {s : State} {j : RnsJob} (hj : j.bank = none) (n b : Nat) :
    bankJob { s with rns := { s.rns with jobs := s.rns.jobs ++ [j], next := n } } b = bankJob s b := by
  show (s.rns.jobs ++ [j]).find? _ = _
  rw [List.find?_append, List.find?_cons_of_neg (by rw [hj]; simp), List.find?_nil, Option.or_none]
  rfl

theorem preempt_freeBank {s : State} (h : (freeBank s).isSome = true) (commit : Option Nat) : preempt s commit = s := by
  rw [preempt, if_pos h]

/-- A queued job needs no bank yet: nothing is pre-empted for it while one is free. -/
theorem preempt_queued {s : State} {j : RnsJob} (hj : j.bank = none) (h : (freeBank s).isSome = true) (n : Nat) :
    preempt { s with rns := { s.rns with jobs := s.rns.jobs ++ [j], next := n } } none =
      { s with rns := { s.rns with jobs := s.rns.jobs ++ [j], next := n } } := by
  refine preempt_freeBank ?_ none
  rw [freeBank]
  simp only [bankJob_append hj]
  exact h

/-! ### RNS_LANE_ABORT (R334) -/

/-- A job's end leaves every other job's ticket. -/
theorem finish_other {s : State} {w : Caller} {c i : Nat} (h : w ≠ .ticket c i) (st : BitVec 8) (ws : List W32) :
    tfind (chanAt (finish s w st ws) c).tickets i = tfind (chanAt s c).tickets i := by
  cases w with
  | running d =>
    show tfind (chanAt (answerRunning s d st ws) c).tickets i = _
    rw [answerRunning]
    cases (chanAt s d).running with
    | none => rfl
    | some r =>
      dsimp only
      rw [chanAt_setChan]
      split_ifs with hc
      · rw [hc]
      · rfl
  | ticket d j =>
    show tfind (chanAt (endTicket s d j st ws) c).tickets i = _
    rw [endTicket]
    cases hj : tfind (chanAt s d).tickets j with
    | none => rfl
    | some x =>
      dsimp only
      split_ifs
      · rfl
      · rw [raiseBell, chanAt_setChan_same, chanAt_setChan]
        split_ifs with hc
        · subst hc
          exact tfind_tput_ne _ _ fun hi => h (by rw [hi])
        · rw [chanAt_setChan_ne _ _ hc]

/-- A queued job with no bank, key or coupling ends at once. -/
theorem endJob_queued {s : State} {j : RnsJob} (hj : s.rns.jobs = [j]) (hb : j.bank = none) (hc : s.rns.coupling = none) (hw : s.keys.wkr = none)
    {st : BitVec 8} (hst : st ≠ stDone) (words : List W32) : endJob s j st words =
      settleAborts (finish (count { s with rns := { s.rns with jobs := [] } } 0x78E0 1) j.caller st words) j.id := by
  have h1 : dropWkr s j.id = s := by rw [dropWkr, hw]
  have h2 : dropCoupling s j.id = s := by rw [dropCoupling, hc]
  have h3 : offLanes s j = s := by rw [offLanes, hb, if_neg (by simp)]
  rw [endJob]
  dsimp only
  rw [h1, h2, h3, hj, if_neg hst, List.filter_cons_of_neg (by simp), List.filter_nil]

theorem settleAborts_single {s : State} {id : Nat} {w : Caller} (h : s.rns.aborts = [{ ids := [id], caller := w }]) :
    settleAborts s id = finish { s with rns := { s.rns with aborts := [] } } w stDone [] := by
  rw [settleAborts]
  dsimp only
  rw [h]
  simp

theorem laneAbort_none {s : State} {l : Nat} (h : ∀ j ∈ s.rns.jobs, j.lane ≠ l) (w : Caller) : laneAbort l w s = finish s w stDone [] := by
  rw [laneAbort, List.filter_eq_nil_iff.2 fun j hj => by simpa using h j hj]
  rfl

theorem abortJobs_queued {u : State} {j : RnsJob} (hj : u.rns.jobs = [j]) (hq : j.phase = .queued) {p : RnsJob → Option Nat} {d : Nat}
    (hp : p j = some d) (st : BitVec 8) : abortJobs u st p = endJob u j st (failWords d false) := by
  rw [abortJobs, hj, List.foldl_cons, List.foldl_nil, hp, hj, List.find?_cons_of_pos (by simp)]
  dsimp only
  rw [abortJob, hq]

/-- What the abort of a lane's one queued job leaves before the command itself is answered. -/
structure LaneAborted (s u : State) (j : RnsJob) : Prop where
  rns : u.rns.jobs = [] ∧ u.rns.aborts = []
  tickets : ∀ c i, j.caller ≠ .ticket c i → tfind (chanAt u c).tickets i = tfind (chanAt s c).tickets i
  count : counter u 0x78E0 = counter s 0x78E0 + 1

theorem laneAbort_queued {s : State} {l : Nat} {j : RnsJob} (hj : s.rns.jobs = [j]) (hl : j.lane = l) (hq : j.phase = .queued)
    (hb : j.bank = none) (ha : s.rns.aborts = []) (hc : s.rns.coupling = none) (hw : s.keys.wkr = none) (w : Caller) :
    ∃ u, laneAbort l w s = finish u w stDone [] ∧ LaneAborted s u j := by
  have hp : decide (j.lane = l) = true := decide_eq_true hl
  have hids : (s.rns.jobs.filter (fun x => decide (x.lane = l))).map RnsJob.id = [j.id] := by
    rw [hj, List.filter_singleton, hp]
    rfl
  obtain ⟨s1, hs1⟩ : ∃ s1, { s with rns := { s.rns with aborts := [{ ids := [j.id], caller := w }] } } = s1 := ⟨_, rfl⟩
  have hab : laneAbort l w s = endJob s1 j stAborted (failWords 0xFF false) := by
    rw [laneAbort]
    dsimp only
    rw [hids, if_neg (by simp), ha, List.nil_append, hs1]
    exact abortJobs_queued (by rw [← hs1]; exact hj) hq (if_pos hp) stAborted
  obtain ⟨s2, hs2⟩ : ∃ s2, count { s1 with rns := { s1.rns with jobs := [] } } 0x78E0 1 = s2 := ⟨_, rfl⟩
  obtain ⟨m, hm⟩ := finish_frame s2 j.caller stAborted (failWords 0xFF false)
  have hother (c i : Nat) (h : j.caller ≠ .ticket c i) : tfind (chanAt { s2 with mbox := m } c).tickets i = tfind (chanAt s c).tickets i := by
    rw [← hm, finish_other h, ← hs2, ← hs1]
    rfl
  have hrns : s2.rns = { s.rns with jobs := [], aborts := [{ ids := [j.id], caller := w }] } := by
    rw [← hs2, count_rns, ← hs1]
  refine ⟨{ s2 with mbox := m, rns := { s2.rns with aborts := [] } }, ?_, ⟨congrArg Rns.jobs hrns, rfl⟩, hother, ?_⟩
  · rw [hab, endJob_queued (by rw [← hs1]; exact hj) hb (by rw [← hs1]; exact hc) (by rw [← hs1]; exact hw) (by decide), hs2, hm]
    exact settleAborts_single (congrArg Rns.aborts hrns)
  · show counter s2 0x78E0 = _
    rw [← hs2, ← hs1, counter_count, if_pos rfl]
    rfl

/-- A job joins the queue. -/
def jobQueued (s : State) (j : RnsJob) : State := { s with rns := { s.rns with jobs := s.rns.jobs ++ [j], next := s.rns.next + 1 } }

/-- The job that a request posts. -/
def postedJob (k : Call) (key : Option (W32 × Handle)) (w : Caller) (s : State) : RnsJob :=
  { id := s.rns.next, op := opcodeOf k.req.w0, set := bits (k.word 0) 0 4, prio := bits (k.word 0) 8 2, lane := k.lane, payer := workLane s k
    caller := w, key := key, since := s.pace.now
    descs := (descWords (opcodeOf k.req.w0)).map (fun i => ({ ctx := (descAt k i).ctx, addr := (descAt k i).addr, len := (descAt k i).len
                                                              epoch := (ctxAt s (descAt k i).ctx).epoch } : JobDesc)) }

theorem rnsPost_queues {k : Call} {key : Option (W32 × Handle)} {w : Caller} {s : State} (h : (freeBank s).isSome = true) :
    rnsPost k key w s = jobQueued s (postedJob k key w s) := preempt_queued (s := s) (j := postedJob k key w s) rfl h (s.rns.next + 1)

/-- Settles O54: a request's checks lead to the queue or to its answer, and a lane's abort to the end of its queued job. -/
theorem engineRequests : Obligations.EngineRequests := by
  unfold Obligations.EngineRequests
  intro s bus k t hp
  refine ⟨fun x hx hst hf => ?_, fun hst => live_service hp hst _, fun i hst hf hi => ⟨fun hj => ?_, fun j hj hl hq hb hne ha hc hw => ?_⟩⟩
  · have hrow : exec x.2 s = onBus s bus (rnsRequest x.1) := by
      simp only [List.mem_cons, List.not_mem_nil, or_false] at hx
      rcases hx with rfl | rfl | rfl | rfl | rfl | rfl | rfl | rfl <;> rfl
    refine ⟨fun key t1 i hr hi hb => ?_, fun st t1 hr => ?_⟩
    · obtain ⟨m, hm⟩ := acceptRunning_frame t1 k.ch i
      rw [(exec_engine hrow hp hst hf).1 key hr, ticketed_free hi, hm, rnsPost_queues (by exact hb), postedJob, hst.opcode]
      rfl
    · exact (exec_engine hrow hp hst hf).2 st hr
  · obtain ⟨m, ha, hrun⟩ := started_ticket hst i
    refine ⟨_, onBus_service hp hst _, ?_⟩
    simp only [hf, Bool.not_true, Bool.false_eq_true, if_false, ticketed_free hi, ha]
    rw [laneAbort_none (by exact hj)]
    obtain ⟨hend, m', hm'⟩ := ticket_ends hrun (u := { t with mbox := m }) rfl stDone []
    obtain ⟨c, hs⟩ := started_start hst
    refine ⟨hend, mailOnly_of hs ?_⟩
    rw [hm']
  · obtain ⟨m, hacc, ⟨x, hx, hn, -⟩, -⟩ := started_ticket hst i
    refine ⟨_, onBus_service hp hst _, ?_⟩
    simp only [hf, Bool.not_true, Bool.false_eq_true, if_false, ticketed_free hi, hacc]
    obtain ⟨u, hu, ⟨hjobs, haborts⟩, htick, hcount⟩ := laneAbort_queued (s := { t with mbox := m }) hj hl hq hb ha hc hw (.ticket k.ch i)
    obtain ⟨m', hm'⟩ := finish_frame u (.ticket k.ch i) stDone []
    have hend := (finish_ticket ((htick k.ch i hne).trans hx) hn stDone []).ticket
    rw [hu]
    refine ⟨?_, ?_, hend, ?_⟩
    · rw [hm']
      exact hjobs
    · rw [hm']
      exact haborts
    · rw [hm']
      have hsame := (started_mailOnly hst (u := t) rfl).2 0x78E0 (by omega) (by omega)
      exact Eq.trans (show _ = counter u 0x78E0 from rfl) (hcount.trans (congrArg (fun v => v + 1) hsame))

end Sys2Proof.Proofs
end

section
/-!
PROOF. The update commands (R386, R389 to R396).
-/
namespace Sys2Proof.Proofs

open Sys2Proof Sys2Proof.Machine Sys2Proof.Safety Sys2Proof.Laws

/-! ### The block's own work -/

/-- The block's own hashing draws free values, and is counted and charged. -/
theorem ownDigest_eq (s : State) (lane : Nat) : ∃ n c, ownDigest s lane = { s with free := n, cnt := c } := by
  rw [ownDigest]
  exact ⟨_, _, rfl⟩

/-! ### Reading staged octets and slots -/

theorem stagedOctets_eq (s : State) (off n : Nat) : ∃ c, (stagedOctets s off n).2 = { s with cnt := c } := ⟨_, rfl⟩

theorem readBundle_eq (s : State) : ∃ c, (readBundle s).2 = { s with cnt := c } := by
  obtain ⟨c1, h1⟩ := stagedOctets_eq s 0 64
  obtain ⟨c2, h2⟩ := stagedOctets_eq (stagedOctets s 0 64).2 64 (tableLen (stagedOctets s 0 64).1 - 64)
  exact ⟨c2, h2.trans (by rw [h1])⟩

theorem readItems_eq (xs : List Item) : ∀ s, (∃ c, (readItems xs s).2 = { s with cnt := c }) ∧ (readItems xs s).1.length = xs.length := by
  induction xs with
  | nil => exact fun s => ⟨⟨s.cnt, rfl⟩, rfl⟩
  | cons x xs ih =>
    intro s
    obtain ⟨c1, h1⟩ := stagedOctets_eq s x.off x.len
    obtain ⟨⟨c2, h2⟩, hl⟩ := ih (stagedOctets s x.off x.len).2
    exact ⟨⟨c2, h2.trans (by rw [h1])⟩, congrArg (· + 1) hl⟩

theorem slotContents_eq (s : State) (xs : List (Item × Octets)) (kind : Nat) (own : Nat × Nat) :
    ∃ c, (slotContents s xs kind own).2 = { s with cnt := c } := by
  rw [slotContents]
  cases xs.find? (fun x => decide (x.1.kind = kind)) with
  | none => exact ⟨_, rfl⟩
  | some x => exact ⟨s.cnt, rfl⟩

theorem changeDir_eq (s : State) (use : DirUse) (f : Directory → Directory) : ∃ n, changeDir s use f =
    { s with boot := { s.boot with dir := some (f (theDir s)) }, nvm := n } ∧ .directory (f (theDir s)) use ∈ n.ops :=
  nvmEnqueue_eq { s with boot := { s.boot with dir := some (f (theDir s)) } } _

/-! ### Activation (R391) -/

/-- An activation goes on to its next sector, or is prepared. -/
theorem activateNext_begins {s : State} (a : Activation) (hl : s.rcpt.load = none) :
    (activateNext s a).boot.progress = s.boot.progress ∧
    (∃ b, (activateNext s a).boot.activation = some b ∧ b.caller = a.caller ∧ b.digests = a.digests ∧
      (b.sectors ≠ [] → .activate ∈ (activateNext s a).nvm.ops)) := by
  rw [activateNext]
  dsimp only
  split_ifs with he hh
  · obtain ⟨n, hn, -⟩ := changeDir_eq { s with boot := { s.boot with activation := some { a with prepared := true } } } .prepared
      (fun d => { d with update := 1 })
    rw [hn]
    exact ⟨rfl, { a with prepared := true }, rfl, rfl, rfl, fun h => absurd (List.isEmpty_iff.1 he) h⟩
  · rw [loaderHolds] at hh
    dsimp only at hh
    rw [hl] at hh
    cases hh
  · obtain ⟨n, hn, hmem⟩ := nvmEnqueue_eq { s with boot := { s.boot with activation := some a } } .activate
    rw [hn]
    exact ⟨rfl, a, rfl, rfl, rfl, fun _ => hmem⟩

/-- What an activation that begins leaves. -/
structure ActivationBegun (u : State) (w : Caller) (n : Nat) : Prop where
  progress : u.boot.progress = 0
  job : ∃ a, u.boot.activation = some a ∧ a.caller = w ∧ a.digests.length = n ∧ (a.sectors ≠ [] → .activate ∈ u.nvm.ops)

theorem activationBegun (s : State) (w : Caller) (ss : List Sector) (ds : List (BitVec 384)) (hl : s.rcpt.load = none) :
    ActivationBegun (activateNext (ownDigest { s with boot := { s.boot with progress := 0 } } 0)
      { caller := w, sectors := ss, digests := ds, prepared := false }) w ds.length := by
  obtain ⟨n, c, h⟩ := ownDigest_eq { s with boot := { s.boot with progress := 0 } } 0
  rw [h]
  obtain ⟨hp, a, ha, hw, hd, hk⟩ := activateNext_begins (s := { s with boot := { s.boot with progress := 0 }, free := n, cnt := c })
    { caller := w, sectors := ss, digests := ds, prepared := false } hl
  exact ⟨hp, a, ha, hw, by rw [hd], hk⟩

theorem updateActivate_begins {w : Caller} {s s1 : State} {b : Bundle} (hr : readBundle s = (b, s1)) (hb : bundleOk s1 b = true)
    (hl : s.rcpt.load = none) : ActivationBegun (updateActivate w s) w b.items.length := by
  obtain ⟨c1, h1⟩ := readBundle_eq s
  rw [hr] at h1
  obtain ⟨⟨c2, h2⟩, hlen⟩ := readItems_eq b.items s1
  rw [updateActivate]
  dsimp only
  rw [hr]
  dsimp only
  rw [hb, if_neg (by simp)]
  rw [← hlen, ← List.length_map (f := fun o => BitVec.ofNat 384 (ofBe (sha384 o)))]
  refine activationBegun _ w _ _ ?_
  obtain ⟨c3, h3⟩ := slotContents_eq (readItems b.items s1).2 (b.items.zip (readItems b.items s1).1) 1 (fwSlot (readItems b.items s1).2
    (pairNo (theDir s1).pair))
  obtain ⟨c4, h4⟩ := slotContents_eq (slotContents (readItems b.items s1).2 (b.items.zip (readItems b.items s1).1) 1
    (fwSlot (readItems b.items s1).2 (pairNo (theDir s1).pair))).2 (b.items.zip (readItems b.items s1).1) 2 (cardSlot
    (slotContents (readItems b.items s1).2 (b.items.zip (readItems b.items s1).1) 1 (fwSlot (readItems b.items s1).2
    (pairNo (theDir s1).pair))).2 (pairNo (theDir s1).pair))
  have h : s1.rcpt.load = none := by
    rw [show s1 = _ from h1]
    exact hl
  rw [h4, h3, h2]
  exact h

/-! ### Confirmation (R395) -/

/-! ### The warm restart (R392) -/

theorem restartAnswer_frame (s : State) (r : Restart) (st : BitVec 8) (ws : List W32) : ∃ m, restartAnswer s r st ws = { s with mbox := m } := by
  rw [restartAnswer]
  cases r.caller with
  | none => exact ⟨s.mbox, rfl⟩
  | some w => exact finish_frame s w st ws

/-- What a restart that falls back to the confirmed pair records. -/
structure RanConfirmed (b : Boot) (f : Firmware) (why : Nat) (trial : Bool) : Prop where
  firmware : b.fwMeas = BitVec.ofNat 384 (ofBe f.meas) ∧ b.fwVersion = f.version
  fallback : b.fallback = trial
  event : b.fellBack = true ∧ b.eventReason = BitVec.ofNat 8 why
  dir : (b.dir.getD {}).update = 0 ∧ (b.dir.getD {}).stage = 0 ∧ (b.dir.getD {}).lastFallback = true

/-- The confirmed pair found good again: its firmware runs, and the directory says so. -/
theorem warmFallback_good {s u v : State} {r : Restart} {why : Nat} {f : Firmware} (hf : checkFirmware s (pairNo (theDir s).pair) = (.ok f, u))
    (hs : checkServices (extendNow u 1 f.meas).2 (pairNo (theDir s).pair) f = (true, v)) :
    RanConfirmed (warmFallback s r why).boot f why r.trial := by
  rw [warmFallback, hf]
  dsimp only
  rw [hs]
  dsimp only
  rw [fellBack]
  obtain ⟨n, hn, -⟩ := changeDir_eq (requestExtend (bundleEvent (recordFirmware v (pairNo (theDir s).pair) f) (.fellBack why)) 4
    (updateDigest (recordFirmware v (pairNo (theDir s).pair) f) 0x04)) .plain (fun d => { d with update := 0, lastFallback := true, stage := 0 })
  rw [hn]
  clear hn
  generalize updateDigest (recordFirmware v (pairNo (theDir s).pair) f) 0x04 = d
  obtain ⟨m, hm⟩ := restartAnswer_frame { requestExtend (bundleEvent (recordFirmware v (pairNo (theDir s).pair) f) (.fellBack why)) 4 d with
    boot := { (requestExtend (bundleEvent (recordFirmware v (pairNo (theDir s).pair) f) (.fellBack why)) 4 d).boot with
      dir := some { theDir (requestExtend (bundleEvent (recordFirmware v (pairNo (theDir s).pair) f) (.fellBack why)) 4 d) with
        update := 0, lastFallback := true, stage := 0 }
      fallback := r.trial, reason := if r.trial then why else 0 }, nvm := n } r stUpdateFallback [BitVec.ofNat 32 why]
  rw [hm]
  exact ⟨⟨rfl, rfl⟩, rfl, ⟨rfl, rfl⟩, rfl, rfl, rfl⟩

theorem calibrateAgain_boot (s : State) : (calibrateAgain s).boot = s.boot := by
  rw [calibrateAgain]
  split_ifs <;> rfl

/-! ### The obligation -/

theorem releaseHeld_boot (s : State) (ds : List Dir) : (releaseHeld s ds).boot = s.boot := by
  have h (t : State) (d : Dir) : (releaseFrame t d).boot = t.boot := by
    obtain ⟨lu, ld, c, p, he⟩ := linksMove_releaseFrame t d
    rw [he]
  rw [releaseHeld]
  induction ds generalizing s with
  | nil => rfl
  | cons d ds ih => exact (ih _).trans (h s d)

theorem stageEnd_clears {s : State} {g : Staging} (hg : s.boot.staging = some g) (st : BitVec 8) : ∃ b, (stageEnd s st).boot = b ∧
    b = { s.boot with staging := none, dir := some { theDir s with stage := 0 } } := by
  rw [stageEnd, hg]
  dsimp only
  obtain ⟨n, hn, -⟩ := changeDir_eq { s with boot := { s.boot with staging := none } } .plain (fun d => { d with stage := 0 })
  rw [hn]
  have h := releaseHeld_boot { s with boot := { s.boot with staging := none, dir := some { theDir s with stage := 0 } }, nvm := n } g.held
  cases g.source with
  | none => exact ⟨_, rfl, h⟩
  | some x =>
    obtain ⟨m, hm⟩ := finish_frame (releaseHeld { s with boot := { s.boot with staging := none, dir := some { theDir s with stage := 0 } }, nvm := n }
      g.held) x.caller st []
    dsimp only
    exact ⟨_, rfl, (congrArg State.boot hm).trans h⟩

theorem exec_updateActivate {s t : State} {bus : Bus} {k : Call} {i : Nat} (hp : powered s = true) (hst : Started { s with bus := bus } 0x602 k t)
    (hup : (theDir t).update = 0) (hstage : (theDir t).stage = 2) (hl : t.rcpt.load = none) (ha : t.boot.activation = none)
    (hi : freeTicket (chanAt t k.ch) = some i) :
    exec (.updateActivate bus) s = .next (ended s (updateActivate (.ticket k.ch i) (acceptRunning t k.ch i))) := by
  refine (onBus_service hp hst _).trans ?_
  rw [if_neg (by rw [hup, hstage]; simp), hl, ha, if_neg (by simp), ticketed_free hi]

theorem updateActivate_fails {w : Caller} {s s1 : State} {b : Bundle} (hr : readBundle s = (b, s1)) (hb : bundleOk s1 b = false) :
    updateActivate w s = finish s1 w stBundleFormat [] := by
  rw [updateActivate]
  dsimp only
  rw [hr]
  dsimp only
  rw [hb, if_pos (by simp)]

/-- The programs that a confirmation asks of the OTP. -/
def confirmOps (s : State) : List OtpOp := raiseCounter otpFwCounter s.boot.fwOtp.toNat (trialArbs s).1 ++
  raiseCounter otpCardCounter s.boot.cardOtp.toNat (trialArbs s).2

theorem confirmBegin_raises {s : State} {w : Caller} (hc : s.boot.confirming = some w) (ho : otpWaits s .confirm = false)
    (hd : dirWriting s = false) (hf : (trialArbs s).1 ≤ 255) (hk : (trialArbs s).2 ≤ 255) (hne : confirmOps s ≠ []) :
    confirmBegin s = otpEnqueue s (confirmOps s) := by
  have hw : confirmWaits s = true := by rw [confirmWaits, hc, ho, hd]; rfl
  rw [confirmBegin, hc]
  dsimp only
  rw [if_pos hw, confirmStep1]
  dsimp only
  rw [if_neg (by omega), ← confirmOps, if_neg (fun h => hne (List.isEmpty_iff.1 h))]

theorem started_rest {s t : State} {op : Nat} {k : Call} (h : Started s op k t) : t.otp = s.otp := by
  obtain ⟨c, hs⟩ := started_start h
  obtain ⟨-, rest, -, ht⟩ := startRequest_eq hs
  obtain ⟨n, hn, -⟩ := controllerWork_eq s (workLane s k)
  rw [ht, hn]
  rfl

/-- Settles O45: each command's checks lead to what it asks of the flash, the OTP and the directory. -/
theorem updateCommands : Obligations.UpdateCommands := by
  unfold Obligations.UpdateCommands
  intro s bus k t i hp
  refine ⟨fun h total t1 t2 hst hf hd hfree hl hi hread hhead hlen hmay => ?_, fun b t1 hst hup hstage hl ha hi hr => ⟨fun hb => ?_, fun hb => ?_⟩,
    fun hst hup hc hr hi how hdw => ?_, fun hst hup hc hi => ?_, fun hst hup ha hs => ?_, fun g t1 hst hf hd hg hlen hi => ?_,
    fun hst h => ?_, fun hst h => ?_, fun g hg hlate => ?_, fun r f u v hr htr => ?_⟩
  · refine (onBus_service hp hst _).trans ?_
    simp only [hf, hd, hfree, hl, Bool.not_true, Bool.false_eq_true, if_false, Option.isSome_none, ticketed_free hi]
    rw [updateStage, hread]
    dsimp only
    rw [hhead]
    dsimp only
    rw [if_neg (not_not.2 hlen), hmay, if_neg (by simp)]
  · refine ⟨_, exec_updateActivate hp hst hup hstage hl ha hi, ?_⟩
    obtain ⟨m, hm⟩ := acceptRunning_frame t k.ch i
    have hload : (acceptRunning t k.ch i).rcpt.load = none := by rw [hm]; exact hl
    obtain ⟨h1, h2⟩ := updateActivate_begins (w := .ticket k.ch i) hr hb hload
    generalize updateActivate (.ticket k.ch i) (acceptRunning t k.ch i) = u at h1 h2 ⊢
    exact ⟨h1, h2⟩
  · rw [exec_updateActivate hp hst hup hstage hl ha hi, updateActivate_fails hr hb]
  · intro ops hfw hcard hne
    refine ⟨_, onBus_service hp hst _, ?_⟩
    obtain ⟨m, hm⟩ := acceptRunning_frame t k.ch i
    rw [if_neg (not_not.2 hup), hc, hr, if_neg (by simp), ticketed_free hi, hm]
    rw [confirmBegin_raises (w := .ticket k.ch i) (by rfl) (by exact how) (by exact hdw) (by exact hfw) (by exact hcard) (by exact hne)]
    have hrest := started_rest hst
    have hotp : t.otp = s.otp := hrest
    exact ⟨rfl, hotp ▸ rfl, hotp ▸ rfl⟩
  · refine (onBus_service hp hst _).trans ?_
    rw [if_neg (not_not.2 hup), hc, if_neg (by simp), ticketed_free hi]
  · refine ⟨_, onBus_service hp hst _, ?_⟩
    obtain ⟨n, hn, hmem⟩ := changeDir_eq t .plain (fun d => { d with stage := 0 })
    rw [if_neg (not_not.2 hup), ha, if_neg (by simp), hs, if_neg (by simp), hn]
    have hrun := started_running hst
    have hans := (reply_answered (t := { t with boot := { t.boot with dir := some { theDir t with stage := 0 } }, nvm := n }) hrun stDone []).1
    obtain ⟨m, hm⟩ := reply_frame { t with boot := { t.boot with dir := some { theDir t with stage := 0 } }, nvm := n } k stDone []
    rw [hm] at hans ⊢
    exact ⟨rfl, hmem, hans⟩
  · refine (onBus_service hp hst _).trans ?_
    simp only [hf, hd, hg, if_neg (Nat.not_lt.2 hlen), Bool.not_true, Bool.false_eq_true, if_false, ticketed_free hi]
    obtain ⟨m, hm⟩ := acceptRunning_frame t1 k.ch i
    rw [hm]
    rfl
  · refine (onBus_service hp hst _).trans ?_
    rw [if_pos h]
  · refine (onBus_service hp hst _).trans ?_
    rw [if_pos h]
  · have hrow : exec .stageAborted s = .next (ended s (stageEnd (bundleEvent s .aborted) stStageAborted)) := by
      rw [show exec .stageAborted s = execStageAborted s from rfl, execStageAborted, live_powered s hp, hg]
      dsimp only
      rw [if_pos hlate]
    obtain ⟨b, hb, hv⟩ := stageEnd_clears (s := bundleEvent s .aborted) hg stStageAborted
    refine ⟨_, hrow, ?_⟩
    subst hv
    simp only [theDir, ended_boot, hb]
    exact ⟨trivial, rfl, rfl, rfl⟩
  · intro s0 s1 hf hs
    have hrow : exec (.warmRestart bus) s = .next (ended s (warmRestart { s with bus := bus } r)) := by
      rw [show exec (.warmRestart bus) s = execWarmRestart bus s from rfl, execWarmRestart, onBus_powered s hp]
      dsimp only
      rw [hr]
    obtain ⟨⟨h1, h2⟩, h3, ⟨h4, h5⟩, h6⟩ := warmFallback_good (r := r) (why := r.reason) hf hs
    rw [htr] at h3
    refine ⟨_, hrow, ?_⟩
    have hboot : (warmRestart { s with bus := bus } r).boot = (warmFallback s1 r r.reason).boot := by
      rw [warmRestart]
      dsimp only
      rw [htr, if_neg Bool.false_ne_true, calibrateAgain_boot]
    simp only [theDir, ended_boot, hboot]
    exact ⟨h1, h2, h3, h4, h5, h6⟩

end Sys2Proof.Proofs
end

section
/-!
PROOF. How operations on flash, OTP and shares end (R46, R98, R287, R288, R298, R370, R387, R438).
-/
namespace Sys2Proof.Proofs

open Sys2Proof Sys2Proof.Machine Sys2Proof.Safety Sys2Proof.Laws

/-! ### The flash (R387) -/

theorem dqsSeen_ops (dqs : Bool) (s : State) : (dqsSeen dqs s).nvm.ops = s.nvm.ops := by
  have h : (dqsLost s).nvm.ops = s.nvm.ops := by
    rw [dqsLost]
    cases s.pace.calibrated <;> rfl
  rw [dqsSeen]
  split_ifs
  · exact h
  · rfl

/-- The operation in progress ends for the job that it belongs to. -/
theorem exec_nvmDone {s : State} (hp : powered s = true) (how : FlashEnd) (bus : Bus) :
    exec (.nvmOperationDone how bus) s = .next (ended s (nvmDone how.ok (dqsSeen how.dqs { s with bus := bus }))) :=
  onBus_powered (f := fun s => nvmDone how.ok (dqsSeen how.dqs s)) s hp

/-! ### The commit of a store image (R288) -/

theorem exec_keyStoreCommit {s : State} {bus : Bus} {r : Rewrite} {rs : List Rewrite} {rest : List NvmOp} (hp : powered s = true)
    (ho : s.nvm.ops = .store :: rest) (hr : s.keys.rewrites = r :: rs) :
    exec (.keyStoreCommit bus) s = .next (ended s (storeCommits (nvmPop { s with bus := bus }) r)) := by
  rw [show exec (.keyStoreCommit bus) s = execKeyStoreCommit bus s from rfl, execKeyStoreCommit, onBus_powered s hp]
  dsimp only
  rw [ho, hr]

/-- The state with the new image in flash and the vault's word beside it. -/
def storeCommitted (p : State) (r : Rewrite) (rs : List Rewrite) : State :=
  let stored := flashProgram p (inactiveRegion p).off (storeImage p (p.vault.storeGen + 1) (rewritten p.keys.store r))
  { stored with
    vault := { stored.vault with storeGen := p.vault.storeGen + 1 }
    keys := { stored.keys with
      store := rewritten p.keys.store r, activeRegion := !p.keys.activeRegion, inactiveErased := false, rewrites := rs } }

theorem commitStore_eq {p : State} {r : Rewrite} {rs : List Rewrite} (hr : p.keys.rewrites = r :: rs) : commitStore p r =
    nvmEnqueue (rewriteAnswer (fillKeyArea (digestKeys (rnsKeys (rewriteEvents (storeCommitted p r rs) p.keys.store r) stStaleEpoch))) r)
      (.eraseStore true) := by
  rw [commitStore, storeCommitted]
  dsimp only
  obtain ⟨f, c, h⟩ := flashProgram_eq p (inactiveRegion p).off (storeImage p (p.vault.storeGen + 1) (rewritten p.keys.store r))
  rw [h]
  dsimp only
  rw [hr, List.drop_one, List.tail_cons]

/-! ### The OTP array (R46) -/

/-- The program in progress taken off the queue, its bits set where it did not fail. -/
theorem exec_otpAck {s : State} (hp : powered s = true) (fail : Bool) (bus : Bus) :
    exec (.otpAck fail bus) s = .next (ended s (otpDone { s with bus := bus } (!fail))) :=
  onBus_powered (f := fun s => otpDone s (!fail)) s hp

/-- The program in progress, off the queue. -/
def otpTaken (s : State) (o : OtpOp) (rest : List OtpOp) (ok : Bool) : State :=
  let set := if ok then { s with otp := { s.otp with words := tset 0 s.otp.words o.word (otpWord s o.word ||| o.bits) } } else s
  { set with otp := { set.otp with queue := rest, since := clock s } }

theorem otpPop_taken {s : State} {o : OtpOp} {rest : List OtpOp} (h : s.otp.queue = o :: rest) (ok : Bool) :
    otpPop (if ok then otpSet s o.word o.bits else s) = otpTaken s o rest ok := by
  rw [otpPop, otpTaken]
  cases ok <;> simp only [Bool.false_eq_true, if_false, if_true, otpSet, h, List.drop_one, List.tail_cons, clock]

theorem otpDone_cancelled {s : State} {o : OtpOp} {rest : List OtpOp} {w : Caller} (h : s.otp.queue = o :: rest) (ok : Bool)
    (hc : otpCancelled (otpTaken s o rest ok) o.user = some w) : otpDone s ok = otpAborts (otpTaken s o rest ok) o.user w := by
  rw [otpDone, h]
  dsimp only
  rw [otpPop_taken h, hc]

theorem otpDone_goesOn {s : State} {o : OtpOp} {rest : List OtpOp} (h : s.otp.queue = o :: rest) (ok : Bool)
    (hc : otpCancelled (otpTaken s o rest ok) o.user = none) :
    (o.user = .transition → otpDone s ok = transitionProgram (otpTaken s o rest ok) ok) ∧
    (o.user = .confirm → otpDone s ok = confirmProgram (otpTaken s o rest ok) ok) ∧
    (∀ e, o.user = .reenroll → s.keys.enrolling = some e →
      otpDone s ok = if ok then enrollBit e (otpTaken s o rest ok) else enrollFails e (otpTaken s o rest ok)) := by
  have hk : (otpTaken s o rest ok).keys.enrolling = s.keys.enrolling := by
    rw [otpTaken]
    cases ok <;> rfl
  refine ⟨fun hu => ?_, fun hu => ?_, fun e hu he => ?_⟩ <;> rw [hu] at hc
  · simp only [otpDone, h, otpPop_taken h, hu, hc]
  · simp only [otpDone, h, otpPop_taken h, hu, hc]
  · simp only [otpDone, h, otpPop_taken h, hu, hc, hk, he]

theorem ite_bnot {α : Type} (b : Bool) (x y : α) : (if (!b) = true then x else y) = if b = true then y else x := by cases b <;> rfl

/-! ### The shares (R298) -/

theorem bedrock_refreshShares (s : State) : bedrock (refreshShares s) = bedrock s := by
  have h (a m : BitVec 256) : a ^^^ m ^^^ m = a := by rw [BitVec.xor_assoc, BitVec.xor_self, BitVec.xor_zero]
  exact h (bedrock s) (BitVec.ofNat 256 (drawRandom s).1.toNat)

/-- Settles O41: the front of each queue, and whether it was done, says what the operation's job does next. -/
theorem storageOperationsEnd : Obligations.StorageOperationsEnd := by
  unfold Obligations.StorageOperationsEnd
  intro s bus hp
  refine ⟨fun hr hv hd => ?_, fun ok dqs rest => ?_, fun d use rest h => ?_, fun r rs rest ho hr => ?_, fun fail o rest h => ?_⟩
  · refine ⟨_, live_powered (f := fun s => if s.keys.root = .bedrock ∧ s.vault.provisioned ∧ s.vault.refreshedAt + 1048576 ≤ s.pace.now then
      refreshShares s else s) s hp, ?_⟩
    dsimp only
    rw [if_pos ⟨hr, hv, hd⟩]
    exact ⟨bedrock_refreshShares s, rfl, rfl, rfl⟩
  · intro p to_
    have hrow (op : NvmOp) (h : s.nvm.ops = op :: rest) : (dqsSeen dqs { s with bus := bus }).nvm.ops = op :: rest :=
      (dqsSeen_ops dqs _).trans h
    have hto (x : State) (h : nvmDone ok (dqsSeen dqs { s with bus := bus }) = x) : to_ x := by
      show exec _ s = _
      rw [exec_nvmDone hp, h]
    refine ⟨fun off len c e a w h => hto _ ?_, fun l i d w h => hto _ ?_, fun sel data w h => hto _ ?_, fun data w h => hto _ ?_,
      fun w h => hto _ ?_, fun off data h => hto _ ?_, fun again h => hto _ ?_, fun h hok => hto _ ?_, fun h => hto _ ?_, fun h => hto _ ?_⟩
    all_goals
      rw [nvmDone, hrow _ h]
    rw [hok]
    exact if_neg Bool.false_ne_true
  · have hrow (ok : Bool) : exec (.directoryChange ok bus) s = .next (ended s (confirmBegin
        (if ok then dirChanged (writeDir (nvmPop { s with bus := bus }) d) use else dirFailed (nvmPop { s with bus := bus }) use))) := by
      rw [show exec (.directoryChange ok bus) s = execDirectoryChange ok bus s from rfl, execDirectoryChange, onBus_powered s hp]
      dsimp only
      rw [h]
    exact ⟨hrow true, hrow false⟩
  · intro p stored now filled
    have hp0 : p.keys.rewrites = r :: rs := hr
    obtain ⟨f, c, hs⟩ := flashProgram_eq p (inactiveRegion p).off (storeImage p (p.vault.storeGen + 1) (rewritten p.keys.store r))
    have hfill : commitStore p r = nvmEnqueue (rewriteAnswer filled r) (.eraseStore true) := commitStore_eq hp0
    refine ⟨fun hc => ?_, fun w hw hc => ?_⟩
    · rw [exec_keyStoreCommit hp ho hr, ← show p = nvmPop { s with bus := bus } from rfl, storeCommits]
      cases hcall : r.caller with
      | none =>
        dsimp only
        rw [if_pos rfl, hfill]
      | some w =>
        dsimp only
        rw [if_neg (by rw [hc w hcall]; exact Bool.false_ne_true), if_neg (by simp), hfill]
    · rw [exec_keyStoreCommit hp ho hr, ← show p = nvmPop { s with bus := bus } from rfl, storeCommits, hw]
      dsimp only
      rw [if_pos hc]
  · intro set p
    have hpt : p = otpTaken { s with bus := bus } o rest (!fail) := by
      cases fail <;> rfl
    rw [exec_otpAck hp, hpt]
    refine ⟨fun w hc => ?_, fun hc => ?_⟩
    · rw [otpDone_cancelled (by exact h) _ hc]
    · obtain ⟨h1, h2, h3⟩ := otpDone_goesOn (s := { s with bus := bus }) h (!fail) hc
      refine ⟨fun hu => by rw [h1 hu], fun hu => by rw [h2 hu], fun e hu he => ?_⟩
      rw [h3 e hu he, ite_bnot]

end Sys2Proof.Proofs
end

section
/-!
PROOF. The test access port (R57, R58, R437, R438, R443 to R446).
-/
namespace Sys2Proof.Proofs

open Sys2Proof Sys2Proof.Machine Sys2Proof.Safety Sys2Proof.Laws

/-! ### The block's services stopped -/

/-- With no custody traffic, cutting it off only marks it so. -/
theorem cutCustody_idle {s : State} (hr : s.cust.reqs = []) (hh : NoneHeld s) (hl : NoneLost s) : ∃ outs,
    cutCustody s = { s with cust := { s.cust with stopped := true, outs := outs } } := by
  rw [cutCustody, hr, List.map_nil]
  dsimp only
  have hc : CustodyIdle { s with cust := { s.cust with stopped := true, reqs := [], outs := s.cust.outs.map (fun v =>
    { v with reqs := v.reqs.filter (fun e => e.acked || decide (some e.tag = (onWire v).map EgReq.tag)) }) } } := ⟨rfl, hh, hl⟩
  rw [settle_idle hc, ← hr]
  exact ⟨_, rfl⟩

/-- Nothing that a restart of the firmware ends. -/
structure NothingRuns (s : State) : Prop where
  mail : s.mbox = []
  engines : s.rns.jobs = [] ∧ s.dig.slots = []
  pages : s.pages = []
  loader : s.rcpt.load = none
  sleep : s.keys.sleeping = none

theorem endAll_none {s : State} (h : s.mbox = []) (st : BitVec 8) (keep : Caller → Bool) : endAll s st keep = s := by
  rw [endAll, h]
  rfl

theorem rnsRestart_none {s : State} (h : s.rns.jobs = []) : rnsRestart s = s := by
  rw [rnsRestart, h]
  rfl

theorem digestRestart_none {s : State} (h : s.dig.slots = []) : digestRestart s = { s with dig := { s.dig with opens := [] } } := by
  rw [digestRestart, slotsWhere]
  dsimp only
  rw [h]
  rfl

/-- What a restart of the firmware leaves of a block in which nothing runs. -/
def unitsIdle (s : State) (keep : Caller → Bool) : State :=
  { s with
    dig := { s.dig with opens := [] }
    ctxs := s.ctxs.map (fun e => (e.1, { e.2 with releaseOn := none }))
    tiles := { s.tiles with fences := [] }
    relay := { s.relay with waits := [], bundles := s.relay.bundles.filter (fun b => keep b.caller)
                            segment := s.relay.segment.filter (fun g => g.who.isNone) } }

theorem unitsRestart_idle {s : State} (h : NothingRuns s) (keep : Caller → Bool) : unitsRestart s keep = unitsIdle s keep := by
  obtain ⟨hm, ⟨hj, hd⟩, hp, hl, hs⟩ := h
  have h1 : leaveSleep s = s := by rw [leaveSleep, hs, Option.isSome_none, if_neg Bool.false_ne_true]
  rw [unitsRestart, h1, endPages_idle _ _ hp, rnsRestart_none hj, digestRestart_none hd]
  dsimp only
  rw [hl]
  rfl

theorem restartJobs_idle {s : State} (h : NothingRuns s) (keep0 : Caller → Bool) : ∃ keep : Caller → Bool, restartJobs s keep0 =
    mapCallers (fun w => if keep w then w else nobody) (dropJobOps (unitsIdle s keep) keep) := by
  refine ⟨fun w => keep0 w || rnsQueued s w, ?_⟩
  rw [restartJobs]
  dsimp only
  rw [unitsRestart_idle h, endAll_none (by exact h.mail)]

theorem nothingRuns_of_quiet {s : State} (h : Quiet s) (hm : s.mbox = []) (hj : s.rns.jobs = []) (hd : s.dig.slots = []) : NothingRuns s where
  mail := hm
  engines := ⟨hj, hd⟩
  pages := h.pages
  loader := h.loader
  sleep := h.keys.2.2

/-- What stopping the services leaves of a quiet block. -/
structure Halted (s u : State) : Prop where
  stopped : u.lc.stopped = true ∧ u.cust.stopped = true
  life : u.lc.ir = s.lc.ir
  memory : u.dram = s.dram

theorem haltServices_quiet {s : State} (h : Quiet s) (hm : s.mbox = []) (hj : s.rns.jobs = []) (hd : s.dig.slots = []) :
    Halted s (haltServices s) := by
  obtain ⟨hreq, hlost, hbroken, hheld⟩ := h.custody
  obtain ⟨outs, hc⟩ := cutCustody_idle (s := { s with lc := { s.lc with stopped := true } }) hreq hheld ⟨hlost, hbroken⟩
  rw [haltServices, stopServices, hc]
  obtain ⟨mail, engines, pages, loader, sleep⟩ := nothingRuns_of_quiet h hm hj hd
  obtain ⟨keep, hk⟩ := restartJobs_idle (s := { s with lc := { s.lc with stopped := true }, cust := { s.cust with stopped := true, outs := outs } })
    ⟨mail, engines, pages, loader, sleep⟩ (fun _ => false)
  rw [hk]
  exact ⟨⟨rfl, rfl⟩, rfl, rfl⟩

/-! ### The march test (R445) -/

theorem loseCtxs_eq (xs : List Nat) : ∀ s, ∃ c n, xs.foldl loseCtx s = { s with ctxs := c, free := n } := by
  induction xs with
  | nil => exact fun s => ⟨_, _, rfl⟩
  | cons x xs ih =>
    intro s
    obtain ⟨c, n, h⟩ := ih (loseCtx s x)
    exact ⟨c, n, h⟩

theorem loseSrams_eq (s : State) : ∃ c n, loseSrams s = { s with
    ctxs := c, free := n, tree := { s.tree with lines := [] }, mapc := { s.mapc with lines := [] }, keys := { s.keys with cache := [] }
    rns := { s.rns with jobs := [] }, dig := { s.dig with slots := [] } } := by
  obtain ⟨c, n, h⟩ := loseCtxs_eq (List.range 16384) s
  rw [loseSrams, h]
  exact ⟨c, n, rfl⟩

theorem tapLoad_refused {s : State} {ir : BitVec 8} (h : tapPermitted s ir = false) :
    tapLoad s ir = violate { s with lc := { s.lc with ir := 0xFF, tapData := 0 } } pTap kAccessDenied none := by
  rw [tapLoad, h]
  exact if_pos rfl

/-- An instruction's register loaded. -/
def tapLoaded (s : State) (ir : BitVec 8) : State := { s with lc := { s.lc with ir := ir, tapData := tapCapture s ir } }

theorem tapLoad_permitted {s : State} {ir : BitVec 8} (h : tapPermitted s ir = true) : tapLoad s ir =
    if ir = 0x31 then haltServices (tapLoaded s ir)
    else if ir = 0x40 then
      let s2 := loseSrams (haltServices (tapLoaded s ir))
      { s2 with lc := { s2.lc with memTesting := true, memTest := 0 } }
    else tapLoaded s ir := by
  simp only [tapLoad, h, tapLoaded, Bool.not_true, Bool.false_eq_true, if_false]

theorem quiet_loaded {s : State} (h : Quiet s) (ir : BitVec 8) : Quiet (tapLoaded s ir) :=
  ⟨h.custody, h.pages, h.loader, h.rns, h.digest, h.storage, h.keys, h.opens, h.relay⟩

/-- The march test's end. -/
def memTestEnds (s : State) : State :=
  if s.lc.memTesting then { (drawFree s).2 with lc := { (drawFree s).2.lc with memTesting := false, memTest := (drawFree s).1 } } else s

/-- Settles O43: each instruction and access of the port, by what the life-cycle state permits. -/
theorem testAccessPort : Obligations.TestAccessPort := by
  unfold Obligations.TestAccessPort
  intro s hp
  refine ⟨fun ir => ⟨fun h => ?_, fun h h31 h40 => ?_⟩, ?_, ?_, ?_, fun _ => rfl, fun _ => rfl, fun hq hm hj hd => ⟨fun h => ?_, fun h => ?_⟩,
    fun h => ?_, fun a d hir => ⟨fun h ans => ?_, fun h => ?_, fun h => ⟨?_, ?_⟩, fun h ans => ?_⟩, fun hir => ⟨?_, ?_, ?_⟩,
    fun dr hir hb hz => ?_⟩
  · refine (live_powered (f := fun s => tapLoad s ir) s hp).trans ?_
    rw [tapLoad_refused h]
  · refine (live_powered (f := fun s => tapLoad s ir) s hp).trans ?_
    rw [tapLoad_permitted h, if_neg h31, if_neg h40, tapLoaded]
  · rw [tapCapture, if_pos rfl, idcode]
  · rw [tapCapture, if_neg (by decide), if_pos rfl]
  · rw [tapCapture, if_neg (by decide), if_neg (by decide)]
  · refine ⟨_, live_powered (f := fun s => tapLoad s 0x31) s hp, ?_⟩
    rw [tapLoad_permitted h, if_pos rfl]
    obtain ⟨⟨h1, h2⟩, h3, h4⟩ := haltServices_quiet (s := tapLoaded s 0x31) (quiet_loaded hq _) hm hj hd
    generalize haltServices (tapLoaded s 0x31) = u at h1 h2 h3 h4 ⊢
    exact ⟨h3, h1, h2, h4⟩
  · refine ⟨_, live_powered (f := fun s => tapLoad s 0x40) s hp, ?_⟩
    rw [tapLoad_permitted h, if_neg (by decide), if_pos rfl]
    obtain ⟨⟨h1, h2⟩, h3, h4⟩ := haltServices_quiet (s := tapLoaded s 0x40) (quiet_loaded hq _) hm hj hd
    generalize haltServices (tapLoaded s 0x40) = u at h1 h2 h3 h4 ⊢
    obtain ⟨c, n, hl⟩ := loseSrams_eq u
    dsimp only
    rw [hl]
    exact ⟨h3, h1, h2, rfl, rfl, rfl, rfl, rfl, h4⟩
  · refine ⟨_, live_powered (f := memTestEnds) s hp, ?_⟩
    rw [memTestEnds, if_pos h]
    exact ⟨rfl, rfl⟩
  · refine (live_powered (f := otpAccessRead a.toNat ans) s hp).trans ?_
    unfold otpAccessRead
    rw [if_neg (not_not.2 hir), if_pos h]
  · refine (live_powered (f := otpAccessRead a.toNat .ok) s hp).trans ?_
    unfold otpAccessRead
    rw [if_neg (not_not.2 hir), if_neg (by rw [h]; exact Bool.false_ne_true)]
  · refine (live_powered (f := otpAccessProgram a.toNat d .ok) s hp).trans ?_
    rw [otpAccessProgram, if_neg (not_not.2 hir), h, if_neg (by simp), otpSet]
  · refine (live_powered (f := otpAccessProgram a.toNat d .fail) s hp).trans ?_
    rw [otpAccessProgram, if_neg (not_not.2 hir), h, if_neg (by simp)]
  · refine (live_powered (f := otpAccessProgram a.toNat d ans) s hp).trans ?_
    unfold otpAccessProgram
    rw [if_neg (not_not.2 hir), h, if_pos (by simp), tapRefused]
  · refine (live_powered (f := coreDebug .halt) s hp).trans ?_
    rw [coreDebug, if_neg (not_not.2 hir)]
  · refine (live_powered (f := coreDebug .resume) s hp).trans ?_
    rw [coreDebug, if_neg (not_not.2 hir)]
  · refine (live_powered (f := coreDebug .step) s hp).trans ?_
    rw [coreDebug, if_neg (not_not.2 hir)]
  · intro target
    have hrow (x : State) (h : lcAccess dr s = x) : exec (.lcAccess dr) s = .next (ended s x) :=
      (live_powered (f := lcAccess dr) s hp).trans (by rw [h])
    have hopen : ¬(s.lc.ir ≠ 0x11 ∨ (!bit dr 136) = true ∨ bits dr 137 7 ≠ 0) := by rw [hir, hb, hz]; simp
    refine ⟨fun i hne hu hr => hrow _ ?_, fun e hne hu hr => hrow _ ?_, fun hne hu => hrow _ ?_, fun he hu => hrow _ ?_⟩
    · have hu' : ¬(s.lc.state = lcUndecoded ∧ target ≠ lcEnd) := fun ⟨h1, h2⟩ => h2 (hu h1)
      rw [lcAccess, if_neg hopen, if_neg hu', if_neg hne, hr]
      exact startTransition_eq s target i [] none
    · have hu' : ¬(s.lc.state = lcUndecoded ∧ target ≠ lcEnd) := fun ⟨h1, h2⟩ => h2 (hu h1)
      rw [lcAccess, if_neg hopen, if_neg hu', if_neg hne, hr]
    · rw [lcAccess, if_neg hopen, if_pos ⟨hu, hne⟩, tapRefused]
    · rw [lcAccess, if_neg hopen, if_neg (fun h => hu h.1), if_pos he]

end Sys2Proof.Proofs
end

section
/-!
SUPPORT. What a notice and a signature of the block's own leave: a notice changes the mailboxes alone; a signature draws values, counts,
and, where its check of itself fails, records it.
-/
namespace Sys2Proof.Proofs

open Sys2Proof Sys2Proof.Machine Sys2Proof.Safety Sys2Proof.Laws

/-! ### Notices -/

theorem mailOnly_foldl {α : Type} (f : State → α → State) (hf : ∀ t x, ∃ m, f t x = { t with mbox := m }) :
    ∀ (xs : List α) (s : State), ∃ m, xs.foldl f s = { s with mbox := m }
  | [], _ => ⟨_, rfl⟩
  | x :: xs, s => by
    obtain ⟨m, hm⟩ := hf s x
    obtain ⟨n, hn⟩ := mailOnly_foldl f hf xs (f s x)
    exact ⟨n, by rw [List.foldl_cons, hn, hm]⟩

theorem queueNotice_eq (s : State) (c : Nat) (ws : List W32) : ∃ m, queueNotice s c ws = { s with mbox := m } := by
  rw [queueNotice]
  split <;> exact ⟨_, rfl⟩

/-- A notice changes the mailboxes alone. -/
theorem faultNotice_eq (s : State) (n : Nat) (lane : Option Nat) (p c : Nat) : ∃ m, faultNotice s n lane p c = { s with mbox := m } := by
  have key (xs ys : List Nat) (ws : List W32) :
      ∃ m, xs.foldl (fun t c => queueNotice t c ws) (raiseBells s ys bellFault) = { s with mbox := m } := by
    obtain ⟨m, hm⟩ := mailOnly_foldl (fun t c => raiseBell t c bellFault) (fun t c => ⟨_, rfl⟩) ys s
    obtain ⟨k, hk⟩ := mailOnly_foldl (fun t c => queueNotice t c ws) (fun t c => queueNotice_eq t c ws) xs (raiseBells s ys bellFault)
    exact ⟨k, by rw [hk, raiseBells, hm]⟩
  unfold faultNotice
  exact key _ _ _

/-! ### Signatures -/

/-- Only values drawn, counters, the engine's record and the mailboxes differ. -/
def SignOnly (s t : State) : Prop :=
  ∃ (g f : Nat) (c : Table W64) (r : Rns) (m : Table Channel), t = { s with rng := g, free := f, cnt := c, rns := r, mbox := m }

theorem SignOnly.refl (s : State) : SignOnly s s := ⟨_, _, _, _, _, rfl⟩

theorem SignOnly.trans {s t u : State} (h : SignOnly s t) (k : SignOnly t u) : SignOnly s u := by
  obtain ⟨_, _, _, _, _, rfl⟩ := h
  obtain ⟨_, _, _, _, _, rfl⟩ := k
  exact ⟨_, _, _, _, _, rfl⟩

theorem signOnly_count (s : State) (off n : Nat) : SignOnly s (count s off n) := ⟨_, _, _, _, _, rfl⟩

theorem signOnly_drawFree (s : State) : SignOnly s (drawFree s).2 := ⟨_, _, _, _, _, rfl⟩

theorem signOnly_ownDigest (s : State) (lane : Nat) : SignOnly s (ownDigest s lane) := by
  obtain ⟨n, c, h⟩ := ownDigest_eq s lane
  exact ⟨_, _, _, _, _, h⟩

theorem signOnly_ownRns (s : State) (lane : Nat) (n : Nat × Nat) : SignOnly s (ownRns s lane n) :=
  (((signOnly_count s 0x78D8 n.1).trans (signOnly_count _ 0x78E0 n.2)).trans ((signOnly_ownDigest _ lane).trans (signOnly_drawFree _))).trans
    ((signOnly_count _ _ _).trans ((signOnly_count _ _ _).trans (signOnly_count _ _ _)))

theorem signOnly_selfcheckFails (s : State) (n : Nat) : SignOnly s (selfcheckFails s n) := by
  rw [selfcheckFails]
  obtain ⟨m, h⟩ := faultNotice_eq (rnsEvent (count s 0x78F0 1) (fun r => { r with selfcheck := true })) 0x07 none 0 n
  exact ⟨_, _, _, _, m, h⟩

theorem signOnly_ownSigned (s : State) (lane p : Nat) (g : Option Octets) (v : Octets → Bool) :
    SignOnly s (ownSigned s lane p g v).2 := by
  cases g with
  | none => exact signOnly_ownRns s lane (0, 1)
  | some o =>
    rw [ownSigned]
    split
    · exact signOnly_ownRns s lane (1, 0)
    · exact (signOnly_ownRns s lane (0, 1)).trans (signOnly_selfcheckFails _ _)

theorem signOnly_drawOctets (s : State) (n : Nat) : SignOnly s (drawOctets s n).2 := ⟨_, _, _, _, _, rfl⟩

theorem signOnly_drawScalar (c : Curve) : ∀ (f : Nat) (s : State), SignOnly s (drawScalar c f s).2
  | 0, s => signOnly_drawOctets s 64
  | f + 1, s => by
    rw [drawScalar]
    dsimp only
    split
    · exact signOnly_drawOctets s c.len
    · exact (signOnly_drawOctets s c.len).trans (signOnly_drawScalar c f _)

theorem signOnly_ecdsaSign (c : Curve) (d : Nat) (h : Octets) : ∀ (f n : Nat) (s : State), SignOnly s (ecdsaSign c d h f n s).2
  | 0, _, s => SignOnly.refl s
  | f + 1, n, s => by
    rw [ecdsaSign]
    dsimp only
    split
    · exact signOnly_drawScalar c 64 s
    · exact (signOnly_drawScalar c 64 s).trans (signOnly_ecdsaSign c d h f (n + 1) _)

theorem signOnly_mldsaSign (m : DsaSet) (xi ctx msg : Octets) (s : State) : SignOnly s (mldsaSign m xi ctx msg s).2 :=
  signOnly_drawOctets s 32

theorem signOnly_coseSign (s : State) (k : SignKeys) (typ : String) (o : Octets) : SignOnly s (coseSign s k typ o).2 := by
  delta coseSign
  dsimp only
  generalize he : ecdsaSign p384 k.d _ 256 0 s = e
  have h1 : SignOnly s e.2 := by
    rw [← he]
    exact signOnly_ecdsaSign _ _ _ _ _ _
  clear he
  obtain ⟨e, s1⟩ := e
  generalize hm : mldsaSign k.set k.xi [] _ s1 = m
  have h2 : SignOnly s m.2 := by
    rw [← hm]
    exact h1.trans (signOnly_mldsaSign _ _ _ _ _)
  clear hm
  obtain ⟨m, s2⟩ := m
  generalize ha : ownSigned s2 _ _ _ _ = a
  have h3 : SignOnly s a.2 := by
    rw [← ha]
    exact h2.trans (signOnly_ownSigned _ _ _ _ _)
  clear ha
  obtain ⟨a, s3⟩ := a
  generalize hb : ownSigned s3 _ _ _ _ = b
  have h4 : SignOnly s b.2 := by
    rw [← hb]
    exact h3.trans (signOnly_ownSigned _ _ _ _ _)
  clear hb
  obtain ⟨b, s4⟩ := b
  cases a <;> cases b <;> exact h4

theorem signOnly_signWaybill (s : State) (lane : Nat) (o : Octets) : SignOnly s (signWaybill s lane o).2 := by
  have h : ∀ g, g = signWaybill → SignOnly s (g s lane o).2 := by
    intro g hg
    delta signWaybill at hg
    rw [congrFun (congrFun (congrFun hg s) lane) o]
    exact signOnly_coseSign _ _ _ _
  exact h _ rfl

/-- A binding signed: the relay's record of it, and what a signature touches. -/
theorem signBinding_eq (s : State) : ∃ t b, SignOnly s t ∧ signBinding s = { t with relay := { t.relay with binding := b } } := by
  have h : ∀ g, g = signBinding → ∃ t b, SignOnly s t ∧ g s = { t with relay := { t.relay with binding := b } } := by
    intro g hg
    delta signBinding at hg
    have ht := congrFun hg s
    beta_reduce at ht
    have hx := signOnly_signWaybill s 0 (bindingClaims s)
    generalize signWaybill s _ _ = x at hx ht
    obtain ⟨o, s1⟩ := x
    exact ⟨s1, _, hx, ht⟩
  exact h _ rfl

end Sys2Proof.Proofs
end

section
/-!
PROOF. Reset, loss of supply and cold start (R59, R61, R381 to R383, R449, R472).
-/
namespace Sys2Proof.Proofs

open Sys2Proof Sys2Proof.Machine Sys2Proof.Safety Sys2Proof.Laws

/-! ### What step 1 of cold start leaves -/

/-- The pins, the boot phase, and the sources armed and high, which step 1 settles once. -/
def startHeld (s : State) : Pins × Nat × BitVec 8 × BitVec 8 × Bool :=
  (s.pins, s.boot.phase, s.tamper.arm, s.tamper.inputs, s.tamper.zeroize)

theorem startHeld_foldl {α : Type} (f : State → α → State) (hf : ∀ s x, startHeld (f s x) = startHeld s) :
    ∀ (xs : List α) (s : State), startHeld (xs.foldl f s) = startHeld s
  | [], _ => rfl
  | x :: xs, s => (startHeld_foldl f hf xs (f s x)).trans (hf s x)

theorem startHeld_ite {c : Prop} [Decidable c] {a b s : State} (ha : startHeld a = startHeld s) (hb : startHeld b = startHeld s) :
    startHeld (if c then a else b) = startHeld s := by
  split
  · exact ha
  · exact hb

theorem startHeld_otpSet3 (s : State) (a : Nat) (w : W32) : startHeld (otpSet3 s a w) = startHeld s := rfl

theorem startHeld_setGroup (s : State) (g : Nat) : startHeld (setGroup s g) = startHeld s := by
  rw [setGroup]
  split <;> rfl

theorem startHeld_transitionEffect (s : State) (target : BitVec 8) (input : Octets) :
    startHeld (transitionEffect s target input) = startHeld s := by
  rw [transitionEffect]
  split
  · rfl
  · split <;> rfl

theorem startHeld_seedWords (s : State) : startHeld (seedWords s).2 = startHeld s := by
  rw [seedWords]
  split <;> rfl

/-- The scramble seed and a bedrock where none stands, as a transition to PRODUCTION completed at start makes them. -/
theorem startHeld_provisioned (s : State) (n : Nat) (f : State → Octets) :
    startHeld (if s.vault.provisioned && checkMatches s then s else provision s (f s) n) = startHeld s := by
  split <;> rfl

theorem startHeld_otpSets (ws : List (Nat × W32)) (s : State) : startHeld (ws.foldl (fun t w => otpSet t w.1 w.2) s) = startHeld s :=
  startHeld_foldl (fun t w => otpSet t w.1 w.2) (fun _ _ => rfl) ws s

theorem startHeld_completeTransition (s : State) (k : Nat) (target : BitVec 8) (n : Nat) :
    startHeld (completeTransition s k target n) = startHeld s := by
  have h1 : startHeld (if n < 15 then otpSet3 s usedWord (BitVec.ofNat 32 (2 ^ n)) else s) = startHeld s := by split <;> rfl
  rw [completeTransition]
  generalize (if n < 15 then otpSet3 s usedWord (BitVec.ofNat 32 (2 ^ n)) else s) = s1 at h1 ⊢
  dsimp only
  have h2 : startHeld (if target = lcProduction then
      (if ((seedWords s1).1.foldl (fun t w => otpSet t w.1 w.2) (seedWords s1).2).vault.provisioned &&
          checkMatches ((seedWords s1).1.foldl (fun t w => otpSet t w.1 w.2) (seedWords s1).2)
        then (seedWords s1).1.foldl (fun t w => otpSet t w.1 w.2) (seedWords s1).2
        else provision ((seedWords s1).1.foldl (fun t w => otpSet t w.1 w.2) (seedWords s1).2)
          (keptInput ((seedWords s1).1.foldl (fun t w => otpSet t w.1 w.2) (seedWords s1).2)) 0)
      else transitionEffect s1 target []) = startHeld s := by
    split
    · rw [startHeld_provisioned _ 0 keptInput, startHeld_otpSets, startHeld_seedWords, h1]
    · rw [startHeld_transitionEffect, h1]
  split
  · rw [startHeld_setGroup, startHeld_otpSet3, h2]
  · rw [startHeld_otpSet3, h2]

/-- The copies of one decoded slot reprogrammed. -/
def repairSlot (s : State) (silent : List Nat) (t : State) (k : Nat) : State :=
  let t1 := match stateSlotOf s silent k with
    | some c => otpSet3 t (stateSlot k) (stateWord k c)
    | none => t
  match intentSlotOf s silent k with
  | some (c, n) => otpSet3 t1 (intentSlot k) (intentWord c n)
  | none => t1

/-- The state's compact group set, where it has one. -/
def groupSet (s : State) (st : BitVec 8) : State := (groupOfState st).elim s (setGroup s)

theorem repairSlots_eq (s : State) (silent : List Nat) (st : BitVec 8) :
    repairSlots s silent st = groupSet ((List.range 24).foldl (repairSlot s silent) s) st := by
  unfold repairSlots groupSet
  cases groupOfState st <;> rfl

theorem startHeld_groupSet (s : State) (st : BitVec 8) : startHeld (groupSet s st) = startHeld s := by
  rw [groupSet]
  cases groupOfState st with
  | none => rfl
  | some g => exact startHeld_setGroup s g

theorem startHeld_repairSlot (s : State) (silent : List Nat) (t : State) (k : Nat) : startHeld (repairSlot s silent t k) = startHeld t := by
  rw [repairSlot]
  have h (u : State) (a : Nat) (w : W32) : startHeld (otpSet3 u a w) = startHeld u := startHeld_otpSet3 u a w
  cases stateSlotOf s silent k with
  | none => cases intentSlotOf s silent k with
    | none => rfl
    | some x => exact h t _ _
  | some c => cases intentSlotOf s silent k with
    | none => exact h t _ _
    | some x => exact (h _ _ _).trans (h t _ _)

theorem startHeld_repairSlots (s : State) (silent : List Nat) (st : BitVec 8) : startHeld (repairSlots s silent st) = startHeld s := by
  rw [repairSlots_eq, startHeld_groupSet, startHeld_foldl (repairSlot s silent) (startHeld_repairSlot s silent) (List.range 24) s]

theorem startHeld_decodeLife (s : State) (silent : List Nat) : startHeld (decodeLife s silent) = startHeld s := by
  rw [decodeLife]
  split
  next done s1 heq =>
  have h : startHeld s1 = startHeld s := by
    refine (congrArg (fun x => startHeld x.2) heq).symm.trans ?_
    split
    · split
      · exact startHeld_completeTransition _ _ _ _
      · rfl
    · rfl
  split
  · exact h
  · exact (startHeld_repairSlots _ _ _).trans h

theorem startHeld_loadSpares : ∀ (xs : List (Nat × BitVec 4)) (s : State), startHeld (loadSpares s xs) = startHeld s
  | [], _ => rfl
  | (_, _) :: xs, _ => (startHeld_loadSpares xs _).trans rfl

theorem startHeld_silences (ws : List (BitVec 10)) (s : State) :
    startHeld (ws.foldl (fun t _ => violate (passPaces t 4096) pOtp kAckTimeout none) s) = startHeld s :=
  startHeld_foldl (fun t _ => violate (passPaces t 4096) pOtp kAckTimeout none) (fun _ _ => rfl) ws s

/-- The fuses read: NVM_RESET_N rises, and the OTP's tamper configuration is in force. -/
theorem startHeld_readLife (env : StartEnv) (s : State) : startHeld (readLife env s) =
    ({ s.pins with porstN := true, vddCore := true, nvmResetN := true }, s.boot.phase,
      BitVec.ofNat 8 (bits (otpWord s otpTamperCfg) 0 8), s.tamper.inputs, s.tamper.zeroize) := by
  rw [readLife]
  dsimp only
  refine Eq.trans (b := startHeld (env.otpSilent.foldl (fun t _ => violate (passPaces t 4096) pOtp kAckTimeout none) (decodeLife _ _))) rfl ?_
  rw [startHeld_silences, startHeld_decodeLife, startHeld_loadSpares]
  rfl

theorem startHeld_ownRns (s : State) (lane : Nat) (n : Nat × Nat) : startHeld (ownRns s lane n) = startHeld s := by
  simp only [startHeld, ownRns, ownDigest, chargePaces, chargeEnergy, drawFree, count_pins, count_tamper, count_boot]

theorem startHeld_lc (s : State) (l : Lc) : startHeld { s with lc := l } = startHeld s := rfl

theorem startHeld_loadDebug (s : State) : startHeld (loadDebug s) = startHeld s := by
  rw [loadDebug]
  refine startHeld_ite rfl ?_
  have hr (t : State) (off n : Nat) : startHeld (flashRead t off n).2 = startHeld t := rfl
  split
  next o s1 h1 =>
  have hs1 : startHeld s1 = startHeld s := (congrArg (fun x => startHeld x.2) h1).symm.trans (hr s debugSectors.1 16)
  refine startHeld_ite hs1 ?_
  split
  next o s2 h2 =>
  have hs2 : startHeld s2 = startHeld s :=
    (congrArg (fun x => startHeld x.2) h2).symm.trans ((hr s1 debugSectors.1 debugCertLen).trans hs1)
  exact (startHeld_lc _ _).trans ((startHeld_ownRns s2 _ _).trans hs2)

theorem startHeld_vaultWordRead (x : Bool × State) (r : Fin 64 × SramWord) : startHeld (vaultWordRead x r).2 = startHeld x.2 := by
  rw [vaultWordRead]
  split
  · split <;> rfl
  · split
    · rfl
    · split <;> rfl

theorem startHeld_vaultReads (rs : List (Fin 64 × SramWord)) : ∀ x : Bool × State,
    startHeld (rs.foldl vaultWordRead x).2 = startHeld x.2 := by
  induction rs with
  | nil => exact fun _ => rfl
  | cons r rs ih => exact fun x => (ih _).trans (startHeld_vaultWordRead x r)

theorem startHeld_voteControl (s : State) : startHeld (voteControl s).2 = startHeld s := by
  rw [voteControl]
  split
  · rfl
  · split <;> rfl

theorem startHeld_readVaultWords (env : StartEnv) (s : State) : startHeld (readVaultWords env s).2 = startHeld s := by
  rw [readVaultWords]
  split
  · rfl
  · exact (startHeld_voteControl _).trans (startHeld_vaultReads _ _)

theorem startHeld_readVault (env : StartEnv) (s : State) : startHeld (readVault env s).2 = startHeld s := by
  rw [readVault]
  dsimp only
  have h : startHeld (if sharesRead (readVaultWords env s).2 (readVaultWords env s).1 then refreshShares (readVaultWords env s).2
      else (readVaultWords env s).2) = startHeld s := by
    split
    · exact startHeld_readVaultWords env s
    · exact startHeld_readVaultWords env s
  split
  · exact h
  · split <;> exact h

theorem startHeld_chooseRoot (s : State) : startHeld (chooseRoot s) = startHeld s := by
  rw [chooseRoot]
  repeat' split
  all_goals rfl

theorem startHeld_extendNow (s : State) (j : Nat) (d : Octets) : startHeld (extendNow s j d).2 = startHeld s := by
  have hc (t : State) : startHeld (count t 0x7910 1) = startHeld t := rfl
  have hm (m : Milepost) : startHeld (setMilepost s j m) = startHeld s := rfl
  rw [extendNow]
  dsimp only
  rw [apply_ite Prod.snd]
  exact startHeld_ite rfl ((hc _).trans (hm _))

theorem startHeld_lifeExtend (s : State) : startHeld (lifeExtend s) = startHeld s := by
  rw [lifeExtend]
  exact startHeld_extendNow _ _ _

/-- No source is high. -/
theorem startSources_none {s : State} (hi : s.tamper.inputs = 0) (hz : s.tamper.zeroize = false) : startSources s = [] := by
  have hb (n : Nat) : bit (0 : BitVec 8) n = false := by simp [bit]
  rw [startSources, hi, hz, List.filter_eq_nil_iff.mpr (fun n _ => by rw [hb n]; exact Bool.false_ne_true)]
  rfl

theorem startTampers_none {s : State} (hi : s.tamper.inputs = 0) (hz : s.tamper.zeroize = false) :
    startTampers s = { s with pins := { s.pins with tamperOut := false } } := by
  rw [startTampers, startSources_none hi hz]
  rfl

/-- Step 1 with no source high: TAMPER_OUT falls, and the OTP's tamper configuration is in force. -/
theorem startHeld_startStep1 (env : StartEnv) {s : State} (hi : s.tamper.inputs = 0) (hz : s.tamper.zeroize = false) :
    startHeld (startStep1 env s).2 =
      ({ s.pins with porstN := true, vddCore := true, nvmResetN := true, tamperOut := false }, s.boot.phase,
        BitVec.ofNat 8 (bits (otpWord s otpTamperCfg) 0 8), s.tamper.inputs, s.tamper.zeroize) := by
  have h := (startHeld_loadDebug (readLife env s)).trans (startHeld_readLife env s)
  rw [startStep1]
  dsimp only
  rw [startHeld_lifeExtend, startHeld_chooseRoot, startHeld_readVault]
  generalize loadDebug (readLife env s) = u at h ⊢
  have hp : u.pins = _ := congrArg (fun x => x.1) h
  have hb : u.boot.phase = _ := congrArg (fun x => x.2.1) h
  have ha : u.tamper.arm = _ := congrArg (fun x => x.2.2.1) h
  have hin : u.tamper.inputs = s.tamper.inputs := congrArg (fun x => x.2.2.2.1) h
  have hze : u.tamper.zeroize = s.tamper.zeroize := congrArg (fun x => x.2.2.2.2) h
  rw [startTampers_none (hin.trans hi) (hze.trans hz)]
  simp only [startHeld, hp, ha, hb, hin, hze]

/-! ### What steps 7 and 8 leave -/

theorem ownRns_cust (s : State) (lane : Nat) (n : Nat × Nat) : (ownRns s lane n).cust = s.cust := by
  obtain ⟨_, _, _, _, _, h⟩ := signOnly_ownRns s lane n
  rw [h]

theorem startRelay_cust (s : State) : (startRelay s).cust.enabled = s.cust.enabled := by
  rw [startRelay]
  dsimp only
  generalize hu : (if bit (activeReg s 0x6000) 2 then _ else s) = u
  have h : u.cust = s.cust := by
    rw [← hu]
    split <;> rfl
  obtain ⟨t, b, ⟨_, _, _, _, _, ht⟩, he⟩ := signBinding_eq u
  rw [he, ht]
  exact congrArg Cust.enabled h

theorem extendNow_cust (s : State) (j : Nat) (d : Octets) : (extendNow s j d).2.cust = s.cust := by
  rw [extendNow]
  dsimp only
  rw [apply_ite Prod.snd, apply_ite State.cust]
  simp only [mpEvent, count_cust, setMilepost, ite_self]

theorem verifyGate_cust (s : State) (g : Gate) : (verifyGate s g).2.cust = s.cust := by
  delta verifyGate
  dsimp only [flashRead]
  generalize checkGate g _ = x
  obtain ⟨r, v, m⟩ := x
  generalize hs2 : (if r = 3 ∨ r = 7 then count s _ _ else ownRns (count s _ _) _ _) = s2
  have h2 : s2.cust = s.cust := by
    rw [← hs2, apply_ite State.cust, ownRns_cust, count_cust, ite_self]
  dsimp only
  rw [apply_ite Prod.snd, apply_ite State.cust]
  dsimp only
  rw [extendNow_cust, h2, ite_self]

theorem verifyGates_cust : ∀ (gs : List Gate) (s : State), (verifyGates gs s).2.cust = s.cust
  | [], _ => rfl
  | g :: gs, s => (verifyGates_cust gs _).trans (verifyGate_cust s g)

theorem startGates_cust (s : State) : (startGates s).cust = s.cust := by
  rw [startGates]
  split
  · exact verifyGates_cust _ _
  · rfl

/-- What a running block has after a start: services, custody and the election window. -/
structure BlockStarted (own : Own) (t : State) : Prop where
  phase : t.boot.phase = 6
  halt : t.boot.halt = 0 ∨ t.boot.halt = 4
  custody : t.cust.enabled = true
  owner : t.own = own

theorem blockStarted_changeDir {own : Own} {s : State} (h : BlockStarted own s) (u : DirUse) (f : Directory → Directory) :
    BlockStarted own (changeDir s u f) := by
  obtain ⟨n, he, -⟩ := changeDir_eq s u f
  rw [he]
  obtain ⟨hp, hh, hc, ho⟩ := h
  exact ⟨hp, hh, hc, ho⟩

theorem blockStarted_fellBack {own : Own} {s : State} (h : BlockStarted own s) (w : Nat) : BlockStarted own (fellBack s w) := by
  obtain ⟨hp, hh, hc, ho⟩ := h
  rw [fellBack]
  exact blockStarted_changeDir (s := requestExtend (bundleEvent s (.fellBack w)) 4 _) ⟨hp, hh, hc, ho⟩ _ _

theorem blockStarted_runDeferred {own : Own} {s : State} (h : BlockStarted own s) (d : Deferred) : BlockStarted own (runDeferred s d) := by
  cases d with
  | nothing => exact h
  | settled =>
    rw [runDeferred]
    exact blockStarted_changeDir h _ _
  | confirmed =>
    rw [runDeferred, confirmDir]
    exact blockStarted_changeDir h _ _
  | fellBack w =>
    rw [runDeferred]
    exact blockStarted_fellBack h w

/-- The election window as a start opens it. -/
def windowOpened (o : Own) : Own :=
  if o.cands.isEmpty then { o with phase := .noCandidate, remaining := 0 } else { o with phase := .window, remaining := 8192, claims := [] }

theorem openWindow_eq (s : State) : openWindow s = { s with own := windowOpened s.own } := by
  rw [openWindow, windowOpened]
  split <;> rfl

/-- Steps 7 and 8 once custody serves: the binding and the gates, the window, and the deferred work. -/
def startEnds (s : State) (d : Deferred) : State :=
  let s4 := startGates (startRelay s)
  let halt := if (startSources s4).isEmpty then 0 else 4
  runDeferred (openWindow { s4 with boot := { s4.boot with phase := 6, halt := halt, started := nowWord s4 } }) d

/-- The journal loaded, with custody in service. -/
def custodyServes (env : StartEnv) (moved : Bool) (c : Card) (s : State) : State :=
  let s2 := loadJournal (writeKeyArea (loadStore (startTree (applyCard env c s) moved) moved))
  { s2 with cust := { s2.cust with enabled := true } }

theorem finishStart_eq : finishStart = fun env moved c d s => startEnds (custodyServes env moved c s) d := by
  delta finishStart startEnds custodyServes
  rfl

theorem blockStarted_opens {s : State} (hs : s.cust.enabled = true) (n : Nat) (hn : n = 0 ∨ n = 4) :
    BlockStarted (windowOpened s.own) (openWindow { s with boot := { s.boot with phase := 6, halt := n, started := nowWord s } }) := by
  rw [openWindow_eq]
  exact ⟨rfl, hn, hs, rfl⟩

theorem blockStarted_startEnds {s : State} (hs : s.cust.enabled = true) (d : Deferred) :
    ∃ o, BlockStarted (windowOpened o) (startEnds s d) := by
  have h : (startGates (startRelay s)).cust.enabled = true := by rw [startGates_cust, startRelay_cust, hs]
  refine ⟨_, blockStarted_runDeferred (blockStarted_opens h _ ?_) d⟩
  exact ite_eq_or_eq _ 0 4

theorem blockStarted_finishStart (env : StartEnv) (moved : Bool) (c : Card) (d : Deferred) (s : State) :
    ∃ o, BlockStarted (windowOpened o) (finishStart env moved c d s) := by
  rw [finishStart_eq]
  exact blockStarted_startEnds rfl d

theorem coldStart_stays {env : StartEnv} {s s1 : State} {m : Bool} (h : startStep1 env s = (m, s1)) (hl : lcStarts s1.lc.state = false) :
    coldStart env s = s1 := by
  rw [coldStart, h]
  dsimp only
  rw [hl]
  rfl

theorem coldStart_noErase {env : StartEnv} {s s1 : State} {m : Bool} (h : startStep1 env s = (m, s1)) (hl : lcStarts s1.lc.state = true)
    (he : env.erase4k = false) : coldStart env s = { s1 with boot := { s1.boot with phase := 7, halt := 1 } } := by
  rw [coldStart, h]
  dsimp only
  rw [hl, he]
  rfl

theorem coldStart_noDirectory {env : StartEnv} {s s1 s2 : State} {m : Bool} (h : startStep1 env s = (m, s1))
    (hl : lcStarts s1.lc.state = true) (he : env.erase4k = true) (hd : readDirectory (count s1 0x7918 256) = (none, s2)) :
    coldStart env s = { s2 with boot := { s2.boot with phase := 7, halt := 1 } } := by
  rw [coldStart, h]
  dsimp only
  rw [hl, he, hd]
  rfl

theorem coldStart_noPair {env : StartEnv} {s s1 s2 s3 : State} {m : Bool} {d : Directory} {t : Tried} {later : Deferred}
    (h : startStep1 env s = (m, s1)) (hl : lcStarts s1.lc.state = true) (he : env.erase4k = true)
    (hd : readDirectory (count s1 0x7918 256) = (some d, s2))
    (ht : selectPair { s2 with boot := { s2.boot with dir := some d } } d = (t, later, s3)) (hr : t.runs = none) :
    coldStart env s = { s3 with boot := { s3.boot with phase := 7, halt := haltOf t.fails } } := by
  rw [coldStart, h]
  dsimp only
  rw [hl, he, hd]
  dsimp only
  rw [ht]
  dsimp only
  rw [hr]
  rfl

theorem coldStart_runs {env : StartEnv} {s s1 s2 s3 : State} {m : Bool} {d : Directory} {t : Tried} {later : Deferred} {k : Nat}
    {f : Firmware} {c : Card} (h : startStep1 env s = (m, s1)) (hl : lcStarts s1.lc.state = true) (he : env.erase4k = true)
    (hd : readDirectory (count s1 0x7918 256) = (some d, s2))
    (ht : selectPair { s2 with boot := { s2.boot with dir := some d } } d = (t, later, s3)) (hr : t.runs = some (k, f, c)) :
    coldStart env s = finishStart env m c later (recordPair s3 t k f c) := by
  rw [coldStart, h]
  dsimp only
  rw [hl, he, hd]
  dsimp only
  rw [ht]
  dsimp only
  rw [hr]
  rfl

theorem exec_coldStart {env : StartEnv} {bus : Bus} {s t : State} (hp : s.pins.porstN = false) (h : coldStart env { s with bus := bus } = t) :
    exec (.coldStart env bus) s = .next (ended { s with pins := { s.pins with porstN := true, vddCore := true } } t) := by
  rw [show exec (.coldStart env bus) s = execColdStart env bus s from rfl, execColdStart, h, if_neg (by rw [hp]; exact Bool.false_ne_true)]

theorem windowOpened_cands (o : Own) : (windowOpened o).cands = o.cands := by
  rw [windowOpened]
  split <;> rfl

/-- Settles O44: reset and the loss of supply keep what `clearVolatile` keeps; step 1 of a cold start settles the pins and the tamper
configuration once, the halting starts are `coldStart` read off, and the deferred work of a finished start leaves its phase, custody and
the election window. -/
theorem resetAndStart : Obligations.ResetAndStart := by
  unfold Obligations.ResetAndStart
  intro s env bus
  refine ⟨fun hp => ?_, fun hp => ?_, rfl, fun hp => ?_, fun hp => ?_⟩
  · refine ⟨porstFalls s, rfl, ?_⟩
    rw [porstFalls, if_pos hp]
    exact ⟨cleared_clearVolatile s false s.pins.vddCore, rfl, rfl, rfl, rfl, rfl, rfl⟩
  · refine ⟨powerFails s, by rw [show exec .powerFailure s = execPowerFailure s from rfl, execPowerFailure, if_pos hp], ?_⟩
    exact ⟨cleared_clearVolatile s s.pins.porstN false, rfl, rfl, rfl, rfl, rfl, rfl⟩
  · rw [show exec (.coldStart env bus) s = execColdStart env bus s from rfl, execColdStart, if_pos hp]
  · have hh := fun hi hz => startHeld_startStep1 env (s := { s with bus := bus }) hi hz
    rcases h : startStep1 env { s with bus := bus } with ⟨m, u⟩
    rw [h] at hh
    intro s1
    have hu : u = s1 := rfl
    clear_value s1
    subst hu
    refine ⟨fun hi hz hl => ⟨_, exec_coldStart hp (coldStart_stays h hl), ?_⟩,
      fun hl he => exec_coldStart hp (coldStart_noErase h hl he),
      fun s2 hl he hd => exec_coldStart hp (coldStart_noDirectory h hl he hd),
      fun d s2 t later s3 hl he hd ht => ⟨fun hr => exec_coldStart hp (coldStart_noPair h hl he hd ht hr), fun k f c hr => ?_⟩⟩
    · have hs := hh hi hz
      exact ⟨rfl, congrArg (fun x => x.1.nvmResetN) hs, congrArg (fun x => x.1.tamperOut) hs, congrArg (fun x => x.1.gates) hs,
        congrArg (fun x => x.2.2.1) hs, congrArg (fun x => x.2.1) hs⟩
    · obtain ⟨o, hb⟩ := blockStarted_finishStart env m c later (recordPair s3 t k f c)
      rw [← coldStart_runs h hl he hd ht hr] at hb
      refine ⟨_, exec_coldStart hp rfl, ?_⟩
      generalize coldStart env { s with bus := bus } = u at hb
      obtain ⟨hph, hha, hcu, how⟩ := hb
      refine ⟨rfl, hph, hcu, hha, fun hc => ?_, fun hc => ?_⟩
      · change u.own.cands = [] at hc
        rw [how, windowOpened_cands] at hc
        change u.own.phase = .noCandidate
        rw [how, windowOpened, hc]
        rfl
      · change u.own.cands ≠ [] at hc
        rw [how, windowOpened_cands] at hc
        have hw : u.own = { o with phase := .window, remaining := 8192, claims := [] } := by
          rw [how, windowOpened, if_neg (by simpa using hc)]
        exact ⟨congrArg Own.phase hw, congrArg Own.remaining hw, congrArg Own.claims hw⟩

end Sys2Proof.Proofs
end

section
/-!
PROOF. The advance of an epoch (R135, R137, R138, R207).
-/
namespace Sys2Proof.Proofs

open Sys2Proof Sys2Proof.Machine Sys2Proof.Safety Sys2Proof.Laws

/-! ### What DEPTH's recomputation leaves -/

/-- Only a context's DEPTH and its hold have changed, and what the memory accesses behind it touch. -/
structure DepthChanged (s t : State) (c : Nat) : Prop where
  record : ∃ d h, ctxAt t c = { ctxAt s c with depth := d, ledgerHold := h }
  chans : ∀ n, bareChan (chanAt t n) = bareChan (chanAt s n)
  lanes : ∀ l, (laneAt t l).state = (laneAt s l).state

theorem depthChanged_setCtx {s u : State} {c : Nat} (h : memRest u = memRest s) (d : BitVec 4) (o : Option Nat) :
    DepthChanged s (setCtx u c { ctxAt u c with depth := d, ledgerHold := o }) c where
  record := ⟨d, o, by rw [ctxAt_setCtx_same, ctxAt, ctxs_of_memRest h]; rfl⟩
  chans n := by
    rw [chanAt_setCtx]
    exact bareChan_of_memRest h n
  lanes l := by
    have hl : bareLane (laneAt u l) = bareLane (laneAt s l) := congrFun (congrArg (fun x => x.2.2) h) l
    have hq := congrArg Lane.state hl
    exact hq

theorem memRest_sweepFault (s : State) (c la : Nat) : (memRest (sweepFault s c la)).2 = (memRest s).2 ∧ (sweepFault s c la).ctxs = s.ctxs := by
  have h : memRest (exception (count s 0x7868 1) 0x0D (internalExc s srcBackground c la)) = memRest s := by
    rw [memRest_exception, memRest_count]
  have h2 := congrArg Prod.snd h
  have hc := ctxs_of_memRest h
  exact ⟨h2, hc⟩

theorem depthChanged_holdLedger {s u : State} {c : Nat} (h : memRest u = memRest s) : DepthChanged s (holdLedger u c) c := by
  obtain ⟨h2, hc⟩ := memRest_sweepFault u c (ledgerAddr u c)
  rw [holdLedger]
  generalize sweepFault u c (ledgerAddr u c) = w at h2 hc
  have hs : (memRest w).2 = (memRest s).2 := h2.trans (congrArg Prod.snd h)
  refine ⟨⟨15, some (w.bg.begun + 1), ?_⟩, fun n => ?_, fun l => ?_⟩
  · rw [ctxAt_setCtx_same, ctxAt, hc, ctxs_of_memRest h]
    rfl
  · rw [chanAt_setCtx]
    exact congrFun (congrArg Prod.fst hs) n
  · have hl : bareLane (laneAt w l) = bareLane (laneAt s l) := congrFun (congrArg Prod.snd hs) l
    have hq := congrArg Lane.state hl
    exact hq

/-- DEPTH recomputed from the ledger as it stands. -/
theorem depthChanged_ledgerChange {s : State} {c : Nat} (hh : (ctxAt s c).ledgerHold = none) (e : Nat) :
    DepthChanged s (ledgerChange s false c e id) c := by
  have hr := memRest_readOwnDma (s := s) (ledgerAddr s c)
  rw [ledgerChange, if_neg (by simp [hh])]
  unfold ledgerWords
  simp only [Bool.false_eq_true, if_false]
  rcases hx : readOwnDma s (ledgerAddr s c) with ⟨b | l, u⟩ <;> rw [hx] at hr
  · exact depthChanged_holdLedger hr
  · have hn : (ctxAt u c).ledgerHold = none := by
      rw [ctxAt, ctxs_of_memRest hr]
      exact hh
    have hd := depthChanged_setCtx (c := c) hr (BitVec.ofNat 4 (depthFrom (wordsOfOctets 16 (octetsOfLine l)) e)) (ctxAt u c).ledgerHold
    dsimp only [id]
    rw [if_pos rfl, withDepth, hn]
    rw [hn] at hd
    exact hd

theorem settleRelease_stays {s : State} {l : Nat} (h : (laneAt s l).state ≠ .releasing) : settleRelease s l = s := by
  rw [settleRelease]
  exact if_neg (fun x => h x.1)

/-! ### The answer of a release, and the advance -/

/-- A release answered: its channel waits no longer. -/
theorem answerRelease_eq {s : State} {c ch : Nat} {r : Req} (ho : (ctxAt s c).releaseOn = some ch) (hr : (chanAt s ch).running = some r) :
    answerRelease s c = setChan (setCtx s c { ctxAt s c with releaseOn := none }) ch { chanAt s ch with
      running := none
      responses := (chanAt s ch).responses ++ [response r.w0 false stDone
        [field 32 0 24 (ctxAt s c).epoch.toNat, flag 32 0 (decide ((ctxAt s c).depth = 15) || (ctxAt s c).ledgerHold.isSome)]] } := by
  rw [answerRelease]
  dsimp only
  rw [ho]
  dsimp only
  rw [answerRunning, chanAt_setCtx, hr]

/-- One context is due, and no lane waits to be closed. -/
theorem exec_epochAdvance {s : State} (hp : powered s = true) (bus : Bus) {c : Nat}
    (hd : tkeys s.ctxs (fun c _ => releaseDue s c) = [c]) (hl : tkeys s.lanes (fun _ v => v.state == .releasing) = []) :
    exec (.epochAdvance bus) s = .next (ended s (advanceCtx (answerRelease { s with bus := bus } c) c)) := by
  refine (onBus_powered (f := withClosings epochAdvance) s hp).trans ?_
  have h1 : epochAdvance { s with bus := bus } = advanceCtx (answerRelease { s with bus := bus } c) c := by
    rw [epochAdvance]
    exact (congrArg (fun xs => List.foldl (fun t c => advanceCtx (answerRelease t c) c) { s with bus := bus } xs) hd).trans rfl
  rw [withClosings, h1]
  dsimp only
  rw [hl]
  rfl

theorem advanceCtx_waits {s : State} {c : Nat} (hd : (ctxAt s c).depth = 15) : advanceCtx s c = s := by
  rw [advanceCtx]
  exact if_pos (.inr (.inl hd))

/-- The record of a context whose epoch advances, before DEPTH is recomputed. -/
def epochNext (v : Ctx) : Ctx :=
  { v with epoch := v.epoch + 1, keyGen := if v.epoch = 0xFFFFFF then v.keyGen + 1 else v.keyGen, held := 0, taint := false
           sealGroup := 0, sealFull := false, state := .free, closedAt := none, stuckPasses := 0 }

theorem advanceCtx_next {s : State} {c : Nat} {v : Ctx} (hv : ctxAt s c = v) (hs : v.state = .releasing) (hd : v.depth ≠ 15)
    (hh : v.ledgerHold = none) (h0 : v.held = 0) (he : ¬(v.epoch = 0xFFFFFF ∧ v.keyGen = 0xFF)) :
    advanceCtx s c = settleRelease (ledgerChange (setCtx s c (epochNext v)) false c (epochNext v).epoch.toNat id) v.lane.toNat := by
  rw [advanceCtx]
  dsimp only
  rw [hv, if_neg (by simpa [hs, hh] using hd), if_pos h0, hv, if_neg (by simp [hh]), if_neg he]
  rfl

theorem advanceCtx_retires {s : State} {c : Nat} {v : Ctx} (hv : ctxAt s c = v) (hs : v.state = .releasing) (hd : v.depth ≠ 15)
    (hh : v.ledgerHold = none) (h0 : v.held = 0) (he : v.epoch = 0xFFFFFF ∧ v.keyGen = 0xFF) :
    advanceCtx s c = settleRelease (setCtx s c { v with state := .retired, held := 0, closedAt := none }) v.lane.toNat := by
  rw [advanceCtx]
  dsimp only
  rw [hv, if_neg (by simpa [hs, hh] using hd), if_pos h0, hv, if_neg (by simp [hh]), if_pos he]

/-- Settles O37: the one context due is answered; its advance changes its record, whose DEPTH alone the ledger gives, and neither the
channel nor a lane's state. -/
theorem epochAdvances : Obligations.EpochAdvances := by
  unfold Obligations.EpochAdvances
  intro s bus c ch r hp hdue hrel v hl hs ho hr
  rw [exec_epochAdvance hp bus hdue hrel]
  have ha := answerRelease_eq (s := { s with bus := bus }) (c := c) ho hr
  generalize hu : answerRelease { s with bus := bus } c = u at ha ⊢
  have huc : ctxAt u c = { v with releaseOn := none } := by rw [ha]; exact ctxAt_setCtx_same _ _ _
  have hul (l : Nat) : laneAt u l = laneAt s l := by rw [ha]; rfl
  have hur : (chanAt u ch).running = none := by
    rw [ha, chanAt_setChan_same]
  have hua : (chanAt u ch).responses = (chanAt s ch).responses ++ [response r.w0 false stDone
      [field 32 0 24 v.epoch.toNat, flag 32 0 (decide (v.depth = 15) || v.ledgerHold.isSome)]] := by
    rw [ha, chanAt_setChan_same]
    rfl
  clear_value v
  clear ha hu
  refine ⟨fun hd hh h0 he => ⟨_, rfl, ?_⟩, fun hd hh h0 he hk => ⟨_, rfl, ?_⟩, fun hd => ⟨_, rfl, ?_⟩⟩
  · rw [advanceCtx_next huc hs hd hh h0 he]
    have hw : ctxAt (setCtx u c (epochNext { v with releaseOn := none })) c = epochNext { v with releaseOn := none } :=
      ctxAt_setCtx_same _ _ _
    have hc := depthChanged_ledgerChange (s := setCtx u c (epochNext { v with releaseOn := none })) (c := c) (by rw [hw]; exact hh)
      (epochNext { v with releaseOn := none }).epoch.toNat
    generalize ledgerChange (setCtx u c (epochNext { v with releaseOn := none })) false c _ id = t at hc ⊢
    obtain ⟨⟨d, h, hrec⟩, hch, hla⟩ := hc
    rw [settleRelease_stays (by rw [hla]; exact (congrArg Lane.state (hul _)).trans_ne hl)]
    rw [hw] at hrec
    have hb := hch ch
    rw [chanAt_setCtx] at hb
    have hrun : (chanAt t ch).running = none := (congrArg Channel.running hb).trans hur
    have hres : (chanAt t ch).responses = _ := (congrArg Channel.responses hb).trans hua
    simp only [hd, hh, decide_false, Option.isSome_none, Bool.or_self] at hres
    have hlane : (ctxAt t c).lane = v.lane := by
      rw [hrec]
      rfl
    refine ⟨congrArg Ctx.state hrec, congrArg Ctx.epoch hrec, congrArg Ctx.keyGen hrec, congrArg Ctx.held hrec, congrArg Ctx.taint hrec,
      congrArg Ctx.sealGroup hrec, congrArg Ctx.sealFull hrec, hlane, hrun, hres⟩
  · have hst (w : Ctx) : settleRelease (setCtx u c w) v.lane.toNat = setCtx u c w :=
      settleRelease_stays ((congrArg Lane.state (hul v.lane.toNat)).trans_ne hl)
    rw [advanceCtx_retires huc hs hd hh h0 ⟨he, hk⟩, hst]
    have hw := ctxAt_setCtx_same (s := u) c { v with releaseOn := none, state := .retired, held := 0, closedAt := none }
    simp only [hd, hh, decide_false, Option.isSome_none, Bool.or_self, he] at hua
    exact ⟨congrArg Ctx.state hw, (congrArg Ctx.epoch hw).trans he, (congrArg Ctx.keyGen hw).trans hk, hua⟩
  · rw [advanceCtx_waits (by rw [huc]; exact hd)]
    simp only [hd, decide_true, Bool.true_or] at hua
    exact ⟨huc, hua⟩

end Sys2Proof.Proofs
end

section
/-!
PROOF. Scrubs and exception records (R16, R475, R478, R481).
-/
namespace Sys2Proof.Proofs

open Sys2Proof Sys2Proof.Machine Sys2Proof.Safety Sys2Proof.Laws

/-- The page at the cursor visited: the cursor moves to the next page of the window, or back to its first. -/
theorem scrubPage_cursor {s : State} (hi : bits (activeReg s 0x0870) 0 12 ≠ 0) (hw : winPages s ≠ 0)
    (hl : pageLocked s (winBase s + s.bg.scrubCursor.toNat % winPages s) = false) : (scrubPage s).bg.scrubCursor =
      BitVec.ofNat 25 (if s.bg.scrubCursor.toNat % winPages s + 1 < winPages s then s.bg.scrubCursor.toNat % winPages s + 1 else 0) := by
  rw [scrubPage, if_neg (not_or.mpr ⟨hi, hw⟩)]
  dsimp only
  rw [hl, if_neg Bool.false_ne_true]
  split <;> rfl

/-- With no lane being released, a row that may close one does only its own work. -/
theorem withClosings_none {s : State} (hl : tkeys s.lanes (fun _ v => v.state == .releasing) = []) (f : State → State) :
    withClosings f s = f s := by
  rw [withClosings, hl]
  rfl

/-- An internal scrub that is due, before what it found is treated. -/
def scrubBegun (s : State) : State :=
  { s with flt := { s.flt with correctedRuns := [] }, bg := { s.bg with sramScrubAt := s.pace.now } }

theorem sramScrub_due {s : State} (h : s.bg.sramScrubAt + 1048576 ≤ s.pace.now) {found : List SramFinding}
    (hn : found.filterMap scrubUpset = []) :
    sramScrub found s = settle (found.foldl (scrubFinding s.flt.correctedRuns) (scrubBegun s)) := by
  rw [sramScrub, if_neg (Nat.not_lt.mpr h)]
  dsimp only
  rw [hn]
  rfl

theorem useSpare_left {s : State} {i : Nat} (h : (tget {} s.flt.health i).spares < 8) :
    (tget {} (useSpare s i).flt.health i).spares = (tget {} s.flt.health i).spares + 1 ∧ (useSpare s i).flt.spareUsed = true ∧
    (useSpare s i).flt.seq = s.flt.seq + 1 ∧ (useSpare s i).cnt = s.cnt ∧ (useSpare s i).cust = s.cust ∧ (useSpare s i).tree = s.tree := by
  rw [useSpare, if_neg (BitVec.not_le.mpr h)]
  refine ⟨?_, rfl, rfl, rfl, rfl, rfl⟩
  simp only [setHealth, tget_tset_same]

/-- A word corrected in its third pass in a row goes to a spare. -/
theorem wordCorrected_third {s : State} {before : List (Nat × Nat × Nat)} {i w : Nat} (h : timesSeen before i w = 2)
    (hs : (tget {} s.flt.health i).spares < 8) :
    (tget {} (wordCorrected before i w s).flt.health i).spares = (tget {} s.flt.health i).spares + 1 ∧
    (wordCorrected before i w s).flt.spareUsed = true ∧ (wordCorrected before i w s).flt.seq = s.flt.seq + 1 ∧
    counter (wordCorrected before i w s) 0x7960 = counter s 0x7960 + 1 ∧
    (wordCorrected before i w s).cust = s.cust ∧ (wordCorrected before i w s).tree = s.tree := by
  have hh (f : SramHealth → SramHealth) : tget {} (setHealth (count s 0x7960 1) i f).flt.health i = f (tget {} s.flt.health i) := by
    simp only [setHealth, tget_tset_same, count_flt]
  rw [wordCorrected, h]
  dsimp only
  rw [if_pos (by decide)]
  generalize hu : setHealth (count s 0x7960 1) i _ = u
  have hus : (tget {} u.flt.health i).spares = (tget {} s.flt.health i).spares := by rw [← hu, hh]
  obtain ⟨h1, h2, h3, h4, h5, h6⟩ := useSpare_left (s := u) (i := i) (by rw [hus]; exact hs)
  refine ⟨h1.trans (by rw [hus]), h2, h3.trans (by rw [← hu]; rfl), ?_, h5.trans (by rw [← hu]; rfl), h6.trans (by rw [← hu]; rfl)⟩
  rw [counter, h4, ← hu]
  exact (counter_count s 0x7960 1 0x7960).trans (if_pos rfl)

/-- Whether custody is idle is read off its path and the counter tree. -/
theorem custodyIdle_of_same {s u : State} (hc : u.cust = s.cust) (ht : u.tree = s.tree) (h : CustodyIdle s) : CustodyIdle u := by
  exact custodyIdle_of h (by rw [hc]) (fun ch => by rw [inChan, hc]; exact h.2.1 ch) ht

/-- Settles O39: the external scrub sets its cursor last; an internal scrub of an idle custody path is its beginning and what it found; the
word seen for the third time takes a spare. -/
theorem scrubsAndRecords : Obligations.ScrubsAndRecords := by
  unfold Obligations.ScrubsAndRecords
  intro s bus hp
  refine ⟨fun hb hi hw hl => ⟨_, onBus_powered (f := background scrubPage) s hp, ?_⟩, fun hc hr hd => ?_, fun i w x d hc hr hd hx ht hs => ?_,
    fun hc => ?_⟩
  · rw [background, if_pos (show backgroundMay { s with bus := bus } = true from hb)]
    exact scrubPage_cursor (s := { s with bus := bus }) hi hw hl
  · refine (onBus_powered (f := withClosings (sramScrub [])) s hp).trans ?_
    rw [withClosings_none (s := { s with bus := bus }) hr, sramScrub_due (s := { s with bus := bus }) hd rfl, List.foldl_nil,
      settle_idle (by exact hc)]
    rfl
  · refine ⟨_, onBus_powered (f := withClosings (sramScrub [.sramWord i w x])) s hp, ?_⟩
    have hn : [SramFinding.sramWord i w x].filterMap scrubUpset = [] := by
      rw [List.filterMap_cons_none (by rw [scrubUpset, hx]; rfl), List.filterMap_nil]
    have hf : scrubFinding s.flt.correctedRuns (scrubBegun { s with bus := bus }) (.sramWord i w x) =
        wordCorrected s.flt.correctedRuns i.val w (scrubBegun { s with bus := bus }) := by
      rw [scrubFinding, hx]
    obtain ⟨h1, h2, h3, h4, h5, h6⟩ := wordCorrected_third (s := scrubBegun { s with bus := bus }) ht hs
    rw [withClosings_none (s := { s with bus := bus }) hr, sramScrub_due (s := { s with bus := bus }) hd hn, List.foldl_cons, List.foldl_nil, hf]
    generalize wordCorrected s.flt.correctedRuns i.val w (scrubBegun { s with bus := bus }) = u at h1 h2 h3 h4 h5 h6 ⊢
    have hu : CustodyIdle u := custodyIdle_of_same h5 h6 hc
    rw [settle_idle hu]
    exact ⟨h1, h2, h3, h4⟩
  · refine (onBus_powered (f := fun s => if controllerRuns s then { s with flt := { s.flt with queue := s.flt.queue.drop 1 } } else s) s hp).trans ?_
    dsimp only
    rw [show controllerRuns { s with bus := bus } = controllerRuns s from rfl, if_pos hc]
    rfl

end Sys2Proof.Proofs
end

section
/-!
PROOF. The fault restart and what follows it (R77, R86, R460, R462 to R464, R471, R483, R484).
-/
namespace Sys2Proof.Proofs

open Sys2Proof Sys2Proof.Machine Sys2Proof.Safety Sys2Proof.Laws

/-! ### Faults that call for a restart, and those that do not -/

/-- The restart of a block once its passes are done: the record, the notice, the acknowledgements. -/
def restartEnds (sram hold : Nat) (x : Nat × State) : State :=
  let y := recordRestart sram x.1 hold x.2
  resumeAcks hold (faultNotice y 0x05 none 0 y.flt.restarts.toNat)

/-- Every fault calls for a restart: one pass for each, and then the last is recorded. -/
theorem faultRestart_all {u : Upset} {more : List Upset} (h : ∀ x ∈ u :: more, needsRestart x = true) (hold : Nat) (s : State) :
    faultRestart (u :: more) hold s = restartEnds (upsetCode (more.getLastD u)) hold ((u :: more).foldl restartPass (0, s)) := by
  have h0 : (u :: more).filter (fun x => !needsRestart x) = [] :=
    List.filter_eq_nil_iff.mpr (fun x hx => by rw [h x hx]; exact Bool.false_ne_true)
  have h1 : (u :: more).filter needsRestart = u :: more := List.filter_eq_self.mpr h
  rw [faultRestart, h0, h1, List.foldl_nil]
  dsimp only
  generalize (u :: more).foldl restartPass (0, s) = x
  rfl

/-- No fault calls for a restart: each is put right. -/
theorem faultRestart_none {us : List Upset} (h : ∀ x ∈ us, needsRestart x = false) (hold : Nat) (s : State) :
    faultRestart us hold s = us.foldl treatUpset s := by
  have h0 : us.filter (fun x => !needsRestart x) = us := List.filter_eq_self.mpr (fun x hx => by rw [h x hx]; rfl)
  have h1 : us.filter needsRestart = [] := List.filter_eq_nil_iff.mpr (fun x hx => by rw [h x hx]; exact Bool.false_ne_true)
  rw [faultRestart, h0, h1]

/-! ### The restart of an idle block -/

/-- What a pass of the restart leaves of an idle block: nothing is armed, and the caches are empty. -/
structure Passed (s t : State) : Prop where
  armed : t.cfg.armed = []
  running : t.pace = s.pace
  caches : t.mapc.lines = [] ∧ t.keys.cache = []
  record : t.flt.restarts = s.flt.restarts ∧ t.bg.restartsTotal = s.bg.restartsTotal ∧ t.cnt = s.cnt
  phase : t.boot.phase = s.boot.phase
  memory : t.dram = s.dram
  custody : CustodyIdle t

/-- Step 2: what ran ends, and only the boot's and the flash's records are then changed. -/
theorem stopEngines_eq (s : State) : ∃ (keep : Caller → Bool) (b : Boot) (n : Nvm),
    stopEngines s = { restartJobs { s with cfg := { s.cfg with armed := [] } } keep with boot := b, nvm := n } ∧
    b.phase = (restartJobs { s with cfg := { s.cfg with armed := [] } } keep).boot.phase := by
  delta stopEngines
  dsimp only
  generalize hk : (fun w : Caller => _) = keep
  generalize hu : restartJobs _ keep = u
  refine ⟨keep, ?_⟩
  rw [hu]
  exact ⟨_, _, rfl, rfl⟩

theorem flushDirty_empty {s : State} (h : s.tree.lines = []) : flushDirty s = s := by
  rw [flushDirty, flushSteps, oldestDirty, h]
  rfl

/-- Steps 2 to 4 in an idle block whose caches hold nothing: a group of copies lost that has no follow-up. -/
theorem restartPass_idle {s : State} (h : Quiet s) (hm : s.mbox = []) (hj : s.rns.jobs = []) (hd : s.dig.slots = []) (hl : s.tree.lines = [])
    : Passed s (restartPass (0, s) (.vote 3)).2 := by
  obtain ⟨mail, engines, pages, loader, sleep⟩ := nothingRuns_of_quiet h hm hj hd
  obtain ⟨hreq, hlost, hbroken, hheld⟩ := h.custody
  obtain ⟨keep0, b, n, he, hb⟩ := stopEngines_eq s
  obtain ⟨keep, hk⟩ := restartJobs_idle (s := { s with cfg := { s.cfg with armed := [] } }) ⟨mail, engines, pages, loader, sleep⟩ keep0
  rw [hk] at he hb
  have hw : writeBackAll (stopEngines s) = (0, { stopEngines s with
      tree := { s.tree with lines := [] }, mapc := { s.mapc with lines := [] }, keys := { (stopEngines s).keys with cache := [] } }) := by
    rw [writeBackAll, flushDirty_empty (by rw [he]; exact hl), settleLost_nil (by rw [he]; exact ⟨hlost, hbroken⟩), he]
    rfl
  have hp : (restartPass (0, s) (.vote 3)).2 = loseVote (writeBackAll (stopEngines s)).2 3 := by
    rw [restartPass, show upsetEarly s (.vote 3) = s from rfl]
    generalize writeBackAll (stopEngines s) = x
    rfl
  rw [hp, hw, he]
  exact ⟨rfl, rfl, ⟨rfl, rfl⟩, ⟨rfl, rfl, rfl⟩, hb, rfl, hreq, hheld, hlost, hbroken⟩

/-- Step 6 of the restart: its paces pass, the timers stand, and the firmware is to be checked. -/
def acksResumed (hold : Nat) (s : State) : State :=
  let s1 := passPaces s hold
  { s1 with pace := { s1.pace with held := s1.pace.held + hold }
            flt := { s1.flt with endedAt := some s1.pace.now, resumeDue := decide (s1.boot.phase = 6) } }

theorem resumeAcks_idle {s : State} (hc : CustodyIdle s) (hr : s.pace.running = false) (hold : Nat) :
    resumeAcks hold s = acksResumed hold s := by
  have h : calibrateAgain (acksResumed hold s) = acksResumed hold s := by
    rw [calibrateAgain, if_neg (by rw [show (acksResumed hold s).pace.running = s.pace.running from rfl, hr]; exact Bool.false_ne_true)]
  have hi : CustodyIdle (acksResumed hold s) := custodyIdle_of_same rfl rfl hc
  rw [show resumeAcks hold s = settle (calibrateAgain (acksResumed hold s)) from rfl, h, settle_idle hi]

/-- An idle block after its restart. -/
structure Restarted (s t : State) (hold : BitVec 11) : Prop where
  paces : t.pace.now = s.pace.now + hold.toNat ∧ t.pace.held = s.pace.held + hold.toNat
  record : t.flt.restart = true ∧ t.flt.restarts = s.flt.restarts + 1 ∧ t.flt.lastSram = 15 ∧ t.flt.lastHold = hold
  resume : t.flt.resumeDue = true ∧ t.flt.endedAt = some (s.pace.now + hold.toNat)
  journal : t.bg.restartsTotal = s.bg.restartsTotal + 1 ∧ t.bg.journalDue = true
  kept : t.cfg.armed = [] ∧ t.mapc.lines = [] ∧ t.keys.cache = [] ∧ t.dram = s.dram
  counted : counter t 0x7968 = counter s 0x7968 + 1

theorem restartEnds_idle {s : State} {x : Nat × State} (h : Passed s x.2) (hold : BitVec 11) (hr : s.pace.running = false)
    (hp : s.boot.phase = 6) : Restarted s (restartEnds 15 hold.toNat x) hold := by
  obtain ⟨harm, hpace, ⟨hmap, hkey⟩, ⟨hres, htot, hcnt⟩, hph, hmem, hcus⟩ := h
  obtain ⟨m, hm⟩ := faultNotice_eq (recordRestart 15 x.1 hold.toNat x.2) 0x05 none 0 (recordRestart 15 x.1 hold.toNat x.2).flt.restarts.toNat
  have hi : CustodyIdle { recordRestart 15 x.1 hold.toNat x.2 with mbox := m } := custodyIdle_of_same rfl rfl hcus
  have hrun : x.2.pace.running = false := by rw [hpace]; exact hr
  have he : restartEnds 15 hold.toNat x = acksResumed hold.toNat { recordRestart 15 x.1 hold.toNat x.2 with mbox := m } := by
    rw [restartEnds, hm, resumeAcks_idle hi hrun]
  have hc1 : counter (recordRestart 15 x.1 hold.toNat x.2) 0x7968 = counter s 0x7968 + 1 := by
    refine (counter_count x.2 0x7968 1 0x7968).trans ((if_pos rfl).trans ?_)
    rw [counter, hcnt]
    rfl
  have hc2 (t : State) (n : Nat) : counter (passPaces t n) 0x7968 = counter t 0x7968 :=
    (counter_count _ 0x7808 _ 0x7968).trans (if_neg (by decide))
  have hnow : x.2.pace.now + hold.toNat = s.pace.now + hold.toNat := by rw [hpace]
  have hheld : x.2.pace.held + hold.toNat = s.pace.held + hold.toNat := by rw [hpace]
  rw [he]
  refine ⟨⟨hnow, hheld⟩,
    ⟨rfl, congrArg (· + 1) hres, rfl, BitVec.ofNat_toNat .. |>.trans (BitVec.setWidth_eq hold)⟩,
    ⟨decide_eq_true (hph.trans hp), congrArg some hnow⟩, ⟨congrArg (· + 1) htot, rfl⟩,
    ⟨harm, hmap, hkey, hmem⟩, (hc2 _ _).trans hc1⟩

theorem journalRecord_due {s : State} (hw : journalWanted s = true) (hr : s.keys.root = .bedrock) (hs : journalSlots s ≠ 0) :
    journalRecord s = nvmEnqueue { s with bg := { s.bg with
        journalSeq := s.bg.journalSeq + 1, journalSlot := (s.bg.journalSlot + 1) % journalSlots s, journalAt := s.pace.now
        journalDue := false } }
      (.journal ((nvmRegion s 8).off + 64 * s.bg.journalSlot)
        (journalBody s (s.bg.journalSeq + 1) ++ journalTag s (journalBody s (s.bg.journalSeq + 1)))) := by
  rw [journalRecord, hw, journalNext, if_neg (not_or.mpr ⟨not_not.mpr hr, hs⟩)]
  rfl

theorem exec_firmwareResume {s : State} (hp : powered s = true) (hr : s.flt.resumeDue = true) {intact : Bool} :
    exec (.firmwareResume intact) s = .next (ended s
      (if intact = true ∧ (!s.flt.codeLost) = true then { s with flt := { s.flt with resumeDue := false, codeLost := false } }
       else reloadFirmware { s with flt := { s.flt with resumeDue := false, codeLost := false } })) := by
  rw [show exec (.firmwareResume intact) s = execFirmwareResume intact s from rfl, execFirmwareResume, live_powered s hp, firmwareResume, hr]
  rfl

/-- Settles O40: the clauses on what calls for a restart, on the firmware and on the journal are the definitions read off; an idle block's
restart is one pass that leaves what `Passed` says, its record and its acknowledgements. -/
theorem faultRestarts : Obligations.FaultRestarts := by
  unfold Obligations.FaultRestarts
  intro s bus hp
  refine ⟨fun u more hold h => ?_, fun sram lost hold => ?_, fun u more hold h => ?_, ?_, fun hr hc => ?_, fun hr i hi => ?_,
    fun hw hr hs => ⟨?_, fun _ hn => ?_⟩⟩
  · intro x y
    refine (onBus_powered (f := withClosings (faultRestart (u :: more) hold.toNat)) s hp).trans ?_
    rw [withClosings, faultRestart_all h]
    rfl
  · exact ⟨rfl, rfl, rfl, rfl, rfl, rfl, (counter_count s 0x7968 1 0x7968).trans (if_pos rfl), rfl, rfl⟩
  · refine (onBus_powered (f := withClosings (faultRestart (u :: more) hold.toNat)) s hp).trans ?_
    rw [withClosings, faultRestart_none h]
    rfl
  · intro hold hq hm ht hj hd hs ha hre hru hl hph
    refine ⟨_, onBus_powered (f := withClosings (faultRestart [.vote 3] hold.toNat)) s hp, ?_⟩
    have hn : ∀ x ∈ [Upset.vote 3], needsRestart x = true := fun x hx => by rw [List.mem_singleton.mp hx]; rfl
    have hb := restartPass_idle (s := { s with bus := bus }) ⟨hq.custody, hq.pages, hq.loader, hq.rns, hq.digest, hq.storage, hq.keys,
      hq.opens, hq.relay⟩ hm hj hd ht
    rw [withClosings_none (s := { s with bus := bus }) hl, faultRestart_all hn, List.foldl_cons, List.foldl_nil]
    have hres := restartEnds_idle hb hold hru hph
    have hu : upsetCode (([] : List Upset).getLastD (.vote 3)) = 15 := rfl
    rw [hu]
    generalize restartEnds 15 hold.toNat (restartPass (0, { s with bus := bus }) (.vote 3)) = t at hres
    obtain ⟨⟨h1, h2⟩, ⟨h3, h4, h5, h6⟩, ⟨h7, h8⟩, ⟨h9, h10⟩, ⟨h11, h12, h13, h14⟩, h15⟩ := hres
    refine ⟨h1, h2, ?_, h11, h3, h4, h5, h6, h7, h8, h9, h10, h12, h13, h15, h14⟩
    exact (congrArg₂ (· - ·) h1 h2).trans (Nat.add_sub_add_right _ _ _)
  · rw [exec_firmwareResume hp hr, hc]
    exact congrArg (fun b => Host.Outcome.next (ended s { s with flt := { s.flt with resumeDue := false, codeLost := b } })) hc.symm
  · rw [exec_firmwareResume hp hr, if_neg]
    rintro ⟨h1, h2⟩
    rcases hi with h | h
    · exact absurd (h.symm.trans h1) Bool.false_ne_true
    · rw [h] at h2
      exact Bool.false_ne_true h2
  · refine ⟨_, live_powered (f := journalRecord) s hp, ?_⟩
    rw [journalRecord_due hw hr hs]
    obtain ⟨n, he, hn⟩ := nvmEnqueue_eq { s with bg := { s.bg with
      journalSeq := s.bg.journalSeq + 1, journalSlot := (s.bg.journalSlot + 1) % journalSlots s, journalAt := s.pace.now
      journalDue := false } } (.journal ((nvmRegion s 8).off + 64 * s.bg.journalSlot)
        (journalBody s (s.bg.journalSeq + 1) ++ journalTag s (journalBody s (s.bg.journalSeq + 1))))
    rw [he]
    exact ⟨rfl, rfl, rfl, hn⟩
  · exact absurd hn (not_or.mpr ⟨not_not.mpr hr, hs⟩)

end Sys2Proof.Proofs
end

section
/-!
PROOF. The tamper response and the tampered restart (R47, R48, R296, R449 to R452, R454 to R456).
-/
namespace Sys2Proof.Proofs

open Sys2Proof Sys2Proof.Machine Sys2Proof.Safety Sys2Proof.Laws

/-! ### What the vault loses -/

/-- A vault after a source other than ZEROIZE_ALL: shares, check and PROVISIONED cleared, and one entry more in its log. -/
structure VaultZeroed (v w : Vault) : Prop where
  shares : w.bedrockMasked = 0 ∧ w.mask = 0 ∧ w.check = 0
  provisioned : w.provisioned = false
  logged : w.tamperCount = v.tamperCount + 1 ∧ w.logHead = v.logHead + 1

theorem nativeZero_provisioned (v : Vault) : (nativeZero v).provisioned = false :=
  (bit_setControl _ 0 false (by decide)).trans (if_pos rfl)

theorem vaultZeroed_log {s : State} {v : Vault} (hv : s.vault = nativeZero v) (start : W32) (src : Nat) (absent during : Bool) :
    VaultZeroed v (writeTamperLog s start src absent during).2.vault where
  shares := by
    rw [writeTamperLog]
    exact ⟨congrArg Vault.bedrockMasked hv, congrArg Vault.mask hv, congrArg Vault.check hv⟩
  provisioned := (congrArg Vault.provisioned hv).trans (nativeZero_provisioned v)
  logged := by
    rw [writeTamperLog]
    exact ⟨congrArg (fun w => w.tamperCount + 1) hv, congrArg (fun w => w.logHead + 1) hv⟩

/-- ZEROIZE_ALL leaves an empty vault with one entry in its log. -/
theorem vaultEmpty_log {s : State} (hv : s.vault = {}) (start : W32) (src : Nat) (absent during : Bool) :
    { (writeTamperLog s start src absent during).2.vault with tamperCount := 0, logHead := 0, tlog := [] } = ({} : Vault) := by
  rw [writeTamperLog]
  dsimp only
  rw [hv]
  rfl

/-- The log's entry changes the vault alone. -/
theorem writeTamperLog_eq (s : State) (start : W32) (src : Nat) (absent during : Bool) :
    (writeTamperLog s start src absent during).2 = { s with vault := (writeTamperLog s start src absent during).2.vault } := rfl

/-- The vault domain's part of steps 1 to 3: TAMPER_OUT rises, and the vault is cleared. -/
def vaultCleared (s : State) (src : Nat) : State := { s with pins := { s.pins with tamperOut := true }, vault := tamperVault src s.vault }

theorem tamperZero_off {s : State} (hp : powered s = false) (src : Nat) (absent during : Bool) :
    tamperZero s src absent during = writeTamperLog (vaultCleared s src) s.vault.startCount src absent during := by
  have h : powered (vaultCleared s src) = false := hp
  rw [vaultCleared] at h
  simp only [tamperZero, h, Bool.false_eq_true, if_false]
  rfl

/-- With no engine job and no digest, the core loses its keys alone. -/
theorem tamperZero_on {s : State} (hp : powered s = true) (hj : s.rns.jobs = []) (hd : s.dig.slots = []) (src : Nat) (absent during : Bool) :
    tamperZero s src absent during =
      writeTamperLog (zeroKeys (vaultCleared s src)) s.vault.startCount src absent during := by
  have h : powered (vaultCleared s src) = true := hp
  have hr : rnsTamper (zeroKeys (vaultCleared s src)) = zeroKeys (vaultCleared s src) := by
    rw [rnsTamper, show (zeroKeys (vaultCleared s src)).rns.jobs = [] from hj]
    rfl
  have hg : digestTamper (zeroKeys (vaultCleared s src)) = zeroKeys (vaultCleared s src) := by
    rw [digestTamper, slotsWhere, show (zeroKeys (vaultCleared s src)).dig.slots = [] from hd]
    rfl
  rw [tamperZero]
  dsimp only
  rw [← vaultCleared, h, if_pos rfl, hr, hg]

/-! ### What the core is told -/

/-- Steps 4 and 5 of an idle block in PRODUCTION, before the channels are told. -/
def custodyCut (s : State) (outs : List OutChannel) (q : Miles) : State :=
  { s with
    cust := { s.cust with stopped := true, outs := outs }
    miles := q
    pins := if s.tamper.gateHold then s.pins else { s.pins with gates := 0 }
    tamper := { s.tamper with event := true, seq := s.tamper.seq + 1 } }

/-- Steps 4 and 5 of an idle block in PRODUCTION. -/
structure Told (s t : State) : Prop where
  kept : ∃ outs m q, t = { custodyCut s outs q with mbox := m }
  bells : ∀ c, isActive s c = true → bit (chanAt t c).latched bellTamper = true

theorem bit_raised (x : W32) : bit (x ||| BitVec.ofNat 32 (2 ^ bellTamper)) bellTamper = true := by
  unfold bit bellTamper
  rw [BitVec.getLsbD_or, BitVec.getLsbD_ofNat, Nat.testBit_two_pow]
  simp

theorem tamperTell_told {s : State} (hc : CustodyIdle s) (hl : s.lc.state = lcProduction) (o : Octets) : Told s (tamperTell s o) := by
  obtain ⟨hr, hh, hn⟩ := hc
  obtain ⟨outs, ho⟩ := cutCustody_idle hr hh hn
  obtain ⟨q, ht⟩ : ∃ q, tamperTell s o =
      raiseBells (custodyCut s outs q) (channelsWhere (custodyCut s outs q) (isActive (custodyCut s outs q))) bellTamper := by
    rw [tamperTell, ho]
    dsimp only
    by_cases hg : s.tamper.gateHold = true
    · rw [if_pos (.inl hg)]
      exact ⟨_, by rw [custodyCut, if_pos hg]; rfl⟩
    · rw [if_neg (not_or.mpr ⟨hg, not_not.mpr hl⟩)]
      exact ⟨_, by rw [custodyCut, if_neg hg]; rfl⟩
  rw [ht]
  refine ⟨?_, fun c hc => ?_⟩
  · obtain ⟨m, hm⟩ := mailOnly_foldl (fun t c => raiseBell t c bellTamper) (fun t c => ⟨_, rfl⟩)
      (channelsWhere (custodyCut s outs q) (isActive (custodyCut s outs q))) (custodyCut s outs q)
    exact ⟨outs, m, q, by rw [raiseBells, hm]⟩
  · rw [chanAt_raiseBells, if_pos ((mem_channelsWhere_isActive (custodyCut s outs q) c).mpr hc)]
    exact bit_raised _

/-! ### The response -/

theorem tamperSource_off {s : State} (hp : powered s = false) {src : Nat} (hs : src ≠ 8) : ∃ v, VaultZeroed s.vault v ∧
    tamperSource s src = { s with pins := { s.pins with tamperOut := true }, vault := v } := by
  refine ⟨_, vaultZeroed_log (s := vaultCleared s src) (if_neg hs) s.vault.startCount src true false, ?_⟩
  rw [tamperSource, hp, tamperZero_off hp, Bool.false_and, if_neg Bool.false_ne_true, writeTamperLog_eq]
  rfl

theorem tamperSource_asleep {s : State} (hp : powered s = true) (ha : s.keys.asleep = true) (hj : s.rns.jobs = [])
    (hd : s.dig.slots = []) {src : Nat} (hs : src ≠ 8) : ∃ v, VaultZeroed s.vault v ∧
    tamperSource s src = { s with pins := { s.pins with tamperOut := true }, vault := v, keys := (zeroKeys s).keys } := by
  refine ⟨_, vaultZeroed_log (s := zeroKeys (vaultCleared s src)) (if_neg hs) s.vault.startCount src true false, ?_⟩
  rw [tamperSource, hp, ha, tamperZero_on hp hj hd, Bool.not_true, Bool.and_false, if_neg Bool.false_ne_true, writeTamperLog_eq]
  rfl

/-- What a tampered restart asks for in PRODUCTION. -/
def restartAsked (s : State) (src : Nat) : State :=
  { s with
    tamper := { s.tamper with restartDue := true, cause := tamperCause s src }
    lc := { s.lc with job := none }, keys := { s.keys with enrolling := none }, otp := { s.otp with queue := s.otp.queue.take 1 } }

theorem tamperRunning_production {s : State} {src : Nat} {o : Octets} {x u : State} (hz : tamperZero s src false false = (o, x))
    (ht : tamperTell x o = u) (hl : u.lc.state = lcProduction) : tamperRunning s src = restartAsked u src := by
  rw [tamperRunning, hz]
  dsimp only
  rw [ht, if_pos hl]
  rfl

/-- A source recognised in PRODUCTION by an idle block that is awake. -/
structure Responded (s t : State) (src : Nat) : Prop where
  kept : ∃ outs m q, t = restartAsked { custodyCut { zeroKeys (vaultCleared s src) with
    vault := (writeTamperLog (zeroKeys (vaultCleared s src)) s.vault.startCount src false false).2.vault } outs q with mbox := m } src
  bells : ∀ c, isActive s c = true → bit (chanAt t c).latched bellTamper = true

theorem tamperSource_awake {s : State} (hp : powered s = true) (ha : s.keys.asleep = false) (hl : s.lc.state = lcProduction)
    (hc : CustodyIdle s) (hj : s.rns.jobs = []) (hd : s.dig.slots = []) (src : Nat) : Responded s (tamperSource s src) src := by
  have he := writeTamperLog_eq (zeroKeys (vaultCleared s src)) s.vault.startCount src false false
  have hz := tamperZero_on hp hj hd src false false
  generalize hv : (writeTamperLog (zeroKeys (vaultCleared s src)) s.vault.startCount src false false).2.vault = v at he
  generalize hx : writeTamperLog (zeroKeys (vaultCleared s src)) s.vault.startCount src false false = x at he hz hv
  obtain ⟨o, x⟩ := x
  dsimp only at he
  subst he
  obtain ⟨⟨outs, m, q, hu⟩, hb⟩ := tamperTell_told (s := { zeroKeys (vaultCleared s src) with vault := v })
    (custodyIdle_of_same rfl rfl hc) hl o
  rw [tamperSource, hp, ha, Bool.not_false, Bool.and_true, if_pos rfl, tamperRunning_production hz rfl (by rw [hu]; exact hl)]
  rw [hu] at hb ⊢
  exact ⟨⟨outs, m, q, by rw [hx]⟩, hb⟩

theorem restartAsked_cause (s : State) (src : Nat) : (restartAsked s src).tamper.cause = tamperCause s src := rfl

theorem tamperCause_zeroize (s : State) : tamperCause s 8 = 2 := if_pos (.inl rfl)

/-- The block's own part of a response, in PRODUCTION, to a source recorded by a change of the tamper registers alone. -/
theorem responded_reads {s u t : State} {src : Nat} (h : Responded u t src) {x : Tamper} (hu : u = { s with tamper := x }) :
    t.pins.tamperOut = true ∧ (x.gateHold = false → t.pins.gates = 0) ∧ (x.gateHold = true → t.pins.gates = s.pins.gates) ∧
    (t.tamper.restartDue = true ∧ t.tamper.event = true ∧ t.tamper.seq = x.seq + 1 ∧ t.tamper.zeroize = x.zeroize) ∧
    (t.cust.stopped = true ∧ t.keys.custodyRoot = 0 ∧ t.keys.laneKeys = [] ∧ t.lc.job = none) ∧
    t.vault = (writeTamperLog (zeroKeys (vaultCleared u src)) u.vault.startCount src false false).2.vault ∧
    (src = 8 → t.tamper.cause = 2) ∧ ∀ c, isActive s c = true → bit (chanAt t c).latched bellTamper = true := by
  obtain ⟨⟨outs, m, q, ht⟩, hb⟩ := h
  have hpins : t.pins = if x.gateHold then { s.pins with tamperOut := true } else { s.pins with tamperOut := true, gates := 0 } := by
    rw [ht, hu]
    rfl
  refine ⟨?_, fun hg => ?_, fun hg => ?_, ⟨by rw [ht]; rfl, by rw [ht]; rfl, by rw [ht, hu]; rfl, by rw [ht, hu]; rfl⟩,
    ⟨by rw [ht]; rfl, by rw [ht]; rfl, by rw [ht]; rfl, by rw [ht]; rfl⟩, by rw [ht]; rfl, fun hs => ?_,
    fun c hc => hb c (by rw [hu]; exact hc)⟩
  · rw [hpins]
    split <;> rfl
  · rw [hpins, hg]
    rfl
  · rw [hpins, hg]
    rfl
  · rw [ht, restartAsked_cause, hs, tamperCause_zeroize]

/-! ### The tampered restart -/

/-- What the tampered restart settles once: the tier-0 key in force, the store, the handles, the tree's event and the relay. -/
def tamperedHeld (s : State) : RootSource × Table StoreSlot × Table Handle × Bool × Relay :=
  (s.keys.root, s.keys.store, s.keys.handles, s.tree.newTree, s.relay)

theorem tamperedHeld_of_memRest {s t : State} (h : memRest s = memRest t) : tamperedHeld s = tamperedHeld t := by
  have hk : _ = _ := congrArg (fun x => (x.1.keys.root, x.1.keys.store, x.1.keys.handles, x.1.tree.newTree, x.1.relay)) h
  exact hk

theorem tamperedHeld_ownRns (s : State) (lane : Nat) (n : Nat × Nat) : tamperedHeld (ownRns s lane n) = tamperedHeld s := by
  obtain ⟨_, _, _, _, _, h⟩ := signOnly_ownRns s lane n
  rw [h]
  rfl

theorem tamperedHeld_foldl {α : Type} (f : State → α → State) (hf : ∀ s x, tamperedHeld (f s x) = tamperedHeld s) :
    ∀ (xs : List α) (s : State), tamperedHeld (xs.foldl f s) = tamperedHeld s
  | [], _ => rfl
  | x :: xs, s => (tamperedHeld_foldl f hf xs (f s x)).trans (hf s x)

theorem tamperedHeld_ownWrite (s : State) (addr : Nat) (o : Octets) : tamperedHeld (ownWrite s addr o).2 = tamperedHeld s :=
  tamperedHeld_of_memRest (memRest_ownWrite ..)

theorem tamperedHeld_writeKeyArea (s : State) : tamperedHeld (writeKeyArea s) = tamperedHeld s := by
  rw [writeKeyArea, writePublics]
  rw [tamperedHeld_foldl _ (fun t x => tamperedHeld_ownWrite _ _ _), tamperedHeld_ownWrite, tamperedHeld_ownRns, fillKeyArea,
    tamperedHeld_ownWrite]

theorem laneInNewTree_eq (s : State) (l : Nat) : ∃ ls v, laneInNewTree s l = { s with lanes := ls, vault := v } := by
  rw [laneInNewTree]
  generalize (if s.keys.vaultState = 2 then (laneAt s l).gen else tget 0 s.vault.laneGens l) = old
  split <;> exact ⟨_, _, rfl⟩

theorem lanesInNewTree_eq : ∀ (xs : List Nat) (s : State), ∃ ls v, xs.foldl laneInNewTree s = { s with lanes := ls, vault := v }
  | [], _ => ⟨_, _, rfl⟩
  | x :: xs, s => by
    obtain ⟨l, v, h⟩ := laneInNewTree_eq s x
    obtain ⟨l', v', h'⟩ := lanesInNewTree_eq xs (laneInNewTree s x)
    exact ⟨l', v', by rw [List.foldl_cons, h', h]⟩

theorem deriveLane_eq (s : State) (l : Nat) : ∃ k, deriveLane s l = { s with keys := { s.keys with laneKeys := k } } := ⟨_, rfl⟩

theorem deriveLanes_eq : ∀ (xs : List Nat) (s : State), ∃ k, xs.foldl deriveLane s = { s with keys := { s.keys with laneKeys := k } }
  | [], s => ⟨s.keys.laneKeys, rfl⟩
  | x :: xs, s => by
    obtain ⟨k', h'⟩ := deriveLane_eq s x
    obtain ⟨k, h⟩ := deriveLanes_eq xs (deriveLane s x)
    exact ⟨k, by rw [List.foldl_cons, h, h']⟩

theorem deriveRealm_eq (s : State) : ∃ k, deriveRealm s = { s with keys := { s.keys with realmKey := k } } := ⟨_, rfl⟩

theorem tamperedHeld_newTree (s : State) : tamperedHeld (newTree s) = tamperedHeld s := by
  rw [newTree, deriveLanes]
  obtain ⟨ls, v, h⟩ := lanesInNewTree_eq (List.range 64) s
  rw [h]
  dsimp only
  generalize hu : deriveRealm _ = u
  obtain ⟨k, hk⟩ := deriveLanes_eq (List.range 64) u
  rw [hk]
  rw [deriveRealm] at hu
  rw [← hu]
  rfl

/-! ### The relay of a block without links -/

theorem with_relay {s : State} {r : Relay} (h : s.relay = r) : { s with relay := r } = s := by rw [← h]

theorem setLink_none {s : State} (h : s.relay = {}) (d : Dir) : setLink s d {} = s := by
  cases d
  · exact with_relay (r := { s.relay with linkUp := {} }) (by rw [h])
  · exact with_relay (r := { s.relay with linkDn := {} }) (by rw [h])

theorem linkOf_none {s : State} (h : s.relay = {}) (d : Dir) : linkOf s d = {} := by
  cases d
  · exact congrArg Relay.linkUp h
  · exact congrArg Relay.linkDn h

theorem dropLink_none {s : State} (h : s.relay = {}) (d : Dir) : dropLink s d = s := by
  rw [dropLink, linkOf_none h d]
  dsimp only
  rw [show ({ level := ({} : Link).level, cause := ({} : Link).cause } : Link) = {} from rfl, setLink_none h d,
    if_neg (by decide), dropHolds, linkOf_none h]
  exact setLink_none h _

theorem linkDown_none {s : State} (h : s.relay = {}) (d : Dir) : linkDown s d = s := by
  rw [linkDown, dropLink_none h d]
  dsimp only
  rw [if_neg (by rw [h]; simp)]

theorem bringUp_none {s : State} {d : Dir} (h : linkOf s d = {}) : bringUp s d = s := by
  have hm : mayBringUp s d = false := by
    unfold mayBringUp
    rw [h]
    simp
  rw [bringUp, if_neg (by rw [hm]; simp)]

theorem pumpPort_none {s : State} {d : Dir} (h : linkOf s d = {}) : pumpPort d s = s := by
  rw [pumpPort, h]
  rfl

/-- A block without links sends nothing and takes its binding alone. -/
theorem tamperedRelay_none {s : State} (h : s.relay = {}) : ∃ t r, SignOnly s t ∧ tamperedRelay s = { t with relay := r } := by
  obtain ⟨t, b, ht, he⟩ := signBinding_eq s
  have hr : t.relay = {} := by
    obtain ⟨_, _, _, _, _, hx⟩ := ht
    rw [hx]
    exact h
  refine ⟨t, { t.relay with binding := b }, ht, ?_⟩
  rw [tamperedRelay, linkDown_none h, linkDown_none h, he]
  generalize hu : ({ t with relay := { t.relay with binding := b } } : State) = u
  have hl (d : Dir) : linkOf u d = {} := by
    rw [← hu, hr]
    cases d <;> rfl
  have hs : u.relay.segment = [] := by
    rw [← hu, hr]
  rw [bringUp_none (hl .up), bringUp_none (hl .dn), segmentNext, hs]
  dsimp only
  rw [pump, pumpPort_none (hl .up), pumpPort_none (hl .dn), pumpPort_none (hl .up)]

/-! ### The restart of a block in which nothing runs -/

theorem tamperedJobs_idle {s : State} (h : NothingRuns s) (hc : s.ctxs = []) (hr : s.relay = {}) (hb : s.boot.staging = none) :
    (tamperedJobs s).ctxs = [] ∧ (tamperedJobs s).relay = {} := by
  obtain ⟨keep, hk⟩ := restartJobs_idle h (fun _ => false)
  rw [tamperedJobs, hb, Option.isSome_none, if_neg Bool.false_ne_true, hk]
  dsimp only [mapCallers, dropJobOps, unitsIdle]
  rw [hc, hr]
  exact ⟨rfl, rfl⟩

theorem extendNow_eq (s : State) (j : Nat) (d : Octets) : ∃ m c, (extendNow s j d).2 = { s with miles := m, cnt := c } := by
  have hm (p : Milepost) : ∃ m c, count (setMilepost s j p) 0x7910 1 = { s with miles := m, cnt := c } := ⟨_, _, rfl⟩
  have he : ∃ m c, mpEvent s false false true = { s with miles := m, cnt := c } := ⟨_, _, rfl⟩
  rw [extendNow]
  dsimp only
  rw [apply_ite Prod.snd]
  split
  · exact he
  · exact hm _

theorem tamperedKeys_eq (s : State) : ∃ k r, tamperedKeys s = { s with keys := k, rcpt := r } ∧ k.root = .tamperRoot ∧ k.store = [] ∧
    k.handles = [] := ⟨_, _, rfl, rfl, rfl, rfl⟩

theorem calibrateAgain_eq (s : State) : ∃ p, calibrateAgain s = { s with pace := p } := by
  rw [calibrateAgain]
  split <;> exact ⟨_, rfl⟩

theorem releaseContexts_none {s : State} (h : s.ctxs = []) : releaseContexts s = s := by
  rw [releaseContexts, h]
  rfl

/-- The keys and the tree of the tampered mode, without an ACTIVE context or a link. -/
theorem tamperedTree_held {s : State} (hr : s.relay = {}) :
    tamperedHeld (tamperedTree (tamperedKeys s)) = (.tamperRoot, [], [], true, {}) := by
  obtain ⟨k, r, he, hk, hst, hh⟩ := tamperedKeys_eq s
  have hn := tamperedHeld_newTree (tamperedKeys s)
  rw [he] at hn
  rw [tamperedTree, tamperedHeld_writeKeyArea, he]
  generalize newTree { s with keys := k, rcpt := r } = u at hn
  have h1 : u.keys.root = k.root := congrArg Prod.fst hn
  have h2 : u.keys.store = k.store := congrArg (fun x => x.2.1) hn
  have h3 : u.keys.handles = k.handles := congrArg (fun x => x.2.2.1) hn
  have h4 : u.relay = s.relay := congrArg (fun x => x.2.2.2.2) hn
  rw [tamperedHeld, h1, h2, h3, h4, hk, hst, hh, hr]

/-- Tampered mode begun under the new keys and the new tree, with custody in service. -/
def tamperedMode (s : State) : State :=
  { s with tamper := { s.tamper with mode := true, restartDue := false }, cust := { s.cust with stopped := false } }

theorem tamperedRestart_eq (s : State) : tamperedRestart s = calibrateAgain (tamperedRelay (tamperedMode (tamperedTree (tamperedKeys
    (releaseContexts (extendNow (tamperedJobs s) 1 (beOctets 48 (tamperedJobs s).boot.fwMeas.toNat)).2))))) := by
  rw [tamperedRestart]
  rfl

/-- The block in tampered mode, its restart done. -/
structure InTamperedMode (t : State) : Prop where
  mode : t.tamper.mode = true ∧ t.tamper.restartDue = false
  keys : t.keys.root = .tamperRoot ∧ t.keys.store = [] ∧ t.keys.handles = []
  tree : t.tree.newTree = true
  custody : t.cust.stopped = false

theorem inTamperedMode_ends {u t : State} (hh : tamperedHeld u = (.tamperRoot, [], [], true, {}))
    (ht : calibrateAgain (tamperedRelay (tamperedMode u)) = t) : InTamperedMode t := by
  have h1 : u.keys.root = .tamperRoot := congrArg Prod.fst hh
  have h2 : u.keys.store = [] := congrArg (fun x => x.2.1) hh
  have h3 : u.keys.handles = [] := congrArg (fun x => x.2.2.1) hh
  have h4 : u.tree.newTree = true := congrArg (fun x => x.2.2.2.1) hh
  have h5 : u.relay = {} := congrArg (fun x => x.2.2.2.2) hh
  obtain ⟨v, r, ⟨_, _, _, _, _, hv⟩, he⟩ := tamperedRelay_none (s := tamperedMode u) h5
  obtain ⟨p, hp⟩ := calibrateAgain_eq { v with relay := r }
  rw [he, hp, hv] at ht
  rw [← ht]
  exact ⟨⟨rfl, rfl⟩, ⟨h1, h2, h3⟩, h4, rfl⟩

/-- The tampered restart once what ran has ended. -/
theorem inTamperedMode_restart {s t : State} (hc : s.ctxs = []) (hr : s.relay = {}) (d : Octets)
    (ht : calibrateAgain (tamperedRelay (tamperedMode (tamperedTree (tamperedKeys (releaseContexts (extendNow s 1 d).2))))) = t) :
    InTamperedMode t := by
  obtain ⟨m, c, hx⟩ := extendNow_eq s 1 d
  rw [hx, releaseContexts_none (s := { s with miles := m, cnt := c }) hc] at ht
  exact inTamperedMode_ends (tamperedTree_held (s := { s with miles := m, cnt := c }) hr) ht

/-- The tampered restart of a block in which nothing runs. -/
theorem tamperedRestart_idle {s t : State} (h : NothingRuns s) (hc : s.ctxs = []) (hr : s.relay = {}) (hb : s.boot.staging = none)
    (ht : tamperedRestart s = t) : InTamperedMode t := by
  obtain ⟨hjc, hjr⟩ := tamperedJobs_idle h hc hr hb
  exact inTamperedMode_restart hjc hjr _ ((tamperedRestart_eq s).symm.trans ht)

theorem exec_tamperedRestart {s : State} (hp : powered s = true) (hr : s.tamper.restartDue = true) (bus : Bus)
    (h : NothingRuns { s with bus := bus }) (hc : s.ctxs = []) (hre : s.relay = {}) (hb : s.boot.staging = none) :
    ∃ t, exec (.tamperedRestart bus) s = .next (ended s t) ∧ InTamperedMode t := by
  refine ⟨tamperedRestart { s with bus := bus }, ?_, tamperedRestart_idle (s := { s with bus := bus }) h hc hre hb rfl⟩
  refine (onBus_powered (f := fun s => if s.tamper.restartDue then tamperedRestart s else s) s hp).trans ?_
  dsimp only
  rw [hr, if_pos rfl]

/-- A glitch of the supply: recorded, and a source while its monitor is armed. -/
def supplyGlitched (s : State) : State :=
  let s1 := { s with tamper := { s.tamper with glitch := true } }
  if s1.tamper.sensors then tamperSource s1 9 else s1

/-- Settles O42: asleep or without the core's supply the vault domain acts alone; awake and idle in PRODUCTION, `responded_reads` gives what
the response leaves; the tampered restart of an idle block keeps what `tamperedHeld` reads from its keys to its end. -/
theorem tamperResponse : Obligations.TamperResponse := by
  unfold Obligations.TamperResponse
  intro s Zeroed Response hv
  have hdom (f : State → State) : vaultDomain s f = .next (ended s (f s)) := by rw [vaultDomain, if_pos hv]
  have hresp (x : Tamper) (src : Nat) (o : Host.Outcome State Fault Refusal)
      (ho : o = .next (ended s (tamperSource { s with tamper := x } src))) (hs : src ≠ 8) (h1 : x.restartDue = s.tamper.restartDue)
      (h2 : x.seq = s.tamper.seq) (h3 : x.gateHold = s.tamper.gateHold) : Response o := by
    refine ⟨fun hp => ?_, fun hp ha hj hd => ?_, fun hp ha hl hc hj hd => ?_⟩
    · obtain ⟨v, ⟨⟨z1, z2, z3⟩, z4, z5, z6⟩, he⟩ := tamperSource_off (s := { s with tamper := x }) hp hs
      refine ⟨_, ho, ?_⟩
      rw [he]
      exact ⟨⟨rfl, z1, z2, z3, z4, z5, z6⟩, rfl⟩
    · obtain ⟨v, ⟨⟨z1, z2, z3⟩, z4, z5, z6⟩, he⟩ := tamperSource_asleep (s := { s with tamper := x }) hp ha hj hd hs
      refine ⟨_, ho, ?_⟩
      rw [he]
      exact ⟨⟨rfl, z1, z2, z3, z4, z5, z6⟩, rfl, h1, rfl, rfl⟩
    · have hr := tamperSource_awake (s := { s with tamper := x }) hp ha hl hc hj hd src
      obtain ⟨r1, r2, r3, ⟨r4, r5, r6, -⟩, ⟨r7, r8, r9, r10⟩, r11, -, r12⟩ := responded_reads hr rfl
      obtain ⟨⟨z1, z2, z3⟩, z4, z5, z6⟩ := vaultZeroed_log (s := zeroKeys (vaultCleared { s with tamper := x } src)) (v := s.vault)
        (if_neg hs) s.vault.startCount src false false
      rw [← r11] at z1 z2 z3 z4 z5 z6
      refine ⟨_, ho, ?_⟩
      generalize tamperSource { s with tamper := x } src = t at r1 r2 r3 r4 r5 r6 r7 r8 r9 r10 r12 z1 z2 z3 z4 z5 z6 ⊢
      exact ⟨⟨r1, z1, z2, z3, z4, z5, z6⟩, r4, r5, r6.trans (by rw [h2]), fun hg => r2 (h3.trans hg), fun hg => r3 (h3.trans hg), r7, r8, r9,
        r10, r12⟩
  have hexecIn (n : Fin 8) : exec (.tamperIn n) s = .next (ended s (tamperInput n.val s)) := hdom _
  have hexecFall (n : Fin 9) : exec (.tamperInFall n) s = .next (ended s (tamperInputFalls n.val s)) := hdom _
  have hexecZero : exec .zeroizeAll s = .next (ended s (zeroizeInput s)) := hdom _
  have hexecUv : exec .vaultUndervoltage s = .next (ended s (vaultSupplyLow s)) := hdom _
  have hglitch (hp : powered s = true) : exec .supplyGlitch s = .next (ended s (supplyGlitched s)) :=
    live_powered (f := supplyGlitched) s hp
  refine ⟨fun n => ⟨fun hi => ?_, fun hi ha => ?_, fun hi ha => ?_, ?_⟩, ?_, fun hz => ?_,
    fun hz => ⟨fun hp => ?_, fun hp ha hl hc hj hd => ?_⟩,
    fun hs => ⟨fun hp => ?_, ?_⟩, fun hs => ⟨fun hp => ?_, ?_⟩, fun hp hr bus => ?_, fun hp hr hq hm hj hd hc hre hb bus => ?_⟩
  · rw [hexecIn, tamperInput, hi]
    rfl
  · rw [hexecIn, tamperInput, hi, if_neg Bool.false_ne_true]
    dsimp only
    rw [ha]
    rfl
  · refine hresp { s.tamper with inputs := s.tamper.inputs ||| BitVec.ofNat 8 (2 ^ n.val) } n.val _ ?_ (by omega) rfl rfl rfl
    rw [hexecIn, tamperInput, hi, if_neg Bool.false_ne_true]
    dsimp only
    rw [ha]
    rfl
  · rw [hexecFall, tamperInputFalls, if_neg (by simp; omega)]
    rfl
  · rw [hexecFall]
    rfl
  · rw [hexecZero, zeroizeInput, hz]
    rfl
  · refine ⟨_, hexecZero, ?_⟩
    have hw := vaultEmpty_log (s := vaultCleared { s with tamper := { s.tamper with zeroize := true } } 8) rfl s.vault.startCount 8 true false
    rw [zeroizeInput, hz, if_neg Bool.false_ne_true, tamperSource,
      show powered { s with tamper := { s.tamper with zeroize := true } } = false from hp, Bool.false_and, if_neg Bool.false_ne_true,
      tamperZero_off (s := { s with tamper := { s.tamper with zeroize := true } }) hp, writeTamperLog_eq]
    exact ⟨rfl, rfl, hw⟩
  · have hr := tamperSource_awake (s := { s with tamper := { s.tamper with zeroize := true } }) hp ha hl hc hj hd 8
    obtain ⟨r1, -, -, ⟨r2, -, -, r3⟩, ⟨r4, -, r5, -⟩, r6, r7, -⟩ := responded_reads hr rfl
    have hw := vaultEmpty_log (s := zeroKeys (vaultCleared { s with tamper := { s.tamper with zeroize := true } } 8)) rfl s.vault.startCount 8
      false false
    rw [← r6] at hw
    refine ⟨_, hexecZero, ?_⟩
    rw [zeroizeInput, hz, if_neg Bool.false_ne_true]
    generalize tamperSource { s with tamper := { s.tamper with zeroize := true } } 8 = t at r1 r2 r3 r4 r5 r7 hw ⊢
    exact ⟨r3, r1, hw, r2, r7 rfl, r4, r5⟩
  · rw [hglitch hp, supplyGlitched, hs]
    rfl
  · rw [hexecUv, vaultSupplyLow]
    dsimp only
    rw [hs]
    rfl
  · refine hresp { s.tamper with glitch := true } 9 _ ?_ (by decide) rfl rfl rfl
    rw [hglitch hp, supplyGlitched, hs]
    rfl
  · refine hresp { s.tamper with vaultUv := true } 10 _ ?_ (by decide) rfl rfl rfl
    rw [hexecUv, vaultSupplyLow]
    dsimp only
    rw [hs]
    rfl
  · refine (onBus_powered (f := fun s => if s.tamper.restartDue then tamperedRestart s else s) s hp).trans ?_
    dsimp only
    rw [hr]
    rfl
  · have hn := nothingRuns_of_quiet hq hm hj hd
    obtain ⟨t, he, ⟨h1, h2⟩, ⟨h3, h4, h5⟩, h6, h7⟩ := exec_tamperedRestart hp hr bus
      ⟨hn.mail, hn.engines, hn.pages, hn.loader, hn.sleep⟩ hc hre hb
    exact ⟨_, he, h1, h2, h3, h4, h5, h6, h7⟩

end Sys2Proof.Proofs
end

section
/-!
PROOF. Chunks absorbed, slots expired and mileposts extended (R344, R348, R349, R351, R358, R359, R363).
-/
namespace Sys2Proof.Proofs

open Sys2Proof Sys2Proof.Machine Sys2Proof.Safety Sys2Proof.Laws

/-! ### Slots and cores -/

theorem dslot_of_dig {s t : State} (h : t.dig = s.dig) (i : Nat) : dslot t i = dslot s i := by
  rw [dslot, dslot, h]

@[simp] theorem dslot_setDslot_same (s : State) (i : Nat) (d : DSlot) : dslot (setDslot s i d) i = d :=
  tget_tset_same ({} : DSlot) s.dig.slots i d

theorem dslot_setDslot_ne (s : State) {i j : Nat} (h : j ≠ i) (d : DSlot) : dslot (setDslot s i d) j = dslot s j :=
  tget_tset_ne ({} : DSlot) s.dig.slots d h

/-- A core that passes on leaves the slots, and counts nothing but its own changes of slot. -/
theorem passCore_keeps (s : State) (k : Nat) : (passCore s k).dig.slots = s.dig.slots ∧
    ∀ off, off ≠ 0x7908 → counter (passCore s k) off = counter s off := by
  rw [passCore]
  dsimp only
  split
  next => exact ⟨rfl, fun _ _ => rfl⟩
  next i _ =>
    split_ifs
    · exact ⟨rfl, fun _ _ => rfl⟩
    · refine ⟨rfl, fun off h => ?_⟩
      rw [counter_count, if_neg h]
      rfl

theorem dslot_passCore (s : State) (k i : Nat) : dslot (passCore s k) i = dslot s i := by
  rw [dslot, dslot, (passCore_keeps s k).1]

/-! ### Absorbing (R344, R349) -/

/-- A core's chunk end, where the core serves a slot. -/
theorem exec_chunkEnd {s : State} (hp : powered s = true) {core : Fin 2} {bus : Bus} {i : Nat}
    (hc : core.val = 0 ∨ s.rns.coupling = none) (hs : (coreAt s core.val).slot = some i) :
    exec (.digestChunkEnd core bus) s = .next (ended s (chunkEnd { s with bus := bus } core.val i)) := by
  refine (onBus_powered (f := fun s => if core.val = 1 ∧ s.rns.coupling.isSome then s
    else match (coreAt s core.val).slot with
      | none => s
      | some i => chunkEnd s core.val i) s hp).trans ?_
  have hn : ¬ (core.val = 1 ∧ s.rns.coupling.isSome = true) := by
    rintro ⟨h1, h2⟩
    rcases hc with h | h
    · omega
    · rw [h] at h2; exact absurd h2 (by decide)
  have hs' : (coreAt { s with bus := bus } core.val).slot = some i := hs
  dsimp only
  rw [if_neg hn, hs']

section
variable {s0 on : State} {k i : Nat} {d : DSlot} {f : Feed} (hon : coverChunk s0 i = on) (hd : dslot on i = d) (hf : d.feed = some f)
include hon hd hf

theorem chunkEnd_stale (he : (ctxAt on f.desc.ctx).epoch ≠ f.desc.epoch) : chunkEnd s0 k i = endFeed on i stStaleEpoch := by
  rw [chunkEnd]
  simp only [hon, hd, hf, if_pos he]

theorem chunkEnd_owed (he : (ctxAt on f.desc.ctx).epoch = f.desc.epoch) (ho : chunkOwed d f ≠ 0) : chunkEnd s0 k i = on := by
  rw [chunkEnd]
  simp only [hon, hd, hf, if_neg (not_not.2 he), if_pos ho]

theorem chunkEnd_broken (he : (ctxAt on f.desc.ctx).epoch = f.desc.epoch) (ho : chunkOwed d f = 0) {o : Octets} {e : BitVec 8} {s1 : State}
    (hr : readSome on f.desc.ctx (spanLines (f.desc.addr + f.done) (min (digestChunk d.alg) (f.take - f.done))) [] = (o, some e, s1)) :
    chunkEnd s0 k i = endFeed (absorb s1 i (o.take (o.length / digestRate d.alg * digestRate d.alg))) i e := by
  rw [chunkEnd]
  simp only [hon, hd, hf, if_neg (not_not.2 he), if_neg (not_not.2 ho), hr]

theorem chunkEnd_more (he : (ctxAt on f.desc.ctx).epoch = f.desc.epoch) (ho : chunkOwed d f = 0) {o : Octets} {s1 : State}
    (hr : readSome on f.desc.ctx (spanLines (f.desc.addr + f.done) (min (digestChunk d.alg) (f.take - f.done))) [] = (o, none, s1))
    (hp : d.fed + min (digestChunk d.alg) (f.take - f.done) ≠ d.p) (ht : f.done + min (digestChunk d.alg) (f.take - f.done) ≠ f.take) :
    chunkEnd s0 k i = passCore (absorb s1 i o) k := by
  rw [chunkEnd]
  simp only [hon, hd, hf, if_neg (not_not.2 he), if_neg (not_not.2 ho), hr, if_neg hp, if_neg ht]

end

/-- The slot as it stands once octets were absorbed for its feed. -/
def absorbed (d : DSlot) (o : Octets) : DSlot :=
  { d with words := (chunks (digestRate d.alg) o).foldl (digestBlock d.alg) d.words, fed := d.fed + o.length
           feed := d.feed.map (fun f => { f with done := f.done + o.length, ready := 0 }) }

/-- Absorbing writes the slot, and counts the octets and their energy. -/
theorem absorb_eq (s : State) (i : Nat) (o : Octets) : ∃ l e, absorb s i o =
    chargeEnergy (count (setDslot s i (absorbed (dslot s i) o)) 0x7900 o.length) l e := by
  rw [absorb]
  exact ⟨_, _, rfl⟩

theorem dslot_chargeEnergy_count (s : State) (off n l e i : Nat) : dslot (chargeEnergy (count s off n) l e) i = dslot s i :=
  dslot_of_dig (by rw [chargeEnergy, count_dig, count_dig]) i

theorem dslot_absorb (s : State) (i : Nat) (o : Octets) : dslot (absorb s i o) i = absorbed (dslot s i) o := by
  obtain ⟨l, e, h⟩ := absorb_eq s i o
  rw [h, dslot_chargeEnergy_count, dslot_setDslot_same]

theorem counter_absorb (s : State) (i : Nat) (o : Octets) :
    counter (absorb s i o) 0x7900 = counter s 0x7900 + BitVec.ofNat 64 o.length := by
  obtain ⟨l, e, h⟩ := absorb_eq s i o
  rw [h, chargeEnergy, counter_count, if_neg (by omega), counter_count, if_pos rfl]
  rfl

/-! ### Expiry (R348) -/

theorem exec_slotExpire {s : State} (hp : powered s = true) (a : Fin 64) :
    exec (.digestSlotExpire a) s = .next (ended s (if (dslot s a.val).state = .opened ∧ (dslot s a.val).feed.isNone ∧
      (dslot s a.val).since + (dslot s a.val).wait ≤ clock s then digEvent (expireSlot s a.val false) false true false else s)) :=
  live_powered s hp

/-- An idle slot expired: its state is zeroed, the event recorded, and no other slot changes. -/
theorem expired_slot (s : State) (i : Nat) : let t := digEvent (expireSlot s i false) false true false
    ((dslot t i).state = .expired ∧ (dslot t i).words = [] ∧ (dslot t i).result = []) ∧ t.dig.expired = true ∧ t.dig.seq = s.dig.seq + 1 ∧
      ∀ c, c ≠ i → dslot t c = dslot s c := by
  have hd : ∀ c, dslot (digEvent (expireSlot s i false) false true false) c = dslot (expireSlot s i false) c := fun _ => rfl
  refine ⟨?_, Bool.or_true _, rfl, fun c hc => (hd c).trans (dslot_setDslot_ne s hc _)⟩
  rw [hd i, expireSlot, dslot_setDslot_same]
  exact ⟨rfl, rfl, rfl⟩

/-! ### Mileposts (R359, R363) -/

theorem milepostExtend_head {s : State} {x : Extend} {rest : List Extend} (hq : s.miles.queue = x :: rest) (hx : x.slot = none) :
    milepostExtend s = (extendNow { s with miles := { s.miles with queue := rest } } x.mp x.d).2 := by
  rw [milepostExtend, hq]
  simp only [hx]

theorem exec_milepostExtend {s : State} (hp : powered s = true) : exec .milepostExtend s = .next (ended s (milepostExtend s)) :=
  live_powered (f := milepostExtend) s hp

theorem extendNow_made {s : State} {j : Nat} (h : (milepost s j).broken = false) (d : Octets) :
    (extendNow s j d).2 = count (setMilepost s j { milepost s j with
      value := BitVec.ofNat 384 (ofBe (sha384 (beOctets 48 (milepost s j).value.toNat ++ d)))
      count := if (milepost s j).count = 0xFFFFFFFF then (milepost s j).count else (milepost s j).count + 1 }) 0x7910 1 := by
  rw [extendNow]
  simp only [h, Bool.false_eq_true, if_false]

theorem extendNow_broken {s : State} {j : Nat} (h : (milepost s j).broken = true) (d : Octets) :
    (extendNow s j d).2 = mpEvent s false false true := by
  rw [extendNow]
  simp only [h, if_true]

/-- An extend writes its milepost alone, and is counted. -/
theorem extended_milepost (s : State) (j : Nat) (m : Milepost) : let t := ended s (count (setMilepost s j m) 0x7910 1)
    milepost t j = m ∧ (∀ a, a ≠ j → milepost t a = milepost s a) ∧ t.miles.queue = s.miles.queue ∧
      counter t 0x7910 = counter s 0x7910 + 1 := by
  have hm : ∀ a, milepost (ended s (count (setMilepost s j m) 0x7910 1)) a = tget ({} : Milepost) (tset {} s.miles.posts j m) a := fun _ => rfl
  refine ⟨(hm j).trans (tget_tset_same _ _ _ _), fun a ha => (hm a).trans (tget_tset_ne _ _ _ ha), rfl, ?_⟩
  exact (counter_count _ _ _ _).trans (if_pos rfl)

/-! ### The obligation -/

/-- Settles O57: the end of a core's chunk absorbs the octets read into the slot that the core serves; expiry and the extends are their
definitions' cases. -/
theorem digestsAndExtends : Obligations.DigestsAndExtends := by
  unfold Obligations.DigestsAndExtends
  intro s hp
  refine ⟨?_, ?_, ?_⟩
  · intro core bus i d f hc hs on hd hf n r
    have hx := exec_chunkEnd hp (bus := bus) hc hs
    refine ⟨fun he => ?_, fun he ho => ?_, fun he ho => ⟨fun o e s1 hr => ?_, fun o s1 hr hdig hfed htake => ?_⟩⟩
    · rw [hx, chunkEnd_stale rfl hd hf he]
    · rw [hx, chunkEnd_owed rfl hd hf he ho]
    · rw [hx, chunkEnd_broken rfl hd hf he ho hr]
    · refine ⟨_, hx, ?_⟩
      rw [chunkEnd_more rfl hd hf he ho hr hfed htake]
      have hd1 : dslot s1 i = d := (dslot_of_dig hdig i).trans hd
      have hslot : dslot (ended s (passCore (absorb s1 i o) core.val)) i = dslot (absorb s1 i o) i := dslot_passCore _ _ i
      have hcnt : counter (ended s (passCore (absorb s1 i o) core.val)) 0x7900 = counter (absorb s1 i o) 0x7900 :=
        (passCore_keeps _ _).2 _ (by decide)
      dsimp only
      rw [hslot, hcnt, dslot_absorb, hd1]
      exact ⟨rfl, rfl, by rw [absorbed, hf]; rfl, rfl, counter_absorb s1 i o⟩
  · intro a d
    refine ⟨fun ho hf hw => ⟨_, exec_slotExpire hp a, ?_⟩, fun hw => ?_⟩
    · rw [if_pos ⟨ho, by rw [hf]; rfl, hw⟩]
      obtain ⟨⟨h1, h2, h3⟩, h4, h5, h6⟩ := expired_slot s a.val
      exact ⟨h1, h2, h3, h4, h5, h6⟩
    · rw [exec_slotExpire hp a, if_neg (fun h => absurd h.2.2 (Nat.not_le.2 hw))]
  · intro x rest hq hx m
    have he := exec_milepostExtend hp
    rw [milepostExtend_head hq hx] at he
    refine ⟨fun hb => ⟨_, he, ?_⟩, fun hb => ⟨_, he, ?_⟩⟩
    · rw [extendNow_made (by exact hb)]
      exact extended_milepost _ _ _
    · rw [extendNow_broken (by exact hb)]
      exact ⟨fun _ => rfl, rfl, Bool.or_true _, rfl⟩

end Sys2Proof.Proofs
end

section
/-!
PROOF. The digest requests (R343 to R355).
-/
namespace Sys2Proof.Proofs

open Sys2Proof Sys2Proof.Machine Sys2Proof.Safety Sys2Proof.Laws

/-! ### Opening (R353) -/

section
variable {s : State} {k : Call} {i : Nat} (hf : fieldsOk k [0x00FF3F07] = true) (ha : bits (k.word 0) 0 3 ≤ 5)
  (hx : ¬ (bits (k.word 0) 0 3 = 3 ∨ bits (k.word 0) 0 3 = 4)) (ho : bits (k.word 0) 16 8 = 0)
  (hw : ¬ (bits (k.word 0) 0 3 ≠ 5 ∧ k.word 1 ≠ 0)) (hm : (k.word 2).toNat + 2 ^ 32 * (k.word 3).toNat < 2 ^ 47)
  (hr : bit (k.word 0) 8 = false)
  (hcap : (slotsWhere s (fun d => d.state != .free && decide (d.lane = k.lane))).length < digestLaneCap s)
  (hi : firstBelow 56 (fun i => (dslot s i).state == .free) = some i)
include hf ha hx ho hw hm hr hcap hi

/-- An open without a key takes the lowest free slot. -/
theorem openSlot_plain (hk : hmacKey s k (bits (k.word 0) 0 3) = .ok none) : openSlot k s = takeSlot k i none [] s := by
  rw [openSlot]
  simp only [hf, hx, ho, hk, hr, hi, Nat.not_lt.2 ha, hw, Nat.not_le.2 hm, Nat.not_le.2 hcap, Bool.not_true, Bool.false_eq_true, if_false,
    decide_false, not_true_eq_false, ne_eq, false_and, or_self]

/-- An open under a key's material takes it, or waits aside while the working key register is not to be had. -/
theorem openSlot_keyed {h : Handle} (hk : hmacKey s k (bits (k.word 0) 0 3) = .ok (some h)) :
    openSlot k s = if !loadMayRun s (if k.owner then 1 else 2) then { s with dig := { s.dig with opens := s.dig.opens ++ [(k.ch, k.owner)] } }
      else withMaterial s h (fun t => reply t k stFaulted []) (takeSlot k i (some h)) := by
  rw [openSlot]
  simp only [hf, hx, ho, hk, hr, hi, Nat.not_lt.2 ha, hw, Nat.not_le.2 hm, Nat.not_le.2 hcap, Bool.not_true, Bool.false_eq_true, if_false,
    decide_false, not_true_eq_false, ne_eq, false_and, or_self]

end

theorem hmacKey_plain {s : State} {k : Call} {alg : Nat} (h : alg ≠ 5) : hmacKey s k alg = .ok none := by
  rw [hmacKey, if_pos h]

theorem exec_digestOpen {s t : State} {bus : Bus} {k : Call} (hp : powered s = true) (h : Started (serveOpen { s with bus := bus }) 0x501 k t) :
    exec (.digestOpen bus) s = .next (ended s (openSlot k t)) := by
  refine (onBus_powered (f := fun s => service 0x501 (serveOpen s) openSlot) s hp).trans ?_
  rw [service_started h]

/-- The slot that an open takes. -/
def takenSlot (k : Call) (key : Option Handle) (m : Octets) (s : State) : DSlot :=
  startWait s
    { state := .opened, alg := bits (k.word 0) 0 3, lane := k.lane, outLen := bits (k.word 0) 16 8
      route := if bit (k.word 0) 8 then some (bits (k.word 0) 9 5) else none
      mlen := (k.word 2).toNat + 2 ^ 32 * (k.word 3).toNat
      p := digestP (bits (k.word 0) 0 3) ((k.word 2).toNat + 2 ^ 32 * (k.word 3).toNat)
      words := digestInit (bits (k.word 0) 0 3) m, outer := digestOuter (bits (k.word 0) 0 3) m, key := key }

/-- The counts of how often each slot was opened written. -/
def withUses (s : State) (u : Table Nat) : State := { s with dig := { s.dig with uses := u } }

theorem takeSlot_eq (k : Call) (i : Nat) (key : Option Handle) (m : Octets) (s : State) : ∃ u, takeSlot k i key m s =
    reply (withUses (setDslot s i (takenSlot k key m s)) u) k stDone
      [field 32 0 6 i, BitVec.ofNat 32 (digestP (bits (k.word 0) 0 3) ((k.word 2).toNat + 2 ^ 32 * (k.word 3).toNat)),
        BitVec.ofNat 32 (digestP (bits (k.word 0) 0 3) ((k.word 2).toNat + 2 ^ 32 * (k.word 3).toNat) / 2 ^ 32)] := ⟨_, rfl⟩

/-! ### Answers that leave the slots, and slots written beside them -/

theorem dslot_reply (s : State) (k : Call) (st : BitVec 8) (ws : List W32) (i : Nat) : dslot (reply s k st ws) i = dslot s i := by
  obtain ⟨m, h⟩ := reply_frame s k st ws
  rw [h]
  rfl

/-- An answer given beside a change outside the mailboxes. -/
theorem answered_of_mbox {s u v : State} {k : Call} {st : BitVec 8} {ws : List W32} (hr : (chanAt s k.ch).running = some k.req)
    (hu : u.mbox = s.mbox) (hv : v.mbox = (reply u k st ws).mbox) : Answered s k v st ws := by
  have hsu : ∀ c, chanAt u c = chanAt s c := fun c => by rw [chanAt, chanAt, hu]
  have huv : ∀ c, chanAt v c = chanAt (reply u k st ws) c := fun c => by rw [chanAt, chanAt, hv]
  obtain ⟨⟨h1, h2⟩, -⟩ := reply_answered (t := u) (by rw [hsu]; exact hr) st ws
  exact ⟨by rw [huv, h1, hsu], fun c hc => by rw [huv, h2 c hc, hsu]⟩

theorem endFeed_idle {s : State} {i : Nat} (h : (dslot s i).feed = none) (st : BitVec 8) : endFeed s i st = s := by
  rw [endFeed]
  simp only [h]

theorem freeSlot_idle {s : State} {i : Nat} (h : (dslot s i).feed = none) : freeSlot s i = setDslot s i {} := by
  rw [freeSlot, endFeed_idle h]

theorem takeSlot_opens {k : Call} {s : State} (hr : (chanAt s k.ch).running = some k.req) (i : Nat) (key : Option Handle) (m : Octets) :
    dslot (takeSlot k i key m s) i = takenSlot k key m s ∧ (∀ a, a ≠ i → dslot (takeSlot k i key m s) a = dslot s a) ∧
    Answered s k (takeSlot k i key m s) stDone [field 32 0 6 i,
      BitVec.ofNat 32 (digestP (bits (k.word 0) 0 3) ((k.word 2).toNat + 2 ^ 32 * (k.word 3).toNat)),
      BitVec.ofNat 32 (digestP (bits (k.word 0) 0 3) ((k.word 2).toNat + 2 ^ 32 * (k.word 3).toNat) / 2 ^ 32)] := by
  obtain ⟨u, hu⟩ := takeSlot_eq k i key m s
  generalize takenSlot k key m s = d at hu ⊢
  rw [hu]
  refine ⟨?_, fun a ha => ?_, answered_of_mbox (u := withUses (setDslot s i d) u) hr rfl rfl⟩
  · rw [dslot_reply]
    exact dslot_setDslot_same s i d
  · rw [dslot_reply]
    exact dslot_setDslot_ne s ha d

/-! ### Feeding (R345) -/

theorem namedSlot_named {s : State} {k : Call} (hf : (dslot s (bits (k.word 0) 0 6)).state ≠ .free)
    (hl : (dslot s (bits (k.word 0) 0 6)).lane = k.lane) :
    namedSlot s k = some (bits (k.word 0) 0 6, dslot s (bits (k.word 0) 0 6)) := by
  rw [namedSlot]
  rw [if_neg (by simp [hf, hl])]

theorem namedSlot_none {s : State} {k : Call} (h : (dslot s (bits (k.word 0) 0 6)).state = .free ∨
    (dslot s (bits (k.word 0) 0 6)).lane ≠ k.lane) : namedSlot s k = none := by
  rw [namedSlot]
  rw [if_pos (by simpa using h)]

theorem exec_digestFeed {s t t1 : State} {bus : Bus} {k : Call} {i : Nat} {d : DSlot} (hp : powered s = true)
    (h : Started { s with bus := bus } 0x502 k t) (hf : fieldsOk k (0x3F :: descMasks) = true)
    (hd : descRefusal t k (descAt k 1) false = (none, t1)) (hn : namedSlot t1 k = some (i, d)) (ho : d.state = .opened) (hi : d.feed = none)
    (hl : (descAt k 1).len % digestRate d.alg = 0) :
    exec (.digestFeed bus) s = .next (ended s (ticketed t1 k (startFeed i (workLane t1 k) (descAt k 1)))) := by
  refine (onBus_service hp h _).trans ?_
  simp only [hf, hd, hn, ho, hi, hl, Bool.not_true, Bool.false_eq_true, if_false, ne_eq, not_true_eq_false, false_and, Option.isSome_none]

/-- The feed that a request begins on a slot. -/
def begunFeed (s : State) (d : DSlot) (payer : Nat) (ds : Desc) (w : Caller) : Feed :=
  { caller := w, desc := { ctx := ds.ctx, addr := ds.addr, len := ds.len, epoch := (ctxAt s ds.ctx).epoch }, done := 0
    take := min ds.len (d.p - d.fed), excess := ds.len - min ds.len (d.p - d.fed), payer := payer }

/-- The core of a slot, where no slot is served, takes the one that now has a feed. -/
def takeCore (s : State) (k i : Nat) : State := if (coreAt s k).slot.isNone then setCore s k { slot := some i, last := i } else s

theorem takeCore_keeps (s : State) (k i : Nat) : (takeCore s k i).mbox = s.mbox ∧ (∀ a, dslot (takeCore s k i) a = dslot s a) ∧
    ((coreAt s k).slot = none → (coreAt (takeCore s k i) k).slot = some i) := by
  rw [takeCore]
  split
  next h =>
    refine ⟨rfl, fun _ => rfl, fun _ => ?_⟩
    have hc : coreAt (setCore s k { slot := some i, last := i }) k = { slot := some i, last := i } := (getD_setAt _ _ _ _ _).trans (if_pos rfl)
    rw [hc]
  next h => exact ⟨rfl, fun _ => rfl, fun hn => absurd (by rw [hn]; rfl) h⟩

theorem startFeed_eq {s : State} {i payer : Nat} {ds : Desc} {w : Caller} (h : 0 < min ds.len ((dslot s i).p - (dslot s i).fed)) :
    startFeed i payer ds w s =
      takeCore (setDslot s i { dslot s i with feed := some (begunFeed s (dslot s i) payer ds w) }) (digestCore (dslot s i).alg) i := by
  rw [startFeed]
  dsimp only
  rw [if_neg (by omega)]
  rfl

/-! ### Reading (R355) -/

theorem digestRead_complete {t : State} {k : Call} (hf : fieldsOk k [0x0001FF3F] = true)
    (hl : (dslot t (bits (k.word 0) 0 6)).lane = k.lane) (hc : (dslot t (bits (k.word 0) 0 6)).state = .complete)
    (ho : bits (k.word 0) 8 8 % 48 = 0) (hr : bits (k.word 0) 8 8 < (dslot t (bits (k.word 0) 0 6)).result.length) :
    digestRead k t = if bit (k.word 0) 16 then
      freeSlot (reply t k stDone (field 32 0 8 (slice (dslot t (bits (k.word 0) 0 6)).result (bits (k.word 0) 8 8) 48).length ::
        resultWords (slice (dslot t (bits (k.word 0) 0 6)).result (bits (k.word 0) 8 8) 48))) (bits (k.word 0) 0 6)
      else reply t k stDone (field 32 0 8 (slice (dslot t (bits (k.word 0) 0 6)).result (bits (k.word 0) 8 8) 48).length ::
        resultWords (slice (dslot t (bits (k.word 0) 0 6)).result (bits (k.word 0) 8 8) 48)) := by
  have hn := namedSlot_named (by rw [hc]; decide) hl
  have hbad : ¬ (bits (k.word 0) 8 8 % 48 ≠ 0 ∨ (dslot t (bits (k.word 0) 0 6)).result.length ≤ bits (k.word 0) 8 8) :=
    not_or.2 ⟨not_not.2 ho, Nat.not_le.2 hr⟩
  rw [digestRead]
  simp only [hf, hn, hc, if_neg hbad, Bool.not_true, Bool.false_eq_true, if_false]

theorem digestRead_open {t : State} {k : Call} (hf : fieldsOk k [0x0001FF3F] = true)
    (hl : (dslot t (bits (k.word 0) 0 6)).lane = k.lane) (hc : (dslot t (bits (k.word 0) 0 6)).state = .opened) :
    digestRead k t = reply t k stDigestIncomplete (0 :: resultWords []) := by
  have hn := namedSlot_named (by rw [hc]; decide) hl
  rw [digestRead]
  simp only [hf, hn, hc, Bool.not_true, Bool.false_eq_true, if_false]

theorem digestRead_expired {t : State} {k : Call} (hf : fieldsOk k [0x0001FF3F] = true)
    (hl : (dslot t (bits (k.word 0) 0 6)).lane = k.lane) (hc : (dslot t (bits (k.word 0) 0 6)).state = .expired) :
    digestRead k t = reply t k (if (dslot t (bits (k.word 0) 0 6)).staleKey then stStaleEpoch else stTimedOut) (0 :: resultWords []) := by
  have hn := namedSlot_named (by rw [hc]; decide) hl
  rw [digestRead]
  simp only [hf, hn, hc, Bool.not_true, Bool.false_eq_true, if_false]

/-- A result read frees its slot where the request asks for it. -/
theorem readSlot {s t u : State} {k : Call} {st : BitVec 8} {ws : List W32} {i : Nat} (ha : Answered t k u st ws)
    (hd : dslot u i = dslot t i) (hf : (dslot t i).feed = none) (b : Bool) :
    Answered t k (ended s (if b then freeSlot u i else u)) st ws ∧
      dslot (ended s (if b then freeSlot u i else u)) i = if b then {} else dslot t i := by
  cases b with
  | false => exact ⟨ha, hd⟩
  | true =>
    simp only [if_true]
    rw [freeSlot_idle (by rw [hd]; exact hf)]
    exact ⟨ha, dslot_setDslot_same u i {}⟩

/-! ### Closing (R354) -/

theorem exec_digestClose {s t : State} {k : Call} (hp : powered s = true) (h : Started s 0x504 k t) (hf : fieldsOk k [0x3F] = true)
    (hs : (dslot t (bits (k.word 0) 0 6)).state ≠ .free) (hl : (dslot t (bits (k.word 0) 0 6)).lane = k.lane)
    (hi : (dslot t (bits (k.word 0) 0 6)).feed = none) :
    exec .digestClose s = .next (ended s (reply (setDslot t (bits (k.word 0) 0 6) {}) k stDone [])) := by
  refine (live_service hp h _).trans ?_
  simp only [hf, namedSlot_named hs hl, Bool.not_true, Bool.false_eq_true, if_false, freeSlot_idle hi]

/-! ### The obligation -/

/-- Settles O56: each request, once its checks pass, does what its row says: a slot taken, a feed begun, a result read, a slot freed. -/
theorem digestRequests : Obligations.DigestRequests := by
  unfold Obligations.DigestRequests
  intro s bus k t hp on n d
  refine ⟨?_, ?_, ?_, ?_, ?_, ?_, ?_⟩
  · intro i h hf alg mlen ha ho hw hm hr hcap hi
    have ha2 : bits (k.word 0) 0 3 ≤ 2 := ha
    refine ⟨_, exec_digestOpen hp h, ?_⟩
    rw [openSlot_plain hf (by omega) (by omega) ho (fun x => x.2 hw) hm hr hcap hi (hmacKey_plain (by omega))]
    obtain ⟨u, hu⟩ := takeSlot_eq k i none [] t
    obtain ⟨hslot, hother, hans⟩ := takeSlot_opens (started_running h) i none []
    have htaken : takenSlot k none [] t = startWait t
        { state := .opened, alg := alg, lane := k.lane, outLen := bits (k.word 0) 16 8, route := none, mlen := mlen, p := digestP alg mlen
          words := digestInit alg [], outer := digestOuter alg [], key := none } := by
      rw [takenSlot, hr]
      rfl
    refine ⟨?_, ?_, ?_, ?_, ?_, ?_, ?_, ?_, ?_, hother, hans⟩ <;> rw [show dslot (ended s (takeSlot k i none [] t)) i = _ from hslot, htaken] <;>
      rfl
  · intro h0 i h hf ha ho hm hr hk hcap hi
    have hopen := openSlot_keyed hf (by omega) (by omega) ho (fun x => x.1 ha) hm hr hcap hi (by rw [ha]; exact hk)
    have hx := exec_digestOpen hp h
    refine ⟨fun hl => ?_, fun m t1 hl hmat => ?_⟩
    · rw [hx, hopen, hl]
      rfl
    · rw [hx, hopen, hl]
      simp only [Bool.not_true, Bool.false_eq_true, if_false, withMaterial, hmat]
  · intro i t1 h hf ho hl hi hd hdig hlen htake hfree
    have hd1 : dslot t1 n = d := dslot_of_dig hdig n
    have hnam : namedSlot t1 k = some (n, d) := by
      have := namedSlot_named (s := t1) (k := k) (by rw [hd1, ho]; decide) (by rw [hd1]; exact hl)
      rw [this, hd1]
    refine ⟨_, exec_digestFeed hp h hf hd hnam ho hi hlen, ?_⟩
    rw [ticketed_free hfree]
    obtain ⟨m, hm⟩ := acceptRunning_frame t1 k.ch i
    have hda : dslot (acceptRunning t1 k.ch i) n = d := by rw [hm]; exact hd1
    have hca : ctxAt (acceptRunning t1 k.ch i) (descAt k 1).ctx = ctxAt t1 (descAt k 1).ctx := by rw [hm]; rfl
    have hco : ∀ c, coreAt (acceptRunning t1 k.ch i) c = coreAt t c := fun c => by
      rw [coreAt, coreAt, ← hdig, hm]
    have hb : begunFeed (acceptRunning t1 k.ch i) d (workLane t1 k) (descAt k 1) (.ticket k.ch i) =
        begunFeed t1 d (workLane t1 k) (descAt k 1) (.ticket k.ch i) := by
      rw [begunFeed, begunFeed, hca]
    rw [startFeed_eq (by rw [hda]; exact htake), hda, hb]
    generalize acceptRunning t1 k.ch i = a at hco ⊢
    generalize hf1 : begunFeed t1 d (workLane t1 k) (descAt k 1) (.ticket k.ch i) = f
    obtain ⟨h1, h2, h3⟩ := takeCore_keeps (setDslot a n { d with feed := some f }) (digestCore d.alg) n
    subst hf1
    exact ⟨h1, fun hn => h3 ((congrArg DCore.slot (hco _)).trans hn), (h2 n).trans (dslot_setDslot_same a n _)⟩
  · intro h hf hl
    have hx : exec (.digestRead bus) s = .next (ended s (digestRead k t)) := onBus_service hp h _
    refine ⟨fun hc hfeed ho hr => ⟨_, hx, ?_⟩, fun hc => ?_, fun hc => ?_⟩
    · rw [digestRead_complete hf hl hc ho hr]
      obtain ⟨hans, -⟩ := reply_answered (started_running h) stDone (field 32 0 8 (slice d.result (bits (k.word 0) 8 8) 48).length ::
            resultWords (slice d.result (bits (k.word 0) 8 8) 48))
      exact readSlot hans (dslot_reply _ _ _ _ _) hfeed _
    · rw [hx, digestRead_open hf hl hc]
    · rw [hx, digestRead_expired hf hl hc]
  · intro h hf hs hl hfeed
    refine ⟨_, exec_digestClose hp h hf hs hl hfeed, ?_⟩
    have hd : ∀ a, dslot (reply (setDslot t n {}) k stDone []) a = dslot (setDslot t n {}) a := dslot_reply _ _ _ _
    exact ⟨answered_of_mbox (u := setDslot t n {}) (started_running h) rfl rfl, (hd n).trans (dslot_setDslot_same t n {}),
      fun a ha => (hd a).trans (dslot_setDslot_ne t ha {})⟩
  · intro h hf
    refine ⟨fun hs hl => (live_service hp h _).trans ?_, fun hs => (live_service hp h _).trans ?_⟩
    · simp only [hf, namedSlot_named hs hl, Bool.not_true, Bool.false_eq_true, if_false]
      rfl
    · simp only [hf, namedSlot_none hs, Bool.not_true, Bool.false_eq_true, if_false]
  · intro h hf m
    refine (onBus_service hp h _).trans ?_
    simp only [hf, Bool.not_true, Bool.false_eq_true, if_false]
    rfl

end Sys2Proof.Proofs
end

section
/-!
PROOF. The sheet commands, and the signing of sheets (R120, R254, R269 to R272).
-/
namespace Sys2Proof.Proofs

open Sys2Proof Sys2Proof.Machine Sys2Proof.Safety Sys2Proof.Laws

theorem ticketRuns_of_mbox {t u v : State} {k : Call} {i : Nat} (h : TicketRuns t k u i) (hm : v.mbox = u.mbox) : TicketRuns t k v i := by
  have hc : chanAt v k.ch = chanAt u k.ch := by rw [chanAt, chanAt, hm]
  rw [TicketRuns, hc]
  exact h

/-! ### Sheet slots -/

@[simp] theorem sheetAt_setSheet_same (s : State) (l i : Nat) (v : Sheet) : sheetAt (setSheet s l i v) l i = v :=
  tget_tset_same ({} : Sheet) s.rcpt.sheets (5 * l + i) v

theorem sheetAt_setSheet_ne (s : State) {l i m j : Nat} (h : 5 * m + j ≠ 5 * l + i) (v : Sheet) :
    sheetAt (setSheet s l i v) m j = sheetAt s m j :=
  tget_tset_ne ({} : Sheet) s.rcpt.sheets v h

theorem sheetAt_of_rcpt {s t : State} (h : t.rcpt = s.rcpt) (l i : Nat) : sheetAt t l i = sheetAt s l i := by rw [sheetAt, sheetAt, h]

theorem sheetAt_reply (s : State) (k : Call) (st : BitVec 8) (ws : List W32) (l i : Nat) : sheetAt (reply s k st ws) l i = sheetAt s l i := by
  obtain ⟨m, h⟩ := reply_frame s k st ws
  exact sheetAt_of_rcpt (by rw [h]) l i

theorem sheetIn_congr {s t : State} {l m : Nat} {st st' : SheetState}
    (h : ∀ i < 5, ((sheetAt t l i).state == st) = ((sheetAt s m i).state == st')) : sheetIn t l st = sheetIn s m st' := by
  rw [sheetIn, sheetIn, firstBelow, firstBelow]
  exact List.find?_congr fun i hi => h i (List.mem_range.1 hi)

theorem sheetIn_spec {s : State} {l i : Nat} {st : SheetState} (h : sheetIn s l st = some i) : i < 5 ∧ (sheetAt s l i).state = st := by
  obtain ⟨h5, hs⟩ := firstBelow_spec h
  exact ⟨h5, by simpa using hs⟩

theorem sheetIn_isSome {s : State} {l i : Nat} {st : SheetState} (h5 : i < 5) (hs : (sheetAt s l i).state = st) :
    (sheetIn s l st).isSome = true := by
  rw [sheetIn, firstBelow, List.find?_isSome]
  exact ⟨i, List.mem_range.2 h5, by simp [hs]⟩

theorem closeSheet_closes {s : State} {l i : Nat} (hd : (sheetAt s l i).due = false) (hf : (sheetIn s l .free).isSome = true) (cause : Nat) :
    closeSheet s l i cause =
      setSheet s l i { sheetAt s l i with state := .signing, due := false, cause := cause, attempts := 0, retryAt := none } := by
  rw [closeSheet]
  simp only [hd, hf, Bool.false_eq_true, if_false, if_true]

theorem sheetLane_named {k : Call} (h : k.owner = true ∨ bits (k.word 0) 0 6 = k.lane) : sheetLane k = .ok (bits (k.word 0) 0 6) := by
  rw [sheetLane]
  refine if_neg ?_
  rcases h with h | h
  · simp [h]
  · simp [h]

/-! ### SHEET_FLUSH (R269) -/

theorem exec_sheetFlush {s t : State} {bus : Bus} {k : Call} {i : Nat} (hp : powered s = true) (h : Started { s with bus := bus } 0x220 k t)
    (hf : fieldsOk k [0x3F] = true) (hl : k.owner = true ∨ bits (k.word 0) 0 6 = k.lane) (hi : freeTicket (chanAt t k.ch) = some i) :
    exec (.sheetFlush bus) s = .next (ended s (flushSheet (bits (k.word 0) 0 6) (.ticket k.ch i) (acceptRunning t k.ch i))) := by
  refine (onBus_service hp h _).trans ?_
  simp only [hf, sheetLane_named hl, ticketed_free hi, Bool.not_true, Bool.false_eq_true, if_false]

theorem flushSheet_none {s : State} {l : Nat} (h : sheetIn s l .filling = none) (w : Caller) :
    flushSheet l w s = finish s w stDone [0] := by
  rw [flushSheet, h]

/-- A flush closes the filling sheet, where another slot of the lane is free to fill next. -/
theorem flushSheet_closes {s : State} {l j : Nat} (h : sheetIn s l .filling = some j) (hf : (sheetIn s l .free).isSome = true)
    (hd : (sheetAt s l j).due = false) (w : Caller) : ∃ u, flushSheet l w s = setSheet u l j
      { sheetAt s l j with state := .signing, due := false, cause := 1, attempts := 0, retryAt := none
                           callers := (sheetAt s l j).callers ++ [w] } ∧ u.mbox = s.mbox := by
  obtain ⟨-, hst⟩ := sheetIn_spec h
  rw [flushSheet, h]
  dsimp only
  generalize hv : sheetAt s l j = v at hd hst ⊢
  have hs : sheetAt (setSheet s l j { v with callers := v.callers ++ [w] }) l j = { v with callers := v.callers ++ [w] } :=
    sheetAt_setSheet_same _ _ _ _
  have hfree : sheetIn (setSheet s l j { v with callers := v.callers ++ [w] }) l .free = sheetIn s l .free := by
    refine sheetIn_congr fun i _ => ?_
    by_cases hij : i = j
    · rw [hij, hs, hv]
    · rw [sheetAt_setSheet_ne s (by omega)]
  refine ⟨setSheet s l j { v with callers := v.callers ++ [w] }, ?_, rfl⟩
  rw [closeSheet_closes (by rw [hs]; exact hd) (by rw [hfree]; exact hf), hs]

/-! ### SHEET_COPY, SHEET_COLLECT and RECEIPT_FETCH (R254, R271, R272) -/

theorem keptSheet_spec {s : State} {l j : Nat} {n : W64} (h : keptSheet s l n = some j) : j < 5 ∧ (sheetAt s l j).state = .signed := by
  obtain ⟨h5, hs⟩ := firstBelow_spec h
  simp only [Bool.and_eq_true, beq_iff_eq] at hs
  exact ⟨h5, hs.1⟩

theorem exec_sheetCopy {s t t1 : State} {bus : Bus} {k : Call} {i j : Nat} (hp : powered s = true) (h : Started { s with bus := bus } 0x221 k t)
    (hf : fieldsOk k ([0x3F, 0xFFFFFFFF, 0xFFFFFFFF] ++ descMasks) = true) (hl : k.owner = true ∨ bits (k.word 0) 0 6 = k.lane)
    (hd : descRefusal t k (descAt k 3) true = (none, t1)) (hk : keptSheet t1 (bits (k.word 0) 0 6) (serialAt k 1) = some j)
    (hn : (sheetAt t1 (bits (k.word 0) 0 6) j).imageLen ≤ (descAt k 3).len) (hi : freeTicket (chanAt t1 k.ch) = some i) :
    exec (.sheetCopy bus) s =
      .next (ended s (copySheet (bits (k.word 0) 0 6) j (descAt k 3) (.ticket k.ch i) (acceptRunning t1 k.ch i))) := by
  refine (onBus_service hp h _).trans ?_
  simp only [hf, sheetLane_named hl, hd, hk, Nat.not_lt.2 hn, ticketed_free hi, Bool.not_true, Bool.false_eq_true, if_false]

theorem copySheet_copied {s s1 s2 : State} {l i : Nat} {d : Desc} {o : Octets}
    (ho : ownRead s (sheetBase s l i / 64) (sheetAt s l i).imageLen = (.ok o, s1)) (hw : dmaWrite s1 d.ctx d.addr o = (none, s2)) (w : Caller) :
    copySheet l i d w s = finish s2 w stDone [BitVec.ofNat 32 o.length] := by
  rw [copySheet]
  simp only [ho, hw]

/-- A collected sheet was not the filling one. -/
theorem sheetIn_collected {t : State} {l j : Nat} {n : W64} (hk : keptSheet t l n = some j) :
    sheetIn (setSheet t l j {}) l .filling = sheetIn t l .filling := by
  refine sheetIn_congr fun i _ => ?_
  by_cases hij : i = j
  · rw [hij, sheetAt_setSheet_same, (keptSheet_spec hk).2]
    rfl
  · rw [sheetAt_setSheet_ne t (by omega)]

/-- A collected sheet frees its slot, and where no filling sheet waits for one that is all. -/
theorem exec_sheetCollect {s t : State} {bus : Bus} {k : Call} {j : Nat} (hp : powered s = true) (h : Started { s with bus := bus } 0x222 k t)
    (hf : fieldsOk k [0x3F] = true) (hl : k.owner = true ∨ bits (k.word 0) 0 6 = k.lane)
    (hk : keptSheet t (bits (k.word 0) 0 6) (serialAt k 1) = some j)
    (hd : ∀ f, sheetIn t (bits (k.word 0) 0 6) .filling = some f → (sheetAt t (bits (k.word 0) 0 6) f).due = false) :
    exec (.sheetCollect bus) s = .next (ended s (reply (setSheet t (bits (k.word 0) 0 6) j {}) k stDone [])) := by
  refine (onBus_service hp h _).trans ?_
  simp only [hf, sheetLane_named hl, hk, sheetIn_collected hk, Bool.not_true, Bool.false_eq_true, if_false]
  cases hfl : sheetIn t (bits (k.word 0) 0 6) .filling with
  | none => rfl
  | some f =>
    have hne : f ≠ j := by
      rintro rfl
      exact absurd ((sheetIn_spec hfl).2.symm.trans (keptSheet_spec hk).2) (by decide)
    have hs := sheetAt_setSheet_ne t (show 5 * bits (k.word 0) 0 6 + f ≠ 5 * bits (k.word 0) 0 6 + j by omega) {}
    simp only [hs, hd f hfl, Bool.false_eq_true, if_false]

theorem exec_sheetCollect_none {s t : State} {bus : Bus} {k : Call} (hp : powered s = true) (h : Started { s with bus := bus } 0x222 k t)
    (hf : fieldsOk k [0x3F] = true) (hl : k.owner = true ∨ bits (k.word 0) 0 6 = k.lane)
    (hk : keptSheet t (bits (k.word 0) 0 6) (serialAt k 1) = none) :
    exec (.sheetCollect bus) s = .next (ended s (reply t k stReceiptState [])) := by
  refine (onBus_service hp h _).trans ?_
  simp only [hf, sheetLane_named hl, hk, Bool.not_true, Bool.false_eq_true, if_false]

theorem receiptFetch_kept {s s1 : State} {k : Call} {j : Nat} {o : Octets} (hf : fieldsOk k [0x3F] = true) (h0 : (k.word 3).toNat % 48 = 0)
    (hk : keptSheet s (bits (k.word 0) 0 6) (serialAt k 1) = some j) {n base : Nat}
    (hn : n = min 48 ((sheetAt s (bits (k.word 0) 0 6) j).imageLen - (k.word 3).toNat))
    (hb : base = sheetBase s (bits (k.word 0) 0 6) j + (k.word 3).toNat)
    (ho : ownRead s (base / 64) (if n = 0 then 0 else base % 64 + n) = (.ok o, s1)) :
    receiptFetch k s = reply s1 k stDone (field 32 0 6 n :: wordsOfOctets 12 (o.drop (base % 64))) := by
  rw [receiptFetch]
  simp only [hf, h0, hk, ← hn, ← hb, ho, Bool.not_true, Bool.false_eq_true, ne_eq, not_true_eq_false, or_self, if_false]

/-! ### SHEET_STATUS (R272) -/

theorem getLsbD_field (lo len v i : Nat) (h : i < 32) :
    (field 32 lo len v).getLsbD i = (decide (lo ≤ i) && (decide (i - lo < len) && v.testBit (i - lo))) := by
  rw [field, BitVec.getLsbD_ofNat, Nat.testBit_shiftLeft, Nat.testBit_mod_two_pow]
  simp [h]

/-- The first word of the status: the receipts of the filling sheet, and which of the others are signed. -/
theorem statusWord_count (n m : Nat) : bits (field 32 0 9 n ||| field 32 16 4 m) 0 9 = n % 512 := by
  rw [bits, Nat.shiftRight_zero]
  refine Nat.eq_of_testBit_eq fun i => ?_
  rw [Nat.testBit_mod_two_pow, BitVec.testBit_toNat, BitVec.getLsbD_or, show (512 : Nat) = 2 ^ 9 from rfl, Nat.testBit_mod_two_pow]
  by_cases hi : i < 9
  · rw [getLsbD_field 0 9 n i (by omega), getLsbD_field 16 4 m i (by omega)]
    simp [hi, show ¬ 16 ≤ i by omega]
  · simp [hi]

theorem statusWord_signed (n m : Nat) {a : Nat} (ha : a < 4) : bit (field 32 0 9 n ||| field 32 16 4 m) (16 + a) = m.testBit a := by
  rw [bit, BitVec.getLsbD_or, getLsbD_field 0 9 n _ (by omega), getLsbD_field 16 4 m _ (by omega)]
  simp [ha, show ¬ 16 + a < 9 by omega]

/-- Four of the five slots stand beside the filling one. -/
theorem keptSlots_length (s : State) (l : Nat) : ∃ a b c d, keptSlots s l = [a, b, c, d] := by
  have hf : (sheetIn s l .filling).getD ((sheetIn s l .free).getD 0) < 5 := by
    cases h : sheetIn s l .filling with
    | some i => exact (sheetIn_spec h).1
    | none => cases h' : sheetIn s l .free with
      | some i => exact (sheetIn_spec h').1
      | none => decide
  rw [keptSlots]
  generalize (sheetIn s l .filling).getD ((sheetIn s l .free).getD 0) = f at hf
  interval_cases f <;> exact ⟨_, _, _, _, rfl⟩

/-- The three words of a kept slot. -/
def slotWords (v : Sheet) : List W32 :=
  if v.state == .signed then
    [BitVec.ofNat 32 v.serial.toNat, BitVec.ofNat 32 (v.serial.toNat / 2 ^ 32), BitVec.ofNat 32 v.imageLen]
  else [0, 0, if v.state == .signing then BitVec.ofNat 32 (8192 + v.len) else 0]

theorem slotWords_signed {v : Sheet} (h : v.state = .signed) : slotWords v =
    [BitVec.ofNat 32 v.serial.toNat, BitVec.ofNat 32 (v.serial.toNat / 2 ^ 32), BitVec.ofNat 32 v.imageLen] := by
  rw [slotWords, h]
  rfl

theorem slotWords_other {v : Sheet} (h : v.state ≠ .signed) : ∃ w, slotWords v = [0, 0, w] := by
  rw [slotWords, if_neg (by simpa using h)]
  exact ⟨_, rfl⟩

theorem slotWords_length (v : Sheet) : ∃ a b c, slotWords v = [a, b, c] := by
  by_cases h : v.state = .signed
  · exact ⟨_, _, _, slotWords_signed h⟩
  · obtain ⟨w, hw⟩ := slotWords_other h
    exact ⟨_, _, _, hw⟩

/-- The mask of the signed ones among four slots. -/
theorem testBit_mask (p : Nat → Bool) (a b c d : Nat) {i : Nat} (hi : i < 4) :
    (([a, b, c, d].zipIdx).foldl (fun (m : Nat) (x : Nat × Nat) => if p x.1 then m + 2 ^ x.2 else m) 0).testBit i =
      p ([a, b, c, d].getD i 0) := by
  have hbits : ∀ x y z w : Bool, ∀ i < 4, (([(x, 0), (y, 1), (z, 2), (w, 3)] : List (Bool × Nat)).foldl
      (fun (m : Nat) (u : Bool × Nat) => if u.1 then m + 2 ^ u.2 else m) 0).testBit i = [x, y, z, w].getD i false := by decide
  refine (hbits (p a) (p b) (p c) (p d) i hi).trans ?_
  interval_cases i <;> rfl

/-- The words that SHEET_STATUS answers. -/
def statusWords (s : State) (l : Nat) : List W32 :=
  (field 32 0 9 (match sheetIn s l .filling with
      | some i => (sheetAt s l i).count
      | none => 0) |||
    field 32 16 4 (((keptSlots s l).zipIdx).foldl (fun a x => if (sheetAt s l x.1).state == .signed then a + 2 ^ x.2 else a) 0)) ::
    (keptSlots s l).flatMap (fun i => slotWords (sheetAt s l i))

theorem exec_sheetStatus {s t : State} {bus : Bus} {k : Call} (hp : powered s = true) (h : Started { s with bus := bus } 0x223 k t)
    (hf : fieldsOk k [0x3F] = true) : exec (.sheetStatus bus) s = .next (ended s (reply t k stDone (statusWords t (bits (k.word 0) 0 6)))) := by
  refine (onBus_service hp h _).trans ?_
  rw [sheetStatus]
  simp only [hf, Bool.not_true, Bool.false_eq_true, if_false]
  rfl

theorem statusWords_spec (s : State) (l : Nat) : (statusWords s l).length = 13 ∧
    (∃ m, (statusWords s l).getD 0 0 = field 32 0 9 (match sheetIn s l .filling with
      | some i => (sheetAt s l i).count
      | none => 0) ||| field 32 16 4 m) ∧
    ∀ a < 4, bit ((statusWords s l).getD 0 0) (16 + a) = ((sheetAt s l ((keptSlots s l).getD a 0)).state == .signed) ∧
      slotWords (sheetAt s l ((keptSlots s l).getD a 0)) =
        [(statusWords s l).getD (1 + 3 * a) 0, (statusWords s l).getD (2 + 3 * a) 0, (statusWords s l).getD (3 + 3 * a) 0] := by
  obtain ⟨a, b, c, d, h⟩ := keptSlots_length s l
  obtain ⟨a1, a2, a3, ha⟩ := slotWords_length (sheetAt s l a)
  obtain ⟨b1, b2, b3, hb⟩ := slotWords_length (sheetAt s l b)
  obtain ⟨c1, c2, c3, hc⟩ := slotWords_length (sheetAt s l c)
  obtain ⟨d1, d2, d3, hd⟩ := slotWords_length (sheetAt s l d)
  have hw : (keptSlots s l).flatMap (fun i => slotWords (sheetAt s l i)) = [a1, a2, a3, b1, b2, b3, c1, c2, c3, d1, d2, d3] := by
    rw [h]
    simp only [List.flatMap_cons, List.flatMap_nil, ha, hb, hc, hd]
    rfl
  rw [statusWords, hw]
  refine ⟨rfl, ⟨_, rfl⟩, fun i hi => ⟨?_, ?_⟩⟩
  · refine (statusWord_signed _ _ hi).trans ?_
    rw [h]
    exact testBit_mask (fun x => (sheetAt s l x).state == .signed) a b c d hi
  · rw [h]
    interval_cases i
    · exact ha
    · exact hb
    · exact hc
    · exact hd

/-! ### Age (R269) -/

theorem sheetAt_single {s : State} {m f : Nat} {v : Sheet} (h : s.rcpt.sheets = [(5 * m + f, v)]) : sheetAt s m f = v := by
  rw [sheetAt, h]
  exact if_pos rfl

theorem freeSheet_single {s : State} {m f : Nat} {v : Sheet} (h : s.rcpt.sheets = [(5 * m + f, v)]) : (sheetIn s m .free).isSome = true := by
  have hfree : ∀ i, i ≠ f → (sheetAt s m i).state = .free := fun i hi => by
    rw [sheetAt, h]
    exact congrArg Sheet.state (if_neg (by omega))
  by_cases h0 : f = 0
  · exact sheetIn_isSome (by decide) (hfree 1 (by omega))
  · exact sheetIn_isSome (by decide) (hfree 0 (Ne.symm h0))

theorem exec_sheetAge {s : State} {bus : Bus} {m f : Nat} {v : Sheet} (hp : powered s = true) (h5 : f < 5)
    (h : s.rcpt.sheets = [(5 * m + f, v)]) (hs : v.state = .filling) (hd : v.due = false) (ha : v.since + 1048576 ≤ clock s) :
    exec (.sheetAgeExpire bus) s = .next (ended s (setSheet { s with bus := bus } m f
      { v with state := .signing, due := false, cause := 2, attempts := 0, retryAt := none })) := by
  refine (onBus_powered (f := fun s => match s.rcpt.sheets.find? (fun e => e.2.state == .filling && !e.2.due &&
      decide (e.2.since + 1048576 ≤ clock s)) with
    | none => s
    | some (n, _) => closeSheet s (n / 5) (n % 5) 2) s hp).trans ?_
  have hc : v.since + 1048576 ≤ clock { s with bus := bus } := ha
  have hfind : [(5 * m + f, v)].find? (fun e => e.2.state == .filling && !e.2.due && decide (e.2.since + 1048576 ≤ clock { s with bus := bus })) =
      some (5 * m + f, v) := List.find?_cons_of_pos (by simp only [hs, hd, hc]; rfl)
  have hat : sheetAt { s with bus := bus } m f = v := sheetAt_single h
  simp only [h, hfind, show (5 * m + f) / 5 = m by omega, show (5 * m + f) % 5 = f by omega]
  rw [closeSheet_closes (s := { s with bus := bus }) (by rw [hat]; exact hd) (freeSheet_single h), hat]

/-! ### Signing (R269, R270) -/

theorem raiseBells_eq (s : State) (cs : List Nat) (b : Nat) : ∃ m, raiseBells s cs b = { s with mbox := m } :=
  mailOnly_foldl (fun t c => raiseBell t c b) (fun _ _ => ⟨_, rfl⟩) cs s

/-- The answers to the callers and the bells that follow change the mailboxes alone. -/
theorem bells_after_ends (s u : State) (ws : List Caller) (w : List W32) {cs : List Nat}
    (h : ws.foldl (fun t w' => finish t w' stDone w) s = u) : ∃ m, raiseBells u cs bellSheet = { s with mbox := m } := by
  obtain ⟨a, ha⟩ := mailOnly_foldl (fun t w' => finish t w' stDone w) (fun t w' => finish_frame t w' _ _) ws s
  obtain ⟨b, hb⟩ := raiseBells_eq u cs bellSheet
  exact ⟨b, by rw [hb, ← h, ha]⟩

/-- A signed sheet stands in its slot, and is counted. -/
def sheetSigned (s : State) (l i : Nat) (v : Sheet) (n : Nat) : State :=
  count { setSheet s l i v with rcpt := { (setSheet s l i v).rcpt with signedCount := tset 0 s.rcpt.signedCount l n } } 0x78B8 1

theorem sheetSigned_stands (s : State) (l i : Nat) (v : Sheet) (n : Nat) : sheetAt (sheetSigned s l i v n) l i = v ∧
    tget 0 (sheetSigned s l i v n).rcpt.signedCount l = n ∧ counter (sheetSigned s l i v n) 0x78B8 = counter s 0x78B8 + 1 :=
  ⟨tget_tset_same ({} : Sheet) s.rcpt.sheets (5 * l + i) v, tget_tset_same 0 s.rcpt.signedCount l n,
    (counter_count _ _ _ _).trans (if_pos rfl)⟩

/-- The serial of the sheet that a lane signs next. -/
def nextSerial (s : State) (l : Nat) : W64 := BitVec.ofNat 64 ((vaultView s).startCount.toNat * 2 ^ 32 + tget 0 s.rcpt.signedCount l)

theorem signSheet_signs {s s1 s2 : State} {l i : Nat} {c : Octets}
    (hc : coseSign s (sheetSignKeys s l) "application/vnd.miryar.sheet" (sheetHeader s l (sheetAt s l i) (nextSerial s l)) = (some c, s1))
    (hp : ownPatch s1 (sheetBase s1 l i)
      (padTo 8192 (octetsOfWords [0x54485353, BitVec.ofNat 32 c.length, 8192, BitVec.ofNat 32 (sheetAt s l i).len] ++ c)) = (true, s2)) :
    ∃ m, signSheet s l i = { sheetSigned s2 l i { sheetAt s l i with
      state := .signed, serial := nextSerial s l, imageLen := 8192 + (sheetAt s l i).len, retryAt := none, callers := [] }
      (tget 0 s.rcpt.signedCount l + 1) with mbox := m } := by
  rw [nextSerial] at hc
  have key : ∀ g, g = signSheet → ∃ m, g s l i = { sheetSigned s2 l i { sheetAt s l i with
      state := .signed, serial := nextSerial s l, imageLen := 8192 + (sheetAt s l i).len, retryAt := none, callers := [] }
      (tget 0 s.rcpt.signedCount l + 1) with mbox := m } := by
    intro g hg
    delta signSheet at hg
    rw [congrFun (congrFun (congrFun hg s) l) i]
    simp only [hc, hp]
    rw [← nextSerial]
    exact bells_after_ends _ _ _ _ rfl
  exact key _ rfl

theorem signSheet_none {s s1 : State} {l i : Nat}
    (hc : coseSign s (sheetSignKeys s l) "application/vnd.miryar.sheet" (sheetHeader s l (sheetAt s l i) (nextSerial s l)) = (none, s1)) :
    signSheet s l i = signFails s1 l i := by
  rw [nextSerial] at hc
  have key : ∀ g, g = signSheet → g s l i = signFails s1 l i := by
    intro g hg
    delta signSheet at hg
    rw [congrFun (congrFun (congrFun hg s) l) i]
    simp only [hc]
  exact key _ rfl

/-- An attempt that does not sign is counted; the first of three waits for nothing. -/
theorem signSheet_fails {s s1 : State} {l i : Nat}
    (hc : coseSign s (sheetSignKeys s l) "application/vnd.miryar.sheet" (sheetHeader s l (sheetAt s l i) (nextSerial s l)) = (none, s1))
    (ha : (sheetAt s l i).attempts = 0) : signSheet s l i = setSheet s1 l i { sheetAt s l i with attempts := 1, retryAt := none } := by
  have hs1 : sheetAt s1 l i = sheetAt s l i := by
    have h := signOnly_coseSign s (sheetSignKeys s l) "application/vnd.miryar.sheet" (sheetHeader s l (sheetAt s l i) (nextSerial s l))
    rw [hc] at h
    obtain ⟨g, f, c, r, m, h⟩ := h
    have h' : s1 = { s with rng := g, free := f, cnt := c, rns := r, mbox := m } := h
    rw [h']
    rfl
  rw [signSheet_none hc, signFails]
  simp only [hs1, ha]
  rfl

/-- What the row of a signing attempt answers for a sheet, in terms of the state in which the attempt is made. -/
theorem signs_or_fails {s v : State} {m j : Nat} {o : Host.Outcome State Fault Refusal} (ho : o = .next (ended s (signSheet v m j))) :
    (∀ c s1 s2, coseSign v (sheetSignKeys v m) "application/vnd.miryar.sheet" (sheetHeader v m (sheetAt v m j) (nextSerial v m)) = (some c, s1) →
        ownPatch s1 (sheetBase s1 m j)
          (padTo 8192 (octetsOfWords [0x54485353, BitVec.ofNat 32 c.length, 8192, BitVec.ofNat 32 (sheetAt v m j).len] ++ c)) = (true, s2) →
        Completes o (fun u =>
          sheetAt u m j = { sheetAt v m j with
            state := .signed, serial := nextSerial v m, imageLen := 8192 + (sheetAt v m j).len, retryAt := none, callers := [] } ∧
          tget 0 u.rcpt.signedCount m = tget 0 v.rcpt.signedCount m + 1 ∧ counter u 0x78B8 = counter s2 0x78B8 + 1)) ∧
      (∀ s1, coseSign v (sheetSignKeys v m) "application/vnd.miryar.sheet" (sheetHeader v m (sheetAt v m j) (nextSerial v m)) = (none, s1) →
        (sheetAt v m j).attempts = 0 → Completes o (fun u => sheetAt u m j = { sheetAt v m j with attempts := 1, retryAt := none })) := by
  refine ⟨fun c s1 s2 hc hp => ⟨_, ho, ?_⟩, fun s1 hc ha => ⟨_, ho, ?_⟩⟩
  · obtain ⟨mb, h⟩ := signSheet_signs hc hp
    have hs := sheetSigned_stands s2 m j { sheetAt v m j with
      state := .signed, serial := nextSerial v m, imageLen := 8192 + (sheetAt v m j).len, retryAt := none, callers := [] }
      (tget 0 v.rcpt.signedCount m + 1)
    rw [h]
    exact hs
  · rw [signSheet_fails hc ha]
    exact sheetAt_setSheet_same s1 m j _

theorem signWhen_covered {s : State} (h : covers s crRns (rnsUnit s) 1 = true) (l i : Nat) :
    signWhen s l i = signSheet (spendCredit s crRns (rnsUnit s)) l i := by rw [signWhen, if_pos h]

theorem exec_sheetSigned {s : State} (bus : Bus) {m f : Nat} (hp : powered s = true) (h5 : f < 5) (h : nextSigning s = some (5 * m + f)) :
    exec (.sheetSigned bus) s = .next (ended s (signWhen { s with bus := bus } m f)) := by
  refine (onBus_powered (f := fun s => match nextSigning s with
    | none => s
    | some n => signWhen s (n / 5) (n % 5)) s hp).trans ?_
  have h' : nextSigning { s with bus := bus } = some (5 * m + f) := h
  simp only [h', show (5 * m + f) / 5 = m by omega, show (5 * m + f) % 5 = f by omega]

theorem exec_sheetSignRetry {s : State} (bus : Bus) {m f p : Nat} {v : Sheet} (hp : powered s = true) (h5 : f < 5)
    (h : s.rcpt.sheets = [(5 * m + f, v)]) (hs : v.state = .signing) (hr : v.retryAt = some p) (hd : p ≤ s.pace.now) :
    exec (.sheetSignRetry bus) s =
      .next (ended s (signWhen (setSheet { s with bus := bus } m f { v with retryAt := none }) m f)) := by
  refine (onBus_powered (f := fun s => match s.rcpt.sheets.find? (fun e => e.2.state == .signing && (match e.2.retryAt with
        | some p => decide (p ≤ s.pace.now)
        | none => false)) with
    | none => s
    | some (n, v) => signWhen (setSheet s (n / 5) (n % 5) { v with retryAt := none }) (n / 5) (n % 5)) s hp).trans ?_
  have hfind : [(5 * m + f, v)].find? (fun e => e.2.state == .signing && (match e.2.retryAt with
        | some p => decide (p ≤ s.pace.now)
        | none => false)) = some (5 * m + f, v) := List.find?_cons_of_pos (by simp only [hs, hr, hd]; rfl)
  simp only [h, hfind, show (5 * m + f) / 5 = m by omega, show (5 * m + f) % 5 = f by omega]

/-! ### The obligation -/

/-- Settles O52: each row by its own lemma; a signing attempt changes no sheet but its own. -/
theorem sheetCommands : Obligations.SheetCommands := by
  unfold Obligations.SheetCommands
  intro s bus k t hp on l Signed
  refine ⟨?_, ?_, ?_, ?_, ?_, ?_, ?_, ?_, ?_⟩
  · intro i h hf hl hi
    have hx := exec_sheetFlush hp h hf hl hi
    obtain ⟨hrun, -⟩ := acceptRunning_runs (started_running h) i
    obtain ⟨mb, hmb⟩ := acceptRunning_frame t k.ch i
    have hat : ∀ j, sheetAt (acceptRunning t k.ch i) l j = sheetAt t l j := fun j => sheetAt_of_rcpt (by rw [hmb]) l j
    have hin : ∀ st, sheetIn (acceptRunning t k.ch i) l st = sheetIn t l st := fun st => sheetIn_congr fun j _ => by rw [hat]
    refine ⟨fun hn => ⟨_, hx, ?_⟩, fun j hj hfree hdue => ⟨_, hx, ?_⟩⟩
    · rw [flushSheet_none (by rw [hin]; exact hn)]
      exact (ticket_ends (t := t) (u := acceptRunning t k.ch i) (ticketRuns_of_mbox hrun rfl) rfl stDone [0]).1
    · obtain ⟨u, hu, hum⟩ := flushSheet_closes (by rw [hin]; exact hj) (by rw [hin]; exact hfree) (by rw [hat]; exact hdue) (.ticket k.ch i)
      rw [hat] at hu
      rw [hu]
      exact ⟨ticketRuns_of_mbox hrun hum, sheetAt_setSheet_same _ _ _ _⟩
  · intro i j o t1 t2 t3 h hf hl hd hk hn hi t4 ho hw
    rw [exec_sheetCopy hp h hf hl hd hk hn hi, copySheet_copied ho hw]
  · intro j h hf hl hk hd
    refine ⟨_, exec_sheetCollect hp h hf hl hk hd, answered_of_mbox (u := setSheet t l j {}) (started_running h) rfl rfl, ?_, fun m f hne => ?_⟩
    · exact (sheetAt_reply _ _ _ _ _ _).trans (sheetAt_setSheet_same t l j {})
    · exact (sheetAt_reply _ _ _ _ _ _).trans (sheetAt_setSheet_ne t hne {})
  · intro h hf hl hk
    exact exec_sheetCollect_none hp h hf hl hk
  · intro h hf
    obtain ⟨hlen, ⟨m, hm⟩, hslot⟩ := statusWords_spec t l
    refine ⟨_, exec_sheetStatus hp h hf, _, (reply_answered (started_running h) _ _).1, hlen, ?_, fun a ha v hv => ?_⟩
    · rw [hm, statusWord_count]
      cases sheetIn t l .filling <;> rfl
    · obtain ⟨hbit, hwords⟩ := hslot a ha
      rw [← hv] at hbit hwords
      refine ⟨fun hs => ?_, fun hs => ?_⟩
      · rw [slotWords_signed hs] at hwords
        simp only [List.cons.injEq, and_true] at hwords
        obtain ⟨h1, h2, h3⟩ := hwords
        exact ⟨by rw [hbit, hs]; rfl, h1.symm, h2.symm, h3.symm⟩
      · obtain ⟨w, hw⟩ := slotWords_other hs
        rw [hw] at hwords
        simp only [List.cons.injEq, and_true] at hwords
        obtain ⟨h1, -, -⟩ := hwords
        exact ⟨by rw [hbit]; simpa using hs, h1.symm⟩
  · intro j o t1 h hf h0 hk n base ho
    refine (onBus_service hp h _).trans ?_
    rw [receiptFetch_kept hf h0 hk rfl rfl ho]
  · intro m f v h5 hv hs hd ha
    exact ⟨_, exec_sheetAge hp h5 hv hs hd ha, sheetAt_setSheet_same _ _ _ _, rfl⟩
  · intro m f h5 hn
    have hx := exec_sheetSigned bus hp h5 hn
    refine ⟨fun hc => ?_, fun hc => ?_⟩
    · rw [signWhen_covered (by exact hc)] at hx
      exact signs_or_fails hx
    · rw [hx, signWhen, if_neg (by exact ne_true_of_eq_false hc)]
      rfl
  · intro m f v p h5 hv hs hr hd hc
    have hx := exec_sheetSignRetry bus hp h5 hv hs hr hd
    rw [signWhen_covered (by exact hc)] at hx
    exact signs_or_fails hx

end Sys2Proof.Proofs
end

section
/-!
PROOF. The receipt commands (R255 to R268).
-/
namespace Sys2Proof.Proofs

open Sys2Proof Sys2Proof.Machine Sys2Proof.Safety Sys2Proof.Laws

/-! ### Opening (R256) -/

theorem exec_receiptOpen {s t t1 t2 t3 : State} {bus : Bus} {k : Call} {m : Model} {o : Octets} {h : Nat} (hp : powered s = true)
    (hs : Started { s with bus := bus } 0x210 k t) (hf : fieldsOk k (0x0FFF3FFF :: descMasks) = true) (ho : openRefusal t k = (.ok m, t1))
    (hd : dmaRead t1 (descAt k 1) = (.ok o, t2)) (hb : badSlot t2 k (slotRecords o) 0 = (none, t3))
    (ha : (slotRecords o).all slotPad = false) (hh : firstBelow 1024 (fun h => (tfind t3.rcpt.receipts h).isNone) = some h) :
    exec (.receiptOpen bus) s = .next (ended s (openReceipt t3 k m (slotRecords o) h)) := by
  refine (onBus_service hp hs _).trans ?_
  simp only [hf, ho, hd, hb, ha, hh, Bool.not_true, Bool.false_eq_true, if_false]

/-- The receipt that an open makes. -/
def openedReceipt (s : State) (k : Call) (m : Model) (ws : List (List W32)) : Receipt :=
  { state := .opened, lane := m.lane, ctx := bits (k.word 0) 0 14, epoch := (ctxAt s (bits (k.word 0) 0 14)).epoch
    keyGen := (ctxAt s (bits (k.word 0) 0 14)).keyGen, handle := bits (k.word 0) 16 12, modelCtx := m.ctx, modelEpoch := m.epoch
    measurement := m.measurement
    serial := BitVec.ofNat 64 ((vaultView s).startCount.toNat * 2 ^ 32 + (s.rcpt.opened + 1))
    openPace := BitVec.ofNat 64 s.pace.now, closePace := 0, foldKey := BitVec.ofNat 128 (drawRandom s).1.toNat
    slots := ws.map (newSlot s), verdict := 0, caller := none, tiles := [], order := 0 }

theorem newSlot_words (s : State) (ws : List (List W32)) : (ws.map (newSlot s)).map RSlot.words = ws := by
  rw [List.map_map]
  exact List.map_id ws

/-- An open draws the fold key, counts, and enters the receipt under its handle. -/
theorem openReceipt_eq (s : State) (k : Call) (m : Model) (ws : List (List W32)) (h : Nat) :
    openReceipt s k m ws h = reply { s with rng := s.rng + 1, rcpt := { s.rcpt with
        opened := s.rcpt.opened + 1, receipts := tput s.rcpt.receipts h (openedReceipt s k m ws) } } k stDone
      [BitVec.ofNat 32 h, BitVec.ofNat 32 (openedReceipt s k m ws).serial.toNat,
        BitVec.ofNat 32 ((openedReceipt s k m ws).serial.toNat / 2 ^ 32)] := rfl

/-! ### Closing (R260) -/

theorem namedReceipt_found {t : State} {k : Call} {n : Nat} {r : Receipt} (h : namedReceipt t k n = .ok r) :
    tfind t.rcpt.receipts n = some r := by
  rw [namedReceipt] at h
  cases hr : tfind t.rcpt.receipts n with
  | none =>
    rw [hr] at h
    exact absurd h (by simp)
  | some q =>
    rw [hr] at h
    dsimp only at h
    split_ifs at h
    rw [Except.ok.inj h]

theorem exec_receiptClose {s t : State} {bus : Bus} {k : Call} {r : Receipt} {i : Nat} (hp : powered s = true)
    (hs : Started { s with bus := bus } 0x211 k t) (hf : fieldsOk k [0x3FF, 0xFFFF] = true)
    (hn : namedReceipt t k (bits (k.word 0) 0 10) = .ok r) (hi : freeTicket (chanAt t k.ch) = some i) :
    exec (.receiptClose bus) s =
      .next (ended s (closeReceipt (bits (k.word 0) 0 10) (k.word 1) (.ticket k.ch i) (acceptRunning t k.ch i))) := by
  refine (onBus_service hp hs _).trans ?_
  simp only [hf, hn, ticketed_free hi, Bool.not_true, Bool.false_eq_true, if_false]

/-- A declared slot is CORRUPT by declaration. -/
def declaredSlot (x : RSlot) : RSlot := if x.status = 0 then corruptSlot x 1 else x

theorem declaredSlot_status (x : RSlot) : (declaredSlot x).status ≠ 0 := by
  rw [declaredSlot]
  split_ifs with h
  · exact Nat.one_ne_zero
  · exact h

/-- A step of the close passes over slots that are PAD or CORRUPT. -/
theorem overSlots_none (f : State → RSlot → Nat → RSlot × State) (s : State) : ∀ (xs : List RSlot) (i : Nat), (∀ x ∈ xs, x.status ≠ 0) →
    overSlots f s xs i = (xs, s)
  | [], _, _ => rfl
  | x :: xs, i, h => by
    rw [overSlots, if_neg (h x List.mem_cons_self)]
    dsimp only
    rw [overSlots_none f s xs (i + 1) fun y hy => h y (List.mem_cons_of_mem x hy)]

/-- Step 1, where every slot in use is declared. -/
theorem overSlots_declared (s : State) (declared : W32) : ∀ (xs : List RSlot) (i : Nat),
    (∀ j, (xs.getD j default).status = 0 → j < xs.length → bit declared (i + j) = true) →
    overSlots (fun t x i => (if bit declared i then corruptSlot x 1 else x, t)) s xs i = (xs.map declaredSlot, s)
  | [], _, _ => rfl
  | x :: xs, i, h => by
    have hrest := overSlots_declared s declared xs (i + 1) fun j hj hl => by
      have := h (j + 1) hj (Nat.succ_lt_succ hl)
      rwa [← Nat.add_assoc, Nat.add_right_comm] at this
    have hx : x.status = 0 → bit declared i = true := fun h0 => h 0 h0 (Nat.succ_pos _)
    rw [overSlots, List.map_cons]
    by_cases h0 : x.status = 0
    · rw [if_pos h0, if_pos (hx h0)]
      dsimp only
      rw [hrest, declaredSlot, if_pos h0]
    · rw [if_neg h0]
      dsimp only
      rw [hrest, declaredSlot, if_neg h0]

theorem closeSlots_declared {s : State} {r : Receipt} {declared : W32}
    (h : ∀ j, (r.slots.getD j default).status = 0 → j < r.slots.length → bit declared j = true) (n : Nat) :
    closeSlots s n r declared = (r.slots.map declaredSlot, s) := by
  have hnone : ∀ x ∈ r.slots.map declaredSlot, x.status ≠ 0 := by
    intro x hx
    obtain ⟨y, -, rfl⟩ := List.mem_map.1 hx
    exact declaredSlot_status y
  rw [closeSlots, overSlots_declared s declared r.slots 0 (by simpa using h)]
  dsimp only
  rw [overSlots_none _ _ _ _ hnone]
  dsimp only
  rw [overSlots_none _ _ _ _ hnone]
  dsimp only
  rw [overSlots_none _ _ _ _ hnone]
  dsimp only
  rw [overSlots_none _ _ _ _ hnone]

/-- The read entries of a receipt's contexts. -/
def receiptTiles (s : State) (r : Receipt) : List Nat := ((tilesOf s r.modelCtx ++ tilesOf s r.ctx).map TileRead.order).eraseDups

/-- The read entries, those of a list on their way to completion. -/
def sentReads (s : State) (es : List Nat) : List TileRead :=
  s.tiles.reads.map (fun e => if es.contains e.order then { e with completing := true } else e)

theorem closeReceipt_declared {s : State} {r : Receipt} {n : Nat} {declared : W32} {w : Caller} (hr : tfind s.rcpt.receipts n = some r)
    (h : ∀ j, (r.slots.getD j default).status = 0 → j < r.slots.length → bit declared j = true) :
    ∃ t1 : State, closeReceipt n declared w s = setReceipt { t1 with tiles := { s.tiles with reads := sentReads s (receiptTiles s r) } } n
      { r with state := .pending, caller := some w, slots := r.slots.map declaredSlot, tiles := receiptTiles s r } ∧ t1.mbox = s.mbox := by
  rw [closeReceipt, hr]
  dsimp only
  rw [closeSlots_declared h]
  exact ⟨setReceipt s n { r with state := .closing, caller := some w }, rfl, rfl⟩

theorem sentReads_sent (s : State) (r : Receipt) : ∀ x ∈ sentReads s (receiptTiles s r), x.reader = r.ctx ∨ x.holder = r.ctx →
    x.completing = true := by
  intro x hx hc
  obtain ⟨e, he, rfl⟩ := List.mem_map.1 hx
  by_cases hin : (receiptTiles s r).contains e.order = true
  · rw [if_pos hin]
  · rw [if_neg hin] at hc
    refine absurd ?_ hin
    rw [List.contains_iff_mem, receiptTiles, List.mem_eraseDups]
    exact List.mem_map_of_mem (List.mem_append_right _ (List.mem_filter.2 ⟨he, decide_eq_true hc⟩))

/-! ### Abandoning and folding again (R259, R264) -/

theorem exec_receiptAbandon {s t : State} {bus : Bus} {k : Call} {r : Receipt} (hp : powered s = true)
    (hs : Started { s with bus := bus } 0x212 k t) (hf : fieldsOk k [0x3FF] = true)
    (hn : namedReceipt t k (bits (k.word 0) 0 10) = .ok r) :
    exec (.receiptAbandon bus) s = .next (ended s (reply (toEntering t (bits (k.word 0) 0 10) { r with
      slots := r.slots.map (fun x => if x.status = 2 then x else corruptSlot x 1) } 2) k stDone [])) := by
  refine (onBus_service hp hs _).trans ?_
  simp only [hf, hn, Bool.not_true, Bool.false_eq_true, if_false]

theorem rcpt_reply (s : State) (k : Call) (st : BitVec 8) (ws : List W32) : (reply s k st ws).rcpt = s.rcpt := by
  obtain ⟨m, h⟩ := reply_frame s k st ws
  rw [h]

/-- The receipt as it enters ENTERING with a verdict. -/
def enteringReceipt (s : State) (r : Receipt) (verdict : Nat) : Receipt :=
  { r with state := .entering, verdict := verdict, closePace := BitVec.ofNat 64 s.pace.now, order := s.rcpt.order, tiles := [] }

theorem toEntering_eq (s : State) (h : Nat) (r : Receipt) (verdict : Nat) : toEntering s h r verdict =
    { s with rcpt := { s.rcpt with order := s.rcpt.order + 1, receipts := tput s.rcpt.receipts h (enteringReceipt s r verdict) } } := rfl

/-! ### Verdicts and entries (R260, R268) -/

theorem exec_receiptVerdicts {s : State} (bus : Bus) (hp : powered s = true) :
    exec (.receiptVerdictsFinal bus) s = .next (ended s (receiptVerdicts { s with bus := bus })) := onBus_powered (f := receiptVerdicts) s hp

theorem receiptVerdicts_single {s : State} {h : Nat} {r : Receipt} (hr : s.rcpt.receipts = [(h, r)]) (hs : r.state = .pending)
    (ht : ∀ o ∈ r.tiles, tileEntry s o = none) :
    receiptVerdicts s = toEntering s h r (if (ctxAt s r.ctx).taint || (ctxAt s r.modelCtx).taint then 1 else 0) := by
  have hall : r.tiles.all (fun o => (tileEntry s o).isNone) = true := List.all_eq_true.2 fun o ho => by rw [ht o ho]; rfl
  have hfin : finalReceipt s = some (h, r) := by
    rw [finalReceipt, hr, List.filter_cons_of_pos (by simp only [hs, hall]; rfl)]
    rfl
  rw [receiptVerdicts, hfin]

theorem exec_receiptEnter {s : State} (bus : Bus) (hp : powered s = true) :
    exec (.receiptEnter bus) s = .next (ended s (receiptEnter { s with bus := bus })) := onBus_powered (f := receiptEnter) s hp

theorem receiptEnter_single {s : State} {h : Nat} {r : Receipt} {i : Nat} (hr : s.rcpt.receipts = [(h, r)]) (hs : r.state = .entering)
    (hi : roomFor s r.lane = some i) : receiptEnter s = enterReceipt s h r i := by
  have hnext : nextEntry s = some (h, r) := by
    rw [nextEntry, hr, List.filter_cons_of_pos (by simp only [hs, hi]; rfl)]
    rfl
  rw [receiptEnter, hnext]
  dsimp only
  rw [hi]

/-- The sheet with a receipt's record appended. -/
def filledSheet (s1 : State) (v : Sheet) (o : Octets) : Sheet :=
  { v with state := .filling, count := v.count + 1, len := v.len + o.length
           leaves := v.leaves ++ [BitVec.ofNat 384 (ofBe (sha384 (0 :: o)))]
           firstPace := if v.count = 0 then BitVec.ofNat 64 s1.pace.now else v.firstPace
           since := if v.count = 0 then clock s1 else v.since }

theorem enterReceipt_eq {s s1 : State} {h : Nat} {r : Receipt} {i : Nat} (hc : r.caller = none) (hn : (sheetAt s r.lane i).count + 1 ≠ 256)
    (hp : ownPatch s (sheetBase s r.lane i + 8192 + (sheetAt s r.lane i).len) (receiptRecord r) = (true, s1)) :
    ∃ c, enterReceipt s h r i = (if r.verdict = 1 then count (count (count (dropReceipt (setSheet (ownDigest s1 r.lane) r.lane i
      (filledSheet s1 (sheetAt s r.lane i) (receiptRecord r))) h) 0x7898 1) 0x78B0 c) 0x78A0 1 else
      count (count (dropReceipt (setSheet (ownDigest s1 r.lane) r.lane i
      (filledSheet s1 (sheetAt s r.lane i) (receiptRecord r))) h) 0x7898 1) 0x78B0 c) := by
  rw [enterReceipt]
  simp only [hp, hc, if_neg hn]
  exact ⟨_, rfl⟩

theorem counter_chargeEnergy {s : State} {l e off : Nat} (h : off ≠ 0x7010 + 32 * l) : counter (chargeEnergy s l e) off = counter s off := by
  rw [chargeEnergy, counter_count, if_neg h]
theorem counter_count_ne {s : State} {o n off : Nat} (h : off ≠ o) : counter (count s o n) off = counter s off := by
  rw [counter_count, if_neg h]

/-- The counters that a digest of the block's own raises. -/
theorem ownDigest_counts (s : State) (l : Nat) : ∃ (a b c e : Nat) (u : State), ownDigest s l =
    chargeEnergy (count (count (count u 0x7900 a) 0x7908 b) (0x7018 + 32 * l) c) l e ∧ u.cnt = s.cnt := by
  rw [ownDigest]
  exact ⟨_, _, _, _, _, rfl, rfl⟩

theorem counter_of_cnt {s t : State} (h : t.cnt = s.cnt) (off : Nat) : counter t off = counter s off := by rw [counter, counter, h]
theorem counter_ownDigest {s : State} {l : Nat} (hl : l < 64) : counter (ownDigest s l) 0x7898 = counter s 0x7898 := by
  obtain ⟨a, b, c, e, u, h, hu⟩ := ownDigest_counts s l
  have h1 : (30872 : Nat) ≠ 0x7010 + 32 * l := by omega
  have h2 : (30872 : Nat) ≠ 0x7018 + 32 * l := by omega
  rw [h, counter_chargeEnergy h1, counter_count_ne h2, counter_count_ne (by decide), counter_count_ne (by decide)]
  exact counter_of_cnt hu _

theorem dropReceipt_cnt (s : State) (l i h : Nat) (v : Sheet) : (dropReceipt (setSheet s l i v) h).cnt = s.cnt := rfl

/-- The receipt's row of the sheet it entered, where it is gone from the receipts. -/
theorem entered_stands {s u : State} {h l i c : Nat} {v : Sheet} (hl : l < 64) (hu : u.rcpt = s.rcpt) (hr : ∃ r, s.rcpt.receipts = [(h, r)])
    (b : Bool) : let s3 := count (count (dropReceipt (setSheet (ownDigest u l) l i v) h) 0x7898 1) 0x78B0 c
    let w := ended s (if b then count s3 0x78A0 1 else s3)
    w.rcpt.receipts = [] ∧ sheetAt w l i = v ∧ counter w 0x7898 = counter u 0x7898 + 1 := by
  obtain ⟨r, hr⟩ := hr
  have hrc : (ownDigest u l).rcpt = u.rcpt := by
    obtain ⟨n, q, hq⟩ := ownDigest_eq u l
    rw [hq]
  have hcnt := counter_ownDigest (s := u) hl
  generalize ownDigest u l = o at hrc hcnt ⊢
  have hrest : (dropReceipt (setSheet o l i v) h).rcpt.receipts = [] := by
    show tdel o.rcpt.receipts h = []
    rw [hrc, hu, hr]
    exact List.filter_cons_of_neg (by simp)
  have hsheet : sheetAt (dropReceipt (setSheet o l i v) h) l i = v := by
    rw [sheetAt, show (dropReceipt (setSheet o l i v) h).rcpt.sheets = (setSheet o l i v).rcpt.sheets from rfl, ← sheetAt, sheetAt_setSheet_same]
  have hcnt' : counter (dropReceipt (setSheet o l i v) h) 0x7898 = counter u 0x7898 :=
    (counter_of_cnt (dropReceipt_cnt o l i h v) _).trans hcnt
  generalize dropReceipt (setSheet o l i v) h = d at hrest hsheet hcnt'
  have hc3 : counter (count (count d 0x7898 1) 0x78B0 c) 0x7898 = counter u 0x7898 + 1 := by
    rw [counter_count_ne (by decide), counter_count, if_pos rfl, hcnt']
    rfl
  have hs3 : (count (count d 0x7898 1) 0x78B0 c).rcpt = d.rcpt := by rw [count_rcpt, count_rcpt]
  generalize count (count d 0x7898 1) 0x78B0 c = s3 at hc3 hs3 ⊢
  dsimp only
  rw [ended_rcpt, sheetAt_of_rcpt (ended_rcpt s _),
    counter_of_cnt (ended_cnt s _)]
  cases b with
  | false => exact ⟨hs3 ▸ hrest, (sheetAt_of_rcpt hs3 l i).trans hsheet, hc3⟩
  | true =>
    have hs4 : (count s3 0x78A0 1).rcpt = d.rcpt := by rw [count_rcpt, hs3]
    exact ⟨hs4 ▸ hrest, (sheetAt_of_rcpt hs4 l i).trans hsheet, (counter_count_ne (by decide)).trans hc3⟩

/-! ### The obligation -/

/-- Settles O51: an open, a close of declared slots, an abandonment, a fold, a verdict and an entry, each by its row's lemma. -/
theorem receiptCommands : Obligations.ReceiptCommands := by
  unfold Obligations.ReceiptCommands
  intro s bus k t hp on n
  refine ⟨?_, ?_, ?_, ?_, ?_, ?_⟩
  · intro m t1 o t2 t3 h hs hf ho hd hb ha hh serial
    refine ⟨_, exec_receiptOpen hp hs hf ho hd hb ha hh, ?_⟩
    rw [openReceipt_eq]
    generalize hr : openedReceipt t3 k m (slotRecords o) = r
    have hrc := rcpt_reply { t3 with rng := t3.rng + 1, rcpt := { t3.rcpt with
      opened := t3.rcpt.opened + 1, receipts := tput t3.rcpt.receipts h r } } k stDone
      [BitVec.ofNat 32 h, BitVec.ofNat 32 r.serial.toNat, BitVec.ofNat 32 (r.serial.toNat / 2 ^ 32)]
    refine ⟨by rw [ended_rcpt, hrc], r, by rw [ended_rcpt, hrc]; exact tfind_tput_same _ _ _, ?_⟩
    subst hr
    exact ⟨rfl, rfl, rfl, rfl, rfl, rfl, rfl, newSlot_words t3 _, rfl⟩
  · intro r i hs hf hn hi hdecl
    obtain ⟨mb, hmb⟩ := acceptRunning_frame t k.ch i
    obtain ⟨hrun, -⟩ := acceptRunning_runs (started_running hs) i
    have hr : tfind (acceptRunning t k.ch i).rcpt.receipts n = some r := by
      rw [hmb]
      exact namedReceipt_found hn
    obtain ⟨t1, ht1, hm⟩ := closeReceipt_declared (w := .ticket k.ch i) hr hdecl
    refine ⟨_, exec_receiptClose hp hs hf hn hi, ?_⟩
    rw [ht1]
    refine ⟨ticketRuns_of_mbox hrun hm, (tfind_tput_same _ _ _).trans ?_, sentReads_sent (acceptRunning t k.ch i) r⟩
    rw [hmb]
    rfl
  · intro r hs hf hn
    refine ⟨_, exec_receiptAbandon hp hs hf hn, ?_⟩
    have hnow : t.pace.now = s.pace.now := by
      obtain ⟨rest, -, ht⟩ := started_channel hs
      rw [ht]
      rfl
    generalize hv : r.slots.map (fun x => if x.status = 2 then x else corruptSlot x 1) = v
    refine ⟨answered_of_mbox (u := toEntering t (bits (k.word 0) 0 10) { r with slots := v } 2) (started_running hs) rfl rfl, ?_⟩
    rw [ended_rcpt, rcpt_reply, toEntering_eq]
    refine (tfind_tput_same _ _ _).trans ?_
    rw [enteringReceipt, hnow]
  · intro t1 b t2 hs hf h1 h2 h3 hd hfold
    refine (onBus_service hp hs _).trans ?_
    simp only [hf, h1, h2, Nat.not_lt.2 h3, hd, hfold, Bool.not_true, Bool.false_eq_true, ne_eq, not_true_eq_false, or_self, if_false]
  · intro h r hr hs ht
    rw [exec_receiptVerdicts bus hp, receiptVerdicts_single (s := { s with bus := bus }) hr hs ht, toEntering_eq]
    have hput : tput s.rcpt.receipts h (enteringReceipt s r (if (ctxAt s r.ctx).taint || (ctxAt s r.modelCtx).taint then 1 else 0)) =
        [(h, enteringReceipt s r (if (ctxAt s r.ctx).taint || (ctxAt s r.modelCtx).taint then 1 else 0))] := by
      rw [hr, tput, if_neg (Nat.lt_irrefl h), if_pos rfl]
    exact congrArg (fun x => Host.Outcome.next (ended s { s with rcpt := { s.rcpt with order := s.rcpt.order + 1, receipts := x } })) hput
  · intro h r i u hr hs hc hl hi v hn hpatch hu
    have hx := exec_receiptEnter bus hp
    rw [receiptEnter_single (s := { s with bus := bus }) hr hs hi] at hx
    refine ⟨_, hx, ?_⟩
    obtain ⟨c, he⟩ := enterReceipt_eq (s := { s with bus := bus }) (h := h) (i := i) hc hn hpatch
    rw [he]
    obtain ⟨h1, h2, h3⟩ := entered_stands (s := s) (u := u) (h := h) (l := r.lane) (i := i) (c := c)
      (v := filledSheet u (sheetAt s r.lane i) (receiptRecord r)) hl hu ⟨r, hr⟩ (decide (r.verdict = 1))
    simp only [decide_eq_true_eq] at h1 h2 h3
    have hv : sheetAt { s with bus := bus } r.lane i = sheetAt s r.lane i := rfl
    rw [hv]
    refine ⟨h1, ?_, ?_, ?_, ?_, h3⟩ <;> rw [h2] <;> rfl

end Sys2Proof.Proofs
end

section
/-!
PROOF. The model commands (R237 to R254).
-/
namespace Sys2Proof.Proofs

open Sys2Proof Sys2Proof.Machine Sys2Proof.Safety Sys2Proof.Laws

/-! ### A load that ends otherwise than DONE (R250) -/

/-- The words that a failed load answers, with the pages that it gave back. -/
def failedWords (f : LoadFail) (part freed : Nat) : List W32 :=
  [field 32 0 8 f.reason ||| field 32 8 8 f.tensor ||| field 32 16 7 part, BitVec.ofNat 32 freed]

/-- A load that holds no page ends in the loader's result and the answer. -/
theorem rejectLoad_none (s : State) (w : Caller) (f : LoadFail) (ctx page part : Nat) :
    rejectLoad s w f ctx page 0 part = finish (count (loadResult s f.st f.reason f.tensor) 0x7890 1) w f.st (failedWords f part 0) := rfl

theorem rcpt_finish (s : State) (w : Caller) (st : BitVec 8) (ws : List W32) : (finish s w st ws).rcpt = s.rcpt := by
  obtain ⟨m, h⟩ := finish_frame s w st ws
  rw [h]

/-- Whatever pages it holds, the loader's result shows why it failed. -/
theorem rejectLoad_status (s : State) (w : Caller) (f : LoadFail) (ctx page n part : Nat) :
    (rejectLoad s w f ctx page n part).rcpt.loadStatus = f.st := by
  rw [rejectLoad]
  dsimp only
  rw [rcpt_finish, count_rcpt]
  rfl

/-! ### MODEL_LOAD (R247) -/

theorem exec_modelLoad {s t t1 : State} {bus : Bus} {k : Call} {i : Nat} (hp : powered s = true) (h : Started { s with bus := bus } 0x201 k t)
    (hf : fieldsOk k ([0x13FFF, 0xFFFFFF] ++ descMasks) = true) (hl : loadRefusal t k = (none, t1))
    (hi : freeTicket (chanAt t1 k.ch) = some i) :
    exec (.modelLoad bus) s = .next (ended s (startLoad k (.ticket k.ch i) (acceptRunning t1 k.ch i))) := by
  refine (onBus_service hp h _).trans ?_
  simp only [hf, hl, ticketed_free hi, Bool.not_true, Bool.false_eq_true, if_false]

section
variable {s : State} {k : Call} {w : Caller}

theorem startLoad_unread {s1 : State} {f : LoadFail} (h : readPackage s (descAt k 2) = (.error f, s1)) :
    startLoad k w s = rejectLoad s1 w f (bits (k.word 0) 0 14) (bits (k.word 1) 0 24) 0 0 := by
  rw [startLoad]
  simp only [h]

theorem startLoad_unsized {s1 s2 : State} {g : Package} {f : LoadFail} (h : readPackage s (descAt k 2) = (.ok g, s1))
    (hs : sizePackage s1 g (bits (k.word 0) 0 14) (bits (k.word 1) 0 24) (bit (k.word 0) 16) = (.error f, s2)) :
    startLoad k w s = rejectLoad s2 w f (bits (k.word 0) 0 14) (bits (k.word 1) 0 24) 0 0 := by
  rw [startLoad]
  simp only [h, hs]

/-- The state in which the parts are loaded: the package is measured, its key unwrapped where it has one. -/
def measured (s : State) (g : Package) (ctx : Nat) : State :=
  if g.m.wrap.isSome then ownRns s (ctxAt s ctx).lane.toNat (1, 0) else ownDigest s (ctxAt s ctx).lane.toNat

theorem startLoad_sized {s1 s2 : State} {g : Package} {n : Nat} (h : readPackage s (descAt k 2) = (.ok g, s1))
    (hs : sizePackage s1 g (bits (k.word 0) 0 14) (bits (k.word 1) 0 24) (bit (k.word 0) 16) = (.ok n, s2)) :
    startLoad k w s = loadParts 64 (measured s2 g (bits (k.word 0) 0 14)) (newLoad (measured s2 g (bits (k.word 0) 0 14)) w g
      (bits (k.word 0) 0 14) (bits (k.word 1) 0 24) n (bit (k.word 0) 16) (descAt k 2)) := by
  rw [startLoad]
  simp only [h, hs]
  rfl

end

theorem readPackage_header {s t : State} {d : Desc} {h : Octets} {f : LoadFail}
    (hr : dmaRead s { d with addr := d.addr + 0, len := min 64 d.len } = (.ok h, t)) (hh : pkgHeader h d.len = .error f) :
    readPackage s d = (.error f, t) := by
  rw [readPackage]
  simp only [hr, hh]

/-- The state in which the signatures of a package have been judged. -/
def pkgJudged (s : State) (g : Package) (ctx : Nat) : State :=
  ownRns s (ctxAt s ctx).lane.toNat (blockJobs (laneSigners s (ctxAt s ctx).lane.toNat) (g.head ++ g.man) g.sig)

theorem sizePackage_unsigned {s : State} {g : Package} {ctx r : Nat}
    (h : blockFails (laneSigners s (ctxAt s ctx).lane.toNat) (g.head ++ g.man) g.sig = some r) (page : Nat) (shared : Bool) :
    sizePackage s g ctx page shared = (.error { st := stPkgSignature, reason := r, tensor := 0xFF }, pkgJudged s g ctx) := by
  rw [sizePackage]
  simp only [h]
  rfl

theorem sizePackage_limited {s : State} {g : Package} {ctx : Nat} {f : LoadFail}
    (h : blockFails (laneSigners s (ctxAt s ctx).lane.toNat) (g.head ++ g.man) g.sig = none)
    (hl : sizeCheck (pkgJudged s g ctx) g.m g.parts.pay.2 ctx = .error f) (page : Nat) (shared : Bool) :
    sizePackage s g ctx page shared = (.error f, pkgJudged s g ctx) := by
  rw [pkgJudged] at hl
  rw [sizePackage]
  simp only [h, hl]
  rfl

/-! ### The end of a load (R251) -/

/-- A load whose parts are all sealed is checked. -/
theorem loadParts_done {s : State} {l : Load} (hc : loadCurrent s l = true) (hd : l.done = l.pages) (m : Nat) :
    loadParts (m + 1) s l = checkLoad s l := by
  rw [loadParts]
  simp only [hc, hd, Nat.sub_self, Nat.min_zero, Bool.not_true, Bool.false_eq_true, if_false, if_true]

/-- The model table's entry of a load. -/
def loadedModel (s : State) (l : Load) : Model :=
  { measurement := l.measurement, lane := (ctxAt s l.ctx).lane.toNat, ctx := l.ctx, epoch := (ctxAt s l.ctx).epoch, page := l.page
    pages := l.pages, parts := l.part, batch := l.batch }

/-- The table with a load's entry, and its context with the handle. -/
def modelEntered (s : State) (l : Load) (h : Nat) : State :=
  setCtx { s with rcpt := { s.rcpt with models := tput s.rcpt.models h (loadedModel s l) } } l.ctx
    { ctxAt s l.ctx with model := BitVec.ofNat 12 h }

/-- What a recorded load extends its milepost by. -/
def extendOctets (s : State) (l : Load) : Octets :=
  beOctets 48 l.measurement.toNat ++ [BitVec.ofNat 8 (ctxAt s l.ctx).lane.toNat] ++ beOctets 2 l.ctx

/-- The state in which a load is recorded, before its answer. -/
def loadRecorded (s : State) (l : Load) (h : Nat) : State :=
  count (loadResult (requestExtend (modelEntered s l h) (modelMilepost (modelEntered s l h) (ctxAt s l.ctx).lane.toNat) (extendOctets s l))
    stDone 0 0xFF) 0x7888 1

theorem recordLoad_finish {s : State} {l : Load} {h : Nat} (hh : freeModel s = some h) : recordLoad s l =
    finish (loadRecorded s l h) l.caller stDone
      [field 32 0 12 h ||| field 32 12 7 l.part, field 32 0 15 l.pages, field 32 0 24 (ctxAt s l.ctx).epoch.toNat] := by
  have key : ∀ g, g = recordLoad → g s l = finish (loadRecorded s l h) l.caller stDone
      [field 32 0 12 h ||| field 32 12 7 l.part, field 32 0 15 l.pages, field 32 0 24 (ctxAt s l.ctx).epoch.toNat] := by
    intro g hg
    delta recordLoad at hg
    rw [congrFun (congrFun hg s) l]
    simp only [hh]
    rfl
  exact key _ rfl

theorem loadRecorded_eq (s : State) (l : Load) (h : Nat) : ∃ q, loadRecorded s l h =
    count (loadResult { modelEntered s l h with miles := q } stDone 0 0xFF) 0x7888 1 := ⟨_, rfl⟩

theorem recordLoad_eq {s : State} {l : Load} {h : Nat} (hh : freeModel s = some h) : ∃ q m, recordLoad s l =
    { count (loadResult { modelEntered s l h with miles := q } stDone 0 0xFF) 0x7888 1 with mbox := m } := by
  obtain ⟨q, hq⟩ := loadRecorded_eq s l h
  obtain ⟨m, hm⟩ := finish_frame (loadRecorded s l h) l.caller stDone
    [field 32 0 12 h ||| field 32 12 7 l.part, field 32 0 15 l.pages, field 32 0 24 (ctxAt s l.ctx).epoch.toNat]
  exact ⟨q, m, by rw [recordLoad_finish hh, hm, hq]⟩

/-- What stands once a load is recorded. -/
theorem recordLoad_records {s : State} {l : Load} {h : Nat} (hh : freeModel s = some h) :
    tfind (recordLoad s l).rcpt.models h = some (loadedModel s l) ∧ (ctxAt (recordLoad s l) l.ctx).model = BitVec.ofNat 12 h ∧
    (recordLoad s l).rcpt.load = none ∧ (recordLoad s l).rcpt.loadStatus = stDone ∧
    counter (recordLoad s l) 0x7888 = counter s 0x7888 + 1 := by
  obtain ⟨q, m, hr⟩ := recordLoad_eq (l := l) hh
  have hctx : (ctxAt (modelEntered s l h) l.ctx).model = BitVec.ofNat 12 h := by rw [modelEntered, ctxAt_setCtx_same]
  have hmodels : (modelEntered s l h).rcpt.models = tput s.rcpt.models h (loadedModel s l) := rfl
  have hcnt : (modelEntered s l h).cnt = s.cnt := rfl
  generalize modelEntered s l h = u at hr hctx hmodels hcnt
  have hc : counter (count (loadResult { u with miles := q } stDone 0 0xFF) 0x7888 1) 0x7888 = counter s 0x7888 + 1 := by
    rw [counter_count, if_pos rfl, counter_of_cnt (s := s) (t := loadResult { u with miles := q } stDone 0 0xFF) hcnt]
    rfl
  rw [hr]
  refine ⟨?_, hctx, rfl, rfl, hc⟩
  show tfind u.rcpt.models h = _
  rw [hmodels, tfind_tput_same]

theorem checkLoad_good {s : State} {l : Load} (h : beOctets 48 l.digest.toNat = sha384 l.plain) : checkLoad s l = recordLoad s l := by
  rw [checkLoad, if_pos h]

theorem checkLoad_bad {s : State} {l : Load} (h : beOctets 48 l.digest.toNat ≠ sha384 l.plain) :
    (checkLoad s l).rcpt.loadStatus = stPayloadDigest := by
  rw [checkLoad, if_neg h, rejectLoad_status]

theorem exec_tileWait {s : State} (bus : Bus) {l : Load} (hp : powered s = true) (h : s.rcpt.load = some l) (hd : l.since + 65536 ≤ clock s) :
    exec (.loaderTileWaitExpire bus) s = .next (ended s (rejectLoad { s with bus := bus } l.caller
      { st := stTileFull, reason := 0, tensor := 0xFF } l.ctx l.page l.done l.part)) := by
  refine (onBus_powered (f := fun s => match s.rcpt.load with
    | none => s
    | some l =>
      if l.since + 65536 ≤ clock s then
        rejectLoad s l.caller { st := stTileFull, reason := 0, tensor := 0xFF } l.ctx l.page l.done l.part
      else s) s hp).trans ?_
  have hc : l.since + 65536 ≤ clock { s with bus := bus } := hd
  simp only [h, hc, if_true]

/-! ### The table and the signers (R240, R254) -/

theorem exec_modelQuery {s t : State} {bus : Bus} {k : Call} {m : Model} (hp : powered s = true) (h : Started { s with bus := bus } 0x202 k t)
    (hf : fieldsOk k [0xFFF] = true) (hm : tfind t.rcpt.models (bits (k.word 0) 0 12) = some m) (hl : k.owner = true ∨ m.lane = k.lane) :
    exec (.modelQuery bus) s = .next (ended s (if !modelCurrent t m then reply t k stStaleEpoch []
        else reply t k stDone (digestWords m.measurement ++
          [field 32 0 14 m.ctx ||| field 32 14 6 m.lane ||| field 32 20 5 m.batch ||| field 32 25 7 m.parts, field 32 0 15 m.pages]))) := by
  have hn : ¬ ((!k.owner) = true ∧ m.lane ≠ k.lane) := by
    rcases hl with h | h <;> simp [h]
  refine (onBus_service hp h _).trans ?_
  simp only [hf, hm, hn, Bool.not_true, Bool.false_eq_true, if_false]

/-- The flash record that MODEL_SIGNER_SET asks for. -/
def signerOp (k : Call) (w : Caller) : NvmOp :=
  .signer (bits (k.word 0) 0 6) (bits (k.word 0) 8 2) (if bit (k.word 0) 16 then none else some (BitVec.ofNat 384
    (ofBe ((List.range 12).flatMap (fun a => beOctets 4 (k.word (1 + a)).toNat))))) w

theorem exec_modelSignerSet {s t : State} {bus : Bus} {k : Call} {i : Nat} (hp : powered s = true) (h : Started { s with bus := bus } 0x203 k t)
    (hf : fieldsOk k [0x1033F] = true) (hi : freeTicket (chanAt t k.ch) = some i) :
    exec (.modelSignerSet bus) s = .next (ended s (nvmEnqueue (acceptRunning t k.ch i) (signerOp k (.ticket k.ch i)))) := by
  refine (onBus_service hp h _).trans ?_
  simp only [hf, ticketed_free hi, Bool.not_true, Bool.false_eq_true, if_false]
  rfl

/-! ### The obligation -/

/-- Settles O50: a load ends at its first failing check, or is recorded; the queries and the signer's record by their rows. -/
theorem modelCommands : Obligations.ModelCommands := by
  unfold Obligations.ModelCommands
  intro s bus k t hp on
  refine ⟨?_, ?_, ?_, ?_, ?_⟩
  · intro i t1 h hf hl hi d ctx page shared begun lane Rejected
    have hx := exec_modelLoad hp h hf hl hi
    have hrej : ∀ v f, startLoad k (.ticket k.ch i) begun = rejectLoad v (.ticket k.ch i) f ctx page 0 0 → Rejected v f := by
      intro v f hs
      show exec (.modelLoad bus) s = _
      rw [hx, hs, rejectLoad_none]
      rfl
    refine ⟨fun o t2 f hr hh => ?_, fun f t2 hr => ?_, fun g t2 hr => ⟨fun r hb => ?_, fun f hb hs => ?_, fun f t3 hs => ?_,
      fun n t3 hs => ?_⟩⟩
    · exact hrej _ _ (startLoad_unread (readPackage_header hr hh))
    · exact hrej _ _ (startLoad_unread hr)
    · exact hrej _ _ (startLoad_unsized hr (sizePackage_unsigned hb _ _))
    · exact hrej _ _ (startLoad_unsized hr (sizePackage_limited hb hs _ _))
    · exact hrej _ _ (startLoad_unsized hr hs)
    · rw [hx, startLoad_sized hr hs]
      rfl
  · intro l hc hd
    rw [loadParts_done hc hd]
    refine ⟨fun hg h hh => ?_, fun hb => checkLoad_bad hb⟩
    rw [checkLoad_good hg]
    exact recordLoad_records hh
  · intro l h hd h0
    rw [exec_tileWait bus hp h hd, h0, rejectLoad_none]
    rfl
  · intro m h hf hm hl
    have hx := exec_modelQuery hp h hf hm hl
    exact ⟨fun hc => by rw [hx, hc]; rfl, fun hc => by rw [hx, hc]; rfl⟩
  · intro i h hf hi
    obtain ⟨m, hm, hrun⟩ := started_ticket h i
    refine ⟨_, exec_modelSignerSet hp h hf hi, ?_⟩
    obtain ⟨n, hn, hmem⟩ := nvmEnqueue_eq (acceptRunning t k.ch i) (signerOp k (.ticket k.ch i))
    rw [hn, hm]
    exact ⟨hrun, hmem⟩

end Sys2Proof.Proofs
end

section
/-!
PROOF. An engine job's way through a bank (R286, R312, R319 to R325, R329 to R334, R350).
-/
namespace Sys2Proof.Proofs

open Sys2Proof Sys2Proof.Machine Sys2Proof.Safety Sys2Proof.Laws

/-! ### Banks, lanes and the coupling with one job -/

/-- The engine with these jobs, the lanes at a bank or free. -/
def withJobs (s : State) (js : List RnsJob) (lanes : Option Nat) : State := { s with rns := { s.rns with jobs := js, lanes := lanes } }

theorem setJob_single {s : State} {j x : RnsJob} (h : s.rns.jobs = [j]) (hid : x.id = j.id) : setJob s x = withJobs s [x] s.rns.lanes := by
  have hm : s.rns.jobs.map (fun y => if y.id = x.id then x else y) = [x] := by
    rw [h, List.map_singleton, if_pos hid.symm]
  rw [setJob, hm]
  rfl

theorem giveLanes_unready {s : State} (h : ∀ x ∈ s.rns.jobs, x.ready = false) : giveLanes s = s := by
  have hf : s.rns.jobs.filter RnsJob.ready = [] := List.filter_eq_nil_iff.2 fun x hx => by rw [h x hx]; decide
  rw [giveLanes]
  split
  · rfl
  · rw [hf]
    rfl

theorem giveLanes_held {s : State} (h : s.rns.lanes.isSome = true) : giveLanes s = s := by rw [giveLanes, if_pos h]

theorem grantCoupling_none {s : State} (h : ∀ x ∈ s.rns.jobs, x.phaseDue = false) : grantCoupling s = s := by
  have hf : s.rns.jobs.filter RnsJob.phaseDue = [] := List.filter_eq_nil_iff.2 fun x hx => by rw [h x hx]; decide
  rw [grantCoupling]
  split
  · rfl
  · rw [hf]
    rfl

/-- The only job that waits for the coupling has it, where no other holds it. -/
theorem grantCoupling_single {s : State} {x : RnsJob} (hx : s.rns.jobs = [x]) (hd : x.phaseDue = true) (hc : s.rns.coupling = none) :
    (grantCoupling s).rns.jobs = [{ x with phaseDue := false }] ∧ (grantCoupling s).rns.lanes = s.rns.lanes ∧
      (grantCoupling s).rns.coupling = some (x.id, s.pace.now) ∧ (grantCoupling s).dram = s.dram := by
  have hf : s.rns.jobs.filter RnsJob.phaseDue = [x] := by rw [hx, List.filter_cons_of_pos hd, List.filter_nil]
  have hg : grantCoupling s = count { setJob s { x with phaseDue := false } with
      rns := { (setJob s { x with phaseDue := false }).rns with coupling := some (x.id, s.pace.now) } } 0x7908 1 := by
    rw [grantCoupling, hc, hf]
    rfl
  rw [hg, setJob_single (j := x) (x := { x with phaseDue := false }) hx rfl]
  exact ⟨rfl, rfl, rfl, rfl⟩

theorem dropCoupling_none {s : State} (h : s.rns.coupling = none) (id : Nat) : dropCoupling s id = s := by rw [dropCoupling, h]

/-- The lanes once the job of a bank has left them. -/
def vacated (lanes : Option Nat) (b : Nat) : Option Nat := if lanes = some b then none else lanes

theorem offLanes_alone {s : State} {j x : RnsJob} {b : Nat} (hx : s.rns.jobs = [x]) (hr : x.ready = false) (hb : j.bank = some b) :
    offLanes s j = withJobs s [x] (vacated s.rns.lanes b) := by
  rw [offLanes, vacated, hb]
  by_cases hl : s.rns.lanes = some b
  · rw [if_pos ⟨rfl, hl⟩, if_pos hl, giveLanes_unready (fun y hy => ?_)]
    · rw [withJobs, ← hx]
    · have hy' : y ∈ s.rns.jobs := hy
      rw [hx, List.mem_singleton] at hy'
      rw [hy', hr]
  · rw [if_neg (fun h => hl h.2), if_neg hl, withJobs, ← hx]

/-- A job in CLEARING with the status that ends it. -/
def clearingJob (s : State) (j : RnsJob) (st : BitVec 8) (ws : List W32) : RnsJob :=
  { j with phase := .clearing, since := s.pace.now, status := st, words := ws, phaseDue := false }

/-- The only job ends: it goes to CLEARING, and off the lanes. -/
theorem toClearing_alone {s : State} {j : RnsJob} {b : Nat} (hj : s.rns.jobs = [j]) (hb : j.bank = some b) (hc : s.rns.coupling = none)
    (st : BitVec 8) (ws : List W32) : toClearing s j st ws = withJobs s [clearingJob s j st ws] (vacated s.rns.lanes b) := by
  have hr : (clearingJob s j st ws).ready = false := rfl
  show offLanes (dropCoupling (setJob s (clearingJob s j st ws)) j.id) j = _
  rw [setJob_single (x := clearingJob s j st ws) hj rfl]
  generalize clearingJob s j st ws = x at hr ⊢
  rw [dropCoupling_none (s := withJobs s [x] s.rns.lanes) hc, offLanes_alone rfl hr hb]
  rfl

/-- What a row that ends the only job leaves of it. -/
theorem cleared {s : State} {j : RnsJob} {b : Nat} (hj : s.rns.jobs = [j]) (hb : j.bank = some b) (hc : s.rns.coupling = none)
    (st : BitVec 8) (ws : List W32) : (∃ x, (toClearing s j st ws).rns.jobs = [x] ∧ x.phase = .clearing ∧ x.status = st ∧ x.words = ws) ∧
      (s.rns.lanes = some b → (toClearing s j st ws).rns.lanes = none) ∧ (toClearing s j st ws).rns.selfcheck = s.rns.selfcheck ∧
      (toClearing s j st ws).cnt = s.cnt := by
  rw [toClearing_alone hj hb hc]
  exact ⟨⟨_, rfl, rfl, rfl, rfl⟩, fun hl => if_pos hl, rfl, rfl⟩

theorem bankJob_head {s : State} {j : RnsJob} {js : List RnsJob} {b : Nat} (hj : s.rns.jobs = j :: js) (hb : j.bank = some b) :
    bankJob s b = some j := by
  rw [bankJob, hj, List.find?_cons_of_pos (by simp [hb])]

theorem inBank_found {s : State} {j : RnsJob} {b : Nat} (h : bankJob s b = some j) (f : RnsJob → State) : inBank s b j.phase f = f j := by
  rw [inBank, h]
  exact if_pos rfl

theorem freeBank_alone {s : State} {j : RnsJob} {b : Nat} (hj : s.rns.jobs = [j]) (hb : j.bank = some b) : (freeBank s).isSome = true := by
  have hfree : ∀ a, a ≠ b → (bankJob s a).isNone = true := fun a ha => by
    rw [bankJob, hj, List.find?_cons_of_neg (by simpa [hb] using Ne.symm ha)]
    rfl
  rw [freeBank, firstBelow, List.find?_isSome]
  by_cases h0 : b = 0
  · exact ⟨1, by decide, hfree 1 (by omega)⟩
  · exact ⟨0, by decide, hfree 0 (by omega)⟩

/-! ### The grant of a bank (R286, R329) -/

theorem nextJob_single {s : State} {j : RnsJob} (hj : s.rns.jobs = [j]) (hp : j.phase = .queued) (hk : s.keys.wkr = none)
    (ho : s.dig.opens = []) : nextJob s = some j := by
  have hw : loadWaiters s = [] := by rw [loadWaiters, ho]; rfl
  rw [nextJob, hj, hk, hw]
  rw [List.filter_cons_of_pos (by simp [RnsJob.waits, hp])]
  rfl

theorem freeBank_queued {s : State} {j : RnsJob} (hj : s.rns.jobs = [j]) (hb : j.bank = none) : freeBank s = some 0 := by
  have h0 : bankJob s 0 = none := by
    rw [bankJob, hj, List.find?_cons_of_neg (by simp [hb])]
    rfl
  rw [freeBank, firstBelow]
  exact List.find?_cons_of_pos (by rw [h0]; rfl)

theorem bankGrant_single {s : State} {j : RnsJob} (hj : s.rns.jobs = [j]) (hp : j.phase = .queued) (hb : j.bank = none) (hbad : j.bad = false)
    (hk : s.keys.wkr = none) (ho : s.dig.opens = []) : ∀ j1, j1 = { j with bank := some 0, since := s.pace.now, phase := .loading } →
    (j.key = none → bankGrant s = setJob s j1) ∧ (∀ w h, j.key = some (w, h) → bankGrant s = loadWkr (setJob s j1) j1 w h) := by
  intro j1 hj1
  have hph : (if j.phase = .spilled then RnsPhase.restoring else .loading) = .loading := by rw [hp]; rfl
  subst hj1
  refine ⟨fun hkey => ?_, fun w h hkey => ?_⟩
  · rw [bankGrant, freeBank_queued hj hb, nextJob_single hj hp hk ho]
    simp only [hbad, hph, hkey, Bool.false_eq_true, if_false]
  · rw [bankGrant, freeBank_queued hj hb, nextJob_single hj hp hk ho]
    simp only [hbad, hph, hkey, Bool.false_eq_true, if_false]

theorem exec_bankGrant {s : State} (bus : Bus) (hp : powered s = true) :
    exec (.rnsBankGrant bus) s = .next (ended s (bankGrant { s with bus := bus })) := onBus_powered (f := bankGrant) s hp

theorem loadWkr_loaded {s s1 : State} {j : RnsJob} {w : W32} {h : Handle} {m : Octets} (hp : j.phase = .loading)
    (hm : handleMaterial s h = (.ok m, s1)) : loadWkr s j w h = { s1 with
      keys := { s1.keys with wkr := some { job := j.id, handle := w, typ := h.typ, material := m, since := s1.pace.now } } } := by
  rw [loadWkr, if_neg (by rw [hp]; decide), withMaterial, hm]

theorem loadWkr_failed {s s1 : State} {j : RnsJob} {w : W32} {h : Handle} {e : BadLine} (hp : j.phase = .loading)
    (hm : handleMaterial s h = (.error e, s1)) : loadWkr s j w h = toClearing s1 j stFaulted (failWords 0xFF false) := by
  rw [loadWkr, if_neg (by rw [hp]; decide), withMaterial, hm]

/-! ### Loading and validation (R319, R320) -/

section
variable {s : State} {j : RnsJob} {b : Fin 2} (hp : powered s = true) (hj : s.rns.jobs = [j]) (hb : j.bank = some b.val)
include hp hj hb

theorem exec_loadDone (bus : Bus) (hph : j.phase = .loading) :
    exec (.rnsLoadDone b bus) s = .next (ended s (loadDone { s with bus := bus } j)) := by
  refine (onBus_powered (f := fun s => inBank s b.val .loading (loadDone s)) s hp).trans ?_
  rw [← hph, inBank_found (s := { s with bus := bus }) (bankJob_head hj hb)]

theorem exec_validationEnd (hph : j.phase = .validating) :
    exec (.rnsValidationEnd b) s = .next (ended s (validationEnd s j)) := by
  refine (live_powered (f := fun s => inBank s b.val .validating (validationEnd s)) s hp).trans ?_
  rw [← hph, inBank_found (bankJob_head hj hb)]

theorem exec_runDone (bus : Bus) (hph : j.phase = .running) :
    exec (.rnsRunDone b bus) s = .next (ended s (runDone { s with bus := bus } j)) := by
  refine (onBus_powered (f := fun s => inBank s b.val .running (runDone s)) s hp).trans ?_
  rw [← hph, inBank_found (s := { s with bus := bus }) (bankJob_head hj hb)]

theorem exec_checkDone (agrees : Bool) (hph : j.phase = .checking) :
    exec (.rnsCheckDone b agrees) s = .next (ended s (checkDone s j agrees)) := by
  refine (live_powered (f := fun s => inBank s b.val .checking (fun j => checkDone s j agrees)) s hp).trans ?_
  rw [← hph, inBank_found (bankJob_head hj hb)]

theorem exec_writeDone (bus : Bus) (hph : j.phase = .writing) :
    exec (.rnsWriteDone b bus) s = .next (ended s (writeDone { s with bus := bus } j)) := by
  refine (onBus_powered (f := fun s => inBank s b.val .writing (writeDone s)) s hp).trans ?_
  rw [← hph, inBank_found (s := { s with bus := bus }) (bankJob_head hj hb)]

theorem exec_clearDone (bus : Bus) (hph : j.phase = .clearing) :
    exec (.rnsClearDone b bus) s = .next (ended s (clearDone { s with bus := bus } j)) := by
  refine (onBus_powered (f := fun s => inBank s b.val .clearing (clearDone s)) s hp).trans ?_
  rw [← hph, inBank_found (s := { s with bus := bus }) (bankJob_head hj hb)]

theorem exec_spillDone (bus : Bus) (hph : j.phase = .spilling) :
    exec (.rnsSpillDone b bus) s = .next (ended s (spillDone { s with bus := bus } j)) := by
  refine (onBus_powered (f := fun s => inBank s b.val .spilling (spillDone s)) s hp).trans ?_
  rw [← hph, inBank_found (s := { s with bus := bus }) (bankJob_head hj hb)]

theorem exec_restoreDone (bus : Bus) (hph : j.phase = .restoring) :
    exec (.rnsRestoreDone b bus) s = .next (ended s (giveLanes (grantCoupling (restoreDone { s with bus := bus } j)))) := by
  refine (onBus_powered (f := fun s => inBank s b.val .restoring (fun j => giveLanes (grantCoupling (restoreDone s j)))) s hp).trans ?_
  rw [← hph, inBank_found (s := { s with bus := bus }) (bankJob_head hj hb)]

end

theorem loadDone_loads {s s1 : State} {j : RnsJob} {xs : List Octets} (hk : jobKeyOk s j = true)
    (hl : loadOperands s (j.descs.zip (operandsOf j.op j.set)) 0 [] = (.ok xs, s1)) {m : Octets}
    (hm : m = match s1.keys.wkr with
      | some w => if w.job = j.id then w.material else []
      | none => []) :
    loadDone s j = giveLanes (setJob s1 { j with phase := .validating, since := s1.pace.now, ins := xs, material := m, resume := .running }) := by
  rw [loadDone]
  simp only [hk, hl, Bool.not_true, Bool.false_eq_true, if_false]
  subst hm
  cases s1.keys.wkr <;> rfl

theorem loadDone_stale {s : State} {j : RnsJob} (hk : jobKeyOk s j = false) :
    loadDone s j = toClearing s j stStaleEpoch (failWords 0xFF false) := by
  rw [loadDone]
  simp only [hk, Bool.not_false, if_true]

theorem validationEnd_fails {s : State} {j : RnsJob} {st : BitVec 8} (ht : j.since + 3 ≤ s.pace.now) (ha : j.abort = none)
    (hv : validate j = some st) : validationEnd s j = toClearing s j st (failWords 0xFF false) := by
  rw [validationEnd, if_neg (Nat.not_lt.2 ht), ha, hv]

theorem validationEnd_runs {s : State} {j : RnsJob} (ht : j.since + 3 ≤ s.pace.now) (ha : j.abort = none) (hv : validate j = none)
    (hs : j.spill = false) : validationEnd s j = preempt (runOrWait s j .running) j.bank := by
  rw [validationEnd, if_neg (Nat.not_lt.2 ht), ha, hv]
  simp only [hs, Bool.false_eq_true, if_false]

/-- The job that goes on on the lanes, in a phase. -/
def onLanes (s : State) (j : RnsJob) (p : RnsPhase) (due : Bool) : RnsJob := { j with phase := p, since := s.pace.now, phaseDue := due }

/-- A job on the lanes goes on; a lattice one with a phase of the coupling, which it has at once where no other waits for it. -/
theorem runOrWait_alone {s : State} {j j0 : RnsJob} (hj : s.rns.jobs = [j0]) (hid : j.id = j0.id) (hl : s.rns.lanes = j.bank)
    (hc : s.rns.coupling = none) (p : RnsPhase) : let due := isLattice j.set && (p == .running || selfChecked j.op)
    (runOrWait s j p).rns.jobs = [onLanes s j p false] ∧ (runOrWait s j p).rns.lanes = j.bank ∧
      (runOrWait s j p).rns.coupling = (if due then some (j.id, s.pace.now) else none) ∧ (runOrWait s j p).dram = s.dram := by
  intro due
  have hr : runOrWait s j p = grantCoupling (setJob s (onLanes s j p due)) := by
    rw [runOrWait, if_pos hl]
    rfl
  rw [hr, setJob_single (x := onLanes s j p due) hj hid]
  cases hdue : due with
  | false =>
    rw [grantCoupling_none (s := withJobs s [onLanes s j p false] s.rns.lanes) (fun x hx => by rw [List.mem_singleton.1 hx]; rfl)]
    exact ⟨rfl, hl, hc, rfl⟩
  | true =>
    obtain ⟨h1, h2, h3, h4⟩ := grantCoupling_single (s := withJobs s [onLanes s j p true] s.rns.lanes) rfl rfl hc
    exact ⟨h1, h2.trans hl, h3, h4⟩

theorem preempt_alone {s : State} {x : RnsJob} {b : Nat} (hx : s.rns.jobs = [x]) (hb : x.bank = some b) (commit : Option Nat) :
    preempt s commit = s := preempt_freeBank (freeBank_alone hx hb) commit

/-! ### Block boundaries (R329, R330, R334) -/

theorem exec_blockBoundary {s : State} (hp : powered s = true) (b : Fin 2) :
    exec (.rnsBlockBoundary b) s = .next (ended s (blockBoundary s b.val)) := live_powered (f := fun s => blockBoundary s b.val) s hp

theorem blockBoundary_aborted {s : State} {j : RnsJob} {b d : Nat} {st : BitVec 8} (hj : bankJob s b = some j) (hp : j.phase = .running)
    (hl : s.rns.lanes = some b) (ha : j.abort = some (st, d)) : blockBoundary s b = toClearing s j st (failWords d false) := by
  rw [blockBoundary, hj]
  simp only [hl, hp, ha, ne_eq, not_true_eq_false, beq_self_eq_true, Bool.true_or, Bool.not_true, Bool.false_eq_true, or_self, if_false]

/-- With both banks taken by jobs that wait for none, nothing is pre-empted. -/
theorem preempt_unwaited {s : State} (h : ∀ x ∈ s.rns.jobs, x.waits = false ∧ (x.phase == .spilling) = false) (commit : Option Nat) :
    preempt s commit = s := by
  have hu : unserved s = [] := by
    have hw : s.rns.jobs.filter RnsJob.waits = [] := List.filter_eq_nil_iff.2 fun x hx => by rw [(h x hx).1]; decide
    have hsp : s.rns.jobs.filter (fun j => j.phase == .spilling) = [] := List.filter_eq_nil_iff.2 fun x hx => by rw [(h x hx).2]; decide
    rw [unserved, hw, hsp]
    rfl
  rw [preempt, hu]
  split
  · rfl
  · rfl

theorem blockBoundary_passes {s : State} {j : RnsJob} {b : Nat} (hj : bankJob s b = some j) (hp : j.phase = .running)
    (hl : s.rns.lanes = some b) (ha : j.abort = none) (hs : j.spill = false) (hpre : preempt s (some b) = s) :
    blockBoundary s b = passLanes s j := by
  rw [blockBoundary, hj]
  simp only [hl, hp, ha, hs, hpre, hj, ne_eq, not_true_eq_false, beq_self_eq_true, Bool.true_or, Bool.not_true, Bool.false_eq_true, or_self,
    if_false, if_true]

/-- The lanes pass from a running job to a waiting one. -/
theorem passLanes_pair {s : State} {j o : RnsJob} {b c : Nat} (hjs : s.rns.jobs = [j, o]) (hid : j.id ≠ o.id) (hj : j.bank = some b)
    (ho : o.bank = some c) (hc : c = 1 - b) (hne : b ≠ c) (hph : j.phase = .running) (hw : o.phase = .waiting) (hd : o.phaseDue = false)
    (h : effective s o < effective s j ∨ j.phaseDue = true ∨ j.covered = false) :
    (passLanes s j).rns.jobs = [{ j with phase := .waiting, resume := .running }, { o with phase := o.resume, since := s.pace.now }] ∧
      (passLanes s j).rns.lanes = some c := by
  have hbank : bankJob s (1 - j.bank.getD 0) = some o := by
    rw [bankJob, hjs, hj, Option.getD_some, ← hc, List.find?_cons_of_neg (by simp [hj, hne]), List.find?_cons_of_pos (by simp [ho])]
  have hready : o.ready = true := by rw [RnsJob.ready, hw, hd]; rfl
  have hcond : o.ready = true ∧ (effective s o < effective s j ∨ j.phaseDue = true ∨ (!j.covered) = true) :=
    ⟨hready, h.imp_right (Or.imp_right (by simp))⟩
  have hj1 : (setJob s { j with phase := .waiting, resume := j.phase }).rns.jobs = [{ j with phase := .waiting, resume := .running }, o] := by
    show s.rns.jobs.map _ = _
    rw [hjs, hph]
    simp only [List.map_cons, List.map_nil, if_true, if_neg (Ne.symm hid)]
  rw [passLanes, hbank]
  dsimp only
  rw [if_pos hcond, if_pos hw]
  refine ⟨?_, ho⟩
  show ((setJob s { j with phase := .waiting, resume := j.phase }).rns.jobs).map _ = _
  rw [hj1]
  simp only [List.map_cons, List.map_nil, if_true, if_neg hid]

/-! ### The end of a program (R321) -/

/-- An elliptic curve program draws from the random source alone. -/
theorem drawScalar_eq (c : Curve) : ∀ (f : Nat) (s : State), ∃ g, (drawScalar c f s).2 = { s with rng := g }
  | 0, s => ⟨_, rfl⟩
  | f + 1, s => by
    rw [drawScalar]
    dsimp only
    split
    · exact ⟨_, rfl⟩
    · obtain ⟨g, h⟩ := drawScalar_eq c f (drawOctets s c.len).2
      exact ⟨g, h⟩

theorem ecdsaSign_eq (c : Curve) (d : Nat) (h : Octets) : ∀ (f n : Nat) (s : State), ∃ g, (ecdsaSign c d h f n s).2 = { s with rng := g }
  | 0, _, s => ⟨s.rng, rfl⟩
  | f + 1, n, s => by
    rw [ecdsaSign]
    dsimp only
    obtain ⟨g, hg⟩ := drawScalar_eq c 64 s
    split
    · exact ⟨g, hg⟩
    · obtain ⟨g', hg'⟩ := ecdsaSign_eq c d h f (n + 1) (drawScalar c 64 s).2
      exact ⟨g', by rw [hg', hg]⟩

theorem computeCurve_eq (s : State) (j : RnsJob) : ∃ g, (computeCurve s j).2 = { s with rng := g } := by
  rw [computeCurve]
  dsimp only
  split
  · obtain ⟨g, hg⟩ := ecdsaSign_eq (curveOf j.set) (ofBe j.material) (j.ins.getD 0 []) 256 0 s
    generalize ecdsaSign (curveOf j.set) (ofBe j.material) (j.ins.getD 0 []) 256 0 s = r at hg ⊢
    obtain ⟨r, s1⟩ := r
    cases r with
    | none => exact ⟨g, hg⟩
    | some x => exact ⟨g, hg⟩
  · split
    · exact ⟨s.rng, rfl⟩
    · split <;> exact ⟨s.rng, rfl⟩

theorem runDone_stalls {s : State} {j : RnsJob} (ha : j.abort = none) (hc : j.covered = false) : runDone s j = s := by
  rw [runDone]
  split
  · rfl
  · simp only [ha, hc, Bool.not_false, if_true]

theorem runDone_curve {s s2 : State} {j : RnsJob} {r : Computed} (hl : s.rns.lanes = j.bank) (hd : j.phaseDue = false) (ha : j.abort = none)
    (hc : j.covered = true) (ho : j.op ≤ 0x403) (hs : j.set ≤ 1) (hr : computeCurve s j = (r, s2))
    (hg : r.st ≠ stRnsDegenerate ∨ r.good = false) :
    runDone s j = runOrWait (dropCoupling s2 j.id)
      { j with outs := r.outs, good := r.good, status := r.st, iterations := r.iterations } .checking := by
  have hmsg : messageDesc j.op = none := by rw [messageDesc, if_neg (by omega), if_neg (by omega)]
  have hlat : isLattice j.set = false := decide_eq_false (by omega)
  have hgood : ¬ (r.st = stRnsDegenerate ∧ r.good = true) := by
    rcases hg with h | h
    · exact fun x => h x.1
    · rw [h]; exact fun x => absurd x.2 (by decide)
  rw [runDone]
  simp only [hl, hd, ha, hc, hmsg, hlat, hr, hgood, ne_eq, not_true_eq_false, Bool.false_eq_true, Bool.not_true, or_self, if_false]

/-! ### The check (R322) -/

theorem selfcheckFails_eq (s : State) (n : Nat) : ∃ m, selfcheckFails s n =
    { count s 0x78F0 1 with rns := { s.rns with selfcheck := true, seq := s.rns.seq + 1 }, mbox := m } := by
  rw [selfcheckFails]
  obtain ⟨m, h⟩ := faultNotice_eq (rnsEvent (count s 0x78F0 1) (fun r => { r with selfcheck := true })) 0x07 none 0 n
  exact ⟨m, h⟩

section
variable {s : State} {j : RnsJob} (hl : s.rns.lanes = j.bank) (hd : j.phaseDue = false) (ha : j.abort = none)
include ha

theorem checkDone_stalls (hc : j.covered = false) (agrees : Bool) : checkDone s j agrees = s := by
  rw [checkDone]
  split
  · rfl
  · simp only [ha, hc, Bool.not_false, if_true]

include hl hd

theorem checkDone_fails (hc : j.covered = true) {agrees : Bool} (hs : selfChecked j.op = true) (hg : (j.good && agrees) = false) :
    checkDone s j agrees = toClearing (selfcheckFails s (programOf j.op j.set)) j
      (if j.status = stRnsDegenerate then stRnsDegenerate else stRnsSelfcheck) (failWords 0xFF false) := by
  rw [checkDone]
  simp only [hl, hd, ha, hc, hs, hg, ne_eq, not_true_eq_false, Bool.false_eq_true, Bool.not_true, Bool.not_false, or_self, if_false, and_self,
    if_true]

theorem checkDone_verified (hc : j.covered = true) (agrees : Bool) (hv : verifyOp j.op = true) : checkDone s j agrees =
    toClearing s j j.status (if j.status = stDone then doneWords j 0 else failWords 0xFF false) := by
  have hs : selfChecked j.op = false := by
    have hop := of_decide_eq_true hv
    exact decide_eq_false (by omega)
  rw [checkDone]
  simp only [hl, hd, ha, hc, hs, hv, ne_eq, not_true_eq_false, Bool.false_eq_true, Bool.not_true, false_and, or_self, if_false, if_true]

theorem checkDone_good (hc : j.covered = true) (hs : selfChecked j.op = true) (hg : j.good = true) : checkDone s j true =
    offLanes (dropCoupling (setJob s (onLanes s j .writing false)) j.id) j := by
  have hv : verifyOp j.op = false := by
    have hop := of_decide_eq_true hs
    exact decide_eq_false (by omega)
  rw [checkDone, if_neg (not_or.2 ⟨not_not.2 hl, by rw [hd]; decide⟩), ha]
  dsimp only
  rw [if_neg (by rw [hc]; decide), if_neg (by rw [hg]; simp), if_neg (by rw [hv]; decide), onLanes, ha]

end

/-! ### The end of a job (R325) -/

theorem dropWkr_frame (s : State) (id : Nat) : ∃ w, dropWkr s id = { s with keys := { s.keys with wkr := w } } ∧
    ∀ x, s.keys.wkr = some x → x.job = id → w = none := by
  rw [dropWkr]
  cases h : s.keys.wkr with
  | none => exact ⟨none, by dsimp only; rw [← h], fun _ _ _ => rfl⟩
  | some y =>
    dsimp only
    split
    · exact ⟨none, rfl, fun _ _ _ => rfl⟩
    · rename_i hn
      exact ⟨some y, by rw [← h], fun x hx hid => absurd (Option.some.inj hx ▸ hid) hn⟩

theorem settleAborts_none {s : State} (h : s.rns.aborts = []) (id : Nat) : settleAborts s id = s := by
  rw [settleAborts, h]
  show { s with rns := { s.rns with aborts := [] } } = s
  rw [← h]

/-- The counter of jobs that ended with a status. -/
def endedCounter (st : BitVec 8) : Nat := if st = stDone then 0x78D8 else 0x78E0

/-- The only job ended and reported. -/
theorem endJob_alone {s : State} {j : RnsJob} {b : Nat} (hj : s.rns.jobs = [j]) (hb : j.bank = some b) (hc : s.rns.coupling = none)
    (hr : j.ready = false) (hab : s.rns.aborts = []) (st : BitVec 8) (ws : List W32) :
    ∃ w, endJob s j st ws = finish (count (withJobs { s with keys := { s.keys with wkr := w } } [] (vacated s.rns.lanes b))
      (endedCounter st) 1) j.caller st ws ∧ ∀ x, s.keys.wkr = some x → x.job = j.id → w = none := by
  obtain ⟨w, hw, hwn⟩ := dropWkr_frame s j.id
  refine ⟨w, ?_, hwn⟩
  rw [endJob, hw]
  generalize hu : ({ s with keys := { s.keys with wkr := w } } : State) = u
  have hur : u.rns = s.rns := by rw [← hu]
  rw [dropCoupling_none (by rw [hur]; exact hc), offLanes_alone (by rw [hur]; exact hj) hr hb, hur]
  have hf : ([j].filter (fun x => decide (x.id ≠ j.id))) = [] := List.filter_cons_of_neg (by simp)
  dsimp only
  have hjobs : ({ withJobs u [j] (vacated s.rns.lanes b) with
      rns := { (withJobs u [j] (vacated s.rns.lanes b)).rns with
        jobs := (withJobs u [j] (vacated s.rns.lanes b)).rns.jobs.filter (fun x => decide (x.id ≠ j.id)) } } : State) =
      withJobs u [] (vacated s.rns.lanes b) := by
    show ({ u with rns := { u.rns with jobs := [j].filter (fun x => decide (x.id ≠ j.id)), lanes := vacated s.rns.lanes b } } : State) = _
    rw [hf]
    rfl
  rw [hjobs]
  refine settleAborts_none ?_ _
  obtain ⟨m, hm⟩ := finish_frame (count (withJobs u [] (vacated s.rns.lanes b)) (endedCounter st) 1) j.caller st ws
  have hm' := congrArg (fun t : State => t.rns.aborts) hm
  refine Eq.trans hm' ?_
  show u.rns.aborts = []
  rw [hur, hab]

theorem clearDone_due {s : State} {j : RnsJob} (h : j.since + 2 ≤ s.pace.now) : clearDone s j = endJob s j j.status j.words := by
  rw [clearDone, if_neg (Nat.not_lt.2 h)]

/-! ### Saving and restoring (R331, R332) -/

theorem spillDone_saved {s s1 : State} {j : RnsJob} {i : Nat} (ht : j.since + spillPaces j.set ≤ s.pace.now) (ha : j.abort = none)
    (hf : freeSpill s = some i) (hw : spillWrite false (liveBytes j.set / 64) (spillLine s i) s = (true, s1)) :
    spillDone s j = setJob s1 { j with phase := .spilled, bank := none, bad := false, slot := some i } := by
  rw [spillDone, if_neg (Nat.not_lt.2 ht), ha]
  simp only [hf, hw, if_true, Bool.not_true]

theorem restoreDone_loading {s s1 : State} {j : RnsJob} {i : Nat} (ht : j.since + spillPaces j.set ≤ s.pace.now) (ha : j.abort = none)
    (hs : j.slot = some i) (hr : j.resume = .loading) (hw : spillRead (liveBytes j.set / 64) (spillLine s i) s = (true, s1))
    (hk : jobKeyOk s1 j = true) : restoreDone s j = setJob s1 { j with slot := none, phase := .loading, since := s1.pace.now } := by
  rw [restoreDone, if_neg (Nat.not_lt.2 ht), hs]
  dsimp only
  rw [hw]
  dsimp only
  rw [if_neg (by decide), ha]
  dsimp only
  rw [if_neg (by rw [hk]; decide), if_pos hr, ← ha]

/-! ### Leases and the coupling (R333, R350) -/

theorem exec_leaseExpire {s : State} (hp : powered s = true) (b : Fin 2) :
    exec (.rnsLeaseExpire b) s = .next (ended s (leaseExpire s b.val)) := live_powered (f := fun s => leaseExpire s b.val) s hp

/-- The working key register's lease ends where a keyed job of a higher priority waits for a bank. -/
theorem leaseExpire_key {s : State} {j o : RnsJob} {b : Nat} {w : Wkr} (hjs : s.rns.jobs = [j, o]) (hid : j.id ≠ o.id) (hb : j.bank = some b)
    (hp : j.phase = .running) (hw : s.keys.wkr = some w) (hwj : w.job = j.id) (ht : w.since + 256 ≤ s.pace.now) (ho : o.phase = .queued)
    (hk : o.key.isSome = true) (hpr : o.prio < j.prio) :
    leaseExpire s b = { s with rns := { s.rns with jobs := [{ j with spill := true }, o] } } := by
  have hmem : o.prio ∈ keyWaiters s := by
    refine List.mem_append_left _ (List.mem_map_of_mem (List.mem_filter.2 ⟨by rw [hjs]; simp, ?_⟩))
    rw [RnsJob.waits, ho, hk]
    rfl
  have hlease : (leases s j).any (fun l => decide (l.1 + 256 ≤ s.pace.now) && l.2.any (fun p => decide (p < j.prio))) = true := by
    refine List.any_eq_true.2 ⟨(w.since, keyWaiters s), ?_, ?_⟩
    · rw [leases, hw]
      dsimp only
      rw [if_pos hwj]
      exact List.mem_append_left _ (List.mem_singleton.2 rfl)
    · rw [Bool.and_eq_true]
      exact ⟨decide_eq_true ht, List.any_eq_true.2 ⟨o.prio, hmem, decide_eq_true hpr⟩⟩
  have hset : setJob s { j with spill := true } = { s with rns := { s.rns with jobs := [{ j with spill := true }, o] } } := by
    rw [setJob, hjs]
    simp only [List.map_cons, List.map_nil, if_true, if_neg (Ne.symm hid)]
  rw [leaseExpire, bankJob_head hjs hb]
  dsimp only
  rw [if_neg (by rw [hlease]; decide), ← hset, hp]

theorem exec_couplingEnd {s : State} (hp : powered s = true) {i p : Nat} (h : s.rns.coupling = some (i, p)) :
    exec .couplingPhaseEnd s = .next (ended s (giveLanes (dropCoupling s i))) := by
  refine (live_powered (f := fun s => match s.rns.coupling with
    | none => s
    | some (i, _) => giveLanes (dropCoupling s i)) s hp).trans ?_
  rw [h]

/-- The octets of a phase are a free value, counted once, and charged to a lane. -/
theorem coupledOctets_eq (s : State) (id : Nat) : ∃ l e, coupledOctets s id =
    chargeEnergy (count { s with free := s.free + 1 } 0x7900 (Config.freeValue s.free).toNat) l e := by
  rw [coupledOctets]
  exact ⟨_, _, rfl⟩

/-- The state once a phase of the coupling has ended, with the octets it absorbed. -/
def phaseCounted (s : State) (l e : Nat) : State :=
  count (chargeEnergy (count { s with rns := { s.rns with coupling := none }, free := s.free + 1 } 0x7900 (Config.freeValue s.free).toNat) l e)
    0x7908 1

/-- The coupling given up, where none waits for it. -/
theorem dropCoupling_last {s : State} {i p : Nat} (h : s.rns.coupling = some (i, p)) (hn : ∀ x ∈ s.rns.jobs, x.phaseDue = false) :
    ∃ l e, dropCoupling s i = phaseCounted s l e := by
  obtain ⟨l, e, hc⟩ := coupledOctets_eq { s with rns := { s.rns with coupling := none } } i
  refine ⟨l, e, ?_⟩
  rw [dropCoupling, h]
  dsimp only
  rw [if_pos rfl, hc]
  exact grantCoupling_none hn

theorem phaseCounted_counts (s : State) (l e : Nat) : counter (phaseCounted s l e) 0x7908 = counter s 0x7908 + 1 ∧
    counter (phaseCounted s l e) 0x7900 = counter s 0x7900 + Config.freeValue s.free := by
  have h1 : (0x7908 : Nat) ≠ 0x7010 + 32 * l := by omega
  have h2 : (0x7900 : Nat) ≠ 0x7010 + 32 * l := by omega
  rw [phaseCounted]
  refine ⟨?_, ?_⟩
  · rw [counter_count, if_pos rfl, counter_chargeEnergy h1, counter_count_ne (by decide)]
    rfl
  · rw [counter_count_ne (by decide), counter_chargeEnergy h2, counter_count, if_pos rfl, BitVec.ofNat_toNat, BitVec.setWidth_eq]
    rfl

theorem phaseCounted_rest (s : State) (l e : Nat) : (phaseCounted s l e).rns = { s.rns with coupling := none } ∧
    { ended s (phaseCounted s l e) with rns := s.rns, cnt := s.cnt, free := s.free } = ended s s := ⟨rfl, rfl⟩

/-- The last of a job's state once it is reported: its register is zeroed, its ticket ended, and it is counted. -/
theorem reported {s u : State} {j : RnsJob} {c i : Nat} {k : Ticket} {w : Option Wkr} {l : Option Nat}
    (hk : tfind (chanAt s c).tickets i = some k) (hst : k.status = none) (hw : ∀ x, s.keys.wkr = some x → x.job = j.id → w = none) :
    let t := ended u (finish (count (withJobs { s with keys := { s.keys with wkr := w } } [] l) (endedCounter j.status) 1) (.ticket c i) j.status
      j.words)
    t.rns.jobs = [] ∧ (∀ x, s.keys.wkr = some x → x.job = j.id → t.keys.wkr = none) ∧
      (∃ x, tfind (chanAt t c).tickets i = some x ∧ x.status = some j.status ∧ x.result = j.words) ∧
      counter t (endedCounter j.status) = counter s (endedCounter j.status) + 1 := by
  generalize hv : withJobs { s with keys := { s.keys with wkr := w } } [] l = v
  have hjobs : v.rns.jobs = [] := by rw [← hv]; rfl
  have hwkr : v.keys.wkr = w := by rw [← hv]; rfl
  have hmb : v.mbox = s.mbox := by rw [← hv]; rfl
  have hcnt : v.cnt = s.cnt := by rw [← hv]; rfl
  have hfin := finish_ticket (s := count v (endedCounter j.status) 1) (c := c) (i := i) (j := k)
    (by rw [chanAt, count_mbox, hmb]; exact hk) hst j.status j.words
  obtain ⟨m, hm⟩ := hfin.rest
  have htick := hfin.ticket
  have hc : counter (count v (endedCounter j.status) 1) (endedCounter j.status) = counter s (endedCounter j.status) + 1 := by
    rw [counter_count, if_pos rfl, counter_of_cnt hcnt]
    rfl
  have hj' : (finish (count v (endedCounter j.status) 1) (.ticket c i) j.status j.words).rns.jobs = [] := by rw [hm]; exact hjobs
  have hw' : (finish (count v (endedCounter j.status) 1) (.ticket c i) j.status j.words).keys.wkr = w := by rw [hm]; exact hwkr
  have hc' := counter_of_cnt (s := count v (endedCounter j.status) 1)
    (t := finish (count v (endedCounter j.status) 1) (.ticket c i) j.status j.words) (by rw [hm]) (endedCounter j.status)
  generalize finish (count v (endedCounter j.status) 1) (.ticket c i) j.status j.words = f at htick hj' hw' hc'
  exact ⟨hj', fun x hx hid => hw'.trans (hw x hx hid), htick, hc'.trans hc⟩

/-! ### The obligation -/

/-- Settles O55: each row of a job's life acts on the job in its bank; with no other job, the lanes and the coupling pass to none. -/
theorem engineJobs : Obligations.EngineJobs := by
  unfold Obligations.EngineJobs
  intro s bus b j hp on Alone
  refine ⟨?_, ?_, ?_, ?_, ?_, ?_, ?_, ?_, ?_, ?_, ?_, ?_, ?_, ?_, ?_, ?_, ?_⟩
  · intro hj hph hb hbad hk ho j1 granted
    obtain ⟨hg1, hg2⟩ := bankGrant_single (s := on) hj hph hb hbad hk ho j1 rfl
    have hx := exec_bankGrant bus hp
    refine ⟨?_, fun hkey => by rw [hx, hg1 hkey], fun w h m s1 hkey hm => ?_, fun w h e s1 hkey hm => ?_⟩
    · show (setJob on j1).rns.jobs = _
      rw [setJob_single (s := on) (j := j) (x := j1) hj rfl]
      rfl
    · rw [hx, hg2 w h hkey, loadWkr_loaded rfl hm]
    · rw [hx, hg2 w h hkey, loadWkr_failed rfl hm]
  · rintro ⟨hj, hb, hc⟩ hph
    have hx := exec_loadDone hp hj hb bus hph
    refine ⟨fun xs s1 hk hl => ?_, fun hk => ⟨_, hx, ?_⟩⟩
    · intro m
      rw [hx, loadDone_loads (s := on) hk hl (m := m) rfl]
    · rw [loadDone_stale (s := { s with bus := bus }) hk]
      exact (cleared (s := { s with bus := bus }) hj hb hc _ _).1
  · rintro ⟨hj, hb, hc⟩ hph ht ha hl
    have hx := exec_validationEnd hp hj hb hph
    refine ⟨fun st hv => ⟨_, hx, ?_⟩, fun hv hs => ⟨_, hx, ?_⟩⟩
    · rw [validationEnd_fails ht ha hv]
      obtain ⟨⟨x, h1, h2, h3, h4⟩, h5, -⟩ := cleared hj hb hc st (failWords 0xFF false)
      exact ⟨x, h1, h2, h3, h4, h5 hl⟩
    · obtain ⟨h1, h2, h3, -⟩ := runOrWait_alone hj rfl (hl.trans hb.symm) hc .running
      rw [validationEnd_runs ht ha hv hs, preempt_alone h1 hb]
      refine ⟨h1, h2.trans hb, h3.trans ?_⟩
      cases isLattice j.set <;> rfl
  · intro o hjs hid hb hob hph how hl ha hs hod hcond
    refine ⟨_, exec_blockBoundary hp b, ?_⟩
    have hpre : preempt s (some b.val) = s := preempt_unwaited (fun x hx => by
      rw [hjs] at hx
      rcases List.mem_pair.1 hx with rfl | rfl
      · rw [RnsJob.waits, hph]; exact ⟨rfl, rfl⟩
      · rw [RnsJob.waits, how]; exact ⟨rfl, rfl⟩) _
    rw [blockBoundary_passes (bankJob_head hjs hb) hph hl ha hs hpre]
    exact passLanes_pair hjs hid hb hob rfl (by omega) hph how hod hcond
  · rintro st d ⟨hj, hb, hc⟩ hph hl ha
    refine ⟨_, exec_blockBoundary hp b, ?_⟩
    rw [blockBoundary_aborted (bankJob_head hj hb) hph hl ha]
    obtain ⟨⟨x, h1, h2, h3, h4⟩, h5, -⟩ := cleared hj hb hc st (failWords d false)
    exact ⟨x, h1, h2, h3, h4, h5 hl⟩
  · rintro ⟨hj, hb, hc⟩ hph hl ha hcov
    rw [exec_runDone hp hj hb bus hph, runDone_stalls ha hcov]
  · rintro r s2 ⟨hj, hb, hc⟩ hph hl hd ha hcov hop hset hr hg
    refine ⟨_, exec_runDone hp hj hb bus hph, ?_⟩
    rw [runDone_curve (s := on) (hl.trans hb.symm) hd ha hcov hop hset hr hg]
    obtain ⟨g, hs2⟩ := computeCurve_eq on j
    rw [hr] at hs2
    have hs2' : s2 = { s with bus := bus, rng := g } := hs2
    have hrns : s2.rns = s.rns := by rw [hs2']
    have hnow : s2.pace.now = s.pace.now := by rw [hs2']
    have hdram : s2.dram = s.dram := by rw [hs2']
    rw [dropCoupling_none (by rw [hrns]; exact hc)]
    obtain ⟨h1, h2, -, h4⟩ := runOrWait_alone (s := s2) (j0 := j)
      (j := { j with outs := r.outs, good := r.good, status := r.st, iterations := r.iterations }) (by rw [hrns]; exact hj) rfl
      (by rw [hrns]; exact hl.trans hb.symm) (by rw [hrns]; exact hc) .checking
    rw [onLanes, hnow] at h1
    exact ⟨h1, h2.trans hb, h4.trans hdram⟩
  · rintro agrees ⟨hj, hb, hc⟩ hph hl ha hcov
    rw [exec_checkDone hp hj hb agrees hph, checkDone_stalls ha hcov]
  · rintro ⟨hj, hb, hc⟩ hph hl ha hcov hd
    have hx := fun agrees => exec_checkDone hp hj hb agrees hph
    refine ⟨fun agrees hs hg => ⟨_, hx agrees, ?_⟩, fun agrees hv => ⟨_, hx agrees, ?_⟩, fun hs hg => ⟨_, hx true, ?_⟩⟩
    · rw [checkDone_fails (hl.trans hb.symm) hd ha hcov hs hg]
      obtain ⟨m, hm⟩ := selfcheckFails_eq s (programOf j.op j.set)
      generalize selfcheckFails s (programOf j.op j.set) = u at hm ⊢
      have hur : u.rns = { s.rns with selfcheck := true, seq := s.rns.seq + 1 } := by rw [hm]
      have hcnt : counter u 0x78F0 = counter s 0x78F0 + 1 := by
        rw [counter_of_cnt (s := count s 0x78F0 1) (by rw [hm]), counter_count, if_pos rfl]
        rfl
      obtain ⟨⟨x, h1, h2, h3, h4⟩, -, h6, h7⟩ := cleared (s := u) (by rw [hur]; exact hj) hb (by rw [hur]; exact hc)
        (if j.status = stRnsDegenerate then stRnsDegenerate else stRnsSelfcheck) (failWords 0xFF false)
      exact ⟨⟨x, h1, h2, h4, h3⟩, h6.trans (by rw [hur]), (counter_of_cnt (ended_cnt s _) _).trans ((counter_of_cnt h7 _).trans hcnt)⟩
    · rw [checkDone_verified (hl.trans hb.symm) hd ha hcov agrees hv]
      exact (cleared hj hb hc _ _).1
    · rw [checkDone_good (hl.trans hb.symm) hd ha hcov hs hg, setJob_single (x := onLanes s j .writing false) hj rfl,
        dropCoupling_none (s := withJobs s [onLanes s j .writing false] s.rns.lanes) hc, offLanes_alone rfl rfl hb]
      exact ⟨rfl, if_pos hl⟩
  · rintro s1 ⟨hj, hb, hc⟩ hph hw
    rw [exec_writeDone hp hj hb bus hph, writeDone]
    simp only [show writeResults { s with bus := bus } (resultsOf j) [] = _ from hw]
  · rintro st i w s1 ⟨hj, hb, hc⟩ hph hw
    rw [exec_writeDone hp hj hb bus hph, writeDone]
    simp only [show writeResults { s with bus := bus } (resultsOf j) [] = _ from hw]
  · rintro c i k ⟨hj, hb, hc⟩ hph ht hcal hab hk hst
    refine ⟨_, exec_clearDone hp hj hb bus hph, ?_⟩
    rw [clearDone_due (s := { s with bus := bus }) ht]
    obtain ⟨w, hend, hwn⟩ := endJob_alone (s := { s with bus := bus }) hj hb hc (by rw [RnsJob.ready, hph]; rfl) hab j.status j.words
    rw [hend, hcal]
    exact reported hk hst hwn
  · rintro i s1 ⟨hj, hb, hc⟩ hph ht ha hf hw
    rw [exec_spillDone hp hj hb bus hph, spillDone_saved (s := { s with bus := bus }) ht ha hf hw]
  · rintro i s1 ⟨hj, hb, hc⟩ hph ht ha hs hr hw hk
    rw [exec_restoreDone hp hj hb bus hph, restoreDone_loading (s := { s with bus := bus }) ht ha hs hr hw hk]
  · intro o w hjs hid hb hph hw hwj ht ho hk hpr
    rw [exec_leaseExpire hp, leaseExpire_key hjs hid hb hph hw hwj ht ho hk hpr]
  · intro i p h
    exact exec_couplingEnd hp h
  · intro i p h hl hn
    refine ⟨_, exec_couplingEnd hp h, ?_⟩
    obtain ⟨l, e, hd⟩ := dropCoupling_last h hn
    obtain ⟨h1, h2⟩ := phaseCounted_counts s l e
    obtain ⟨h3, h4⟩ := phaseCounted_rest s l e
    rw [hd, giveLanes_held (by rw [h3]; exact hl)]
    exact ⟨(ended_rns s _).trans h3, (counter_of_cnt (ended_cnt s _) _).trans h1, (counter_of_cnt (ended_cnt s _) _).trans h2, h4⟩

end Sys2Proof.Proofs
end

section
/-!
PROOF. Fields of counter blocks and tree nodes (R164, R165), and an item, a seal line or a line of the block's own regions written where
its metadata is at hand (R177, R180).
-/
namespace Sys2Proof.Proofs

open Sys2Proof Sys2Proof.Machine Sys2Proof.Safety Sys2Proof.Laws

/-! ### Octets of an item -/

theorem ofLe_leOctets (n v : Nat) : ofLe (leOctets n v) = v % 256 ^ n := by
  induction n generalizing v with
  | zero => rw [leOctets, ofLe, pow_zero, Nat.mod_one]
  | succ n ih =>
    rw [pow_succ', Nat.mod_mul, leOctets, ofLe, ih, BitVec.toNat_ofNat]

theorem leOctets_ofLe (o : Octets) : leOctets o.length (ofLe o) = o := by
  induction o with
  | nil => rfl
  | cons b t ih =>
    have hb := b.isLt
    have hdiv : (b.toNat + 256 * ofLe t) / 256 = ofLe t := by omega
    rw [List.length_cons, leOctets, ofLe, hdiv, ih]
    congr 1
    apply BitVec.eq_of_toNat_eq
    rw [BitVec.toNat_ofNat]
    omega

theorem ofLe_append (o : Octets) (b : BitVec 8) : ofLe (o ++ [b]) = ofLe o + 256 ^ o.length * b.toNat := by
  induction o with
  | nil => simp [ofLe]
  | cons a t ih =>
    rw [List.cons_append, ofLe, ofLe, ih, List.length_cons]
    ring

theorem ofBe_eq (o : Octets) : ofBe o = ofLe o.reverse := by
  induction o using List.reverseRecOn with
  | nil => rfl
  | append_singleton t b ih =>
    rw [ofBe] at ih ⊢
    rw [List.foldl_append, ih, List.reverse_append]
    change ofLe t.reverse * 256 + b.toNat = b.toNat + 256 * ofLe t.reverse
    omega

theorem ofLe_lt (o : Octets) : ofLe o < 256 ^ o.length := by
  induction o with
  | nil => exact Nat.one_pos
  | cons b t ih =>
    have hb := b.isLt
    rw [ofLe, List.length_cons, pow_succ]
    omega

theorem ofBe_beOctets (n v : Nat) : ofBe (beOctets n v) = v % 256 ^ n := by
  rw [ofBe_eq, beOctets, List.reverse_reverse, ofLe_leOctets]

theorem octets_pow : (256 : ℕ) ^ 64 = 2 ^ 512 := by rw [show (256 : ℕ) = 2 ^ 8 from rfl, ← pow_mul]

theorem octetsOfLine_lineOfOctets {o : Octets} (h : o.length = 64) : octetsOfLine (lineOfOctets o) = o := by
  have hlt := ofLe_lt o
  rw [h] at hlt
  rw [octetsOfLine, lineOfOctets, List.take_of_length_le h.le, BitVec.toNat_ofNat, Nat.mod_eq_of_lt (hlt.trans_eq octets_pow)]
  conv_rhs => rw [← leOctets_ofLe o, h]

theorem itemNat_itemOf (n : Nat) : itemNat (itemOf n) = n % 2 ^ 512 := by
  rw [itemNat, itemOf, octetsOfLine_lineOfOctets (beOctets_length 64 n), ofBe_beOctets, octets_pow]

theorem itemNat_lt (l : Line) : itemNat l < 2 ^ 512 := by
  have h := ofLe_lt (octetsOfLine l).reverse
  rw [List.length_reverse, octetsOfLine, leOctets_length] at h
  rw [itemNat, ofBe_eq]
  exact h.trans_eq octets_pow

/-! ### A field of an item replaced -/

/-- The item's number with a field replaced: what lies above the field, the field, what lies below it. -/
theorem itemNat_setItem (l : Line) {lo len : Nat} (v : Nat) (h : lo + len ≤ 512) : itemNat (setItem l lo len v) =
    2 ^ (lo + len) * (itemNat l / 2 ^ (lo + len)) + (2 ^ lo * (v % 2 ^ len) + itemNat l % 2 ^ lo) := by
  have hn := itemNat_lt l
  rw [setItem, itemNat_itemOf, Nat.shiftLeft_eq, Nat.shiftLeft_eq, Nat.shiftRight_eq_div_pow]
  generalize itemNat l = n at hn
  have hlow : n % 2 ^ lo < 2 ^ lo := Nat.mod_lt _ (by positivity)
  have hv : v % 2 ^ len < 2 ^ len := Nat.mod_lt _ (by positivity)
  have hparts : n = 2 ^ (lo + len) * (n / 2 ^ (lo + len)) + (2 ^ lo * (n / 2 ^ lo % 2 ^ len) + n % 2 ^ lo) := by
    conv_lhs => rw [← Nat.div_add_mod n (2 ^ (lo + len)), pow_add, Nat.mod_mul, ← pow_add]
    omega
  have hfield : 2 ^ lo * (v % 2 ^ len) + n % 2 ^ lo < 2 ^ (lo + len) := by
    calc 2 ^ lo * (v % 2 ^ len) + n % 2 ^ lo < 2 ^ lo * (v % 2 ^ len) + 2 ^ lo := by omega
      _ = 2 ^ lo * (v % 2 ^ len + 1) := by ring
      _ ≤ 2 ^ lo * 2 ^ len := Nat.mul_le_mul_left _ hv
      _ = 2 ^ (lo + len) := (pow_add _ _ _).symm
  have htop : n / 2 ^ (lo + len) < 2 ^ (512 - (lo + len)) := by
    rw [Nat.div_lt_iff_lt_mul (by positivity), ← pow_add, Nat.sub_add_cancel h]
    exact hn
  have hbound : 2 ^ (lo + len) * (n / 2 ^ (lo + len)) + (2 ^ lo * (v % 2 ^ len) + n % 2 ^ lo) < 2 ^ 512 := by
    calc _ < 2 ^ (lo + len) * (n / 2 ^ (lo + len)) + 2 ^ (lo + len) := by omega
      _ = 2 ^ (lo + len) * (n / 2 ^ (lo + len) + 1) := by ring
      _ ≤ 2 ^ (lo + len) * 2 ^ (512 - (lo + len)) := Nat.mul_le_mul_left _ htop
      _ = 2 ^ 512 := by rw [← pow_add, Nat.add_sub_cancel' h]
  have hold : n - n / 2 ^ lo % 2 ^ len * 2 ^ lo + v % 2 ^ len * 2 ^ lo =
      2 ^ (lo + len) * (n / 2 ^ (lo + len)) + (2 ^ lo * (v % 2 ^ len) + n % 2 ^ lo) := by
    rw [Nat.mul_comm _ (2 ^ lo), Nat.mul_comm _ (2 ^ lo)]
    omega
  rw [hold, Nat.mod_eq_of_lt hbound]

theorem setItem_above (l : Line) {lo len : Nat} (v : Nat) (h : lo + len ≤ 512) :
    itemNat (setItem l lo len v) / 2 ^ (lo + len) = itemNat l / 2 ^ (lo + len) := by
  have hlow : itemNat l % 2 ^ lo < 2 ^ lo := Nat.mod_lt _ (by positivity)
  have hv : v % 2 ^ len < 2 ^ len := Nat.mod_lt _ (by positivity)
  have hfield : 2 ^ lo * (v % 2 ^ len) + itemNat l % 2 ^ lo < 2 ^ (lo + len) := by
    calc 2 ^ lo * (v % 2 ^ len) + itemNat l % 2 ^ lo < 2 ^ lo * (v % 2 ^ len) + 2 ^ lo := by omega
      _ = 2 ^ lo * (v % 2 ^ len + 1) := by ring
      _ ≤ 2 ^ lo * 2 ^ len := Nat.mul_le_mul_left _ hv
      _ = 2 ^ (lo + len) := (pow_add _ _ _).symm
  rw [itemNat_setItem l v h, Nat.mul_add_div (by positivity), Nat.div_eq_of_lt hfield, Nat.add_zero]

theorem setItem_field (l : Line) {lo len : Nat} (v : Nat) (h : lo + len ≤ 512) :
    itemNat (setItem l lo len v) / 2 ^ lo % 2 ^ len = v % 2 ^ len := by
  have hlow : itemNat l % 2 ^ lo < 2 ^ lo := Nat.mod_lt _ (by positivity)
  rw [itemNat_setItem l v h, pow_add, Nat.mul_assoc, ← Nat.add_assoc, ← Nat.mul_add, Nat.mul_add_div (by positivity),
    Nat.div_eq_of_lt hlow, Nat.add_zero, Nat.mul_add_mod, Nat.mod_mod]

/-- A field below the major word leaves it. -/
theorem majorOf_setItem (l : Line) {lo len : Nat} (v : Nat) (h : lo + len ≤ 448) : majorOf (setItem l lo len v) = majorOf l := by
  have hup (x : Nat) : x / 2 ^ 448 = x / 2 ^ (lo + len) / 2 ^ (448 - (lo + len)) := by
    rw [Nat.div_div_eq_div_mul, ← pow_add, Nat.add_sub_cancel' h]
  rw [majorOf, majorOf, Nat.shiftRight_eq_div_pow, Nat.shiftRight_eq_div_pow, hup, hup, setItem_above l v (h.trans (by decide))]

theorem majorOf_withMinor (l : Line) (k v : Nat) : majorOf (withMinor l k v) = majorOf l := majorOf_setItem l v (by omega)

theorem minorOf_withMinor (l : Line) (k v : Nat) : minorOf (withMinor l k v) k = v % 128 := by
  rw [minorOf, Nat.shiftRight_eq_div_pow]
  exact setItem_field l v (by omega)

theorem majorOf_freshItem {m : Nat} (h : m < 2 ^ 64) : majorOf (freshItem m) = m := by
  have hlt : m * 2 ^ 448 < 2 ^ 512 := by
    calc m * 2 ^ 448 < 2 ^ 64 * 2 ^ 448 := Nat.mul_lt_mul_of_pos_right h (by positivity)
      _ = 2 ^ 512 := by rw [← pow_add]
  rw [majorOf, freshItem, itemNat_itemOf, Nat.mod_eq_of_lt h, Nat.shiftLeft_eq, Nat.mod_eq_of_lt hlt, Nat.shiftRight_eq_div_pow,
    Nat.mul_div_cancel _ (by positivity)]

theorem majorOf_lt (l : Line) : majorOf l < 2 ^ 64 := by
  rw [majorOf, Nat.shiftRight_eq_div_pow, Nat.div_lt_iff_lt_mul (by positivity), ← pow_add]
  exact itemNat_lt l

/-- The counter block that a swept page keeps has the major word that it had (R224). -/
theorem majorOf_sweptItem (l : Line) (h : Nat) : majorOf (sweptItem (majorOf l) h) = majorOf l := by
  rw [sweptItem, majorOf_setItem _ h (by decide), majorOf_freshItem (majorOf_lt l)]

/-! ### What the lines of the block's own regions depend on -/

theorem levelSeals_of_cfg {s t : State} (h : t.cfg = s.cfg) (i : Nat) : levelSeals t i = levelSeals s i := by
  have hf (off : Nat) : fixedReg t off = fixedReg s off := by rw [fixedReg, fixedReg, h]
  have hmax : winMax t = winMax s := by rw [winMax, winMax, hf]
  induction i with
  | zero => rw [levelSeals, levelSeals, ctrArea, ctrArea, sealArea, sealArea, metaBase, metaBase, hf, hmax]
  | succ i ih => rw [levelSeals, levelSeals, ih, hmax]

theorem ownDown_of_same {s t : State} (hf : t.cfg = s.cfg) (hc : t.cust = s.cust) (la : Nat) : ownDown t la = ownDown s la := by
  have hr (off : Nat) : fixedReg t off = fixedReg s off := by rw [fixedReg, fixedReg, hf]
  have hmax : winMax t = winMax s := by rw [winMax, winMax, hr]
  have hmeta : isMetaLine t la = isMetaLine s la := by
    have hseal : sealArea t = sealArea s := by rw [sealArea, sealArea, metaBase, metaBase, hr]
    have hmap : mapBase t = mapBase s := by rw [mapBase, mapBase, hr]
    have hdepth : treeDepth t = treeDepth s := by rw [treeDepth, treeDepth, hmax]
    rw [isMetaLine, isMetaLine, hseal, hmap, hdepth, hmax, levelSeals_of_cfg hf]
  have heg : egressOf t la = egressOf s la := by rw [egressOf, egressOf, hr]
  have hch : ownChannel t la = ownChannel s la := by rw [ownChannel, ownChannel, hmeta, heg, hr]
  rw [ownDown, ownDown, hch, egressDown, egressDown, outChan, outChan, hc]

theorem storedLine_of_same {s t : State} (hc : t.cust = s.cust) (hd : t.dram = s.dram) (la : Nat) : storedLine t la = storedLine s la := by
  rw [storedLine, storedLine, storesInFlight, storesInFlight, hc, hd]

theorem itemAddr_of_cfg {s t : State} (h : t.cfg = s.cfg) (x : TreeItem) : itemAddr t x = itemAddr s x := by
  have hr (off : Nat) : fixedReg t off = fixedReg s off := by rw [fixedReg, fixedReg, h]
  have hmax : winMax t = winMax s := by rw [winMax, winMax, hr]
  cases x with
  | root => rfl
  | ctr q => rw [itemAddr, itemAddr, ctrArea, ctrArea, sealArea, sealArea, metaBase, metaBase, hr, hmax]
  | node i n => rw [itemAddr, itemAddr, levelNodes, levelNodes, levelSeals_of_cfg h, hmax]

theorem lineSealAt_of_cfg {s t : State} (h : t.cfg = s.cfg) (q k : Nat) : lineSealAt t q k = lineSealAt s q k := by
  rw [lineSealAt, lineSealAt, sealArea, sealArea, metaBase, metaBase, fixedReg, fixedReg, h]

/-! ### A cached metadata line given new contents -/

theorem tcount_tput_le {α : Type} (t : Table α) (k : Nat) (v : α) (p : Nat → α → Bool) : tcount (tput t k v) p ≤ tcount t p + 1 := by
  simp only [tcount, ← List.countP_eq_length_filter]
  induction t with
  | nil => exact List.countP_le_length
  | cons x t ih =>
    obtain ⟨j, w⟩ := x
    have hone : (if p (k, v).1 (k, v).2 = true then 1 else 0) ≤ 1 := by split <;> decide
    rw [tput]
    split
    · rw [List.countP_cons]
      omega
    · split
      · rw [List.countP_cons, List.countP_cons]
        omega
      · rw [List.countP_cons, List.countP_cons]
        omega

theorem dirtyLines_putMeta (s : State) (la : Nat) (m : MetaLine) : dirtyLines (putMeta s la m) ≤ dirtyLines s + 1 := tcount_tput_le _ la m _

theorem roomForDirty_few {s : State} (h : dirtyLines s < 1024) (la : Nat) : roomForDirty s la = s := by
  rw [roomForDirty]
  split
  · rfl
  · rw [makeRoom, if_pos h]

/-- A tree item in the cache, given contents under the same major word, is only dirty in the cache. -/
theorem updateItem_cached {s : State} {t : TreeItem} {e : MetaLine} {l : Line} (g : WayGroup) (h : tfind s.tree.lines (itemAddr s t) = some e)
    (hm : majorOf e.data = majorOf l) (hd : dirtyLines s < 1024) :
    ∃ m : MetaLine, m.data = l ∧ updateItem s t g l = putMeta s (itemAddr s t) m := by
  simp only [updateItem, roomForDirty_few hd, h, Option.map_some, Option.getD_some, Option.isNone_some, Bool.false_eq_true,
    or_false, Bool.false_and, if_false]
  rw [if_neg (not_not.mpr hm)]
  exact ⟨_, rfl, rfl⟩

/-- A seal or check line in the cache, given contents, is only dirty in the cache. -/
theorem updatePlain_cached {s : State} {la : Nat} {e : MetaLine} (g : WayGroup) (l : Line) (h : tfind s.tree.lines la = some e)
    (hd : dirtyLines s < 1024) : ∃ m : MetaLine, m.data = l ∧ updatePlain s la g l = putMeta s la m := by
  simp only [updatePlain, roomForDirty_few hd, h, Option.isNone_some, Bool.false_and, Bool.false_eq_true, if_false]
  exact ⟨_, rfl, rfl⟩

theorem putSeal_cached {s : State} {q k : Nat} {e : MetaLine} (sl : W64) (chk : BitVec 16) (h : tfind s.tree.lines (lineSealAt s q k).1 = some e)
    (hd : dirtyLines s < 1024) : ∃ m : MetaLine, putSeal s .versionedC q k sl chk = putMeta s (lineSealAt s q k).1 m := by
  obtain ⟨m, -, hm⟩ := updatePlain_cached .versionedG (withSeal e.data (lineSealAt s q k).2 sl) h hd
  refine ⟨m, ?_⟩
  simp only [putSeal, plainNow, sealPlace, h, groupOfClass]
  exact hm

theorem testBit_sub_twoPow {m k : Nat} (h : m.testBit k = true) : (m - 2 ^ k).testBit k = false := by
  rw [Nat.testBit_eq_decide_div_mod_eq] at h ⊢
  have hd : (m - 2 ^ k) / 2 ^ k = m / 2 ^ k - 1 := by simpa using Nat.sub_mul_div m (2 ^ k) 1
  rw [hd]
  have := of_decide_eq_true h
  exact decide_eq_false (by omega)

/-- A pending bit cleared: the record that is found has it clear. -/
theorem clearPending_eq (s : State) (x : TreeItem) (k : Nat) : ∃ rs n, clearPending s x k =
      { s with tree := { s.tree with rekeys := rs }, cnt := n } ∧
    ∀ y, rs.find? (fun r => decide (r.item = x)) = some y → y.pending.testBit k = false := by
  unfold clearPending
  split
  · next h => exact ⟨s.tree.rekeys, s.cnt, rfl, fun y hy => by rw [rekeyOf, hy] at h; cases h⟩
  · next r h =>
    split
    · next hk =>
      refine ⟨s.tree.rekeys, s.cnt, rfl, fun y hy => ?_⟩
      rw [rekeyOf, hy] at h
      cases h
      exact (Bool.not_eq_true' _).mp hk
    · next hk =>
      dsimp only
      split
      · refine ⟨_, _, rfl, fun y hy => ?_⟩
        have hm := List.mem_of_find?_eq_some hy
        have hi := List.find?_some hy
        simp only [List.mem_filter, decide_eq_true_eq] at hm hi
        exact absurd hi hm.2
      · refine ⟨_, s.cnt, rfl, fun y hy => ?_⟩
        have hm := List.mem_of_find?_eq_some hy
        have hi : y.item = x := by simpa using List.find?_some hy
        obtain ⟨z, -, hz⟩ := List.mem_map.1 hm
        have hbit : r.pending.testBit k = true := by simpa using hk
        have hclear := testBit_sub_twoPow hbit
        split at hz
        · rw [← hz]
          exact hclear
        · next hne => exact absurd (hz ▸ hi) hne

/-! ### A line of the block's own regions written where its metadata is at hand -/

/-- A line of the block's own regions can be written from the metadata cache: its counter block with a minor left and its seal line are
cached, there is room for more dirty lines, and its channel answers as the memory controller stores it (R68, R180, R193). -/
structure OwnLineAtHand (s : State) (la : Nat) : Prop where
  up : ownDown s la = false
  awake : s.keys.asleep = false
  quiet : s.bus = []
  room : dirtyLines s < 1020
  counter : ∃ l, tfind s.tree.lines (itemAddr s (.ctr (pageIndex s (la / 64)))) = some l ∧ minorOf l.data (la % 64) < 127
  sealLine : ∃ l, tfind s.tree.lines (lineSealAt s (pageIndex s (la / 64)) (la % 64)).1 = some l
  apart : (lineSealAt s (pageIndex s (la / 64)) (la % 64)).1 ≠ itemAddr s (.ctr (pageIndex s (la / 64)))

/-- What work on metadata at hand changes: the cache and its records, the keys made ready, and counters. -/
structure MetaOnly (s u : State) : Prop where
  rest : ∃ tr kk n, u = { s with tree := tr, keys := kk, cnt := n }
  lost : u.tree.lost = s.tree.lost
  broken : u.tree.broken = s.tree.broken
  awake : u.keys.asleep = s.keys.asleep

theorem MetaOnly.trans {s t u : State} (h : MetaOnly s t) (h' : MetaOnly t u) : MetaOnly s u := by
  obtain ⟨tr, kk, n, ht⟩ := h.rest
  obtain ⟨tr', kk', n', hu⟩ := h'.rest
  exact ⟨⟨tr', kk', n', by rw [hu, ht]⟩, h'.lost.trans h.lost, h'.broken.trans h.broken, h'.awake.trans h.awake⟩

theorem MetaOnly.same {s u : State} (h : MetaOnly s u) : u.cfg = s.cfg ∧ u.cust = s.cust ∧ u.dram = s.dram ∧ u.bus = s.bus := by
  obtain ⟨tr, kk, n, hu⟩ := h.rest
  rw [hu]
  exact ⟨rfl, rfl, rfl, rfl⟩

theorem metaOnly_putMeta (s : State) (la : Nat) (m : MetaLine) : MetaOnly s (putMeta s la m) := ⟨⟨_, s.keys, s.cnt, rfl⟩, rfl, rfl, rfl⟩

theorem metaOnly_readyKey (s : State) (c : Nat) : MetaOnly s (readyKey s c) := by
  obtain ⟨-, kk, n, hkey⟩ := readyKey_effect s c
  rw [hkey]
  exact ⟨⟨s.tree, _, n, rfl⟩, rfl, rfl, rfl⟩

theorem metaOnly_clearPending (s : State) (x : TreeItem) (k : Nat) : MetaOnly s (clearPending s x k) := by
  obtain ⟨rs, n, hclear, -⟩ := clearPending_eq s x k
  rw [hclear]
  exact ⟨⟨_, s.keys, n, rfl⟩, rfl, rfl, rfl⟩

theorem readyKey_tree (s : State) (c : Nat) : (readyKey s c).tree = s.tree := by
  obtain ⟨-, kk, n, hkey⟩ := readyKey_effect s c
  rw [hkey]

theorem clearPending_lines (s : State) (x : TreeItem) (k : Nat) : (clearPending s x k).tree.lines = s.tree.lines := by
  obtain ⟨rs, n, hclear, -⟩ := clearPending_eq s x k
  rw [hclear]

theorem dirtyLines_of_lines {s t : State} (h : t.tree.lines = s.tree.lines) : dirtyLines t = dirtyLines s := by rw [dirtyLines, h, dirtyLines]

/-- A counter block at hand with a minor raised, and the seal put in its line at hand. -/
theorem minorRaised {s : State} {q k : Nat} {l m : MetaLine} (v : Nat) (sl : W64) (chk : BitVec 16)
    (hl : tfind s.tree.lines (itemAddr s (.ctr q)) = some l) (hm : tfind s.tree.lines (lineSealAt s q k).1 = some m)
    (ha : (lineSealAt s q k).1 ≠ itemAddr s (.ctr q)) (hd : dirtyLines s < 1020) :
    let u := putSeal (updateItem s (.ctr q) .versionedG (withMinor l.data k v)) .versionedC q k sl chk
    MetaOnly s u ∧ u.tree.rekeys = s.tree.rekeys ∧ itemAtHand u (.ctr q) = some (withMinor l.data k v) := by
  intro u
  obtain ⟨x, hdata, hx⟩ := updateItem_cached (s := s) (t := .ctr q) (l := withMinor l.data k v) .versionedG hl
    (majorOf_withMinor _ _ _).symm (by omega)
  have hroom := dirtyLines_putMeta s (itemAddr s (.ctr q)) x
  have hseal : tfind (putMeta s (itemAddr s (.ctr q)) x).tree.lines (lineSealAt (putMeta s (itemAddr s (.ctr q)) x) q k).1 = some m :=
    (tfind_tput_ne _ _ ha).trans hm
  obtain ⟨y, hy⟩ := putSeal_cached sl chk hseal (by omega)
  have hu : u = putMeta (putMeta s (itemAddr s (.ctr q)) x) (lineSealAt s q k).1 y := by
    change putSeal (updateItem s (.ctr q) .versionedG (withMinor l.data k v)) .versionedC q k sl chk = _
    rw [hx, hy]
    rfl
  rw [hu]
  refine ⟨(metaOnly_putMeta _ _ _).trans (metaOnly_putMeta _ _ _), rfl, ?_⟩
  change (tfind (tput (tput s.tree.lines (itemAddr s (.ctr q)) x) (lineSealAt s q k).1 y) (itemAddr s (.ctr q))).map MetaLine.data = _
  rw [tfind_tput_ne _ _ ha.symm, tfind_tput_same, Option.map_some, hdata]

theorem commitLine_atHand {s : State} {owner q k aux la : Nat} {l m : MetaLine} (p : Line)
    (hl : tfind s.tree.lines (itemAddr s (.ctr q)) = some l) (hm : tfind s.tree.lines (lineSealAt s q k).1 = some m)
    (ha : (lineSealAt s q k).1 ≠ itemAddr s (.ctr q)) (hk : minorOf l.data k < 127) (hd : dirtyLines s < 1020) :
    ∃ ct u, commitLine s owner .versionedC q k aux la p = (.ok ct, u) ∧ MetaOnly s u := by
  have hitem : itemNow s (.ctr q) (groupOfClass .versionedC) = (.ok l.data, s) := by simp only [itemNow, itemAtHand, hl, Option.map_some]
  have hplain : plainNow s (sealPlace s .versionedC q k).1 (groupOfClass .versionedC) = (some m.data, s) := by
    simp only [plainNow, sealPlace, hm]
  simp only [commitLine, hitem, hplain]
  rw [if_pos hk]
  have hw : MetaOnly s (clearPending (readyKey s owner) (.ctr q) k) := (metaOnly_readyKey s owner).trans (metaOnly_clearPending _ _ _)
  have hlines : (clearPending (readyKey s owner) (.ctr q) k).tree.lines = s.tree.lines := by rw [clearPending_lines, readyKey_tree]
  generalize clearPending (readyKey s owner) (.ctr q) k = s3 at hw hlines
  have hcfg := hw.same.1
  refine ⟨_, _, rfl, hw.trans (minorRaised (m := m) _ _ _ ?_ ?_ ?_ ?_).1⟩
  · rw [hlines, itemAddr_of_cfg hcfg, hl]
  · rw [hlines, lineSealAt_of_cfg hcfg, hm]
  · rw [lineSealAt_of_cfg hcfg, itemAddr_of_cfg hcfg]
    exact ha
  · rw [dirtyLines_of_lines hlines]
    exact hd

/-- What a line written by the block itself changes: the line in memory, its metadata, and the keys and counters of the work. -/
structure OwnLineStored (s u : State) (la : Nat) : Prop where
  others : ∀ la', la' ≠ la → storedLine u la' = storedLine s la'
  rest : ∃ tr kk n d cu, u = { s with tree := tr, keys := kk, cnt := n, dram := d, cust := cu }
  lost : u.tree.lost = s.tree.lost
  broken : u.tree.broken = s.tree.broken
  awake : u.keys.asleep = s.keys.asleep
  reqs : u.cust.reqs = s.cust.reqs
  ins : u.cust.ins = s.cust.ins

theorem MetaOnly.stored {s u : State} (h : MetaOnly s u) (la : Nat) (l : Line) : OwnLineStored s (storeLine u la l) la := by
  obtain ⟨tr, kk, n, hu⟩ := h.rest
  obtain ⟨-, hcust, hdram, -⟩ := h.same
  refine ⟨fun la' hne => (storedLine_storeLine_ne u l hne).trans (storedLine_of_same hcust hdram la'), ?_, h.lost, h.broken, h.awake,
    (show u.cust.reqs = s.cust.reqs by rw [hcust]), (show u.cust.ins = s.cust.ins by rw [hcust])⟩
  rw [hu]
  exact ⟨_, _, _, _, _, rfl⟩

theorem writeOwn_atHand {s : State} {la : Nat} (h : OwnLineAtHand s la) (p : Line) :
    ∃ u, writeOwn s la p = (.ok (), u) ∧ OwnLineStored s u la := by
  obtain ⟨l, hl, hk⟩ := h.counter
  obtain ⟨m, hm⟩ := h.sealLine
  obtain ⟨ct, u, hc, hu⟩ := commitLine_atHand (owner := 0) (aux := 0) (la := la) p hl hm h.apart hk h.room
  obtain ⟨hcfg, hcust, -, hbus⟩ := hu.same
  have hmem := memWrite_idle (s := u) (la := la) ct (hbus.trans h.quiet) (hu.awake.trans h.awake) ((ownDown_of_same hcfg hcust la).trans h.up)
  refine ⟨storeLine u la ct, ?_, hu.stored la ct⟩
  simp only [writeOwn, pageOfLine, writeLine, commitNow, hc, hmem]

/-- A page's map entry written through: the map line in the cache holds it, the map line in memory has changed, and nothing else of the
block's state but the metadata, keys and counters of the work (R145). -/
structure EntryWritten (s u : State) (p : Nat) (ws : List W32) : Prop where
  words : (tfind u.mapc.lines (pageIndex s p / 16)).map MapLine.words = some ws
  others : ∀ la, la ≠ mapLineAddr s (pageIndex s p / 16) → storedLine u la = storedLine s la
  rest : ∃ tr kk n d cu mc, u = { s with tree := tr, keys := kk, cnt := n, dram := d, cust := cu, mapc := mc }
  lost : u.tree.lost = s.tree.lost
  broken : u.tree.broken = s.tree.broken
  reqs : u.cust.reqs = s.cust.reqs
  ins : u.cust.ins = s.cust.ins

theorem OwnLineAtHand.withMap {s : State} {la : Nat} (h : OwnLineAtHand s la) (c : MapCache) : OwnLineAtHand { s with mapc := c } la :=
  ⟨(ownDown_of_same (s := s) (t := { s with mapc := c }) rfl rfl la).trans h.up, h.awake, h.quiet, h.room, h.counter, h.sealLine, h.apart⟩

theorem setEntry_atHand {s : State} {p : Nat} {m : MapLine} (e : W32) (hm : tfind s.mapc.lines (pageIndex s p / 16) = some m)
    (h : OwnLineAtHand s (mapLineAddr s (pageIndex s p / 16))) :
    ∃ u, setEntry s p e = (true, u) ∧ EntryWritten s u p (m.words.set (pageIndex s p % 16) e) := by
  obtain ⟨c, hput, -⟩ := putMapLine_eq s (pageIndex s p / 16) m.words
  obtain ⟨v, hw, hv⟩ := writeOwn_atHand (h.withMap c) (lineOfOctets (octetsOfWords (m.words.set (pageIndex s p % 16) e)))
  obtain ⟨c', hput', x, hx, hwords⟩ := putMapLine_eq v (pageIndex s p / 16) (m.words.set (pageIndex s p % 16) e)
  have hentry : setEntry s p e = (true, { v with mapc := c' }) := by
    simp only [setEntry, mapLine, hm, hput]
    change (match writeOwn { s with mapc := c } (mapLineAddr s (pageIndex s p / 16))
      (lineOfOctets (octetsOfWords (m.words.set (pageIndex s p % 16) e))) with
      | (.ok _, s2) => (true, putMapLine s2 (pageIndex s p / 16) (m.words.set (pageIndex s p % 16) e))
      | (.error _, s2) => (false, dropMapLine s2 (pageIndex s p / 16))) = _
    rw [hw, ← hput']
  refine ⟨_, hentry, ?_, hv.others, ?_, hv.lost, hv.broken, hv.reqs, hv.ins⟩
  · change (tfind c'.lines (pageIndex s p / 16)).map MapLine.words = _
    rw [hx, Option.map_some, hwords]
  · obtain ⟨tr, kk, n, d, cu, hr⟩ := hv.rest
    rw [hr]
    exact ⟨_, _, _, _, _, _, rfl⟩

end Sys2Proof.Proofs
end

section
/-!
PROOF. Sweep passes (R21, R203, R221 to R224, R227).
-/
namespace Sys2Proof.Proofs

open Sys2Proof Sys2Proof.Machine Sys2Proof.Safety Sys2Proof.Laws

/-! ### A pass begins -/

theorem foldl_setCtx_ctxs (f : State → Nat → Ctx) (cs : List Nat) (s : State) :
    ∃ x, cs.foldl (fun t c => setCtx t c (f t c)) s = { s with ctxs := x } := by
  induction cs generalizing s with
  | nil => exact ⟨s.ctxs, rfl⟩
  | cons c cs ih =>
    obtain ⟨x, hx⟩ := ih (setCtx s c (f s c))
    exact ⟨x, hx⟩

/-- The background engine's record as a pass begins. -/
def passBegun (b : Bg) : Bg :=
  { b with sweepActive := true, cursor := 0, begun := b.begun + 1, lastFaults := b.lineFaults, lineFaults := [], marked := [] }

theorem passStart_begins {s : State} (ha : s.bg.sweepActive = false) (hp : s.bg.pendingPages ≠ 0) :
    ∃ x, passStart s = { s with bg := passBegun s.bg, ctxs := x } := by
  obtain ⟨x, hx⟩ := foldl_setCtx_ctxs (fun t c => { ctxAt t c with stuckPasses := 1 })
    (tkeys s.ctxs (fun _ v => isStuck v && v.stuckPasses == 0)) { s with bg := passBegun s.bg }
  refine ⟨x, ?_⟩
  rw [passStart, if_neg (by rw [ha]; exact not_or.mpr ⟨Bool.false_ne_true, hp⟩)]
  exact hx

theorem passStart_none {s : State} (h : s.bg.sweepActive = true ∨ s.bg.pendingPages = 0) : passStart s = s := if_pos h

/-! ### A map line read -/

/-- The walk moved on past the map line at the cursor. -/
def walkedOn (s : State) : State := { s with bg := { s.bg with cursor := BitVec.ofNat 25 (16 * (s.bg.cursor.toNat / 16) + 16) } }

/-- Another list of marked pages. -/
def markTaken (s : State) (rest : List Nat) : State := { s with bg := { s.bg with marked := rest } }

theorem markTaken_same {s : State} {ps : List Nat} (h : s.bg.marked = ps) : markTaken s ps = s := by
  rw [markTaken, ← h]

/-- The pages of a map line that the sweep takes. -/
def foundIn (u : State) (n : Nat) (l : Line) : List Nat :=
  ((List.range 16).filter (fun i => decide (16 * n + i < winPages u) &&
    sweepable u ((wordsOfOctets 16 (octetsOfLine l)).getD i 0))).map (fun i => winBase u + 16 * n + i)

section
variable {s : State} (ha : s.bg.sweepActive = true) (hm : s.bg.marked = [])
include ha hm

theorem sweepMapLine_past (hc : winPages s ≤ s.bg.cursor.toNat) : sweepMapLine s = passEnd s := by
  rw [sweepMapLine, ha, hm, if_neg (by decide), if_pos hc]

theorem sweepMapLine_read {l : Line} {u : State} (hc : s.bg.cursor.toNat < winPages s)
    (h : readOwn (walkedOn s) (64 * mapBase s + s.bg.cursor.toNat / 16) = (.ok l, u)) :
    sweepMapLine s = maybePassEnd { u with bg := { u.bg with marked := foundIn u (s.bg.cursor.toNat / 16) l } } := by
  have h' : readOwn (walkedOn s) (mapLineAddr (walkedOn s) (s.bg.cursor.toNat / 16)) = (.ok l, u) := h
  rw [sweepMapLine, ha, hm, if_neg (by decide), if_neg (Nat.not_le.mpr hc)]
  unfold walkedOn at h'
  simp only [h']
  rfl

theorem sweepMapLine_fault {b : BadLine} {u : State} (hc : s.bg.cursor.toNat < winPages s)
    (h : readOwn (walkedOn s) (64 * mapBase s + s.bg.cursor.toNat / 16) = (.error b, u)) :
    sweepMapLine s = maybePassEnd (mapLineFault u (s.bg.cursor.toNat / 16)) := by
  have h' : readOwn (walkedOn s) (mapLineAddr (walkedOn s) (s.bg.cursor.toNat / 16)) = (.error b, u) := h
  rw [sweepMapLine, ha, hm, if_neg (by decide), if_neg (Nat.not_le.mpr hc)]
  unfold walkedOn at h'
  simp only [h']

end

theorem background_may {f : State → State} {s : State} (h : backgroundMay s = true) : background f s = f s := if_pos h

/-- What a row that may close a lane does depends on its own work only. -/
theorem withClosings_congr {f g : State → State} {s : State} (h : f s = g s) : withClosings f s = withClosings g s := by
  rw [withClosings, withClosings, h]

/-- A map line of zeros holds no page that the sweep takes. -/
theorem foundIn_zero (u : State) (n : Nat) : foundIn u n 0 = [] := by
  have hz (i : Nat) : (List.replicate 16 (0 : W32)).getD i 0 = 0 := by
    rw [List.getD_eq_getElem?_getD, List.getElem?_replicate]
    split <;> rfl
  have hs : sweepable u 0 = false := by
    have h0 : entState 0 = .free := by decide
    rw [sweepable, h0]
    cases isStale u 0 <;> rfl
  rw [foundIn, wordsOfOctets_zero]
  simp only [hz, hs, Bool.and_false, List.filter_false, List.map_nil]

theorem maybePassEnd_goes {s : State} (h : s.bg.cursor.toNat < winPages s) : maybePassEnd s = s :=
  if_neg fun hx => absurd hx.2.2 (Nat.not_le.mpr h)

theorem maybePassEnd_marked {s : State} (h : s.bg.marked ≠ []) : maybePassEnd s = s :=
  if_neg fun hx => h (List.isEmpty_iff.mp hx.2.1)

/-- A map line never written is passed over. -/
theorem sweepMapLine_unwritten {s : State} {l : Line} (ha : s.bg.sweepActive = true) (hm : s.bg.marked = [])
    (hl : itemAtHand s (.ctr (pageIndex s ((64 * mapBase s + s.bg.cursor.toNat / 16) / 64))) = some l)
    (hr : rekeyOf s (.ctr (pageIndex s ((64 * mapBase s + s.bg.cursor.toNat / 16) / 64))) = none)
    (h0 : minorOf l ((64 * mapBase s + s.bg.cursor.toNat / 16) % 64) = 0)
    (hw : 16 * (s.bg.cursor.toNat / 16) + 16 < winPages s) (hb : winPages s < 2 ^ 24) : sweepMapLine s = walkedOn s := by
  have hread : readOwn (walkedOn s) (64 * mapBase s + s.bg.cursor.toNat / 16) = (.ok 0, walkedOn s) :=
    readOwn_unwritten (s := walkedOn s) hl hr h0
  rw [sweepMapLine_read ha hm (by omega) hread, foundIn_zero]
  rw [show ({ walkedOn s with bg := { (walkedOn s).bg with marked := [] } } : State) = walkedOn s from markTaken_same (s := walkedOn s) hm]
  refine maybePassEnd_goes ?_
  change (BitVec.ofNat 25 (16 * (s.bg.cursor.toNat / 16) + 16)).toNat < winPages s
  rw [BitVec.toNat_ofNat, Nat.mod_eq_of_lt (by omega)]
  exact hw

/-! ### A marked page -/

section
variable {s : State} {p : Nat} {rest : List Nat} (hm : s.bg.marked = p :: rest)
include hm

theorem sweepPage_locked (hl : pageLocked s p = true) : sweepPage s = s := by
  simp only [sweepPage, hm, hl, if_true]

theorem sweepPage_entry {e : W32} {u : State} (hl : pageLocked s p = false) (h : mapEntry (markTaken s rest) p = (.ok e, u)) :
    sweepPage s = maybePassEnd (if sweepable u e then sweepOne u p e else u) := by
  unfold markTaken at h
  simp only [sweepPage, hm, hl, Bool.false_eq_true, if_false, h]

theorem sweepPage_taken {e : W32} {u : State} (hl : pageLocked s p = false) (h : mapEntry (markTaken s rest) p = (.ok e, u))
    (ht : sweepable u e = true) : sweepPage s = maybePassEnd (sweepOne u p e) := by rw [sweepPage_entry hm hl h, if_pos ht]

theorem sweepPage_fault {k : Nat} {u : State} (hl : pageLocked s p = false) (h : mapEntry (markTaken s rest) p = (.error k, u)) :
    sweepPage s = maybePassEnd (sweepFault u 0 (64 * p)) := by
  unfold markTaken at h
  simp only [sweepPage, hm, hl, Bool.false_eq_true, if_false, h]

end

theorem exec_sweepMapLine {s : State} (hp : powered s = true) (bus : Bus) : exec (.sweepMapLine bus) s =
    .next (ended s (withClosings (background sweepMapLine) { s with bus := bus })) :=
  onBus_powered (f := withClosings (background sweepMapLine)) s hp

theorem exec_sweepPage {s : State} (hp : powered s = true) (bus : Bus) : exec (.sweepPage bus) s =
    .next (ended s (withClosings (background sweepPage) { s with bus := bus })) :=
  onBus_powered (f := withClosings (background sweepPage)) s hp

/-! ### A page finished -/

theorem sweepCounts_held {s : State} {e : W32} (he : entState e = .sweeping) (hl : (ctxAt s (entCtx e)).ledgerHold.isSome = true)
    (hr : (ctxAt s (entCtx e)).rebuilt = false) : sweepCounts s e = s := by
  rw [sweepCounts, if_neg (fun h => h.1 he), ledgerTake, ledgerChange, if_pos ⟨hl, by rw [hr]; rfl⟩]

/-- The swept page's counter block at hand is only changed in the cache (R224). -/
theorem sweepCounterBlock_atHand {s : State} {p : Nat} {e : W32} {l : MetaLine} (hist : Nat)
    (hl : tfind s.tree.lines (itemAddr s (.ctr (pageIndex s p))) = some l) (hd : dirtyLines s < 1024) :
    ∃ x, sweepCounterBlock s p e hist = putMeta (abandonRekey s (.ctr (pageIndex s p))) (itemAddr s (.ctr (pageIndex s p))) x := by
  obtain ⟨x, -, hx⟩ := updateItem_cached (s := abandonRekey s (.ctr (pageIndex s p))) (t := .ctr (pageIndex s p))
    (l := sweptItem (majorOf l.data) hist) (groupOfClass (entClass e)) hl (majorOf_sweptItem _ _).symm hd
  refine ⟨x, ?_⟩
  have hitem : itemNow s (.ctr (pageIndex s p)) (groupOfClass (entClass e)) = (.ok l.data, s) := by
    simp only [itemNow, itemAtHand, hl, Option.map_some]
  simp only [sweepCounterBlock, hitem]
  exact hx

/-- A page being swept, once its tile entry and its re-key record are gone and its counter block is changed in the cache. -/
def sweptInCache (s : State) (p : Nat) (x : MetaLine) : State :=
  putMeta (abandonRekey { s with tiles := { s.tiles with writes := tdel s.tiles.writes (pageIndex s p) } } (.ctr (pageIndex s p)))
    (itemAddr s (.ctr (pageIndex s p))) x

theorem sweptInCache_atHand {s : State} {p la : Nat} (x : MetaLine) (hd : dirtyLines s < 1000) (h : OwnLineAtHand s la)
    (hc : itemAddr s (.ctr (pageIndex s (la / 64))) ≠ itemAddr s (.ctr (pageIndex s p)))
    (hs : (lineSealAt s (pageIndex s (la / 64)) (la % 64)).1 ≠ itemAddr s (.ctr (pageIndex s p))) : OwnLineAtHand (sweptInCache s p x) la := by
  obtain ⟨l, hl, hk⟩ := h.counter
  obtain ⟨m, hm⟩ := h.sealLine
  have hroom := dirtyLines_putMeta s (itemAddr s (.ctr (pageIndex s p))) x
  have hlines : (sweptInCache s p x).tree.lines = tput s.tree.lines (itemAddr s (.ctr (pageIndex s p))) x := rfl
  refine ⟨(ownDown_of_same (s := s) (t := sweptInCache s p x) rfl rfl la).trans h.up, h.awake, h.quiet, ?_, ⟨l, ?_, hk⟩, ⟨m, ?_⟩, h.apart⟩
  · rw [dirtyLines_of_lines (show (sweptInCache s p x).tree.lines = (putMeta s (itemAddr s (.ctr (pageIndex s p))) x).tree.lines from rfl)]
    omega
  · rw [hlines]
    exact (tfind_tput_ne _ _ hc).trans hl
  · rw [hlines]
    exact (tfind_tput_ne _ _ hs).trans hm

/-- The counts of a page that the sweep has finished. -/
def pageSwept (s : State) (lane : Nat) : State :=
  let t := setLane s lane { laneAt s lane with held := (laneAt s lane).held - 1 }
  count { t with bg := { t.bg with pendingPages := t.bg.pendingPages - 1 } } 0x7860 1

/-- The swept page's path: its counter block, its entry, its holder's counts. -/
theorem sweepOne_path {s u : State} {p : Nat} {e : W32} {x : MetaLine} (he : entState e = .sweeping) (hf : sweepFills s (entClass e) = false)
    (hx : sweepCounterBlock { s with tiles := { s.tiles with writes := tdel s.tiles.writes (pageIndex s p) } } p e
      ((ctxAt s (entCtx e)).lane.toNat + 1) = sweptInCache s p x)
    (hset : setEntry (sweptInCache s p x) p 0 = (true, u)) :
    sweepOne s p e = pageSwept (sweepCounts u e) (ctxAt s (entCtx e)).lane.toNat := by
  have hf' : sweepFills { s with tiles := { s.tiles with writes := tdel s.tiles.writes (pageIndex s p) } } (entClass e) = false := hf
  simp only [sweepOne, he, if_true, Bool.not_true, Bool.false_eq_true, if_false, hf', hx, hset]
  rfl

/-- A marked page in SWEEPING whose entry, counter block and metadata are at hand is finished (R223, R224). -/
theorem sweepOne_finishes {s : State} {p : Nat} {e : W32} {m : MapLine} {l : MetaLine}
    (hm : tfind s.mapc.lines (pageIndex s p / 16) = some m) (he : entState e = .sweeping) (hf : sweepFills s (entClass e) = false)
    (hh : (ctxAt s (entCtx e)).ledgerHold.isSome = true) (hr : (ctxAt s (entCtx e)).rebuilt = false)
    (hl : tfind s.tree.lines (itemAddr s (.ctr (pageIndex s p))) = some l) (hd : dirtyLines s < 1000)
    (hown : OwnLineAtHand s (mapLineAddr s (pageIndex s p / 16)))
    (hc : itemAddr s (.ctr (pageIndex s (mapLineAddr s (pageIndex s p / 16) / 64))) ≠ itemAddr s (.ctr (pageIndex s p)))
    (hs : (lineSealAt s (pageIndex s (mapLineAddr s (pageIndex s p / 16) / 64)) (mapLineAddr s (pageIndex s p / 16) % 64)).1 ≠
      itemAddr s (.ctr (pageIndex s p))) :
    (tfind (sweepOne s p e).mapc.lines (pageIndex s p / 16)).map MapLine.words = some (m.words.set (pageIndex s p % 16) 0) ∧
    (sweepOne s p e).bg = { s.bg with pendingPages := s.bg.pendingPages - 1 } ∧
    (laneAt (sweepOne s p e) (ctxAt s (entCtx e)).lane.toNat).held = (laneAt s (ctxAt s (entCtx e)).lane.toNat).held - 1 ∧
    ∀ la, la ≠ mapLineAddr s (pageIndex s p / 16) → storedLine (sweepOne s p e) la = storedLine s la := by
  obtain ⟨x, hx⟩ := sweepCounterBlock_atHand (s := { s with tiles := { s.tiles with writes := tdel s.tiles.writes (pageIndex s p) } })
    (p := p) (e := e) (l := l) ((ctxAt s (entCtx e)).lane.toNat + 1) hl (hd.trans (by decide))
  obtain ⟨u, hset, hw⟩ := setEntry_atHand (s := sweptInCache s p x) (p := p) (m := m) 0 hm (sweptInCache_atHand x hd hown hc hs)
  obtain ⟨tr, kk, n, d, cu, mc, hrest⟩ := hw.rest
  have hsame : u.bg = s.bg ∧ u.lanes = s.lanes ∧ u.ctxs = s.ctxs := by
    rw [hrest]
    exact ⟨rfl, rfl, rfl⟩
  obtain ⟨hbg, hlanes, hctxs⟩ := hsame
  have hctx (c : Nat) : ctxAt u c = ctxAt s c := by rw [ctxAt, hctxs, ctxAt]
  have hlane (i : Nat) : laneAt u i = laneAt s i := by rw [laneAt, hlanes, laneAt]
  rw [sweepOne_path he hf hx hset, sweepCounts_held he (by rw [hctx]; exact hh) (by rw [hctx]; exact hr)]
  refine ⟨hw.words, ?_, ?_, hw.others⟩
  · rw [← hbg]
    rfl
  · rw [pageSwept, ← hlane]
    exact congrArg Lane.held (laneAt_setLane_same _ _ _)

/-- Another map cache. -/
def withMap (s : State) (c : MapCache) : State := { s with mapc := c }

/-- A cached map line gives a page's entry. -/
theorem mapEntry_cached {s : State} {p : Nat} {m : MapLine} (hm : tfind s.mapc.lines (pageIndex s p / 16) = some m)
    (he : entState (m.words.getD (pageIndex s p % 16) 0) ≠ .reserved) :
    ∃ c x, mapEntry s p = (.ok (m.words.getD (pageIndex s p % 16) 0), withMap s c) ∧
      tfind c.lines (pageIndex s p / 16) = some x ∧ x.words = m.words := by
  obtain ⟨c, hput, x, hx, hwords⟩ := putMapLine_eq s (pageIndex s p / 16) m.words
  refine ⟨c, x, ?_, hx, hwords⟩
  simp only [mapEntry, mapLine, hm, hput, he, if_false, withMap]

/-- The first part of O38: each outcome of the walk is the row's own work, after which closed lanes are followed up. -/
theorem sweepWalks_rows {s : State} (bus : Bus) (hp : powered s = true) :
    let on := { s with bus := bus }
    (s.bg.sweepActive = false → s.bg.pendingPages ≠ 0 →
      Completes (exec (.sweepPassStart bus) s) (fun t =>
        t.bg.sweepActive = true ∧ t.bg.cursor = 0 ∧ t.bg.begun = s.bg.begun + 1 ∧ t.bg.marked = [] ∧
        t.bg.pendingPages = s.bg.pendingPages ∧ { t with bg := s.bg, ctxs := s.ctxs } = ended s s)) ∧
    (s.bg.sweepActive = true ∨ s.bg.pendingPages = 0 → exec (.sweepPassStart bus) s = .next (ended s s)) ∧
    (∀ f, backgroundMay s = true → sweepMapLine on = f on → exec (.sweepMapLine bus) s = .next (ended s (withClosings f on))) ∧
    (∀ f, backgroundMay s = true → sweepPage on = f on → exec (.sweepPage bus) s = .next (ended s (withClosings f on))) := by
  intro on
  refine ⟨fun ha hn => ?_, fun h => ?_, fun f hb h => ?_, fun f hb h => ?_⟩
  · refine ⟨_, onBus_powered (f := passStart) s hp, ?_⟩
    obtain ⟨x, hx⟩ := passStart_begins (s := on) ha hn
    rw [hx]
    exact ⟨rfl, rfl, rfl, rfl, rfl, rfl⟩
  · refine (onBus_powered (f := passStart) s hp).trans ?_
    rw [passStart_none (s := { s with bus := bus }) h]
    rfl
  · rw [exec_sweepMapLine hp, withClosings_congr ((background_may (show backgroundMay { s with bus := bus } = true from hb)).trans h)]
  · rw [exec_sweepPage hp, withClosings_congr ((background_may (show backgroundMay { s with bus := bus } = true from hb)).trans h)]

/-- Settles O38: what the walk does with a map line and with a marked page, by cases on what is read. -/
theorem sweepWalks : Obligations.SweepWalks := by
  unfold Obligations.SweepWalks
  refine ⟨?_, ?_⟩
  · intro s bus hp on
    obtain ⟨hstart, hnone, hline, hpage⟩ := sweepWalks_rows bus hp
    refine ⟨hstart, hnone, ?_, ?_, ?_⟩
    · intro hb ha hm n next
      refine ⟨fun hc => hline passEnd hb (sweepMapLine_past (s := on) ha hm hc), fun hc l u h => ?_, fun hc b u h => ?_⟩
      · exact hline _ hb (sweepMapLine_read (s := on) ha hm hc h)
      · exact hline _ hb (sweepMapLine_fault (s := on) ha hm hc h)
    · intro p rest hb hm next
      refine ⟨fun hl => hpage id hb (sweepPage_locked (s := on) hm hl), fun e u hl h => ?_, fun k u hl h => ?_⟩
      · exact hpage _ hb (sweepPage_entry (s := on) hm hl h)
      · exact hpage _ hb (sweepPage_fault (s := on) hm hl h)
    · intro hr hb ha hm n la l hi hk h0 hw hlt _
      have hwalk := sweepMapLine_unwritten (s := on) ha hm hi hk h0 hw hlt
      rw [hline walkedOn hb hwalk, withClosings_none (s := on) hr]
      rfl
  · intro s p rest m l lm sm hp hr hm hpages ha hd hb hact hrest q e la lane hdown hmap hlen he hf hh hreb hl hlm hsm hc hs1 hs2 hk
    have hne : entState e ≠ .reserved := by
      rw [he]
      decide
    obtain ⟨c, x, hentry, hx, hwords⟩ := mapEntry_cached (s := markTaken { s with bus := [] } rest) (p := p) hmap hne
    have hlock : pageLocked { s with bus := [] } p = false := by
      rw [pageLocked, hpages]
      rfl
    have hown : OwnLineAtHand (withMap (markTaken { s with bus := [] } rest) c) la :=
      ⟨(ownDown_of_same (s := s) (t := withMap (markTaken { s with bus := [] } rest) c) rfl rfl la).trans hdown, ha, rfl,
        lt_trans (show dirtyLines s < 1000 from hd) (by decide), ⟨lm, hlm, hk⟩, ⟨sm, hsm⟩, hs2⟩
    have hfin := sweepOne_finishes (s := withMap (markTaken { s with bus := [] } rest) c) (e := e) hx he hf hh hreb hl hd hown hc.symm hs1
    have htake : sweepable (withMap (markTaken { s with bus := [] } rest) c) e = true := by
      rw [sweepable, he]
      rfl
    have hstep := sweepPage_taken (s := { s with bus := [] }) (e := e) hm hlock hentry htake
    refine ⟨_, exec_sweepPage hp [], ?_⟩
    rw [withClosings_none (s := { s with bus := [] }) hr, background_may (show backgroundMay { s with bus := [] } = true from hb), hstep]
    generalize sweepOne (withMap (markTaken { s with bus := [] } rest) c) p e = u at hfin ⊢
    obtain ⟨hw, hbg, hheld, hothers⟩ := hfin
    have hmarked : u.bg.marked = rest := by rw [hbg]; rfl
    rw [maybePassEnd_marked (by rw [hmarked]; exact hrest)]
    rw [hwords] at hw
    refine ⟨hw, hmarked, ?_, hheld, hothers⟩
    exact (congrArg Bg.pendingPages hbg)

end Sys2Proof.Proofs
end

section
/-!
PROOF. Work on lines whose metadata is at hand (R150, R180, R184, R217).
-/
namespace Sys2Proof.Proofs

open Sys2Proof Sys2Proof.Machine Sys2Proof.Safety Sys2Proof.Laws

/-! ### A pending line rewritten -/

/-- Work that leaves the metadata cache, the custody path, the registers and the bus as they are. -/
structure PathSame (s u : State) : Prop where
  tree : u.tree = s.tree
  cfg : u.cfg = s.cfg
  cust : u.cust = s.cust
  bus : u.bus = s.bus

theorem PathSame.refl (s : State) : PathSame s s := ⟨rfl, rfl, rfl, rfl⟩

theorem PathSame.trans {s t u : State} (h : PathSame s t) (h' : PathSame t u) : PathSame s u :=
  ⟨h'.tree.trans h.tree, h'.cfg.trans h.cfg, h'.cust.trans h.cust, h'.bus.trans h.bus⟩

theorem pathSame_count (s : State) (off n : Nat) : PathSame s (count s off n) := ⟨rfl, rfl, rfl, rfl⟩

theorem pathSame_spendCredit (s : State) (i e : Nat) : PathSame s (spendCredit s i e) := ⟨rfl, rfl, rfl, rfl⟩

theorem pathSame_backgroundLines (s : State) (lane : Nat) (c : CustClass) (n : Nat) : PathSame s (backgroundLines s lane c n) := by
  have hc : PathSame s (chargeLines s lane c n) := by
    rw [chargeLines, chargeEnergy]
    exact pathSame_count _ _ _
  exact hc.trans (pathSame_spendCredit _ _ _)

theorem pathSame_readyKey (s : State) (c : Nat) : PathSame s (readyKey s c) := by
  obtain ⟨-, kk, n, hkey⟩ := readyKey_effect s c
  rw [hkey]
  exact ⟨rfl, rfl, rfl, rfl⟩

theorem pathSame_exception (s : State) (kind : Nat) (a : ExcAt) : PathSame s (exception s kind a) := by
  obtain ⟨rc, f, c, he, -⟩ := exception_eq s kind a
  rw [he]
  exact ⟨rfl, rfl, rfl, rfl⟩

/-- With a memory controller that answers, a silent line is one whose channel is out of use, and nothing went out for it. -/
theorem readSilent_quiet {s : State} (h : s.bus = []) (la : Nat) : readSilent s la = s := by
  by_cases hd : ownDown s la = true
  · have hd' : egressDown s (ownChannel s la) = true := hd
    rw [readSilent, ownSilent]
    simp only [hd', if_true, ite_self]
  · have hm : memRead s la = .data (storedLine s la) := by
      rw [memRead, if_neg hd, busAnswer, h]
      rfl
    rw [readSilent, hm, if_neg (fun hx => MemReply.noConfusion hx)]

theorem pathSame_readStored {s : State} (h : s.bus = []) (k : CtxKey) (c : CustClass) (m : LineKeys) (la : Nat) :
    PathSame s (readStored s k c m la).2 := by
  rw [readStored]
  split
  · exact pathSame_count _ _ _
  · rw [readSilent_quiet h]
    exact .refl s
  · next ct _ =>
    change PathSame s (countOpened s (openLine k c m la ct))
    generalize openLine k c m la ct = x
    rw [countOpened]
    have hfix : PathSame s (if x.fixed = true then count s 0x7840 1 else s) := by
      split
      · exact pathSame_count _ _ _
      · exact .refl s
    split
    · exact hfix
    · exact hfix.trans (pathSame_count _ _ _)

/-- Where the memory controller answers, a write by the block stores its line or does nothing. -/
theorem memWrite_quiet {s : State} (h : s.bus = []) (la : Nat) (l : Line) :
    (memWrite s la l).2.tree = s.tree ∧ (memWrite s la l).2.cfg = s.cfg ∧ (memWrite s la l).2.cust.reqs = s.cust.reqs ∧
    (memWrite s la l).2.cust.ins = s.cust.ins := by
  have hb : busAnswer s true la = none := by
    rw [busAnswer, h]
    rfl
  rw [memWrite, hb]
  split
  · exact ⟨rfl, rfl, rfl, rfl⟩
  · split
    · exact ⟨rfl, rfl, rfl, rfl⟩
    · exact ⟨rfl, rfl, rfl, rfl⟩

/-- What rewriting a pending line leaves (R180). -/
structure LineRekeyed (s u : State) (q k : Nat) : Prop where
  clear : ∀ y, rekeyOf u (.ctr q) = some y → y.pending.testBit k = false
  minor : (itemAtHand u (.ctr q)).map (fun z => minorOf z k) = some 1
  reqs : u.cust.reqs = s.cust.reqs
  ins : u.cust.ins = s.cust.ins
  lost : u.tree.lost = s.tree.lost
  broken : u.tree.broken = s.tree.broken

/-- The line's counter raised, its pending bit cleared and its seal put, wherever its data came from. -/
theorem lineRekeyed_of {s t : State} {q k la : Nat} {l m : MetaLine} (sl : W64) (ct : Line) (hb : s.bus = []) (ht : PathSame s t)
    (hd : dirtyLines s < 1000) (hl : tfind s.tree.lines (itemAddr s (.ctr q)) = some l) (hm : tfind s.tree.lines (lineSealAt s q k).1 = some m)
    (ha : itemAddr s (.ctr q) ≠ (lineSealAt s q k).1) :
    LineRekeyed s (memWrite (putSeal (updateItem (clearPending t (.ctr q) k) (.ctr q) .versionedG (withMinor l.data k 1)) .versionedC q k sl 0)
      la ct).2 q k := by
  obtain ⟨rs, n, hclear, hbit⟩ := clearPending_eq t (.ctr q) k
  generalize hv : clearPending t (.ctr q) k = v at hclear
  have hlines : v.tree.lines = s.tree.lines := by rw [hclear, ← ht.tree]
  have hcfg : v.cfg = s.cfg := by rw [hclear, ← ht.cfg]
  obtain ⟨hwork, hrs, hitem⟩ := minorRaised (s := v) (q := q) (k := k) (l := l) (m := m) 1 sl 0 (by rw [hlines, itemAddr_of_cfg hcfg, hl])
    (by rw [hlines, lineSealAt_of_cfg hcfg, hm]) (by rw [itemAddr_of_cfg hcfg, lineSealAt_of_cfg hcfg]; exact ha.symm)
    (by rw [dirtyLines_of_lines hlines]; omega)
  generalize putSeal (updateItem v (.ctr q) .versionedG (withMinor l.data k 1)) .versionedC q k sl 0 = w at hwork hrs hitem ⊢
  obtain ⟨hcfgw, hcustw, -, hbusw⟩ := hwork.same
  have hbus : w.bus = [] := by rw [hbusw, hclear, ← hb, ← ht.bus]
  obtain ⟨htree, hcfg', hreqs, hins⟩ := memWrite_quiet hbus la ct
  have hvtree : v.tree.lost = s.tree.lost ∧ v.tree.broken = s.tree.broken ∧ v.cust = s.cust := by
    rw [hclear, ← ht.tree, ← ht.cust]
    exact ⟨rfl, rfl, rfl⟩
  obtain ⟨hlost, hbroken, hcust⟩ := hvtree
  refine ⟨fun y hy => hbit y ?_, ?_, ?_, ?_, ?_, ?_⟩
  · rw [rekeyOf, htree, hrs, hclear] at hy
    exact hy
  · have hat : itemAtHand (memWrite w la ct).2 (.ctr q) = itemAtHand w (.ctr q) := by
      simp only [itemAtHand, htree, itemAddr_of_cfg hcfg']
    rw [hat, hitem, Option.map_some, minorOf_withMinor]
  · rw [hreqs, hcustw, hcust]
  · rw [hins, hcustw, hcust]
  · rw [htree, hwork.lost, hlost]
  · rw [htree, hwork.broken, hbroken]

theorem rekeyData_rekeyed {s : State} {r : Rekey} {q k : Nat} {l m : MetaLine} (hb : s.bus = [])
    (hd : dirtyLines s < 1000) (hl : tfind s.tree.lines (itemAddr s (.ctr q)) = some l) (hm : tfind s.tree.lines (lineSealAt s q k).1 = some m)
    (ha : itemAddr s (.ctr q) ≠ (lineSealAt s q k).1) : LineRekeyed s (rekeyData s r q k l.data) q k := by
  have h0 := (pathSame_readyKey s r.ctx).trans (pathSame_backgroundLines (readyKey s r.ctx) (ctxAt s r.ctx).lane.toNat .versionedC 2)
  generalize hs0 : backgroundLines (readyKey s r.ctx) (ctxAt s r.ctx).lane.toNat .versionedC 2 = s0 at h0
  have hplain : plainNow s0 (lineSealAt s0 q k).1 .versionedG = (some m.data, s0) := by
    simp only [plainNow, lineSealAt_of_cfg h0.cfg, h0.tree, hm]
  unfold rekeyData
  simp only [hs0, hplain]
  have hread (k' : CtxKey) (old : LineKeys) (la : Nat) := pathSame_readStored (h0.bus.trans hb) k' .versionedC old la
  generalize hx : readStored s0 (ctxKey s0 r.ctx) .versionedC _ _ = x
  have hsame : PathSame s x.2 := by
    rw [← hx]
    exact h0.trans (hread _ _ _)
  obtain ⟨v, s2⟩ := x
  cases v with
  | ok y => exact lineRekeyed_of _ _ hb hsame hd hl hm ha
  | error b => exact lineRekeyed_of _ _ hb (hsame.trans (pathSame_exception _ _ _)) hd hl hm ha

/-- The first record's lowest pending line, of a page, rewritten. -/
theorem rekeyWork_pending {s : State} {x : Rekey} {rest : List Rekey} {q k : Nat} {l m : MetaLine} (hi : CustodyIdle s)
    (hmay : backgroundMay s = true) (hr : s.tree.rekeys = x :: rest) (hx : x.item = .ctr q) (hk : lowestPending x.pending = some k)
    (hb : s.bus = []) (hd : dirtyLines s < 1000) (hl : tfind s.tree.lines (itemAddr s (.ctr q)) = some l)
    (hm : tfind s.tree.lines (lineSealAt s q k).1 = some m) (ha : itemAddr s (.ctr q) ≠ (lineSealAt s q k).1) :
    LineRekeyed s (settle (background rekeyStep s)) q k := by
  have hitem (g : WayGroup) : itemNow s (.ctr q) g = (.ok l.data, s) := by simp only [itemNow, itemAtHand, hl, Option.map_some]
  have hstep : background rekeyStep s = rekeyData s x q k l.data := by
    rw [background_may hmay, rekeyStep]
    simp only [hr, hk, hx, hitem]
  have hdone := rekeyData_rekeyed (r := x) hb hd hl hm ha
  rw [hstep]
  generalize rekeyData s x q k l.data = u at hdone ⊢
  obtain ⟨hreqs, hheld, hlost, hbroken⟩ := hi
  rw [settle_idle ⟨hdone.reqs.trans hreqs, fun ch => by rw [inChan, hdone.ins]; exact hheld ch, hdone.lost.trans hlost, hdone.broken.trans hbroken⟩]
  exact hdone

/-! ### A read of a line never written -/

/-- What lets a one-line read under a context's key be issued at once (R20, R39, R119, R156). -/
structure MayIssueKeyed (s : State) (r : CustReq) : Prop where
  alone : s.cust.reqs = [r]
  line : r.n = 1 ∧ reqClass r = .versionedC ∧ r.under = none ∧ r.op = 0
  tags : tagsHold s r = true
  up : egressDown s (egressOf s r.addr) = false
  room : (outChan s (egressOf s r.addr)).reqs.length + (outChan s (egressOf s r.addr)).retired.length ≤ 1020
  key : (cachedKey s r.owner).isSome = true
  credit : creditCovers s r = true

theorem tryIssue_keyed {s : State} {r : CustReq} (h : MayIssueKeyed s r) :
    tryIssue s r = some (issueReads (issuePaid (readyKey s r.owner) r) r) := by
  obtain ⟨hn, hc, -, hop⟩ := h.line
  have hroom : egressRoom s r = true := by
    rw [egressRoom, reqLines_one hn]
    have := h.room
    simp only [List.all_cons, List.all_nil, Bool.and_true, decide_eq_true_eq]
    omega
  have hkey : (cachedKey s r.owner).isNone = false := by
    rw [Option.isNone_eq_false_iff]
    exact h.key
  unfold tryIssue
  rw [mustWait_alone h.alone, h.tags, reqLines_one hn, hroom, h.credit, hc, hkey]
  simp only [List.any_cons, List.any_nil, h.up, Bool.or_self, Bool.false_eq_true, if_false, Bool.not_true, and_false]
  rw [if_pos (show r.op = opRead from hop), if_neg (by decide), if_neg (by decide)]
  rfl

/-- A line whose counter stands at 0 has no metadata to open it under (R150). -/
theorem reqMeta_unwritten {s : State} {r : CustReq} {l : Line} (hn : r.n = 1) (hc : reqClass r = .versionedC)
    (hl : itemAtHand s (.ctr (pageIndex s (r.addr / 64))) = some l) (hr : rekeyOf s (.ctr (pageIndex s (r.addr / 64))) = none)
    (h0 : minorOf l (r.addr % 64) = 0) : reqMeta s r (reqLines r) = ([.unwritten], s) := by
  have hmeta : lineMeta s .versionedC (pageIndex s (pageOfLine r.addr)) (r.addr % 64) (entAux r.entry) = (.unwritten, s) := by
    simp only [pageOfLine, lineMeta, itemNow, hl, lineCounters, childCounters, hr, h0, decide_true, if_true]
  rw [reqLines_one hn, reqMeta, hc]
  simp only [hmeta]
  rfl

theorem issueReads_unwritten {s : State} {r : CustReq} (h : s.cust.reqs = [r]) (hn : r.n = 1) (hu : r.under = none)
    (hm : reqMeta s r (reqLines r) = ([.unwritten], s)) :
    issueReads s r = onlyReq s { r with keys := [noKeys], res := [.got .clean 0], stage := .reading, under := none } := by
  unfold issueReads
  rw [reqLines_one hn] at hm
  simp only [hu, hm, reqLines_one hn, List.zip_cons_cons, List.zip_nil_left, List.foldl_cons, List.foldl_nil, List.filter_cons,
    List.filter_nil, isFetched, Bool.false_eq_true, if_false, List.map_cons, List.map_nil, List.foldr_nil]
  exact setReq_alone h rfl

/-- A request alone that its move leaves with its line known is answered. -/
theorem settleReqs_movedKnown {s t : State} {r r' : CustReq} {v : Verdict} {d : Line} (h : s.cust.reqs = [r]) (hm : moveReq s r = some t)
    (ht : t.cust.reqs = [r']) (hs : r'.stage = .reading) (hop : r'.op = 0) (hres : r'.res = [.got v d]) : settleReqs s = settleReqs t := by
  have hop' : r'.op = opRead := hop
  have hread : moveReq t r' = some (onlyReq t { r' with stage := .answering }) := by
    simp only [moveReq, hs, hres, readsDone, hop', if_true]
    exact congrArg some (setReq_alone ht rfl)
  rw [settleReqs, h, settleReqs_moved ht hread rfl rfl]
  change settleSteps (16 + 1 + 1) s = _
  rw [settleSteps_move _ h hm, settleSteps_move _ ht hread]
  have hans : moveReq (onlyReq t { r' with stage := .answering }) { r' with stage := .answering } =
      some (answerReq (onlyReq t { r' with stage := .answering }) { r' with stage := .answering }) := by
    simp [moveReq, answerWaits, onlyReq]
  obtain ⟨i, n, hrest⟩ := (answerReq_given (s := onlyReq t { r' with stage := .answering }) (r := { r' with stage := .answering }) rfl).rest
  rw [settleReqs_answering (r := { r' with stage := .answering }) rfl rfl]
  change settleSteps (15 + 1) _ = _
  rw [settleSteps_move _ (r := { r' with stage := .answering }) rfl hans, settleSteps, hrest]
  rfl

/-- A counter block at hand is found in the cache: the hit marks it used and counts. -/
theorem fetchItem_hit {s : State} {q : Nat} {l : Line} (g : WayGroup) (h : itemAtHand s (.ctr q) = some l) :
    ∃ tr c, fetchItem s (.ctr q) g = (.ok l, { s with tree := tr, cnt := c }) ∧ itemAtHand { s with tree := tr, cnt := c } (.ctr q) = some l ∧
      tr.rekeys = s.tree.rekeys ∧ tr.lost = s.tree.lost ∧ tr.broken = s.tree.broken := by
  rw [itemAtHand] at h
  · obtain ⟨m, hm, rfl⟩ := Option.map_eq_some_iff.1 h
    have hfetch : fetchItem s (.ctr q) g = (.ok m.data, hitMeta s (itemAddr s (.ctr q)) m) := by
      rw [fetchItem, metaFuel, metaFetch]
      · simp only [hm]
      · exact fun h => TreeItem.noConfusion h
    refine ⟨(hitMeta s (itemAddr s (.ctr q)) m).tree, (hitMeta s (itemAddr s (.ctr q)) m).cnt, hfetch, ?_, rfl, rfl, rfl⟩
    exact congrArg (Option.map MetaLine.data) (tfind_tput_same s.tree.lines (itemAddr s (.ctr q)) { m with used := s.tree.clock })
  · exact fun h => TreeItem.noConfusion h

/-- What lets a one-line read of a VERSIONED line that was never written be answered at once. -/
structure UnwrittenRead (s : State) (r : CustReq) : Prop where
  one : OneLine s r
  line : reqClass r = .versionedC ∧ r.under = none ∧ r.op = 0
  free : regulated s r.lane.toNat = false
  tags : tagsHold s r = true
  up : egressDown s (egressOf s r.addr) = false
  room : (outChan s (egressOf s r.addr)).reqs.length + (outChan s (egressOf s r.addr)).retired.length ≤ 1020
  key : (cachedKey s r.owner).isSome = true
  credit : energyScale * lineEnergy s .versionedC ≤ custodyCredit s
  blank : ∃ l, itemAtHand s (.ctr (pageIndex s (r.addr / 64))) = some l ∧ minorOf l (r.addr % 64) = 0
  settled : rekeyOf s (.ctr (pageIndex s (r.addr / 64))) = none

/-- With its counter block at hand, the read is issued and answered with zeros within the step. -/
theorem afterMeta_unwritten {s : State} {r : CustReq} (h : UnwrittenRead s r) :
    (settle (afterMeta s r)).cust.reqs = [] ∧ (inChan (settle (afterMeta s r)) r.ch.val).rsp = (inChan s r.ch.val).rsp ++ [answer r .clean 0] ∧
    (settle (afterMeta s r)).dram = s.dram := by
  obtain ⟨hreqs, hlost, -, hheld⟩ := h.one.alone
  obtain ⟨hn, -⟩ := h.one.line
  obtain ⟨hc, hu, hop⟩ := h.line
  obtain ⟨l, hl, h0⟩ := h.blank
  have hafter : afterMeta s r = onlyReq s { r with stage := .hold } := by
    have hregs := h.free
    rw [afterMeta, hc]
    simp only [Bool.false_eq_true, if_false]
    rw [toTokens, takeTokens]
    simp only [hregs, Bool.not_false, if_true]
    exact setReq_alone hreqs rfl
  have hmay : MayIssueKeyed (onlyReq s { r with stage := .hold }) { r with stage := .hold } := by
    refine ⟨rfl, ⟨hn, hc, hu, hop⟩, h.tags, h.up, h.room, h.key, ?_⟩
    have htok : tokensOf { r with stage := .hold } = 1 := by
      rw [tokensOf, if_neg (show ¬r.op = opMasked by rw [hop]; decide)]
      exact hn
    have hcredit := h.credit
    rw [creditCovers, reqEnergy, htok, Nat.one_mul]
    refine decide_eq_true ?_
    rw [show reqClass { r with stage := .hold } = .versionedC from hc]
    exact_mod_cast hcredit
  have hmove : moveReq (onlyReq s { r with stage := .hold }) { r with stage := .hold } =
      some (issueReads (issuePaid (readyKey (onlyReq s { r with stage := .hold }) r.owner) { r with stage := .hold }) { r with stage := .hold }) :=
    tryIssue_keyed hmay
  obtain ⟨-, kk, kn, hkey⟩ := readyKey_effect (onlyReq s { r with stage := .hold }) r.owner
  obtain ⟨n, p, c, hpaid, -⟩ := issuePaid_eq (readyKey (onlyReq s { r with stage := .hold }) r.owner) { r with stage := .hold }
  generalize hw : issuePaid (readyKey (onlyReq s { r with stage := .hold }) r.owner) { r with stage := .hold } = w at hpaid hmove
  rw [hkey] at hpaid
  have hwreqs : w.cust.reqs = [{ r with stage := .hold }] := by rw [hpaid]; rfl
  have hwl : itemAtHand w (.ctr (pageIndex w (r.addr / 64))) = some l := by rw [hpaid]; exact hl
  have hwr : rekeyOf w (.ctr (pageIndex w (r.addr / 64))) = none := by rw [hpaid]; exact h.settled
  have hissue := issueReads_unwritten (s := w) (r := { r with stage := .hold }) hwreqs hn hu (reqMeta_unwritten hn hc hwl hwr h0)
  rw [hissue] at hmove
  have hg := settleReqs_read (s := onlyReq w { r with keys := [noKeys], res := [.got .clean 0], stage := .reading, under := none })
    (r := { r with keys := [noKeys], res := [.got .clean 0], stage := .reading, under := none }) rfl rfl hop rfl
  have hset := settleReqs_movedKnown rfl hmove (r' := { r with keys := [noKeys], res := [.got .clean 0], stage := .reading, under := none })
    rfl rfl hop rfl
  obtain ⟨i, m, hrest⟩ := hg.rest
  have hwheld : NoneHeld (onlyReq w { r with keys := [noKeys], res := [.got .clean 0], stage := .reading, under := none }) := by
    rw [hpaid]
    exact hheld
  rw [hafter, settle_of_settleReqs (s := onlyReq s { r with stage := .hold }) hlost hset (hg.held hwheld)]
  have hrsp := hg.rsp
  have hins : inChan (onlyReq w { r with keys := [noKeys], res := [.got .clean 0], stage := .reading, under := none }) r.ch.val =
      inChan s r.ch.val := by
    rw [hpaid]
    rfl
  have hdram : w.dram = s.dram := by
    rw [hpaid]
    rfl
  refine ⟨by rw [hrest], ?_, ?_⟩
  · rw [← hins]
    exact hrsp
  · rw [hrest, ← hdram]
    rfl

theorem metadataArrives_unwritten {s : State} {r : CustReq} (h : UnwrittenRead s r) (hs : r.stage = .fetch) :
    (metadataArrives s).cust.reqs = [] ∧ (inChan (metadataArrives s) r.ch.val).rsp = (inChan s r.ch.val).rsp ++ [answer r .clean 0] ∧
    (metadataArrives s).dram = s.dram := by
  obtain ⟨hreqs, hlost, hpages, hheld⟩ := h.one.alone
  obtain ⟨hn, -⟩ := h.one.line
  obtain ⟨hc, hu, hop⟩ := h.line
  obtain ⟨l, hl, h0⟩ := h.blank
  have hold : oldestAt s (fun r => r.stage == .fetch) = some r := by simp [oldestAt, hreqs, hs]
  obtain ⟨tr, c, hfetch, hitem, hrs, htl, htb⟩ := fetchItem_hit (groupOfClass (reqClass r)) hl
  have hrekey : rekeyOf { s with tree := tr, cnt := c } (.ctr (pageIndex s (r.addr / 64))) = none := by
    rw [rekeyOf, hrs]
    exact h.settled
  have hneed : neededPlaces { s with tree := tr, cnt := c } r l = [] := by
    rw [neededPlaces, reqLines_one hn, hc]
    have hmin : (lineCounters { s with tree := tr, cnt := c } (pageIndex s (r.addr / 64)) l (r.addr % 64)).2 = 0 := by
      rw [lineCounters, childCounters, hrekey]
      exact h0
    have hread : decide (r.op ≠ opRead) = false := decide_eq_false (not_not.mpr hop)
    change List.map _ (List.filter (fun la => decide (r.op ≠ opRead) || decide ((lineCounters { s with tree := tr, cnt := c }
      (pageIndex s (r.addr / 64)) l (la % 64)).2 ≠ 0)) [r.addr]) = []
    rw [hread, List.filter_cons, hmin]
    rfl
  have harr : metadataArrives s = settle (afterMeta { s with tree := tr, cnt := c } r) := by
    rw [metadataArrives, hold]
    simp only [pageOfLine, hfetch, hneed]
    rfl
  have hun : UnwrittenRead { s with tree := tr, cnt := c } r :=
    ⟨⟨⟨hreqs, ⟨htl.trans hlost.1, htb.trans hlost.2⟩, hpages, hheld⟩, h.one.line, h.one.sealed⟩, h.line, h.free, h.tags, h.up, h.room,
      h.key, h.credit, ⟨l, hitem, h0⟩, hrekey⟩
  rw [harr]
  exact afterMeta_unwritten hun

/-! ### A completion read -/

/-- A key at hand made ready counts nothing. -/
theorem readyKey_cached {s : State} {c : Nat} (h : (cachedKey s c).isSome = true) :
    ∃ kk, readyKey s c = { s with keys := kk } ∧ cachedKey { s with keys := kk } c = some (ctxKey s c) := by
  obtain ⟨k, hk⟩ := Option.isSome_iff_exists.1 h
  have hr : readyKey s c = cacheKey s c k := by simp only [readyKey, hk]
  refine ⟨(cacheKey s c k).keys, hr, ?_⟩
  have hc := cachedKey_cacheKey s c k
  rw [ctxKey, hk]
  exact hc

theorem ctxKey_of_cached {s : State} {c : Nat} {k : CtxKey} (h : cachedKey s c = some k) : ctxKey s c = k := by
  rw [ctxKey, h]
  rfl

/-- The check and counters of a SEALED line at hand. -/
theorem lineMeta_sealed {s : State} {q k : Nat} {l m : MetaLine} (aux : Nat) (hl : tfind s.tree.lines (itemAddr s (.ctr q)) = some l)
    (hf : fillBit l.data k = true) (hm : tfind s.tree.lines (lineCheckAt s q k).1 = some m) : lineMeta s .sealedC q k aux =
      (.keys { major := majorOf l.data, minor := aux, sl := 0, check := checkIn m.data (lineCheckAt s q k).2 }, s) := by
  have hitem : itemNow s (.ctr q) (groupOfClass .sealedC) = (.ok l.data, s) := by simp only [itemNow, itemAtHand, hl, Option.map_some]
  have hplain : plainNow s (sealPlace s .sealedC q k).1 (groupOfClass .sealedC) = (some m.data, s) := by
    simp only [plainNow, sealPlace, hm]
  simp only [lineMeta, hitem, hf, hplain, Bool.not_true, Bool.false_eq_true, if_false, if_true]
  rfl

theorem memRead_quiet {s : State} {la : Nat} (hb : s.bus = []) (hd : ownDown s la = false) : memRead s la = .data (storedLine s la) := by
  rw [memRead, hd, busAnswer, hb]
  rfl

/-- A stored SEALED line that its check opens: its ciphertext as corrected. -/
theorem readStored_sealed {s : State} {k : CtxKey} {m : LineKeys} {la : Nat} {d : Line × Bool} (hb : s.bus = []) (hd : ownDown s la = false)
    (h : decodeSealedLine (storedLine s la) m.check = some d) :
    ∃ p n, readStored s k .sealedC m la = (.ok (p, d.1), { s with cnt := n }) ∧ tget 0 n 0x7878 = counter s 0x7878 := by
  obtain ⟨l, fixed⟩ := d
  rw [readStored, memRead_quiet hb hd]
  simp only [openLine, h, countOpened]
  cases fixed
  · exact ⟨_, s.cnt, rfl, rfl⟩
  · exact ⟨_, _, rfl, (counter_count s 0x7840 1 0x7878).trans (if_neg (by decide))⟩

/-- An entry with a line's term added. -/
def withTerm (s : State) (e : TileRead) (k : Nat) (ct : Line) : TileRead :=
  let b : BitVec 64 := BitVec.ofNat 64 (2 ^ k)
  { e with sum := e.sum ^^^ tileTerm (ctxKey s e.holder) k ct, mask := e.mask ||| b, flying := e.flying &&& ~~~b, lastAt := s.pace.now }

theorem tileEntry_setTile {s : State} {e x : TileRead} (h : tileEntry s e.order = some e) (hx : x.order = e.order) :
    tileEntry (setTile s x) e.order = some x := by
  rw [tileEntry] at h ⊢
  change (s.tiles.reads.map (fun y => if y.order = x.order then x else y)).find? _ = _
  rw [List.find?_map, hx]
  have hp : ((fun y : TileRead => decide (y.order = e.order)) ∘ fun y => if y.order = e.order then x else y) =
      fun y => decide (y.order = e.order) := by
    funext y
    by_cases hy : y.order = e.order
    · simp [hy, hx]
    · simp [hy]
  rw [hp, h, Option.map_some, if_pos rfl]

/-- The missing line's term added to an entry that it does not fill (R216). -/
theorem tileAdd_adds {s : State} {e : TileRead} {k : Nat} (ct : Line) (h : tileEntry s e.order = some e)
    (hk : (cachedKey s e.holder).isSome = true) (hm : e.mask ||| BitVec.ofNat 64 (2 ^ k) ≠ ~~~0) :
    counter (tileAdd s e.order k ct) 0x7878 = counter s 0x7878 ∧ tileEntry (tileAdd s e.order k ct) e.order = some (withTerm s e k ct) := by
  obtain ⟨kk, hready, hcached⟩ := readyKey_cached hk
  have hadd : tileAdd s e.order k ct = setTile { s with keys := kk } (withTerm s e k ct) := by
    simp only [tileAdd, h, hready, ctxKey_of_cached hcached, hm, if_false]
    rfl
  rw [hadd]
  exact ⟨rfl, tileEntry_setTile (s := { s with keys := kk }) h rfl⟩

/-- What lets the missing line of an entry at completion be read and added (R217). -/
structure MissingAtHand (s : State) (e : TileRead) (k : Nat) (me : MapLine) (l m : MetaLine) (d : Line × Bool) : Prop where
  due : completionDue s = some (e, k)
  quiet : s.bus = []
  entry : tfind s.mapc.lines (pageIndex s e.page / 16) = some me
  page : entState (me.words.getD (pageIndex s e.page % 16) 0) ≠ .reserved
  block : tfind s.tree.lines (itemAddr s (.ctr (pageIndex s e.page))) = some l
  filled : fillBit l.data k = true
  check : tfind s.tree.lines (lineCheckAt s (pageIndex s e.page) k).1 = some m
  tile : tileEntry s e.order = some e
  key : (cachedKey s e.holder).isSome = true
  up : ownDown s (64 * e.page + k) = false
  opens : decodeSealedLine (storedLine s (64 * e.page + k)) (checkIn m.data (lineCheckAt s (pageIndex s e.page) k).2) = some d
  open_ : e.mask ||| BitVec.ofNat 64 (2 ^ k) ≠ ~~~0

theorem spendCredit_power (s : State) (i e : Nat) : ∃ p, spendCredit s i e = { s with power := p } := ⟨_, rfl⟩

/-- The completion read's own account: its count, and its line's energy from the background engine. -/
theorem completionPaid_eq (s : State) (l : LaneId) : ∃ p c, backgroundLines (count s 0x7878 1) l.toNat .sealedC 1 = { s with power := p, cnt := c } ∧
    tget 0 c 0x7878 = counter s 0x7878 + 1 := by
  obtain ⟨c, hc, hcnt⟩ := chargeEnergy_eq (count s 0x7878 1) l (1 * lineEnergy (count s 0x7878 1) .sealedC)
  have hl := l.isLt
  have hone := (hcnt 0x7878 (by omega)).trans ((counter_count s 0x7878 1 0x7878).trans (if_pos rfl))
  obtain ⟨p, hp⟩ := spendCredit_power { s with cnt := c } (if creditOf { s with cnt := c } crBackground ≤ 0 ∧
    0 < creditOf { s with cnt := c } crCustody then crCustody else crBackground) (1 * lineEnergy { s with cnt := c } .sealedC)
  refine ⟨p, c, ?_, hone⟩
  rw [backgroundLines, chargeLines, hc]
  exact hp

theorem completionRead_adds {s : State} {e : TileRead} {k : Nat} {me : MapLine} {l m : MetaLine} {d : Line × Bool}
    (h : MissingAtHand s e k me l m d) : counter (completionRead s) 0x7878 = counter s 0x7878 + 1 ∧
    ∃ x, tileEntry (completionRead s) e.order = some x ∧ x.mask = e.mask ||| BitVec.ofNat 64 (2 ^ k) ∧
      x.sum = e.sum ^^^ tileTerm (ctxKey s e.holder) k d.1 := by
  obtain ⟨p, c, hpaid, hcnt⟩ := completionPaid_eq s (ctxAt s e.holder).lane
  obtain ⟨mc, y, hentry, -, -⟩ := mapEntry_cached (s := { s with power := p, cnt := c }) (p := e.page) h.entry h.page
  generalize me.words.getD _ 0 = en at hentry
  generalize hs2 : withMap { s with power := p, cnt := c } mc = s2 at hentry
  have hcfg : s2.cfg = s.cfg := by rw [← hs2]; rfl
  have hcust : s2.cust = s.cust := by rw [← hs2]; rfl
  have hmeta := lineMeta_sealed (s := s2) (q := pageIndex s2 e.page) (k := k) (l := l) (m := m)
    (entAux en) (by rw [← hs2]; exact h.block) h.filled (by rw [← hs2]; exact h.check)
  obtain ⟨kk, hready, hcached⟩ := readyKey_cached (s := s2) (c := e.holder) (by rw [← hs2]; exact h.key)
  obtain ⟨pl, n, hread, hn⟩ := readStored_sealed (s := { s2 with keys := kk }) (k := ctxKey s2 e.holder) (la := 64 * e.page + k)
    (m := { major := majorOf l.data, minor := entAux en, sl := 0,
            check := checkIn m.data (lineCheckAt s2 (pageIndex s2 e.page) k).2 }) (d := d)
    (by rw [← hs2]; exact h.quiet)
    ((ownDown_of_same (s := s) (t := { s2 with keys := kk }) hcfg hcust _).trans h.up) (by rw [← hs2]; exact h.opens)
  have hstep : completionRead s = tileAdd { s2 with keys := kk, cnt := n } e.order k d.1 := by
    simp only [completionRead, h.due, hpaid, hentry, hmeta, hready, ctxKey_of_cached hcached, hread]
  have hkey : ctxKey { s2 with keys := kk, cnt := n } e.holder = ctxKey s e.holder := by
    rw [ctxKey_of_cached (s := { s2 with keys := kk, cnt := n }) hcached, ← hs2]
    rfl
  obtain ⟨hc, ht⟩ := tileAdd_adds (s := { s2 with keys := kk, cnt := n }) (e := e) (k := k) d.1 (by rw [← hs2]; exact h.tile)
    (Option.isSome_iff_exists.2 ⟨_, hcached⟩) h.open_
  rw [hstep]
  refine ⟨hc.trans (hn.trans ?_), _, ht, rfl, ?_⟩
  · rw [← hs2]
    exact hcnt
  · rw [withTerm, hkey]

theorem exec_metadataFetch {s : State} (hp : powered s = true) (bus : Bus) :
    exec (.metadataFetch bus) s = .next (ended s (metadataArrives { s with bus := bus })) := onBus_powered (f := metadataArrives) s hp

theorem exec_tileCompletionRead {s : State} (hp : powered s = true) (bus : Bus) : exec (.tileCompletionRead bus) s =
    .next (ended s (background completionRead { s with bus := bus })) := onBus_powered (f := background completionRead) s hp

/-- Settles O36: the line's rewriting, the answer of a line never written, and the completion read, each by its own lemma. -/
theorem linesAtHand : Obligations.LinesAtHand := by
  unfold Obligations.LinesAtHand
  intro s bus hp _ hd _
  refine ⟨fun x rest q k l m hi hmay hr hx hk hl hm ha => ⟨_, exec_rekeyLine hp [], ?_⟩,
    fun r l h1 hs hu hop hc hreg htags hkey hup hroom hcredit => ?_,
    fun e k me l m d hbus hmay hdue => ?_⟩
  · have hdone := rekeyWork_pending (s := { s with bus := [] }) hi hmay hr hx hk rfl hd hl hm ha
    generalize settle (background rekeyStep { s with bus := [] }) = t at hdone ⊢
    exact ⟨hdone.clear, hdone.minor⟩
  · intro q hl hr h0
    refine ⟨_, exec_metadataFetch hp bus, ?_⟩
    have hun : UnwrittenRead { s with bus := bus } r :=
      ⟨⟨h1.alone, h1.line, h1.sealed⟩, ⟨hc, hu, hop⟩, hreg, htags, hup, hroom, hkey, hcredit, ⟨l, hl, h0⟩, hr⟩
    have hdone := metadataArrives_unwritten hun hs
    generalize metadataArrives { s with bus := bus } = t at hdone ⊢
    exact hdone
  · intro q la hme hres hl hf hm ht hkey hdown hdec hopen
    refine ⟨_, exec_tileCompletionRead hp bus, ?_⟩
    rw [background_may (show backgroundMay { s with bus := bus } = true from hmay)]
    have hat : MissingAtHand { s with bus := bus } e k me l m d :=
      ⟨hdue, hbus, hme, hres, hl, hf, hm, ht, hkey, (ownDown_bus s bus la).trans hdown, hdec, hopen⟩
    have hdone := completionRead_adds hat
    generalize completionRead { s with bus := bus } = t at hdone ⊢
    exact hdone

end Sys2Proof.Proofs
end

section
/-!
PROOF. The page commands (R200 to R205, R209, R212, R213).
-/
namespace Sys2Proof.Proofs

open Sys2Proof Sys2Proof.Machine Sys2Proof.Safety Sys2Proof.Laws

/-! ### The moves of a command of one page -/

theorem runPages_goes {f lim : Nat} {s s1 : State} {j j1 : PageJob} (hl : ¬(lim ≤ j.done ∧ j.done < j.n)) (h : pageMove s j = .goes s1 j1) :
    runPages (f + 1) lim s j = runPages f lim s1 j1 := by
  rw [runPages, if_neg hl, h]

theorem runPages_ends {f lim : Nat} {s s1 : State} {j : PageJob} (hl : ¬(lim ≤ j.done ∧ j.done < j.n)) (h : pageMove s j = .ends s1) :
    runPages (f + 1) lim s j = s1 := by
  rw [runPages, if_neg hl, h]

/-- The command at its locks: it holds the lock of its one page. -/
def locked (op : PageOp) (k : Call) : PageJob := { newPageJob op k (.running k.ch) with locked := 1 }

/-- The command past its checks. -/
def passed (j : PageJob) (t : State) : PageJob := { j with checked := true, group := (ctxAt t j.call.ctx).sealGroup.toNat }

section
variable {t : State} {op : PageOp} {k : Call} (hn : bits (k.word 2) 0 17 = 1) (hp : t.pages = [])
include hn hp

/-- Nothing else holds a lock, so the command locks its page at once. -/
theorem locks_page : ({ newPageJob op k (.running k.ch) with locked := lockReach t (newPageJob op k (.running k.ch)) } : PageJob) = locked op k ∧
    ¬((locked op k).locked < (locked op k).n ∨ sealRuns t (locked op k) = true) := by
  have hreach : lockReach t (newPageJob op k (.running k.ch)) = 1 := by
    rw [lockReach, hp, List.foldl_nil]
    exact hn
  have hseal : sealRuns t (locked op k) = false := by
    rw [sealRuns, hp]
    exact Bool.and_false _
  refine ⟨by rw [hreach, locked], ?_⟩
  rw [hseal, show (locked op k).n = 1 from hn, show (locked op k).locked = 1 from rfl]
  exact fun h => h.elim (fun h => absurd h (by decide)) Bool.false_ne_true

end

/-- The move of a command that holds its locks and is not yet checked. -/
theorem pageMove_checks {s : State} {j j1 : PageJob} {x : Option (Nat × BitVec 8) × State} (hc : j.checked = false)
    (hj : ({ j with locked := lockReach s j } : PageJob) = j1) (hw : ¬(j1.locked < j1.n ∨ sealRuns s j1 = true)) (hx : pageCheck s j1 = x) :
    (∀ i st, x.1 = some (i, st) → pageMove s j = .ends (finish x.2 j.caller st [BitVec.ofNat 32 i])) ∧
    (x.1 = none → pageMove s j = .goes x.2 { j1 with checked := true, group := (ctxAt x.2 j.call.ctx).sealGroup.toNat }) := by
  subst hj
  obtain ⟨r, s1⟩ := x
  refine ⟨fun i st h => ?_, fun h => ?_⟩ <;> obtain rfl : r = _ := h
  · unfold pageMove
    refine (if_pos (by rw [hc]; rfl)).trans ((if_neg hw).trans ?_)
    rw [hx]
  · unfold pageMove
    refine (if_pos (by rw [hc]; rfl)).trans ((if_neg hw).trans ?_)
    rw [hx]

section
variable {t : State} {op : PageOp} {k : Call} (hn : bits (k.word 2) 0 17 = 1) (hp : t.pages = [])
include hn hp

theorem pageMove_refused {i : Nat} {st : BitVec 8} {s1 : State} (h : pageCheck t (locked op k) = (some (i, st), s1)) :
    pageMove t (newPageJob op k (.running k.ch)) = .ends (reply s1 k st [BitVec.ofNat 32 i]) := by
  obtain ⟨hl, hw⟩ := locks_page (op := op) hn hp
  exact (pageMove_checks rfl hl hw h).1 i st rfl

theorem pageMove_passed {s1 : State} (h : pageCheck t (locked op k) = (none, s1)) :
    pageMove t (newPageJob op k (.running k.ch)) = .goes s1 (passed (locked op k) s1) := by
  obtain ⟨hl, hw⟩ := locks_page (op := op) hn hp
  exact (pageMove_checks rfl hl hw h).2 rfl

/-- A page command refused by its checks. -/
theorem pageTurn_refused {i : Nat} {st : BitVec 8} {s1 : State} (h : pageCheck t (locked op k) = (some (i, st), s1)) :
    pageTurn t (newPageJob op k (.running k.ch)) = reply s1 k st [BitVec.ofNat 32 i] :=
  runPages_ends (f := 319) (lim := 16) (fun hx => absurd (show 16 ≤ 0 from hx.1) (by decide)) (pageMove_refused hn hp h)

end

/-! ### The page changed -/

/-- A command whose page is changed, its older traffic still to be looked for. -/
def fenced (j : PageJob) (n : Nat) : PageJob := { j with fence := some n, paid := 0 }

theorem changeNext_done {s s1 s3 : State} {j : PageJob} {p : Nat} {e : W32} (he : mapEntry s p = (.ok e, s1)) (hs : pageStill j s1 e = none)
    (hr : changeReady j (judgeWaiting s1 p e) p = true) (hf : payFill (judgeWaiting s1 p e) j p = none)
    (hc : pageChange j (if j.op = .renew then keepGeneration (judgeWaiting s1 p e) p else judgeWaiting s1 p e) p e = (.done, s3)) :
    changeNext s j p = .goes s3 (fenced j (judgeWaiting s1 p e).cust.nextSeq) := by
  unfold changeNext
  simp only [he, hs, hr, Bool.not_true, Bool.false_eq_true, if_false, hf, hc]
  rfl

theorem changeNext_refused {s s1 : State} {j : PageJob} {p : Nat} {e : W32} {st : BitVec 8} (he : mapEntry s p = (.ok e, s1))
    (hs : pageStill j s1 e = some st) : changeNext s j p = .ends (pageEnds s1 j stFaulted (field 32 0 8 st.toNat)) := by
  unfold changeNext
  simp only [he, hs]

theorem changeNext_fault {s s1 : State} {j : PageJob} {p b : Nat} (he : mapEntry s p = (.error b, s1)) :
    changeNext s j p = .ends (pageEnds s1 j stFaulted (field 32 0 8 stMapFault.toNat)) := by
  unfold changeNext
  simp only [he]

/-- The move of a checked command at its page. -/
theorem pageMove_changes {s : State} {j : PageJob} (hc : j.checked = true) (hn : j.done < j.n) (hf : j.fence = none) :
    pageMove s j = changeNext s j (j.page + j.done) := by
  unfold pageMove
  simp only [hc, Bool.not_true, Bool.false_eq_true, if_false, Nat.not_le.mpr hn, hf]

theorem pageMove_settles {s : State} {j : PageJob} {f : Nat} (hc : j.checked = true) (hn : j.done < j.n) (hf : j.fence = some f)
    (ho : olderTraffic s (j.page + j.done) f = false) : pageMove s j = .goes s j.settled := by
  unfold pageMove
  simp only [hc, Bool.not_true, Bool.false_eq_true, if_false, Nat.not_le.mpr hn, hf, ho]

theorem pageMove_ends {s : State} {j : PageJob} (hc : j.checked = true) (hn : j.n ≤ j.done) :
    pageMove s j = .ends (pageEnds s j stDone (pageWord j)) := by
  unfold pageMove
  simp only [hc, Bool.not_true, Bool.false_eq_true, if_false, hn, if_true]

theorem passed_begins (op : PageOp) (k : Call) (t : State) :
    ¬(16 ≤ (passed (locked op k) t).done ∧ (passed (locked op k) t).done < (passed (locked op k) t).n) :=
  fun hx => absurd (show 16 ≤ 0 from hx.1) (by decide)

section
variable {t t1 : State} {op : PageOp} {k : Call} (hn : bits (k.word 2) 0 17 = 1) (hp : t.pages = []) (h : pageCheck t (locked op k) = (none, t1))
include hn hp h

/-- A checked command of one page, at its page. -/
theorem pageTurn_atPage : pageTurn t (newPageJob op k (.running k.ch)) = runPages 319 16 t1 (passed (locked op k) t1) ∧
    pageMove t1 (passed (locked op k) t1) = changeNext t1 (passed (locked op k) t1) (bits (k.word 1) 0 24) :=
  ⟨runPages_goes (f := 319) (lim := 16) (fun hx => absurd (show 16 ≤ 0 from hx.1) (by decide)) (pageMove_passed hn hp h),
   pageMove_changes rfl (show 0 < (passed (locked op k) t1).n from (show (passed (locked op k) t1).n = 1 from hn) ▸ Nat.one_pos) rfl⟩

/-- A command of one page that a fault or a changed entry stops before its page. -/
theorem pageTurn_stopped {s2 : State} {st : BitVec 8} (hc : changeNext t1 (passed (locked op k) t1) (bits (k.word 1) 0 24) =
      .ends (pageEnds s2 (passed (locked op k) t1) stFaulted (field 32 0 8 st.toNat))) :
    pageTurn t (newPageJob op k (.running k.ch)) =
      reply (pageClose (passed (locked op k) t1) s2) k stFaulted [0, field 32 0 8 st.toNat] := by
  obtain ⟨hrun, hmove⟩ := pageTurn_atPage hn hp h
  rw [hrun]
  exact runPages_ends (f := 318) (passed_begins op k t1) (hmove.trans hc)

/-- A command of one page that changes it. -/
theorem pageTurn_done {t4 : State} {n : Nat} (hc : changeNext t1 (passed (locked op k) t1) (bits (k.word 1) 0 24) =
      .goes t4 (fenced (passed (locked op k) t1) n)) (ho : olderTraffic t4 (bits (k.word 1) 0 24) n = false) :
    pageTurn t (newPageJob op k (.running k.ch)) =
      reply (pageClose { passed (locked op k) t1 with done := 1 } t4) k stDone [1, pageWord { passed (locked op k) t1 with done := 1 }] := by
  obtain ⟨hrun, hmove⟩ := pageTurn_atPage hn hp h
  have hone : (fenced (passed (locked op k) t1) n).n = 1 := hn
  have hsettles : pageMove t4 (fenced (passed (locked op k) t1) n) = .goes t4 { passed (locked op k) t1 with done := 1 } :=
    pageMove_settles rfl (hone ▸ Nat.one_pos) rfl ho
  have hends : pageMove t4 { passed (locked op k) t1 with done := 1 } =
      .ends (pageEnds t4 { passed (locked op k) t1 with done := 1 } stDone (pageWord { passed (locked op k) t1 with done := 1 })) :=
    pageMove_ends rfl (le_of_eq hone)
  rw [hrun, runPages_goes (f := 318) (passed_begins op k t1) (hmove.trans hc),
    runPages_goes (f := 317) (fun hx => absurd (show 16 ≤ 0 from hx.1) (by decide)) hsettles,
    runPages_ends (f := 316) (fun hx => absurd (show 16 ≤ 1 from hx.1) (by decide)) hends]
  rfl

end

/-! ### The row -/

/-- The row of a page command. -/
def pageRow (op : PageOp) (bus : Bus) : Instr := match op with
  | .claim => .pageClaim bus
  | .seal => .pageSeal bus
  | .freeze => .pageFreeze bus
  | .renew => .pageRenew bus
  | .release => .pageRelease bus

theorem exec_pageRow {s t : State} {bus : Bus} {op : PageOp} {k : Call} (hp : powered s = true) (h : Started { s with bus := bus } op.code k t) :
    exec (pageRow op bus) s = .next (ended s (startPages op k t)) := by
  cases op <;> exact onBus_service hp h _

/-- A command of one page whose fields are in order runs its turn at once (R200, R201). -/
theorem startPages_one {t : State} {op : PageOp} {k : Call} (hf : fieldsOk k [0x3FFF ||| op.flags, 0xFFFFFF, 0x1FFFF] = true)
    (hc : op = .claim → claimFlagsOk (k.word 0) = true) (hn : bits (k.word 2) 0 17 = 1) :
    startPages op k t = settle (pageTurn t (newPageJob op k (.running k.ch))) := by
  have hflags : (op != .claim || claimFlagsOk (k.word 0)) = true := by
    by_cases h : op = .claim
    · rw [hc h, Bool.or_true]
    · rw [bne_iff_ne.mpr h, Bool.true_or]
  rw [startPages, hf, hflags, hn]
  rfl

/-! ### One page frozen or released from what is at hand -/

/-- A page of a context whose entry is at hand, in an idle custody path: LIVE, not SEALED, in the window and outside the block's regions. -/
structure LiveAtHand (t : State) (k : Call) (p : Nat) (m : MapLine) : Prop where
  idle : CustodyIdle t
  quiet : t.bus = []
  entry : EntryAtHand t p m
  window : inWindow t p = true
  outside : inOwnRegion t p = false
  holder : entCtx (m.words.getD (pageIndex t p % 16) 0) = bits (k.word 0) 0 14
  live : entState (m.words.getD (pageIndex t p % 16) 0) = .live
  plain : entClass (m.words.getD (pageIndex t p % 16) 0) ≠ .sealedC

section
variable {t : State} {k : Call} {p : Nat} {m : MapLine}

theorem LiveAtHand.entryRead (h : LiveAtHand t k p m) : ∃ c x, mapEntry t p = (.ok (m.words.getD (pageIndex t p % 16) 0), withMap t c) ∧
    tfind c.lines (pageIndex t p / 16) = some x ∧ x.words = m.words :=
  mapEntry_cached h.entry.cached (by rw [h.live]; decide)

theorem LiveAtHand.withMap (h : LiveAtHand t k p m) {c : MapCache} {x : MapLine} (hx : tfind c.lines (pageIndex t p / 16) = some x)
    (hw : x.words = m.words) : LiveAtHand (withMap t c) k p x := by
  obtain ⟨hi, hq, he, hin, hout, hh, hl, hp⟩ := h
  obtain ⟨-, hup, hlen, hroom, hctr, hseal, hapart⟩ := he
  refine ⟨hi, hq, ⟨hx, (ownDown_of_same (s := t) (t := Proofs.withMap t c) rfl rfl _).trans hup, by rw [hw]; exact hlen, hroom, hctr, hseal, hapart⟩,
    hin, hout, ?_, ?_, ?_⟩
  · rw [hw]; exact hh
  · rw [hw]; exact hl
  · rw [hw]; exact hp

theorem LiveAtHand.own (h : LiveAtHand t k p m) : OwnLineAtHand t (mapLineAddr t (pageIndex t p / 16)) := by
  obtain ⟨hcached, hup, hlen, ⟨hd, -, ha⟩, hctr, hseal, hapart⟩ := h.entry
  exact ⟨hup, ha, h.quiet, hd.trans (by decide), hctr, hseal, hapart⟩

/-- The checks of a command of one page that its own check admits. -/
theorem pageCheck_one {j : PageJob} {s1 : State} {e : W32} (hn : j.n = 1) (hw : inWindow t j.page = true) (ho : inOwnRegion t j.page = false)
    (he : mapEntry t j.page = (.ok e, s1)) (hr : pageRefusal j s1 [e] = none) : pageCheck t j = (none, s1) := by
  have hspan : pageSpan j.page 1 = [j.page] := rfl
  have hfirst : firstFailing [j.page] (fun p => !inWindow t p || inOwnRegion t p) = none := by
    simp [firstFailing, hw, ho]
  unfold pageCheck
  simp only [hn, hspan, hfirst, entriesOf, he, hr]

/-- A command's entry written from what is at hand. -/
theorem commandEntry_atHand (h : LiveAtHand t k p m) (e : W32) :
    ∃ u, commandEntry t p e = (true, u) ∧ EntryWritten t u p (m.words.set (pageIndex t p % 16) e) := by
  obtain ⟨u, hset, hw⟩ := setEntry_atHand e h.entry.cached h.own
  exact ⟨u, by simp only [commandEntry, hset], hw⟩

/-- With no request in the queues nothing waits for the page, and nothing older is in flight. -/
theorem changeReady_idle (j : PageJob) (h : t.cust.reqs = []) (p : Nat) : changeReady j t p = true := by
  rw [changeReady, h]
  rfl

theorem olderTraffic_idle (h : t.cust.reqs = []) (p n : Nat) : olderTraffic t p n = false := by
  rw [olderTraffic, h]
  rfl

theorem judgeWaiting_idle (h : t.cust.reqs = []) (p : Nat) (e : W32) : judgeWaiting t p e = t := by
  rw [judgeWaiting, h]
  rfl

/-- A freeze or a release of a page at hand, once its check admits the entry, is its change of the page. -/
theorem pageTurn_atHand {op : PageOp} (hn : bits (k.word 2) 0 17 = 1) (hpages : t.pages = []) (hop : op = .freeze ∨ op = .release)
    (h : LiveAtHand t k (bits (k.word 1) 0 24) m)
    (hr : ∀ j c, j.op = op → j.word = k.word 0 →
      pageRefusal j (withMap t c) [m.words.getD (pageIndex t (bits (k.word 1) 0 24) % 16) 0] = none) :
    ∃ c x g, LiveAtHand (withMap t c) k (bits (k.word 1) 0 24) x ∧ x.words = m.words ∧ ∀ u,
      pageChange { locked op k with checked := true, group := g } (withMap t c) (bits (k.word 1) 0 24)
        (m.words.getD (pageIndex t (bits (k.word 1) 0 24) % 16) 0) = (.done, u) → u.cust.reqs = [] →
      pageTurn t (newPageJob op k (.running k.ch)) =
        reply (pageClose { locked op k with checked := true, group := g, done := 1 } u) k stDone [1, 0] := by
  obtain ⟨c1, x1, he1, hx1, hw1⟩ := h.entryRead
  have h1 := h.withMap hx1 hw1
  obtain ⟨c2, x2, he2, hx2, hw2⟩ := h1.entryRead
  rw [hw1] at he2 hw2
  have hcheck : pageCheck t (locked op k) = (none, withMap t c1) :=
    pageCheck_one hn h.window h.outside he1 (hr (locked op k) c1 rfl rfl)
  refine ⟨c2, x2, (ctxAt (withMap t c1) (locked op k).call.ctx).sealGroup.toNat, h.withMap hx2 hw2, hw2, fun u hu hreqs => ?_⟩
  have hreqs2 : (withMap t c2).cust.reqs = [] := h.idle.1
  have hj : judgeWaiting (withMap t c2) (bits (k.word 1) 0 24) (m.words.getD (pageIndex t (bits (k.word 1) 0 24) % 16) 0) = withMap t c2 :=
    judgeWaiting_idle hreqs2 _ _
  have hstill : pageStill (passed (locked op k) (withMap t c1)) (withMap t c2)
      (m.words.getD (pageIndex t (bits (k.word 1) 0 24) % 16) 0) = none := by
    have hnone := hr (passed (locked op k) (withMap t c1)) c2 rfl rfl
    obtain rfl | rfl := hop <;> exact (congrArg (Option.map Prod.snd) hnone)
  have hfill : payFill (withMap t c2) (passed (locked op k) (withMap t c1)) (bits (k.word 1) 0 24) = none := by
    obtain rfl | rfl := hop <;> rfl
  have hrenew : ¬(passed (locked op k) (withMap t c1)).op = .renew := by
    obtain rfl | rfl := hop <;> exact fun hx => PageOp.noConfusion hx
  have hword : pageWord { passed (locked op k) (withMap t c1) with done := 1 } = 0 := by
    obtain rfl | rfl := hop <;> rfl
  have hnext := changeNext_done (s := withMap t c1) (s1 := withMap t c2) (s3 := u) (j := passed (locked op k) (withMap t c1))
    (p := bits (k.word 1) 0 24) (e := m.words.getD (pageIndex t (bits (k.word 1) 0 24) % 16) 0) he2 hstill
    (by rw [hj]; exact changeReady_idle _ hreqs2 _) (by rw [hj]; exact hfill)
    (by rw [if_neg hrenew, hj]; exact hu)
  have hturn := pageTurn_done hn hpages hcheck hnext (olderTraffic_idle hreqs _ _)
  rw [hword] at hturn
  exact hturn

theorem firstRefused_none {f : W32 → Option (BitVec 8)} {e : W32} (h : f e = none) : firstRefused f [e] 0 = none := by
  rw [firstRefused, h]
  rfl

/-- A LIVE page of the context that is not SEALED may be frozen. -/
theorem freezeRefusal_live (h : LiveAtHand t k p m) (s : State) {j : PageJob} (hw : j.word = k.word 0) :
    freezeRefusal s j.call [m.words.getD (pageIndex t p % 16) 0] = none := by
  refine firstRefused_none ?_
  have hctx : j.call.ctx = bits (k.word 0) 0 14 := congrArg (fun w => bits w 0 14) hw
  rw [hctx, h.holder, h.live, if_neg (not_or.mpr ⟨not_not.mpr rfl, by decide⟩), if_neg h.plain, if_neg (by decide)]

/-- A LIVE page of the context that is not stale may be released. -/
theorem releaseRefusal_live (h : LiveAtHand t k p m) {s : State} {j : PageJob} (hw : j.word = k.word 0)
    (hs : isStale s (m.words.getD (pageIndex t p % 16) 0) = false) :
    releaseRefusal s j.call [m.words.getD (pageIndex t p % 16) 0] = none := by
  refine firstRefused_none ?_
  have hctx : j.call.ctx = bits (k.word 0) 0 14 := congrArg (fun w => bits w 0 14) hw
  rw [hctx, h.holder, h.live, if_neg (not_not.mpr rfl), hs, if_neg Bool.false_ne_true, if_neg (by decide)]

theorem freezePage_atHand (h : LiveAtHand t k p m) (e : W32) : ∃ u, freezePage t p e = (.done, u) ∧
    EntryWritten t u p (m.words.set (pageIndex t p % 16) (entWithRights (entWithState e .frozen) (entRd e) false)) := by
  obtain ⟨u, hc, hw⟩ := commandEntry_atHand h (entWithRights (entWithState e .frozen) (entRd e) false)
  exact ⟨u, by simp only [freezePage, hc], hw⟩

/-- A page released: its context holds one page less and SWEEP_PENDING counts one more, with the context's ledger as it stands. -/
def pageReleased (u : State) (c q : Nat) : State :=
  let v := setCtx u c { ctxAt u c with held := (ctxAt u c).held - 1 }
  addPending { v with tiles := { v.tiles with writes := tdel v.tiles.writes q } } 1

theorem releasePage_atHand (h : LiveAtHand t k p m) (c : Nat) (e : W32) (hl : (ctxAt t c).ledgerHold.isSome = true)
    (hr : (ctxAt t c).rebuilt = false) : ∃ u, releasePage c t p e = (.done, pageReleased u c (pageIndex t p)) ∧
    EntryWritten t u p (m.words.set (pageIndex t p % 16) (entWithState e .sweeping)) := by
  obtain ⟨u, hc, hw⟩ := commandEntry_atHand h (entWithState e .sweeping)
  refine ⟨u, ?_, hw⟩
  obtain ⟨tr, kk, n, d, cu, mc, hrest⟩ := hw.rest
  have hctx : ctxAt u c = ctxAt t c := by
    rw [hrest]
    rfl
  have hv : ctxAt (pageReleased u c (pageIndex t p)) c = { ctxAt u c with held := (ctxAt u c).held - 1 } :=
    ctxAt_setCtx_same u c { ctxAt u c with held := (ctxAt u c).held - 1 }
  have hadd : ledgerAdd (pageReleased u c (pageIndex t p)) c (entEpoch4 e) 1 = pageReleased u c (pageIndex t p) := by
    rw [ledgerAdd, ledgerChange, if_pos]
    rw [hv, hctx]
    exact ⟨hl, by rw [hr]; rfl⟩
  simp only [releasePage, hc]
  exact congrArg (Prod.mk PageDone.done) hadd

end

/-- The answer given once the page is changed, the custody path being idle. -/
theorem answered_idle {t u : State} {k : Call} (hr : (chanAt t k.ch).running = some k.req) (hu : u.mbox = t.mbox) (hi : CustodyIdle u)
    (ws : List W32) : Answered t k (settle (reply u k stDone ws)) stDone ws ∧
      { settle (reply u k stDone ws) with mbox := u.mbox } = u := by
  obtain ⟨-, hframe⟩ := reply_answered (t := u) (k := k) (by rw [chanAt, hu]; exact hr) stDone ws
  have hidle : CustodyIdle (reply u k stDone ws) := by
    rw [← hframe] at hi
    exact hi
  rw [settle_idle hidle]
  exact ⟨answered_of_mbox hr hu rfl, hframe⟩

theorem EntryWritten.idle {t u : State} {p : Nat} {ws : List W32} (h : EntryWritten t u p ws) (hi : CustodyIdle t) : CustodyIdle u :=
  ⟨h.reqs.trans hi.1, fun ch => by rw [inChan, h.ins]; exact hi.2.1 ch, h.lost.trans hi.2.2.1, h.broken.trans hi.2.2.2⟩

theorem EntryWritten.mbox {t u : State} {p : Nat} {ws : List W32} (h : EntryWritten t u p ws) : u.mbox = t.mbox ∧ u.ctxs = t.ctxs ∧ u.bg = t.bg := by
  obtain ⟨tr, kk, n, d, cu, mc, hrest⟩ := h.rest
  rw [hrest]
  exact ⟨rfl, rfl, rfl⟩

section
variable {t : State} {k : Call} {m : MapLine} (hn : bits (k.word 2) 0 17 = 1) (hpages : t.pages = [])
  (hr : (chanAt t k.ch).running = some k.req) (h : LiveAtHand t k (bits (k.word 1) 0 24) m)
include hn hpages hr h

/-- PAGE_FREEZE of a page at hand. -/
theorem freeze_atHand : ∃ u, settle (pageTurn t (newPageJob .freeze k (.running k.ch))) = u ∧
    (tfind u.mapc.lines (pageIndex t (bits (k.word 1) 0 24) / 16)).map MapLine.words = some (m.words.set (pageIndex t (bits (k.word 1) 0 24) % 16)
      (entWithRights (entWithState (m.words.getD (pageIndex t (bits (k.word 1) 0 24) % 16) 0) .frozen)
        (entRd (m.words.getD (pageIndex t (bits (k.word 1) 0 24) % 16) 0)) false)) ∧
    Answered t k u stDone [1, 0] ∧
    ∀ la, la ≠ mapLineAddr t (pageIndex t (bits (k.word 1) 0 24) / 16) → storedLine u la = storedLine t la := by
  obtain ⟨c, x, g, hx, hwords, hturn⟩ := pageTurn_atHand hn hpages (.inl rfl) h fun j c hj hw => by
    rw [pageRefusal, hj]
    exact freezeRefusal_live h (withMap t c) hw
  obtain ⟨u, hfreeze, hw⟩ := freezePage_atHand hx (m.words.getD (pageIndex t (bits (k.word 1) 0 24) % 16) 0)
  have hdone := hturn u hfreeze (hw.reqs.trans h.idle.1)
  obtain ⟨hans, hframe⟩ := answered_idle (t := t) (u := u) hr hw.mbox.1 (hw.idle hx.idle) [1, 0]
  have hclose : pageClose { locked .freeze k with checked := true, group := g, done := 1 } u = u := rfl
  refine ⟨_, rfl, ?_⟩
  rw [hdone, hclose]
  generalize settle (reply u k stDone [1, 0]) = v at hans hframe ⊢
  have hmapc : v.mapc = u.mapc := by rw [← hframe]
  have hstored (la : Nat) : storedLine v la = storedLine u la := storedLine_of_same (by rw [← hframe]) (by rw [← hframe]) la
  refine ⟨?_, hans, fun la hla => (hstored la).trans (hw.others la hla)⟩
  have hset := hw.words
  rw [hwords] at hset
  rw [hmapc]
  exact hset

/-- PAGE_RELEASE of a page at hand, of a context whose ledger line waits. -/
theorem release_atHand (hs : isStale t (m.words.getD (pageIndex t (bits (k.word 1) 0 24) % 16) 0) = false)
    (hl : (ctxAt t (bits (k.word 0) 0 14)).ledgerHold.isSome = true) (hreb : (ctxAt t (bits (k.word 0) 0 14)).rebuilt = false) :
    ∃ u, settle (pageTurn t (newPageJob .release k (.running k.ch))) = u ∧
    (tfind u.mapc.lines (pageIndex t (bits (k.word 1) 0 24) / 16)).map MapLine.words = some (m.words.set (pageIndex t (bits (k.word 1) 0 24) % 16)
      (entWithState (m.words.getD (pageIndex t (bits (k.word 1) 0 24) % 16) 0) .sweeping)) ∧
    (ctxAt u (bits (k.word 0) 0 14)).held = (ctxAt t (bits (k.word 0) 0 14)).held - 1 ∧ u.bg.pendingPages = t.bg.pendingPages + 1 ∧
    Answered t k u stDone [1, 0] ∧
    ∀ la, la ≠ mapLineAddr t (pageIndex t (bits (k.word 1) 0 24) / 16) → storedLine u la = storedLine t la := by
  obtain ⟨c, x, g, hx, hwords, hturn⟩ := pageTurn_atHand hn hpages (.inr rfl) h fun j c hj hw => by
    rw [pageRefusal, hj]
    exact releaseRefusal_live h hw hs
  obtain ⟨u, hrelease, hw⟩ := releasePage_atHand hx (bits (k.word 0) 0 14) (m.words.getD (pageIndex t (bits (k.word 1) 0 24) % 16) 0) hl hreb
  have hdone := hturn _ hrelease (hw.reqs.trans h.idle.1)
  obtain ⟨hmbox, hctxs, hbg⟩ := hw.mbox
  obtain ⟨y, hclose⟩ := addCompletion_eq (pageReleased u (bits (k.word 0) 0 14) (pageIndex (withMap t c) (bits (k.word 1) 0 24)))
    k.ch 0x107 (locked .release k).seq.toNat (BitVec.ofNat 32 (bits (k.word 0) 0 14))
  obtain ⟨w, hw'⟩ : ∃ w, w = pageClose { locked .release k with checked := true, group := g, done := 1 }
    (pageReleased u (bits (k.word 0) 0 14) (pageIndex (withMap t c) (bits (k.word 1) 0 24))) := ⟨_, rfl⟩
  have hw'' := hw'.trans hclose
  have hidle : CustodyIdle w := by
    rw [hw'']
    exact hw.idle hx.idle
  obtain ⟨hans, hframe⟩ := answered_idle (t := t) (u := w) hr (by rw [hw'']; exact hmbox) hidle [1, 0]
  refine ⟨_, rfl, ?_⟩
  rw [hdone, ← hw']
  generalize settle (reply w k stDone [1, 0]) = v at hans hframe ⊢
  have hmapc : v.mapc = u.mapc := by
    rw [show v.mapc = w.mapc by rw [← hframe], hw'']
    rfl
  have hctx : ctxAt v (bits (k.word 0) 0 14) = { ctxAt u (bits (k.word 0) 0 14) with held := (ctxAt u (bits (k.word 0) 0 14)).held - 1 } := by
    rw [show ctxAt v (bits (k.word 0) 0 14) = ctxAt w (bits (k.word 0) 0 14) by rw [← hframe]; rfl, hw'']
    exact ctxAt_setCtx_same u _ _
  have hpending : v.bg.pendingPages = u.bg.pendingPages + 1 := by
    rw [show v.bg = w.bg by rw [← hframe], hw'']
    rfl
  have hstored (la : Nat) : storedLine v la = storedLine u la := by
    rw [show storedLine v la = storedLine w la from storedLine_of_same (by rw [← hframe]) (by rw [← hframe]) la, hw'']
    rfl
  have hset := hw.words
  rw [hwords] at hset
  refine ⟨?_, ?_, ?_, hans, fun la hla => (hstored la).trans (hw.others la hla)⟩
  · rw [hmapc]
    exact hset
  · rw [hctx, show ctxAt u (bits (k.word 0) 0 14) = ctxAt t (bits (k.word 0) 0 14) by rw [ctxAt, hctxs]; rfl]
  · rw [hpending, hbg]
    rfl

end

/-- Settles O47: the turn of a command of one page, by where it ends; a freeze and a release of a page at hand are worked through. -/
theorem pageCommands : Obligations.PageCommands := by
  unfold Obligations.PageCommands
  intro s bus op k t hp hstart hfields hclaim hn hpages row j p c
  have hexec : exec row s = .next (ended s (settle (pageTurn t (newPageJob op k (.running k.ch))))) := by
    rw [← startPages_one hfields hclaim hn]
    exact exec_pageRow hp hstart
  have hrow {u : State} (h : pageTurn t (newPageJob op k (.running k.ch)) = u) : exec row s = .next (ended s (settle u)) := h ▸ hexec
  refine ⟨fun i st t1 hc => ?_, ?_, ?_, ?_⟩
  · exact hrow (pageTurn_refused hn hpages hc)
  · intro t1 t2 t4 e hc j1 he hs t3 hr hf hd ho j2
    exact hrow (pageTurn_done hn hpages hc (changeNext_done he hs hr hf hd) ho)
  · intro t1 t2 st hc j1
    refine ⟨fun b he hst => ?_, fun e he hs => ?_⟩
    · rw [hst]
      exact hrow (pageTurn_stopped hn hpages hc (changeNext_fault he))
    · exact hrow (pageTurn_stopped hn hpages hc (changeNext_refused he hs))
  · intro m hbus hi hm hin hout q e hctx hlive hcls
    subst hbus
    have hquiet : t.bus = [] := by
      obtain ⟨rest, -, ht⟩ := started_channel hstart
      rw [ht]
      rfl
    have hat : LiveAtHand t k p m := ⟨hi, hquiet, hm, hin, hout, hctx, hlive, hcls⟩
    refine ⟨fun hop => ?_, fun hop hst hl hreb => ?_⟩
    · subst hop
      obtain ⟨u, hu, hdone⟩ := freeze_atHand hn hpages (started_running hstart) hat
      rw [hu] at hexec
      exact ⟨_, hexec, hdone⟩
    · subst hop
      obtain ⟨u, hu, hdone⟩ := release_atHand hn hpages (started_running hstart) hat hst hl hreb
      rw [hu] at hexec
      exact ⟨_, hexec, hdone⟩

end Sys2Proof.Proofs
end
